-- ==== Sys2Proof/Word.lean ====
section
/-! DEFINITION. The word types of the module: the widths of R6 and R9 of spec/00_scope.md and of the formats of
R28 of spec/02_number_formats.md. -/

namespace Sys2Proof

/-- One byte of a buffer or of memory. -/
abbrev Byte := BitVec 8

/-- A register of BAR0 (R6), a BF16 pair, an FP32 value: 32 bits. -/
abbrev Word := BitVec 32

/-- A submission entry: 64 bytes (R269). -/
abbrev Entry512 := BitVec 512

/-- A completion entry: 32 bytes (R276). -/
abbrev Entry256 := BitVec 256

/-- A token record: 16 bytes (R278). -/
abbrev Entry128 := BitVec 128

/-- An FP32 value as its 32 bits (R38). -/
abbrev F32 := BitVec 32

/-- A BF16 value as its 16 bits (R38). -/
abbrev BF16 := BitVec 16

/-- The largest value of a field of `w` bits: where a saturating counter stops. DESIGN CHOICE (assumption log 53). -/
def maxOf (w : Nat) : Nat := 2 ^ w - 1

/-- Serial-number order (R9, R245): `b` is later than `a` in the half range of `w`-bit numbers. -/
def serialLater (w a b : Nat) : Bool :=
  let d := (b + 2 ^ w - a % 2 ^ w) % 2 ^ w
  0 < d && d < 2 ^ (w - 1)

end Sys2Proof
end

