-- ==== Sys2Proof/Operand.lean ====
section
/-! DEFINITION. The operands of the commands: what each row of the opcode table receives from outside the block
(a host access, a ring entry, a host read's data, a converter code, a sensor value, a link or management message, a
choice of the firmware's plan). -/

namespace Sys2Proof

/-- The header of a submission entry as HIF reads it (R269): the ring's queue and owning function, FLAGS, ADAPTER, TAG
and HANDLE, and whether every reserved bit of the entry was zero (check 2 of R271). -/
structure EntryHdr where
  fn : Nat
  queue : Nat
  flags : Nat
  adapter : Nat
  tag : Nat
  handle : Nat
  rsvZero : Bool
deriving DecidableEq, Repr

/-- The sampling block of R273: K, DRAW, TEMP, TOP_P, MIN_P, SEED. -/
structure SampleBlock where
  k : Nat
  draw : Nat
  temp : BF16
  topP : BF16
  minP : BF16
  seed : Nat
deriving DecidableEq, Repr

/-- The operands of PREFILL and APPEND (R273). -/
structure PromptOps where
  sample : SampleBlock
  count : Nat
  addr : Nat
deriving DecidableEq, Repr

/-- The operands of GENERATE (R274). -/
structure GenerateOps where
  sample : SampleBlock
  maxTokens : Nat
  draftMax : Nat
  stop0 : Nat
  stop1 : Nat
  notBefore : Nat
  firstDue : Nat
  period : Nat
  lead : Nat
deriving DecidableEq, Repr

/-- The operands of ADAPTER_TUNE (R275). -/
structure TuneOps where
  count : Nat
  lr : BF16
  seed : Nat
  addr : Nat
  outAddr : Nat
deriving DecidableEq, Repr

/-- The operands of LOAD_OBJECT (R275). -/
structure LoadOps where
  slot : Nat
  port : Nat
  qp : Nat
  rkey : Nat
  remoteAddr : Nat
  length : Nat
deriving DecidableEq, Repr

/-- What the checks of a unit found on a piece of work: nothing, a residue mismatch with the residues expected and found (R409), or a
parity error in a store or path at an address (R410). -/
inductive UnitCheck where
  | good
  | residue (expected found : Nat)
  | parity (place addr : Nat)
deriving DecidableEq, Repr

/-- How a host read ended: with data, or with UR, CA, poisoned data (R325). -/
inductive HostRead (α : Type) where
  | data (d : α)
  | error
deriving DecidableEq, Repr

/-- The length-table entry that the firmware forms for a sequence's step (R165): its CST address, WINDOW, FLOOR, and STATS_IDX where
row statistics are asked for; the other fields are the session's. DESIGN CHOICE (assumption log 28). -/
structure LenPlan where
  table : Nat
  window : Nat
  floor : Nat
  stats : Option Nat
deriving DecidableEq, Repr

/-- What the plan places with a request's next step or piece (R284): the absolute index of the boundary, a number that
batches together the entries of one launch, the layer and head pairs of the module's placement (R187), the cores the plan
uses (R462), the host buffer's words as read at admission (R282), the CST blocks of 64 KiB for operands and hand-offs (R376), the receive
windows opened for it (R341: first offset and length), the sequence's length-table entry, and the queue entries that bring the cores their
step programs (R357: core and CST address). DESIGN CHOICE (assumption log 28). -/
structure AdmitPlan where
  slot : Nat
  group : Nat
  layerHeads : Nat
  cores : List Nat
  buffer : HostRead (List Nat)
  cstBlocks : Nat
  windows : List (Nat × Nat)
  lens : LenPlan
  programs : List (Nat × Nat)
deriving DecidableEq, Repr

/-- What a step made of one entry of its batch beside its samples (R288): whether a key or value was clamped, a result marked outside the
bound or a NUMERIC event raised. -/
structure StepResult where
  serial : Nat
  clamped : Bool
  oob : Bool
  numeric : Bool
deriving DecidableEq, Repr

/-- What the welt multiplies for a matrix that the tuned adapter covers (R297): its inputs x and its output gradients dy, by position
of the example. -/
structure TuneMatrix where
  matrix : Nat
  inputs : List (List F32)
  grads : List (List F32)
deriving DecidableEq, Repr

/-- What a chunk made of one piece beside its samples (R283): for the last piece of a tune what its covered matrices saw, and whether the
write of the gradient buffer met an error (R294, R297). -/
structure PieceResult where
  serial : Nat
  clamped : Bool
  oob : Bool
  numeric : Bool
  matrices : List TuneMatrix
  writeError : Bool
deriving DecidableEq, Repr

/-- An A8 block as it reaches the row drivers (R31): scale code, ZERO, NAN and 512 signed elements. -/
structure A8Block where
  scale : Nat
  zero : Bool
  nan : Bool
  elems : List Int
deriving DecidableEq, Repr

/-- The preload the step program names for a matrix (R140): the matrix, the kind, and for a residual the CST queue entry with
the valid slot of the plan (R16). -/
structure PreloadOps where
  matrix : Nat
  kind : Nat
  entry : Nat
  slot : Nat
deriving DecidableEq, Repr

/-- A vector for a cluster (R91): the core, the cluster, the buffer of VEC with the A8 blocks and digital channels of the
activation, the number of the buffer's block that crossbar row 0 takes, and for each matrix of the cluster its preload. -/
structure VectorOps where
  core : Nat
  cluster : Nat
  src : Nat
  first : Nat
  preloads : List PreloadOps
deriving DecidableEq, Repr

/-- A transpose vector (R78): its core, cluster and matrix, and the buffer of VEC that holds the gradients of the matrix's
outputs. -/
structure TransposeOps where
  core : Nat
  cluster : Nat
  matrix : Nat
  src : Nat
deriving DecidableEq, Repr

/-- What the top-k unit and EXP_SUM scale by (R149, R152, R156): no sum, the temperature of the request that samples, or 1 for a
router. -/
inductive TopSum where
  | none | sampling | router
deriving DecidableEq, Repr

/-- Where a PTP message comes from (R349, R350): storage port, domain, transport and the sender's clock identity. -/
structure PtpFrom where
  port : Nat
  domain : Nat
  transport : Nat
  id : Nat
deriving DecidableEq, Repr

/-- What the lines sensed in one pass over one window of one crossbar hold beyond the charge of ideal cells (R53, R61, R76, R85):
each line with its difference in 1/256 unit, every other line none.  Lines are the physical columns of R51 that serve in place of
no other (weight columns 0–511, reference columns 528–531, tally columns 532–539), in a transpose pass (0 to 3, R78) the rows
0–511; in a probe, pass 0 is the probe pass of the window and pass 1 its repeat (R93).  The difference is what drift, temperature, noise and programming make of the cells: a measurement from outside.
DESIGN CHOICE (assumption log 40). -/
structure XbCharges where
  row : Nat
  col : Nat
  pass : Nat
  window : Nat
  extra : List (Nat × Int)
deriving DecidableEq, Repr

/-- A verify reading of a cell after its last iteration (R53, R54, R219): its logical row, its logical line (a column of R51), the
physical row it was lasted on (0 the one that serves the logical row when the lasting starts, 1 the first spare row that takes its
place, and so on) and its conductance in nS.  A cell with no reading reads at its target. DEDUCED (assumption log 45). -/
structure CellRead where
  row : Nat
  col : Nat
  attempt : Nat
  conductance : Nat
deriving DecidableEq, Repr

/-- What the verify pass reads on the crossbar of a position (R224): the common fall of its cells below their targets in 2^-16, and
the cells that read otherwise. DEDUCED (assumption log 45). -/
structure VerifyRead where
  pos : Nat
  fall : Nat
  reads : List CellRead
deriving DecidableEq, Repr

/-- Where a drained or folded result or a list comes from or goes to (R15, R144, R147): a buffer of the core's VEC, or a record in
the CST queue entry at an address with the valid slot that the plan gives it. -/
inductive PartPlace where
  | buf (n : Nat)
  | entry (addr slot : Nat)
deriving DecidableEq, Repr

/-- Where a drain puts a partial (R147): on this module, or in the receive window of the module that holds the folding core: port,
destination, offset, valid slot. -/
inductive DrainPlace where
  | here (p : PartPlace)
  | torus (dst offset slot : Nat)
deriving DecidableEq, Repr

/-- What a sampling request supplies to VEC (R154, R155). -/
structure SampleOps where
  temp : BF16
  k : Nat
  topP : BF16
  minP : BF16
  seed : Nat
  position : Nat
  draw : Nat
deriving DecidableEq, Repr

/-- Mean codes of one ladder point set, as sums of 32 conversions (R95): at codes 0, +192 and -192. -/
structure Ladder where
  zero : Int
  plus : Int
  minus : Int
deriving DecidableEq, Repr

/-- An ECC error met by a read (R375, R377, R379, R382, R383): the space (0 tier A, 1 tier B, 2 CST), the line's device address,
whether it is uncorrectable, whether the line then passes its test pattern, and the object slot whose bytes it holds (in the
object region). -/
structure MemErr where
  space : Nat
  addr : Nat
  ue : Bool
  testPass : Bool
  obj : Nat
deriving DecidableEq, Repr

/-- How a DMA engine reads bytes into a buffer of VEC: as they stand, as FP32 or BF16 values, or as a number of A8 blocks of 528
bytes (R31) with the digital channels after them (R117). DESIGN CHOICE (assumption log 56). -/
inductive DmaKind where
  | raw | f32 | bf16
  | a8 (blocks : Nat)
deriving DecidableEq, Repr

/-- What a DMA entry moves (R358): bytes of CST into a buffer, a buffer into CST, a queue entry into a buffer (R16–R18), a buffer
into a queue entry of this module or of another, a buffer as this module's contribution to a collective (R176, R343), a row of the
embedding region into a queue entry, or the keys or values of one position, made for pages by VEC, into the pages of a sequence
(R186, R375): page-table number, layer, key-value heads of the module, first head and position. DESIGN CHOICE (assumption log 56). -/
inductive DmaOp where
  | load (addr len dst : Nat) (kind : DmaKind)
  | store (src addr : Nat)
  | readEntry (addr slot dst : Nat) (kind : DmaKind)
  | writeEntry (src : Nat) (place : DrainPlace)
  | collective (src dst coll offset slot : Nat)
  | embedding (row len addr slot : Nat)
  | writeKv (src pt layer kvHeads kvHead pos : Nat) (value : Bool)
deriving DecidableEq, Repr

/-- What the host changes of a function's MSI-X masks (R317): the mask of one vector, or the Enable and Function Mask bits of
Message Control. -/
inductive MsixOp where
  | vector (v : Nat) (masked : Bool)
  | control (enable mask : Bool)
deriving DecidableEq, Repr

/-- The host read that times out (R325): the fetch of an entry of a queue, or the buffer read of a function's session
request. DESIGN CHOICE (assumption log 56). -/
inductive TimedRead where
  | fetch (queue : Nat)
  | buffer (fn handle : Nat)
deriving DecidableEq, Repr

/-- What a start of the main domain meets (R302, R420, R439, R452): the trained link (speed code, lanes, FLIT mode), whether
PE_REFCLK lies within its range, the flash slots whose image fails a check of R439 other than its SVN, the calibration copies
and the health and endurance records that fail (cores, records of 256 counters). DESIGN CHOICE (assumption log 36). -/
structure StartOps where
  link : Option (Nat × Nat × Bool)
  refclk : Bool
  bad : List Nat
  cal0 : Bool
  cal1 : Bool
  healthLost : List Nat
  enduranceLost : List Nat
deriving DecidableEq, Repr

/-- How PERST_N comes (R324, R456): the pin, or a hot reset or link-down, after which the module starts again at once. -/
inductive ResetKind where
  | pin
  | inBand (o : StartOps)
deriving DecidableEq, Repr

/-- How a firmware start or restart ends (R356, R381): in failure, with the memory device that failed its training where that is
the reason, or READY, with the cores whose program store failed its check twice. -/
structure ReadyOps where
  failed : Bool
  device : Option Nat
  stores : List Nat
deriving DecidableEq, Repr

/-- What a unit's attention works on (R164–R175, R179): the unit's core and its number in a hub core, the CST address of the
sequence's length-table entry, the layer, the module's key-value heads and the one served, the query heads of its group, the buffer
with the step's Q records and how many of them come before the sequence's and stand for each of its tokens, the CST address of the
step's statistics buffer, and the cycles that the unit waited for key or value bytes. DESIGN CHOICE (assumption log 43). -/
structure AttnOps where
  core : Nat
  unit : Nat
  table : Nat
  layer : Nat
  kvHeads : Nat
  kvHead : Nat
  heads : List Nat
  src : Nat
  first : Nat
  perToken : Nat
  statsAt : Nat
  waits : Nat
deriving DecidableEq, Repr

/-- What the backward pass takes beside the operands of the forward pass (R180): the buffers with the saved outputs and with the
output gradients as G8 records of 132 bytes (four blocks of 32 elements, each with its scale byte), and the result's buffer. -/
structure BackwardOps where
  outs : Nat
  dout : Nat
  dst : Nat
deriving DecidableEq, Repr

end Sys2Proof
end

