-- ==== Sys2Proof/Syntax.lean ====
section
/-! DEFINITION. The commands of the block: one constructor for each row of spec/opcode_table.json, in its order, named by the
row's mnemonic. The first operand `t` of every command is the instant at which it comes, in ns of external time (assumption
log 1). An operand `fn` is the function a register access comes from (0 the physical function); the others are what the row
receives from outside, as Sys2Proof/Operand.lean says. -/

namespace Sys2Proof

/-- A command sent to the block. DESIGN CHOICE (assumption log 1). -/
inductive Instr where
  /-- NOP (R270): A NOP submission entry completes OK with no other effect. -/
  | nop (t : Nat) (h : EntryHdr)
  /-- SESSION_OPEN (R272): Opens a session under a new handle in a job, opening the job with the entry's flags if it
  is not open. -/
  | sessionOpen (t : Nat) (h : EntryHdr) (job : Nat) (prio : Nat)
  /-- PREFILL (R282): Writes the prompt tokens of an empty session as prefill pieces and optionally samples one token.
  -/
  | prefill (t : Nat) (h : EntryHdr) (o : PromptOps)
  /-- APPEND (R282): Writes any pending token and the buffer's tokens to a session and optionally samples one token.
  -/
  | append (t : Nat) (h : EntryHdr) (o : PromptOps)
  /-- GENERATE (R286): Produces tokens from the pending token until a stop token or MAX_TOKENS, paced by its timing
  fields. -/
  | generate (t : Nat) (h : EntryHdr) (o : GenerateOps)
  /-- PAUSE (R197): Sets a session PAUSING with a time to live and starts moving its columns to tier B. -/
  | pause (t : Nat) (h : EntryHdr) (ttl : Nat)
  /-- RESUME (R199): Clears a paused session's expiry, sets it RESUMING and copies its columns back to tier A. -/
  | resume (t : Nat) (h : EntryHdr)
  /-- CLONE (R202): Reserves a new handle and starts a physical copy of a source session up to its committed length.
  -/
  | clone (t : Nat) (h : EntryHdr) (newHandle : Nat) (prio : Nat) (prioEn : Bool)
  /-- CANCEL (R289): Ends the named request of its session at its read time or at the end of the step in flight. -/
  | cancel (t : Nat) (h : EntryHdr) (target : Nat)
  /-- CLOSE (R290): Cancels every request of the session at its read time and closes the session, freeing its pages.
  -/
  | close (t : Nat) (h : EntryHdr)
  /-- BIND_WEIGHTS (R218): Checks a CHECKED base image and starts binding it as the first current generation. -/
  | bindWeights (t : Nat) (h : EntryHdr) (slot : Nat) (gen : Nat) (verify : List VerifyRead)
  /-- SWAP_WEIGHTS (R225): Checks a new base image and generation and starts a live swap through its Prepare phase. -/
  | swapWeights (t : Nat) (h : EntryHdr) (slot : Nat) (gen : Nat)
  /-- LOAD_OBJECT (R208): Reads an Eluirex object from network storage into an object slot and checks it. -/
  | loadObject (t : Nat) (h : EntryHdr) (o : LoadOps)
  /-- ADAPTER_LOAD (R228): Checks a CHECKED adapter object against the current image and loads it under an adapter
  number. -/
  | adapterLoad (t : Nat) (h : EntryHdr) (slot : Nat)
  /-- ADAPTER_UNLOAD (R228): ADAPTER_LOAD with object 0xFF marks an adapter number for unloading. -/
  | adapterUnload (t : Nat) (h : EntryHdr)
  /-- ADAPTER_TUNE (R296): Runs an example forward and backward on an adapter, computes loss and gradients and
  optionally updates the factors. -/
  | adapterTune (t : Nat) (h : EntryHdr) (o : TuneOps)
  /-- FENCE (R270): Completes after every earlier entry of its ring has completed. -/
  | fence (t : Nat) (h : EntryHdr)
  /-- SUBMISSION_FETCH (R313): HIF fetches submission entries of an ACTIVE queue while the ring is non-empty and
  completion room remains. -/
  | submissionFetch (t : Nat) (r : HostRead Entry512) (corrected : Bool) (verify : List VerifyRead)
  /-- SESSION_QUEUE_ACCEPT (R271): A session opcode reaching the head of its session queue is accepted and checked. -/
  | sessionQueueAccept (t : Nat) (fn : Nat) (handle : Nat)
  /-- REQUEST_ADMIT (R284): The plan admits a request's step or chunk, binding its generation and allocating its
  pages. -/
  | requestAdmit (t : Nat) (fn : Nat) (handle : Nat) (plan : AdmitPlan)
  /-- SLOT_BOUNDARY (R247): At each boundary of the cadence wheel, shadowed settings apply, expiries are applied,
  entries become visible and launches issue. -/
  | slotBoundary (t : Nat) (ready : Bool) (lastings : List Nat)
  /-- TTL_EXPIRE (R198): At the first boundary at or after EXPIRY, KVM evicts every column of a paused session. -/
  | ttlExpire (t : Nat) (fn : Nat) (handle : Nat)
  /-- STEP_COMPLETE (R191): At a step's completion record KVM commits accepted positions, frees speculative columns
  and resets WRITTEN. -/
  | stepComplete (t : Nat) (id : Nat) (res : List StepResult)
  /-- CHUNK_COMPLETE (R283): A prefill chunk ends and each piece commits; the next piece waits for a later boundary.
  -/
  | chunkComplete (t : Nat) (id : Nat) (res : List PieceResult)
  /-- SEQUENCER_STEP_END (R357): A sequencer that reached END with every entry retired reports the step's end time to
  TWS. -/
  | sequencerStepEnd (t : Nat) (core : Nat)
  /-- TOKEN_RELEASE (R254): At a held token's release time HIF writes its token record, waiting for ring room if
  needed. -/
  | tokenRelease (t : Nat) (fn : Nat) (handle : Nat)
  /-- QUEUE_ENTRY_WRITE (R16): A producer's write to a CST queue entry completes and sets its written bit. -/
  | queueEntryWrite (t : Nat) (addr : Nat) (slot : Nat) (fn : Nat) (job : Nat) (bytes : List Byte)
  /-- QUEUE_STALL_TIMEOUT (R17): A queue-entry stall reaching 256 ticks ends the job with JOB_FAULT. -/
  | queueStallTimeout (t : Nat) (core : Nat)
  /-- ENGINE_PUSH (R357): The sequencer pushes an engine entry to its engine queue, waiting while the queue is full.
  -/
  | enginePush (t : Nat) (core : Nat) (entry : List Byte) (check : UnitCheck)
  /-- BAR_CFG (R360): A BAR_CFG entry sets a barrier's participant count and clears its state. -/
  | barCfg (t : Nat) (core : Nat) (bar : Nat) (count : Nat)
  /-- WAIT_Q (R357): A WAIT_Q entry makes the sequencer wait for a named CST queue entry. -/
  | waitQ (t : Nat) (core : Nat) (addr : Nat) (slot : Nat)
  /-- END (R357): An END entry marks the end of the step program. -/
  | endList (t : Nat) (core : Nat)
  /-- ENGINE_ENTRY_START (R359): An engine starts a queued entry once its barrier wait condition holds. -/
  | engineEntryStart (t : Nat) (core : Nat) (engine : Nat)
  /-- ENGINE_ENTRY_COMPLETE (R359): An engine retires an entry and optionally arrives on a barrier. -/
  | engineEntryComplete (t : Nat) (core : Nat) (engine : Nat) (check : UnitCheck)
  /-- BARRIER_HANG (R363): A barrier with no round completing for CPX_BAR_TIMEOUT unpaused ticks is marked hung. -/
  | barrierHang (t : Nat) (core : Nat) (bar : Nat)
  /-- CPX_BAR_FORCE_RELEASE (R364): Completes a barrier's current round by hand as if all missing participants
  arrived. -/
  | cpxBarForceRelease (t : Nat) (fn : Nat) (core : Nat)
  /-- CPX_BAR_FORCE_SET (R364): Loads a barrier's ARRIVED and EARLY masks by hand and applies the completion rule. -/
  | cpxBarForceSet (t : Nat) (fn : Nat) (core : Nat)
  /-- VECTOR_LOAD (R91): A cluster vector's block and preload are loaded into a free bank, fixing window counts, LSBs
  and tracking values. -/
  | vectorLoad (t : Nat) (o : VectorOps)
  /-- COLUMN_FLOW_ARRIVE (R62): A vector's column-flow sum reaches the accumulator bank. -/
  | columnFlowArrive (t : Nat) (core : Nat) (cluster : Nat) (b : Nat) (charges : List XbCharges) (check : UnitCheck)
  /-- SATURATION_RESCUE (R125): The welt inserts exact partials for a flagged group after reading its weights from
  tier B. -/
  | saturationRescue (t : Nat) (core : Nat) (cluster : Nat) (b : Nat) (row : Nat) (col : Nat) (g : Nat)
  /-- CANCEL_RESCUE (R124): The welt recomputes a cancellation-dominated element exactly from the bound image. -/
  | cancelRescue (t : Nat) (core : Nat) (n : Nat) (i : Nat)
  /-- SHADOW_CHECK (R129): A sampled partial is compared with its exact value and failures are handled by SHADOW_MODE.
  -/
  | shadowCheck (t : Nat) (core : Nat) (cluster : Nat) (row : Nat) (col : Nat) (channel : Nat)
  /-- WELT_WORK_COMPLETE (R133): The welt finishes a vector's terms; a late finish delays its hand-off and counts
  WLT_LATE. -/
  | weltWorkComplete (t : Nat) (core : Nat) (cluster : Nat) (b : Nat) (check : UnitCheck)
  /-- TRANSPOSE_VECTOR (R78): A cluster runs four transpose passes to form input gradients, entering ACR at its side
  port. -/
  | transposeVector (t : Nat) (o : TransposeOps) (charges : List XbCharges)
  /-- DRAIN (R144): An ordered drain applies the correction order to a COMPLETE bank and hands partials to VEC or an
  export record. -/
  | drain (t : Nat) (core : Nat) (cluster : Nat) (b : Nat) (places : List (Nat × DrainPlace)) (check : UnitCheck)
  /-- ACR_DBG_DRAIN (R145): A forced drain snapshots a bank and writes a KIND 2 record to the debug area. -/
  | acrDbgDrain (t : Nat) (fn : Nat) (core : Nat) (cluster : Nat) (b : Nat)
  /-- TOPK (R149): ACR's top-k unit returns the k largest local elements with positions, maximum and sum. -/
  | topk (t : Nat) (core : Nat) (src : Nat) (k : Nat) (sums : TopSum) (dst : Nat)
  /-- FOLD (R148): VEC folds partials and records of an element in ascending first input. -/
  | fold (t : Nat) (core : Nat) (first : Nat) (n : Nat) (srcs : List PartPlace) (dst : Nat) (serial : Option Nat)
  /-- RMSNORM (R152): VEC applies RMS normalisation. -/
  | rmsnorm (t : Nat) (core : Nat) (src : Nat) (idx : Nat) (dst : Nat)
  /-- LAYERNORM (R152): VEC applies layer normalisation. -/
  | layernorm (t : Nat) (core : Nat) (src : Nat) (idx : Nat) (dst : Nat)
  /-- SILU_GATE (R152): VEC applies the SiLU-gated activation. -/
  | siluGate (t : Nat) (core : Nat) (a : Nat) (b : Nat) (dst : Nat)
  /-- GELU_GATE (R152): VEC applies the GELU-gated activation. -/
  | geluGate (t : Nat) (core : Nat) (a : Nat) (b : Nat) (dst : Nat)
  /-- ROTARY (R153): VEC rotates query and key pairs by position angles. -/
  | rotary (t : Nat) (core : Nat) (src : Nat) (idx : Nat) (position : Nat) (dst : Nat)
  /-- EXP_SUM (R152): VEC forms exponentials and their sum. -/
  | expSum (t : Nat) (core : Nat) (src : Nat) (list : Nat) (sums : TopSum) (dst : Nat) (sumDst : Nat)
  /-- QUANT_A8 (R32): VEC quantises values to A8 blocks with power-of-two scales. -/
  | quantA8 (t : Nat) (core : Nat) (src : Nat) (matrix : Nat) (dst : Nat)
  /-- TO_BF16 (R152): VEC rounds FP32 results to BF16 hand-offs. -/
  | toBf16 (t : Nat) (core : Nat) (src : Nat) (page : Nat) (dst : Nat)
  /-- SAMPLE (R154): VEC merges candidate lists and samples a token under temperature, top-k, top-p and min-p. -/
  | sample (t : Nat) (core : Nat) (srcs : List PartPlace) (serial : Nat) (j : Nat) (dst : Nat)
  /-- EXPERT_DISPATCH (R157): A token's activation is sent to the selected experts' first matrices. -/
  | expertDispatch (t : Nat) (core : Nat) (src : Nat) (router : Nat) (places : List (Nat × DrainPlace))
  /-- EXPERT_COMBINE (R158): The home module combines weighted expert outputs in ascending expert order. -/
  | expertCombine (t : Nat) (core : Nat) (residual : Nat) (router : Nat) (layer : Nat) (outs : List (Nat × Nat)) (dst : Nat)
  /-- Q_RECORD_WRITE (R169): VEC writes each query head as a scaled FP8 Q record. -/
  | qRecordWrite (t : Nat) (core : Nat) (src : Nat) (dst : Nat)
  /-- DMA (R358): A DMA engine entry moves data between the core and CST. -/
  | dma (t : Nat) (core : Nat) (serial : Option Nat) (o : DmaOp) (errs : List MemErr)
  /-- ATTENTION_FORWARD (R172): An attention unit computes scores, chunk statistics and the segment fold for its rows
  from the length table. -/
  | attentionForward (t : Nat) (o : AttnOps) (segments : List Nat) (dst : PartPlace) (check : UnitCheck) (errs : List MemErr)
  /-- SEGMENT_MERGE (R174): The folding unit merges a segment record from another unit, stalling until it is written.
  -/
  | segmentMerge (t : Nat) (core : Nat) (n : Nat) (addr : Nat) (slot : Nat)
  /-- ATTENTION_BACKWARD (R180): A prefill attention unit recomputes scores and forms dQ, dK and dV. -/
  | attentionBackward (t : Nat) (o : AttnOps) (b : BackwardOps) (check : UnitCheck) (errs : List MemErr)
  /-- TRACK_VISIT (R94): Every PERIOD ticks the spare slice starts a tracking visit by converting the ladder set. -/
  | trackVisit (t : Nat) (phys : Nat) (cs : List Ladder)
  /-- TRACK_SWAP_IN (R94): At the next boundary between vectors the spare slice takes the visited slice's columns. -/
  | trackSwapIn (t : Nat) (phys : Nat)
  /-- TRACK_SWAP_OUT (R94): At the next boundary between vectors the visited slice is reconnected and its tracking
  values updated. -/
  | trackSwapOut (t : Nat) (phys : Nat) (l : List Ladder)
  /-- WLT_DRIFT_UPDATE (R115): Every drift period or on a probe result the welt recomputes crossbar drift figures. -/
  | wltDriftUpdate (t : Nat)
  /-- LASTING_COMPLETE (R219): A crossbar's lasting ends with a verify read, resets drift and updates its endurance
  counter. -/
  | lastingComplete (t : Nat) (p : Nat) (reads : List CellRead)
  /-- LASTING_WATCHDOG (R222): A lasting exceeding 8 ms moves its position to the spare crossbar. -/
  | lastingWatchdog (t : Nat) (p : Nat)
  /-- BIND_COMPLETE (R218): At the boundary after probing, clusters are marked BOUND and the object becomes CURRENT.
  -/
  | bindComplete (t : Nat)
  /-- SWAP_SWITCH (R226): At the boundary after the last lasting the new object becomes CURRENT and welt stores
  reload. -/
  | swapSwitch (t : Nat)
  /-- SWAP_END (R226): When no request bound to the old generation remains, the OLD object returns to CHECKED and the
  swap completes. -/
  | swapEnd (t : Nat)
  /-- OBJECT_CHECK_COMPLETE (R215): After the last section LST checks CANON_DIGEST and sets the slot CHECKED. -/
  | objectCheckComplete (t : Nat) (slot : Nat)
  /-- ADAPTER_UNLOAD_COMPLETE (R228): Once the last request using an unloading adapter ends, the object returns to
  CHECKED. -/
  | adapterUnloadComplete (t : Nat) (fn : Nat) (num : Nat)
  /-- LEHR_PROBE (R231): LST probes each bound crossbar once per lehr period with eight probe passes and forms drift.
  -/
  | lehrProbe (t : Nat) (p : Nat) (charges : List XbCharges)
  /-- LEHR_REFRESH (R232): A queued crossbar is relasted with its own generation's content. -/
  | lehrRefresh (t : Nat) (p : Nat)
  /-- DEMOTE_COLUMN (R197): A paused session's column is copied to tier B and its tier-A pages freed. -/
  | demoteColumn (t : Nat) (fn : Nat) (handle : Nat) (errs : List MemErr)
  /-- MIGRATION_RETRY (R197): A column that could not be moved is retried 1,000 slot lengths after the failed attempt.
  -/
  | migrationRetry (t : Nat) (fn : Nat) (handle : Nat)
  /-- PROMOTE_COLUMN (R199): A resuming session's column is copied to tier A; the session becomes ACTIVE when all are
  resident. -/
  | promoteColumn (t : Nat) (fn : Nat) (handle : Nat) (errs : List MemErr)
  /-- CLONE_COMPLETE (R202): The clone copy ends, its handle opens and the clone takes requests. -/
  | cloneComplete (t : Nat) (fn : Nat) (newHandle : Nat) (errs : List MemErr)
  /-- PPS_EDGE (R239): A PPS_IN rising edge is timestamped and disciplines the phase of external time. -/
  | ppsEdge (t : Nat) (stamp : Nat)
  /-- PPS_LOSS (R239): No edge within ±10 µs of prediction for 2 seconds loses PPS lock. -/
  | ppsLoss (t : Nat)
  /-- PTP_SYNC (R349): A Sync message from the chosen master updates the PTP servo. -/
  | ptpSync (t : Nat) (f : PtpFrom) (origin : Int) (correction : Int) (interval : Nat) (stamp : Nat)
  /-- PTP_DELAY_REQ (R349): Folza sends Delay_Req at the master's minimum interval. -/
  | ptpDelayReq (t : Nat) (stamp : Nat)
  /-- PTP_DELAY_RESP (R349): A Delay_Resp completes a path-delay measurement. -/
  | ptpDelayResp (t : Nat) (f : PtpFrom) (t4 : Int) (correction : Int) (least : Nat)
  /-- PTP_ANNOUNCE (R350): Announce messages feed the data-set comparison that chooses the master. -/
  | ptpAnnounce (t : Nat) (f : PtpFrom) (rank : List Nat) (interval : Nat)
  /-- PTP_ANNOUNCE_TIMEOUT (R350): A master whose Announce messages stop for 3 intervals is dropped. -/
  | ptpAnnounceTimeout (t : Nat) (port : Nat) (id : Nat)
  /-- PTP_LOSS (R239): No accepted Sync for 4 s loses PTP lock and enters HOLDOVER. -/
  | ptpLoss (t : Nat)
  /-- TREF_LOSS (R237): TREF_IN is lost and time counts on the hub oscillator without a phase step. -/
  | trefLoss (t : Nat)
  /-- TREF_RETURN (R237): TREF_IN returns and time counts at its rate again. -/
  | trefReturn (t : Nat)
  /-- TWS_TIME_SET (R240): Writing the upper half steps the time while stopped or sets a slew target while running. -/
  | twsTimeSet (t : Nat) (fn : Nat) (v : Nat)
  /-- TWS_RUN_START (R243): Writing RUN = 1 checks the slot length and starts the wheel at the next slot start. -/
  | twsRunStart (t : Nat) (fn : Nat)
  /-- TWS_RUN_STOP (R243): Writing RUN = 0 stops an idle wheel and applies pending commits at once. -/
  | twsRunStop (t : Nat) (fn : Nat)
  /-- AMF_COMMIT (R8): Commits pending AMF shadowed writes. -/
  | amfCommit (t : Nat) (fn : Nat)
  /-- CCV_COMMIT (R8): Commits pending CCV shadowed writes. -/
  | ccvCommit (t : Nat) (fn : Nat)
  /-- WLT_COMMIT (R8): Commits pending welt shadowed writes. -/
  | wltCommit (t : Nat) (fn : Nat)
  /-- ACR_COMMIT (R8): Commits pending ACR shadowed writes. -/
  | acrCommit (t : Nat) (fn : Nat)
  /-- ATN_COMMIT (R8): Commits pending ATN shadowed writes. -/
  | atnCommit (t : Nat) (fn : Nat)
  /-- KVM_COMMIT (R8): Commits pending KVM shadowed writes. -/
  | kvmCommit (t : Nat) (fn : Nat)
  /-- LST_COMMIT (R8): Commits pending LST shadowed writes. -/
  | lstCommit (t : Nat) (fn : Nat)
  /-- TWS_COMMIT (R244): Commits pending TWS shadowed writes. -/
  | twsCommit (t : Nat) (fn : Nat)
  /-- HIF_COMMIT (R8): Commits pending HIF shadowed writes. -/
  | hifCommit (t : Nat) (fn : Nat)
  /-- CPX_COMMIT (R8): Commits pending CPX shadowed writes. -/
  | cpxCommit (t : Nat) (fn : Nat)
  /-- CST_COMMIT (R8): Commits pending CST shadowed writes. -/
  | cstCommit (t : Nat) (fn : Nat)
  /-- MEM_COMMIT (R8): Commits pending MEM shadowed writes. -/
  | memCommit (t : Nat) (fn : Nat)
  /-- PTM_COMMIT (R8): Commits pending PTM shadowed writes. -/
  | ptmCommit (t : Nat) (fn : Nat)
  /-- SMS_COMMIT (R8): Commits pending SMS shadowed writes. -/
  | smsCommit (t : Nat) (fn : Nat)
  /-- AMF_CNT_CLR (R82): Clears every AMF counter and tally log valid bit. -/
  | amfCntClr (t : Nat) (fn : Nat)
  /-- CCV_CNT_CLR (R103): Clears CCV counters except rounds and the saturation log valid bit. -/
  | ccvCntClr (t : Nat) (fn : Nat)
  /-- WLT_CNT_CLR (R135): Clears every welt counter and shadow log valid bit. -/
  | wltCntClr (t : Nat) (fn : Nat)
  /-- ACR_CNT_CLR (R160): Clears every ACR and VEC counter. -/
  | acrCntClr (t : Nat) (fn : Nat)
  /-- ATN_CNT_CLR (R183): Clears every ATN counter. -/
  | atnCntClr (t : Nat) (fn : Nat)
  /-- KVM_CNT_CLR (R204): Clears every KVM counter. -/
  | kvmCntClr (t : Nat) (fn : Nat)
  /-- LST_CNT_CLR (R234): Clears every LST counter, leaving endurance counts. -/
  | lstCntClr (t : Nat) (fn : Nat)
  /-- TWS_CNT_CLR (R264): Clears every TWS counter. -/
  | twsCntClr (t : Nat) (fn : Nat)
  /-- HIF_CNT_CLR (R327): Clears every HIF counter. -/
  | hifCntClr (t : Nat) (fn : Nat)
  /-- LNK_CNT_CLR (R352): Clears every LNK counter. -/
  | lnkCntClr (t : Nat) (fn : Nat)
  /-- CPX_CNT_CLR (R371): Clears every CPX counter. -/
  | cpxCntClr (t : Nat) (fn : Nat)
  /-- CST_CNT_CLR (R386): Clears every CST counter. -/
  | cstCntClr (t : Nat) (fn : Nat)
  /-- MEM_CNT_CLR (R387): Clears every MEM counter and the error log valid bit. -/
  | memCntClr (t : Nat) (fn : Nat)
  /-- PTM_CNT_CLR (R406): Clears every PTM counter except the trip count. -/
  | ptmCntClr (t : Nat) (fn : Nat)
  /-- SMS_CNT_CLR (R424): Clears every SMS fault counter. -/
  | smsCntClr (t : Nat) (fn : Nat)
  /-- SMS_ID_CNT_CLR (R446): Clears the firmware-refused and SPDM-sign counters. -/
  | smsIdCntClr (t : Nat) (fn : Nat)
  /-- KVM_CTRL_EN (R204): Writing EN = 1 checks pools and table region and starts KVM or sets CFG_ERR. -/
  | kvmCtrlEn (t : Nat) (fn : Nat)
  /-- LST_CTRL_EN (R234): Writing EN = 1 checks object and embedding regions and starts LST or sets CFG_ERR. -/
  | lstCtrlEn (t : Nat) (fn : Nat)
  /-- LST_TRUST_LOCK (R234): Setting LOCK makes the trust slots ignore writes until PERST_N. -/
  | lstTrustLock (t : Nat) (fn : Nat)
  /-- LNK_CTRL_EN (R352): Writing EN = 1 checks module and block and starts torus training, or sets CFG_ERR. -/
  | lnkCtrlEn (t : Nat) (fn : Nat) (on : Bool)
  /-- CPX_DBG_DATA_READ (R369): A read returns a tier-A word in a permitted region and advances the address, or is
  refused. -/
  | cpxDbgDataRead (t : Nat) (fn : Nat)
  /-- HALF_LATCH_READ (R6): A read of the lower half of a 64-bit register or a log pair latches the upper half. -/
  | halfLatchRead (t : Nat) (fn : Nat) (bar : Nat) (off : Nat) (size : Nat)
  /-- REGISTER_WRITE (R7): A write to a register without a row of its own acts by its field types; bad sizes are
  dropped and counted. -/
  | registerWrite (t : Nat) (fn : Nat) (bar : Nat) (off : Nat) (size : Nat) (data : Nat) (poisoned : Bool)
  /-- SQ_TAIL (R312): A doorbell advances the submission tail if it neither moves back nor overfills the ring. -/
  | sqTail (t : Nat) (fn : Nat) (q : Nat) (x : Nat)
  /-- CQ_HEAD (R312): A doorbell advances the completion head within the ring's tail. -/
  | cqHead (t : Nat) (fn : Nat) (q : Nat) (x : Nat)
  /-- TQ_HEAD (R312): A doorbell advances the token head, freeing room for waiting token records. -/
  | tqHead (t : Nat) (fn : Nat) (q : Nat) (x : Nat)
  /-- HIF_Q_ENABLE (R316): Writing EN = 1 to a DISABLED queue checks sizes, zeroes indexes and makes it ACTIVE. -/
  | hifQEnable (t : Nat) (fn : Nat) (q : Nat)
  /-- HIF_Q_DISABLE (R316): Writing EN = 0 stops fetching and makes the queue DRAINING. -/
  | hifQDisable (t : Nat) (fn : Nat) (q : Nat)
  /-- QUEUE_DRAINED (R316): A DRAINING queue becomes DISABLED once its last completion and token records are written.
  -/
  | queueDrained (t : Nat) (q : Nat)
  /-- HIF_FN_QUEUES (R309): Assigns a function's queue range, refusing overlaps, overruns and non-disabled queues. -/
  | hifFnQueues (t : Nat) (fn : Nat) (v : Nat)
  /-- RING_SIGNAL (R318): A ring signals by status block write and MSI-X message when its count or time moderation is
  met. -/
  | ringSignal (t : Nat) (q : Nat) (tok : Bool)
  /-- MSIX_UNMASK (R317): Clearing a vector or function mask sends a pending message. -/
  | msixUnmask (t : Nat) (fn : Nat) (op : MsixOp)
  /-- VF_FLR (R322): A PCIe FLR of a virtual function runs the function-level reset sequence. -/
  | vfFlr (t : Nat) (fn : Nat)
  /-- FUNCTION_RESET_READY (R322): The reset sequence ends with the function READY within 100 ms. -/
  | functionResetReady (t : Nat) (fn : Nat)
  /-- HIF_FN_RESET_FLR (R321): GO with KEEP = 0 runs a function-level reset of the selected virtual function. -/
  | hifFnResetFlr (t : Nat) (fn : Nat)
  /-- HIF_FN_RESET_SERVE (R321): GO with KEEP = 1 runs a serving reset of the selected virtual function. -/
  | hifFnResetServe (t : Nat) (fn : Nat)
  /-- HIF_CTRL_SERVE_RESET (R321): Starts a serving reset of function 0. -/
  | hifCtrlServeReset (t : Nat) (fn : Nat)
  /-- HIF_VF_CTRL_SERVE_RESET (R321): A virtual function starts a serving reset of itself. -/
  | hifVfCtrlServeReset (t : Nat) (fn : Nat)
  /-- VF_ENABLE_CLEAR (R321): Clearing VF Enable resets every virtual function. -/
  | vfEnableClear (t : Nat)
  /-- PF_FLR (R324): A PCIe FLR of the physical function resets every function, HIF registers and function 0's
  objects. -/
  | pfFlr (t : Nat)
  /-- COMPLETION_TIMEOUT (R325): A host read that times out is handled as a failed fetch or buffer access. -/
  | completionTimeout (t : Nat) (r : TimedRead)
  /-- HIF_UNCORRECTABLE (R325): An uncorrectable HIF buffer error stops all host writes and fetching until reset. -/
  | hifUncorrectable (t : Nat) (buffer : Nat)
  /-- MBX_S_GO (R366): A sender's GO copies the message into the receive block, stamps the sender and interrupts the
  receiver. -/
  | mbxSGo (t : Nat) (a : Nat) (b : Nat) (words : List Word)
  /-- MBX_R_DONE (R366): A receiver's DONE empties the channel and notifies the sender. -/
  | mbxRDone (t : Nat) (a : Nat) (b : Nat)
  /-- FW_GET_VERSION (R368): Main firmware mailbox command returning version, slot and restarts. -/
  | fwGetVersion (t : Nat) (sender : Nat)
  /-- SET_TIME (R368): Main firmware mailbox command setting the time of day as TWS_TIME_SET. -/
  | setTime (t : Nat) (sender : Nat)
  /-- READ_LOG (R368): Main firmware mailbox command returning one event log record. -/
  | readLog (t : Nat) (sender : Nat)
  /-- MC_GET_VERSION (R436): Management controller mailbox command returning its application version. -/
  | mcGetVersion (t : Nat) (sender : Nat)
  /-- GET_IDENTITY (R436): Returns the identity public key and Device Serial Number. -/
  | getIdentity (t : Nat) (sender : Nat)
  /-- GET_MEASUREMENT (R436): Returns half of one measurement block value. -/
  | getMeasurement (t : Nat) (sender : Nat)
  /-- GET_SENSOR (R436): Returns one PLDM sensor value to the physical function. -/
  | getSensor (t : Nat) (sender : Nat)
  /-- GET_FW_SLOTS (R436): Returns both firmware slots' states. -/
  | getFwSlots (t : Nat) (sender : Nat)
  /-- FIRMWARE_RESTART (R355): The main firmware restarts on all control cores, ending job requests and rebuilding
  state. -/
  | firmwareRestart (t : Nat) (cause : Nat)
  /-- CONTROL_WATCHDOG (R355): A control core watchdog unrestarted for 50 ms forces a firmware restart. -/
  | controlWatchdog (t : Nat) (core : Nat)
  /-- TRIAL_CONFIRM (R442): The firmware confirms a trial boot after 60 s clean, raising the security version floor.
  -/
  | trialConfirm (t : Nat)
  /-- FALLBACK (R442): Without confirmation in 600 s the security block fails the trial slot and restarts from the
  other. -/
  | fallback (t : Nat) (bad : List Nat)
  /-- FAST_ROUND (R390): Every eighth tick the monitor samples all core currents and rail currents at one strobe. -/
  | fastRound (t : Nat) (cores : List Int) (rails : List Int) (v54 : Int) (i54 : Int) (taken : Nat)
  /-- SLOW_ROUND (R390): Every 1,000 ticks the monitor reads diodes, rails and memory readouts. -/
  | slowRound (t : Nat) (diodes : List Int) (volts : List Int) (hbm : List Int) (lp : List Int) (taken : Nat)
  /-- INJECTED_SEQUENCE (R391): Urgent re-conversions confirm a window leaving and apply throttling, faulting or trip
  checks. -/
  | injectedSequence (t : Nat) (c : Nat) (values : List Int) (others : List (Nat × Int)) (taken : Nat)
  /-- MONITOR_TRACK_VISIT (R393): Every 100 ms the monitor's spare converter tracks a working converter and may
  replace it. -/
  | monitorTrackVisit (t : Nat) (die : Nat) (l : Ladder)
  /-- PTM_PSTATE_ENTER_MP1 (R404): Writing REQ = 1 on an idle module enters MP1. -/
  | ptmPstateEnterMp1 (t : Nat) (fn : Nat)
  /-- PTM_PSTATE_EXIT_MP1 (R404): Writing REQ = 0 or an accepted SQ_TAIL returns to MP0 with tracking and verify
  before service. -/
  | ptmPstateExitMp1 (t : Nat) (fn : Nat)
  /-- STANDBY_SAMPLE (R404): The management controller samples standby voltage and current every 100 ms. -/
  | standbySample (t : Nat) (v : Nat) (i : Nat)
  /-- MARGIN_DECAY (R415): A core without suspect events for DECAY_DAYS steps down one level. -/
  | marginDecay (t : Nat) (core : Nat)
  /-- IFT_SLICE (R418): An in-field test slice runs for 400 µs in a test pause and compares signatures. -/
  | iftSlice (t : Nat) (core : Nat) (pass : Bool) (sig : Nat)
  /-- IFT_OVERDUE (R418): A core's test due time passing with slices outstanding forces test pauses. -/
  | iftOverdue (t : Nat) (core : Nat)
  /-- SCRUB_READ (R382): Patrol scrub reads lines of both tiers, correcting single errors. -/
  | scrubRead (t : Nat) (tierB : Bool) (lines : Nat) (errs : List MemErr)
  /-- BRIDGE_FLIT_RECEIVE (R14): A bridge flit with a bad CRC is replayed; eight failures take the bridge down. -/
  | bridgeFlitReceive (t : Nat) (die : Nat) (up bad : Bool)
  /-- BRIDGE_RETRAIN (R14): A down bridge retrains and its die takes work from the next job start. -/
  | bridgeRetrain (t : Nat) (die : Nat)
  /-- DATA_FLIT (R334): A received DATA flit is checked, acknowledged and delivered or NAKed. -/
  | dataFlit (t : Nat) (p : Nat) (l : List Byte)
  /-- IDLE_FLIT (R334): A received IDLE flit carries acknowledgements. -/
  | idleFlit (t : Nat) (p : Nat) (l : List Byte)
  /-- NAK (R335): A NAK makes the transmitter replay from the named sequence number. -/
  | nak (t : Nat) (p : Nat) (l : List Byte)
  /-- CREDIT (R336): A CREDIT record returns receive credits per virtual channel. -/
  | credit (t : Nat) (p : Nat) (l : List Byte)
  /-- TRAIN (R331): A TRAIN record carries the neighbour's number and port for the wiring check. -/
  | train (t : Nat) (p : Nat) (lat : Nat) (l : List Byte)
  /-- REPLAY_TIMEOUT (R335): A flit unacknowledged for 2 µs is replayed. -/
  | replayTimeout (t : Nat) (p : Nat)
  /-- TORUS_PORT_DOWN (R337): Replay failure, protocol error, alignment loss or 10 µs silence takes a port down and
  faults its jobs. -/
  | torusPortDown (t : Nat) (p : Nat)
  /-- TORUS_PORT_RETRAIN (R337): A down port retrains and repeats the wiring check. -/
  | torusPortRetrain (t : Nat) (p : Nat)
  /-- QUEUE_WRITE (R341): A QUEUE_WRITE message is checked and delivered into a receive window. -/
  | queueWrite (t : Nat)
  /-- COLLECTIVE (R343): A COLLECTIVE message delivers one contribution into its planned offset. -/
  | collective (t : Nat)
  /-- CONTROL (R340): A CONTROL message carries a firmware record such as a session, Switch or close. -/
  | control (t : Nat)
  /-- STORAGE_READ_RESPONSE (R347): An RDMA READ response lands in the object slot, with a CNP sent if congestion is
  marked. -/
  | storageReadResponse (t : Nat) (port : Nat) (qp : Nat) (slot : Nat) (offset : Nat) (psn : Nat) (crcOk ce : Bool) (data : List Byte)
  /-- STORAGE_NAK (R347): A remote access or operation NAK moves the queue pair to ERROR and fails its loads. -/
  | storageNak (t : Nat) (port : Nat) (qp : Nat) (access : Bool)
  /-- RDMA_RETRY_TIMEOUT (R345): An unacknowledged READ is retried and exhaustion moves the queue pair to ERROR. -/
  | rdmaRetryTimeout (t : Nat) (port : Nat) (qp : Nat)
  /-- INBOUND_REQUEST_DISCARD (R345): An inbound RoCE request is discarded and counted. -/
  | inboundRequestDiscard (t : Nat) (port : Nat)
  /-- STORAGE_LINK_DOWN (R347): LINK_UP falling moves loading queue pairs to ERROR with cause 4. -/
  | storageLinkDown (t : Nat) (port : Nat)
  /-- STORAGE_PORT_DISABLE (R347): Writing EN = 0 takes the port down and stops its PTP. -/
  | storagePortDisable (t : Nat) (fn : Nat) (port : Nat)
  /-- QP_RESET (R347): Writing STATE = RESET fails the queue pair's loads and clears its cause. -/
  | qpReset (t : Nat) (fn : Nat) (port : Nat) (qp : Nat)
  /-- QP_RTS (R346): Writing STATE = RTS from RESET with a valid MTU connects the queue pair. -/
  | qpRts (t : Nat) (fn : Nat) (port : Nat) (qp : Nat)
  /-- STANDBY_APPLY (R453): The standby input enters range, the standby domain starts and the trip latch is read. -/
  | standbyApply (t : Nat) (offFor : Nat)
  /-- STANDBY_REMOVE (R455): Removing the standby input drops the main rails and enters MP3. -/
  | standbyRemove (t : Nat)
  /-- PWR_EN_RISE (R453): PWR_EN rising starts the rails in order unless the trip latch is set. -/
  | pwrEnRise (t : Nat) (main54 : Bool)
  /-- PWR_GOOD_RISE (R453): All rails within window raise PWR_GOOD. -/
  | pwrGoodRise (t : Nat) (o : StartOps)
  /-- PWR_EN_FALL (R455): PWR_EN falling or main input loss drops the rails in reverse order within 1 ms. -/
  | pwrEnFall (t : Nat) (lost54 : Bool)
  /-- PERST_N_ASSERT (R456): PERST_N, a hot reset or link down resets the main side to its power-up state. -/
  | perstNAssert (t : Nat) (k : ResetKind)
  /-- PERST_N_RELEASE (R453): Releasing PERST_N trains the link and starts the firmware. -/
  | perstNRelease (t : Nat) (o : StartOps)
  /-- PE_REFCLK_LOSS (R459): Loss of PE_REFCLK takes the link down, acting as PERST_N. -/
  | peRefclkLoss (t : Nat) (o : StartOps)
  /-- MC_WATCHDOG (R434): The management controller's watchdog returns it to the standby set. -/
  | mcWatchdog (t : Nat)
  /-- I3C_SETDASA (R432): SETDASA assigns the port's dynamic address. -/
  | i3cSetdasa (t : Nat) (static : Nat) (addr : Nat)
  /-- I3C_ENTDAA (R432): ENTDAA assigns the port's dynamic address by arbitration. -/
  | i3cEntdaa (t : Nat) (addr : Nat)
  /-- SET_ENDPOINT_ID (R433): MCTP control command assigning the endpoint ID. -/
  | setEndpointId (t : Nat) (eid : Nat)
  /-- GET_ENDPOINT_ID (R433): MCTP control command returning the endpoint ID. -/
  | getEndpointId (t : Nat)
  /-- GET_ENDPOINT_UUID (R433): MCTP control command returning the endpoint UUID. -/
  | getEndpointUuid (t : Nat)
  /-- GET_MCTP_VERSION_SUPPORT (R433): MCTP control command returning supported versions. -/
  | getMctpVersionSupport (t : Nat)
  /-- GET_MESSAGE_TYPE_SUPPORT (R433): MCTP control command returning supported message types. -/
  | getMessageTypeSupport (t : Nat)
  /-- SPDM_GET_VERSION (R431): SPDM GET_VERSION lists 1.2 and resets the connection. -/
  | spdmGetVersion (t : Nat)
  /-- GET_CAPABILITIES (R431): SPDM request returning capability flags. -/
  | getCapabilities (t : Nat)
  /-- NEGOTIATE_ALGORITHMS (R431): SPDM request selecting Ed25519 and SHA-512. -/
  | negotiateAlgorithms (t : Nat) (offers : Bool)
  /-- GET_DIGESTS (R431): SPDM request returning the certificate chain digest. -/
  | getDigests (t : Nat)
  /-- GET_CERTIFICATE (R431): SPDM request returning a portion of the certificate chain. -/
  | getCertificate (t : Nat) (slot : Nat) (offset : Nat) (len : Nat)
  /-- CHALLENGE (R431): SPDM request answered with a response signed by the identity key. -/
  | challenge (t : Nat) (slot : Nat) (nonce : List Byte)
  /-- GET_MEASUREMENTS (R429): SPDM request returning signed measurement blocks in force. -/
  | getMeasurements (t : Nat) (index : Nat) (sign : Bool) (nonce : List Byte)
  /-- GETTID (R435): PLDM base command returning the terminus ID. -/
  | gettid (t : Nat)
  /-- SETTID (R435): PLDM base command setting the terminus ID. -/
  | settid (t : Nat) (tid : Nat)
  /-- GETPLDMVERSION (R435): PLDM base command returning type versions. -/
  | getpldmversion (t : Nat) (type_ : Nat)
  /-- GETPLDMTYPES (R435): PLDM base command returning supported types. -/
  | getpldmtypes (t : Nat)
  /-- GETPLDMCOMMANDS (R435): PLDM base command returning supported commands. -/
  | getpldmcommands (t : Nat) (type_ : Nat)
  /-- GETPDRREPOSITORYINFO (R435): PLDM platform command returning PDR repository information. -/
  | getpdrrepositoryinfo (t : Nat)
  /-- GETPDR (R435): PLDM platform command returning a sensor PDR. -/
  | getpdr (t : Nat) (handle : Nat)
  /-- GETSENSORREADING (R435): PLDM platform command returning a numeric sensor. -/
  | getsensorreading (t : Nat) (n : Nat)
  /-- GETSTATESENSORREADINGS (R435): PLDM platform command returning state sensors. -/
  | getstatesensorreadings (t : Nat) (n : Nat)
  /-- SETEVENTRECEIVER (R435): PLDM platform command naming the event receiver. -/
  | seteventreceiver (t : Nat) (eid : Nat)
  /-- POLLFORPLATFORMEVENTMESSAGE (R435): PLDM platform command collecting a queued event. -/
  | pollforplatformeventmessage (t : Nat)
  /-- QUERYDEVICEIDENTIFIERS (R443): PLDM update command returning device descriptors. -/
  | querydeviceidentifiers (t : Nat)
  /-- GETFIRMWAREPARAMETERS (R443): PLDM update command returning active and pending versions. -/
  | getfirmwareparameters (t : Nat)
  /-- REQUESTUPDATE (R443): PLDM update command entering update mode unless refused. -/
  | requestupdate (t : Nat) (agent : Nat)
  /-- PASSCOMPONENTTABLE (R443): PLDM update command passing the component table. -/
  | passcomponenttable (t : Nat) (agent : Nat)
  /-- UPDATECOMPONENT (R443): PLDM update command erasing the target slot and starting the transfer. -/
  | updatecomponent (t : Nat) (agent : Nat) (size : Nat)
  /-- FIRMWARE_DATA_RECEIVE (R443): A RequestFirmwareData response is written to the slot, the header checked first.
  -/
  | firmwareDataReceive (t : Nat) (agent : Nat) (data : List Byte)
  /-- ACTIVATEFIRMWARE (R443): PLDM update command setting the slot TRIAL for the next reset. -/
  | activatefirmware (t : Nat) (agent : Nat)
  /-- GETSTATUS (R443): PLDM update command returning update status. -/
  | getstatus (t : Nat)
  /-- CANCELUPDATECOMPONENT (R443): PLDM update command cancelling the component and leaving the target EMPTY. -/
  | cancelupdatecomponent (t : Nat) (agent : Nat)
  /-- CANCELUPDATE (R443): PLDM update command cancelling the update and leaving the target EMPTY. -/
  | cancelupdate (t : Nat) (agent : Nat)
  /-- ERROR_ESTIMATE_UNLOCK (R262): While QUALITY is FREE or HOLDOVER, TWS_ERR_EST grows by HOLD_RATE per second and,
  on rising above LIMIT, sets UNLOCKED and TWS_EVENT.UNLOCK. -/
  | errorEstimateUnlock (t : Nat)
  /-- FIRMWARE_READY (R356): A firmware start or restart finishes loading and rebuilding its state, and
  CPX_FW_STATUS.STAGE becomes 3, READY (or 4, FAILED). -/
  | firmwareReady (t : Nat) (o : ReadyOps)
  /-- MP1_ENTRY_COMPLETE (R404): Clock gating, driver shutdown, self-refresh and retention finish and PTM_PSTATE.STATE
  moves from 2, entering MP1, to 1, MP1. -/
  | mp1EntryComplete (t : Nat)
  /-- MP0_RETURN_COMPLETE (R404): The tracking round and verify pass after MP1 finish, PTM_PSTATE.STATE moves from 3
  to 0 and admission resumes. -/
  | mp0ReturnComplete (t : Nat) (verify : List VerifyRead)
  /-- SWAP_PREPARE_COMPLETE (R226): The embedding copy, adapter re-layout and tile comparison of a swap finish and the
  swap enters its Lasting phase. -/
  | swapPrepareComplete (t : Nat)
  /-- STORAGE_LINK_UP (R347): LNK_Ss_STATUS.LINK_UP rises when the storage port's PCS aligns and FEC locks, letting
  waiting READs proceed and PTP run on the port. -/
  | storageLinkUp (t : Nat) (port : Nat)
  /-- PFC_FRAME (R344): A received IEEE 802.1Qbb priority flow control frame for the honoured priority pauses or
  resumes the storage port's transmission. -/
  | pfcFrame (t : Nat) (port : Nat) (enable : Nat) (quanta : List Nat)
  /-- VF_ENABLE_SET (R302): Writing VF Enable = 1 creates NumVFs virtual functions, or has no effect when ARI Capable
  Hierarchy is clear and NumVFs exceeds 7. -/
  | vfEnableSet (t : Nat) (numVfs : Nat) (ari : Bool)
  /-- FUNCTION_POWER_STATE (R326): A power-state write moves a function between D0 and D3hot, stopping fetching and
  signals in D3hot and restoring them in D0. -/
  | functionPowerState (t : Nat) (fn : Nat) (d3 : Bool)
  /-- PLATFORMEVENTMESSAGE_ACK (R435): The event receiver's response to a sent PlatformEventMessage acknowledges the
  event, removing it from the queue and deasserting MGT_ALERT_N after the last one. -/
  | platformeventmessageAck (t : Nat)
deriving DecidableEq, Repr

end Sys2Proof
end

