-- ==== Sys2Proof/Decode.lean ====
section
/-! DEFINITION. The command a word spells. Every row of spec/opcode_table.json has an empty list of bit fields: the commands are
register accesses, ring entries, link and management messages and events, and none is spelled by one word. -/

namespace Sys2Proof

/-- The command that a word of the table spells: none, for no row gives bits. -/
def decodeTableWord (nbits w : Nat) : Option Instr :=
  match nbits, w with
  | _, _ => none

end Sys2Proof
end

