-- ==== Sys2Proof/Machine/SMap.lean ====
section
/-! DEFINITION. Sparse tables in one canonical form: lists of (key, value) pairs with keys strictly rising and no
entry equal to the table's default, so that equal tables are equal data.  Registers, memories, endurance counts,
cells and every other large array of the machine are held so. -/

namespace Sys2Proof.Machine

/-- A sparse table: keys strictly rising, no entry equal to the default (`SMap.wf`). -/
abbrev SMap (α : Type) := List (Nat × α)

/-- The value at a key: the entry's, or the default where the table lists none. DESIGN CHOICE (assumption log 6). -/
def SMap.get {α : Type} (d : α) : SMap α → Nat → α
  | [], _ => d
  | (a, v) :: t, k => if a = k then v else SMap.get d t k

/-- The table without a key. -/
def SMap.erase {α : Type} : SMap α → Nat → SMap α
  | [], _ => []
  | (a, v) :: t, k => if a = k then SMap.erase t k else (a, v) :: SMap.erase t k

/-- The table with an entry put in its place, below the first larger key. -/
def SMap.insert {α : Type} : SMap α → Nat → α → SMap α
  | [], k, v => [(k, v)]
  | (a, w) :: t, k, v =>
    if k < a then (k, v) :: (a, w) :: t
    else if a = k then (k, v) :: t
    else (a, w) :: SMap.insert t k v

/-- A write: writing the default removes the entry, so that the form stays canonical. -/
def SMap.put {α : Type} [DecidableEq α] (d : α) (m : SMap α) (k : Nat) (v : α) : SMap α :=
  if v = d then SMap.erase m k else SMap.insert m k v

/-- A change of one entry by a function of its value. -/
def SMap.upd {α : Type} [DecidableEq α] (d : α) (m : SMap α) (k : Nat) (f : α → α) : SMap α :=
  SMap.put d m k (f (SMap.get d m k))

/-- Every key of the table is at least `lo`, keys rise, and no entry holds the default. -/
def SMap.wfFrom {α : Type} [DecidableEq α] (d : α) : Nat → SMap α → Bool
  | _, [] => true
  | lo, (a, v) :: t => decide (lo ≤ a) && decide (v ≠ d) && SMap.wfFrom d (a + 1) t

/-- The canonical form of a sparse table. -/
def SMap.wf {α : Type} [DecidableEq α] (d : α) (m : SMap α) : Bool := SMap.wfFrom d 0 m

/-- The table without the entries whose key and value meet a condition. -/
def SMap.dropIf {α : Type} (p : Nat → α → Bool) (m : SMap α) : SMap α := m.filter fun e => !p e.1 e.2

/-- A change of every listed entry; an entry that becomes the default is dropped. -/
def SMap.mapVals {α : Type} [DecidableEq α] (d : α) (f : Nat → α → α) : SMap α → SMap α
  | [] => []
  | (a, v) :: t =>
    let w := f a v
    if w = d then SMap.mapVals d f t else (a, w) :: SMap.mapVals d f t

/-- The table of a function over the keys below a bound. -/
def SMap.ofFn {α : Type} [DecidableEq α] (d : α) (n : Nat) (f : Nat → α) : SMap α :=
  ((List.range n).map fun i => (i, f i)).filter fun e => decide (e.2 ≠ d)

/-- How many listed entries meet a condition. -/
def SMap.count {α : Type} (p : Nat → α → Bool) (m : SMap α) : Nat := (m.filter fun e => p e.1 e.2).length

/-- The keys of the listed entries that meet a condition, rising. -/
def SMap.keysIf {α : Type} (p : Nat → α → Bool) (m : SMap α) : List Nat := (m.filter fun e => p e.1 e.2).map (·.1)

/-- A change of the first entry of a list that meets a condition. -/
def updFirst {α : Type} (p : α → Bool) (f : α → α) : List α → List α
  | [] => []
  | a :: t => if p a then f a :: t else a :: updFirst p f t

/-- A list entry by number, with a default past the end. -/
def nth {α : Type} (d : α) : List α → Nat → α
  | [], _ => d
  | a :: _, 0 => a
  | _ :: t, n + 1 => nth d t n

/-- A list with its entry `n` replaced; a list too short is lengthened with the default. -/
def setNth {α : Type} (d : α) : List α → Nat → α → List α
  | [], 0, v => [v]
  | [], n + 1, v => d :: setNth d [] n v
  | _ :: t, 0, v => v :: t
  | a :: t, n + 1, v => a :: setNth d t n v

/-- The numbers `lo … lo + n - 1`. -/
def natsFrom (lo n : Nat) : List Nat := (List.range n).map (lo + ·)

/-- Bits `[lsb + w - 1 : lsb]` of a number. -/
def bitsOf (x lsb w : Nat) : Nat := x / 2 ^ lsb % 2 ^ w

/-- Bit `i` of a number. -/
def bitOf (x i : Nat) : Bool := x / 2 ^ i % 2 == 1

/-- The number of a Boolean: 1 or 0. -/
def b2n (b : Bool) : Nat := if b then 1 else 0

/-- A signed value of `w` bits from its two's complement code. -/
def sext (w x : Nat) : Int := if x % 2 ^ w < 2 ^ (w - 1) then (x % 2 ^ w : Nat) else ((x % 2 ^ w : Nat) : Int) - (2 ^ w : Nat)

/-- The two's complement code of `w` bits of an integer. -/
def toCode (w : Nat) (x : Int) : Nat := (x % (2 ^ w : Nat)).toNat

/-- An integer held between two bounds. -/
def clampI (lo hi x : Int) : Int := if x < lo then lo else if hi < x then hi else x

/-- Division rounded to nearest, ties away from zero. -/
def divAway (a : Int) (b : Nat) : Int :=
  if b = 0 then 0
  else if 0 ≤ a then ((2 * a.toNat + b) / (2 * b) : Nat) else -(((2 * (-a).toNat + b) / (2 * b) : Nat) : Int)

/-- Division of a natural number rounded to nearest, ties to even. -/
def divEvenN (a b : Nat) : Nat :=
  if b = 0 then 0
  else
    let q := a / b
    let r := a % b
    if 2 * r < b then q else if b < 2 * r then q + 1 else if q % 2 = 0 then q else q + 1

/-- Division of an integer rounded to nearest, ties to even (R44, R46). -/
def divEven (a : Int) (b : Nat) : Int :=
  if 0 ≤ a then (divEvenN a.toNat b : Nat) else -((divEvenN (-a).toNat b : Nat) : Int)

/-- Division rounded up. -/
def ceilDiv (a b : Nat) : Nat := if b = 0 then 0 else (a + b - 1) / b

/-- The sum of a list of integers. -/
def sumI (l : List Int) : Int := l.foldl (· + ·) 0

/-- The sum of a list of numbers. -/
def sumN (l : List Nat) : Nat := l.foldl (· + ·) 0

/-- The greatest of a list of numbers, 0 where it is empty. -/
def maxN (l : List Nat) : Nat := l.foldl max 0

/-- Bytes little-endian (R6): the first byte is the least significant. -/
def leBytes : Nat → Nat → List Byte
  | 0, _ => []
  | n + 1, x => BitVec.ofNat 8 x :: leBytes n (x / 256)

/-- The number that bytes spell little-endian (R6). -/
def ofLeBytes : List Byte → Nat
  | [] => 0
  | b :: t => b.toNat + 256 * ofLeBytes t

/-- An element inserted behind those whose key is not greater. -/
def insertBy {α : Type} (key : α → Nat) (x : α) : List α → List α
  | [] => [x]
  | y :: t => if key x < key y then x :: y :: t else y :: insertBy key x t

/-- A list in ascending order of a key, equal keys in their given order. -/
def sortBy {α : Type} (key : α → Nat) (l : List α) : List α := l.foldl (fun acc x => insertBy key x acc) []

end Sys2Proof.Machine
end

