-- ==== Sys2Proof/Machine/Types/Control.lean ====
section
/-! DEFINITION. Core sequencers, engine queues, barriers, CST queue entries and mailboxes
(spec/01_architecture.md R16–R18, spec/14_control_and_sync.md). -/

namespace Sys2Proof.Machine

/-- The states of CPX_SEQ_STATE (R371). -/
inductive SeqState where
  | idle | running | stalled | fault
deriving DecidableEq, Repr

/-- A barrier (R360): COUNT, the masks ARRIVED and EARLY, ROUND, FAULTED, HUNG, and the instant since which an entry has
waited or an engine has been held with no round completing (R363). -/
structure Barrier where
  count : Nat
  arrived : Nat
  early : Nat
  round : Nat
  faulted : Bool
  hung : Bool
  /-- engines held by it (R361), by engine number -/
  held : List Nat
  /-- the instant since which an entry waits or an engine is held with no round completing, moved on by the time the core
  is paused (R363) -/
  waitFrom : Option Nat
deriving DecidableEq, Repr

def Barrier.init : Barrier where
  count := 0
  arrived := 0
  early := 0
  round := 0
  faulted := false
  hung := false
  held := []
  waitFrom := none

/-- An engine entry of 32 bytes (R359): its header, whether the header's reserved bits were zero, and the operands of bytes
8–31, whose meaning is the engine's. -/
structure EngineEntry where
  engine : Nat
  op : Nat
  waitEn : Bool
  waitBar : Nat
  waitRound : Nat
  arriveEn : Bool
  arriveBar : Nat
  part : Nat
  rsvZero : Bool
  operands : List Byte
deriving DecidableEq, Repr

/-- A wait on a queue entry that a consumer of a core has reached (R16, R17): the entry's address and valid slot, whether a fold waits
(R148), whether the sequencer itself waits, and the instant from which it stalls, none while the valid slot has not come. -/
structure Stall where
  entry : Nat
  slot : Nat
  fold : Bool
  own : Bool
  since : Option Nat
deriving DecidableEq, Repr

/-- One core's sequencer and engine-queue front end. -/
structure CoreCtl where
  seq : SeqState
  fn : Nat
  job : Nat
  launch : Nat
  /-- number of the slot of the last launch; none before the first -/
  launchSlot : Option Nat
  /-- END has been reached (R357) -/
  ended : Bool
  /-- entries of the program taken so far -/
  index : Nat
  /-- the queue entries its consumers wait on, oldest wait first (R17) -/
  stalls : List Stall
  /-- launches whose programs wait in their CST entries while it runs another's, in order (R357) -/
  next : List Nat
  /-- the entry whose push waits for room in its engine's queue (R357) -/
  blocked : Option EngineEntry
  /-- engine e → entries queued, oldest first, and entries in flight, each with the number of its vector among those of its
  cluster where it issues one (R359) -/
  queued : SMap (List EngineEntry)
  flying : SMap (List (EngineEntry × Nat))
  barriers : SMap Barrier
deriving DecidableEq, Repr

def CoreCtl.init : CoreCtl where
  seq := .idle
  fn := 0
  job := 0
  launch := 0
  launchSlot := none
  ended := false
  index := 0
  stalls := []
  next := []
  blocked := none
  queued := []
  flying := []
  barriers := []

/-- A queue entry in CST (R16): valid slot, written bit, whether its slot has come, whether it was consumed, its owner and
its content. -/
structure QEntry where
  validSlot : Nat
  written : Bool
  visible : Bool
  consumed : Bool
  fn : Nat
  job : Nat
  bytes : List Byte
  /-- clusters that have taken it as the residual of their matrix (R140), at 8 · core + cluster -/
  taken : List Nat
  /-- of the elements of its export records in order, which have a partial of a driven crossbar (R123) -/
  driven : List Bool
deriving DecidableEq, Repr

def QEntry.init : QEntry where
  validSlot := 0
  written := false
  visible := false
  consumed := false
  fn := 0
  job := 0
  bytes := []
  taken := []
  driven := []

/-- A mailbox channel: the sender's block and the pending message (R365). -/
structure Mbx where
  data : List Word
  busy : Bool
  emptied : Bool
  aborted : Bool
  overrun : Bool
  seq : Nat
  /-- the message in the receive block: its words, sender and SEQ -/
  msg : Option (List Word × Nat × Nat)
deriving DecidableEq, Repr

def Mbx.init : Mbx where
  data := List.replicate 16 0#32
  busy := false
  emptied := false
  aborted := false
  overrun := false
  seq := 0
  msg := none

/-- The sequencers' program stores (R355, R356): all hold the running image's programs; the cores whose store is still to be read
back, once their step in flight has ended; and the cores whose store has failed its check twice. -/
structure StoreSt where
  loaded : Bool
  toCheck : List Nat
  failed : List Nat
deriving DecidableEq, Repr

def StoreSt.init : StoreSt where
  loaded := false
  toCheck := []
  failed := []

/-- CPX, the sequencers, the queue entries in CST and the mailboxes. -/
structure CtlSt where
  /-- core number 0–519 → its sequencer and engines -/
  cores : SMap CoreCtl
  /-- CST address of an entry → the entry -/
  entries : SMap QEntry
  /-- CST blocks of 64 KiB held by a function's work (R376): function → bytes -/
  cstUse : SMap Nat
  /-- channel 64 · sender + receiver → the channel; identities as in R366: 0 the physical function, 1–31 a virtual function,
  0x20 the management controller, 0x21 the main firmware -/
  mbx : SMap Mbx
  /-- a firmware restart runs (R355), and the causes of module faults that wait for its end (R423) -/
  restarting : Bool
  faultWait : List Nat
  /-- CPX_FW_STATUS.STAGE has reached 3 since power-on or PERST_N (R454) -/
  ready : Bool
  /-- what the boot ROM finds, while it runs on CC0 and CC1 to CC3 are held (R356 steps 1 and 2) -/
  boot : Option StartOps
  /-- the program stores of the 520 sequencers (R355, R356 step 4) -/
  stores : StoreSt
deriving DecidableEq, Repr

def CtlSt.init : CtlSt where
  cores := []
  entries := []
  cstUse := []
  mbx := []
  restarting := false
  faultWait := []
  ready := false
  boot := none
  stores := StoreSt.init

end Sys2Proof.Machine
end

