-- ==== Sys2Proof/Machine/Types/Fabric.lean ====
section
/-! DEFINITION. The data path of the array cores: loaded vectors and accumulator banks, converter tracking, correction
state, the welt's tile slots and pending shadow checks, and the buffers of the vector engines
(spec/03 to spec/07). -/

namespace Sys2Proof.Machine

/-- Bank states (R143), in code order. -/
inductive BankState where
  | free | loaded | flowing | complete | draining
deriving DecidableEq, Repr

/-- What corrects the conversions of a slice (R110, R113): its tracking gain and offsets, and whether it is at a limit. -/
structure SliceSnap where
  gain : Int
  ofs : List Int
  limit : Bool
deriving DecidableEq, Repr

/-- The correction of a crossbar as a vector took it at its load (R91): drift and temperature in force, and the 26 slices. -/
structure CorrSnap where
  drift : Nat
  temp : Int
  slices : List SliceSnap
deriving DecidableEq, Repr

/-- The snapshot of a slice, an empty one past the list's end. -/
def CorrSnap.slice (c : CorrSnap) (k : Nat) : SliceSnap :=
  match c.slices.drop k with
  | v :: _ => v
  | [] => ⟨0, [], false⟩

/-- One crossbar of a loaded vector: the physical crossbar and the columns of its map (R69, R71), whether it is stood in (R126),
its window counts and LSBs per pass (R89, R90; LSB 0 for a skipped window), its digit sums, its correction, and the slice that CS
takes the place of when the vector drives (R94, R97). -/
structure XbRun where
  row : Nat
  col : Nat
  phys : Nat
  colMap : List (Nat × Nat)
  standIn : Bool
  wins : List Nat
  lsbs : List (List Nat)
  digitSums : List Int
  snap : CorrSnap
  spare : Option Nat
deriving DecidableEq, Repr

/-- A vector on a cluster and the bank that receives it (R91, R137–R144). -/
structure Vector where
  state : BankState
  /-- the number of its activation, counted up at each activation and each transpose vector (R124) -/
  num : Nat
  transpose : Bool
  ref : Bool
  gen : Nat
  serial : Option Nat
  /-- the job that carries it: function, job, launch -/
  owner : Option (Nat × Nat × Nat)
  blocks : List (Option A8Block)
  digital : List (Nat × BF16)
  n : Nat
  kRef : Option Int
  xbs : List XbRun
  shadow : List (Nat × Nat × Nat)
  /-- per accumulator: the preload P (R141), or the exact value of R142 -/
  pre : List (Nat × Int)
  preExact : List (Nat × F32)
  driveAt : Nat
  flowAt : Nat
  arrived : Bool
  termsDone : Bool
  acc : List Int
  mags : List Nat
  deltas : List F32
  /-- column groups that wait for a saturation rescue: row, column, group (R125) -/
  flags : List (Nat × Nat × Nat)
  /-- those that a rescue has replaced (R123, R125) -/
  rescued : List (Nat × Nat × Nat)
  /-- accumulators whose result depends on a value at a limit (R122) -/
  limited : List Nat
  /-- matrices whose preload raised NUMERIC (R141) -/
  numeric : List Nat
  /-- its number among the vectors of its cluster (R359) -/
  number : Nat
  /-- of a bank that has been drained: the instant at which it returns to FREE (R144) -/
  drainTo : Nat
deriving DecidableEq, Repr

/-- A free bank. -/
def Vector.init : Vector where
  state := .free
  num := 0
  transpose := false
  ref := false
  gen := 0
  serial := none
  owner := none
  blocks := []
  digital := []
  n := 0
  kRef := none
  xbs := []
  shadow := []
  pre := []
  preExact := []
  driveAt := 0
  flowAt := 0
  arrived := false
  termsDone := false
  acc := []
  mags := []
  deltas := []
  flags := []
  rescued := []
  limited := []
  numeric := []
  number := 0
  drainTo := 0

/-- A shadow check that is due (R129): its place, the launch that waits for it (R130), and the difference and limit in
2^-150 units of the partial. -/
structure ShadowDue where
  core : Nat
  cluster : Nat
  row : Nat
  col : Nat
  channel : Nat
  transpose : Bool
  launch : Option Nat
  diff : Int
  limit : Int
deriving DecidableEq, Repr

/-- One element of a partial (R147), with the exact alternative that a cancel rescue takes where its matrix allows one at its drain
(R124). -/
structure Part where
  val : F32
  mag : F32
  oob : Bool
  empty : Bool
  analogue : Bool
  exact : Option F32
  /-- NaN came in with its inputs (R41, R47) -/
  nanIn : Bool
deriving DecidableEq, Repr

/-- An export record or a drained partial of one matrix (R147). -/
structure PartRec where
  kind : Nat
  preloaded : Bool
  firstIn : Nat
  firstOut : Nat
  gen : Nat
  matrix : Nat
  /-- the number of the vector it comes from, 0 where it was read from a record (R124) -/
  vector : Nat
  elems : List Part
deriving DecidableEq, Repr

/-- A vector whose load waits for a bank, a residual entry or its turn (R24, R138, R140): a forward one, or a transpose one with
the charges its passes will hold. -/
inductive WaitLoad where
  | forward (o : VectorOps)
  | transpose (o : TransposeOps) (charges : List XbCharges)
deriving DecidableEq, Repr

/-- A load that waits: the launch it belongs to (0 for none), the one whose function's burst limit holds for it (R258), the request whose
class it has (R259), and its number among the vectors of its cluster. -/
structure Waiting where
  load : WaitLoad
  who : Nat
  fn : Nat
  serial : Option Nat
  number : Nat
deriving DecidableEq, Repr

/-- A log pair of a core (R83, R136): a record of LOG0's fields and LOG1. -/
structure LogPair where
  fields : List Nat
  delta : Nat
deriving DecidableEq, Repr

/-- The hold of a log pair between the read of LOG0 and that of LOG1: the newest record that waits. -/
structure LogHold where
  held : Bool
  next : Option LogPair
deriving DecidableEq, Repr

def LogHold.init : LogHold where
  held := false
  next := none

/-- The attention state of one query row in one segment (R172): maximum, sum and weighted values; `held` is false where the
segment has no visible key for the row. -/
structure RowState where
  row : Nat
  segment : Nat
  held : Bool
  m : F32
  l : F32
  o : List F32
deriving DecidableEq, Repr

/-- A buffer of a core's VEC. -/
inductive VecBuf where
  | empty
  /-- drained partials (R144) -/
  | parts (serial : Option Nat) (recs : List PartRec)
  /-- FP32 values with their first output index, outside-bound marks and rescues that are due (R124, R148) -/
  | vec (serial : Option Nat) (firstOut : Nat) (vals : List F32) (oob : List Bool) (rescue : List (Nat × F32))
  /-- BF16 hand-offs (R46 point 8) -/
  | bf16 (serial : Option Nat) (vals : List BF16)
  /-- A8 blocks (R31) and the digital channels handed to the welt (R117), with the activation's number (R124) -/
  | a8 (serial : Option Nat) (num : Nat) (blocks : List A8Block) (digital : List (Nat × BF16))
  /-- keys or values as they are written to pages: FP8 bytes, or K4 blocks of 16 bytes with a scale byte (R35, R36) -/
  | kv (serial : Option Nat) (l : List Byte)
  /-- a top-k list with its values, local maximum and sum (R149), and whether a value of its list is marked outside the bound (R278) -/
  | topk (serial : Option Nat) (firstOut : Nat) (items : List (Nat × F32)) (m : Option F32) (s : F32) (oob : Bool)
  /-- a sampled token (R154) -/
  | token (serial : Option Nat) (t : Nat)
  /-- Q records (R169) -/
  | qrecs (serial : Option Nat) (recs : List (List Byte))
  /-- attention row states by row and segment (R172, R174): first query position, query heads, rows, segments, the CST address of
  the first row's statistic where statistics are written (R175), and the states -/
  | rows (serial : Option Nat) (qpos : Nat) (heads : List Nat) (nrows nseg : Nat) (stats : Option Nat) (states : List RowState)
  /-- head outputs by row (R173) -/
  | heads (serial : Option Nat) (outs : List (List BF16))
  /-- gradients dQ, dK, dV as G8 records (R180) -/
  | grads (serial : Option Nat) (recs : List (List Byte))
  /-- received or moved bytes (R358 DMA) -/
  | bytes (l : List Byte)
deriving DecidableEq, Repr

/-- Tracking of one converter slice (R95, R103): offsets in 1/16 LSB at each LSB index, gain in 2^-12, visits. -/
structure SliceTrk where
  ofs : List Int
  gain : Int
  visits : Nat
  limit : Bool
deriving DecidableEq, Repr

def SliceTrk.init : SliceTrk where
  ofs := [0, 0, 0, 0, 0]
  gain := 0
  visits := 0
  limit := false

/-- Tracking of one physical crossbar (R94–R98). -/
structure XbTrk where
  slices : SMap SliceTrk
  /-- the next visit of the round, 0–24: C0–C15, CT, RS0–RS7 -/
  next : Nat
  /-- the visit in progress: its slice, and whether CS stands in for it -/
  visit : Option (Nat × Bool)
  /-- updates that wait for a slot boundary -/
  waiting : List (Nat × SliceTrk)
  /-- the slice CS has replaced for good (R97) -/
  replaced : Option Nat
  /-- a full round since CCV_TRK_ROUND last rose -/
  round : Bool
  /-- external time of the start of the last visit (R94) -/
  last : Nat
deriving DecidableEq, Repr

def XbTrk.init : XbTrk where
  slices := []
  next := 0
  visit := none
  waiting := []
  replaced := none
  round := false
  last := 0

/-- Drift state of a physical crossbar (R114, R115): ρ_x in 2^-16 and the age it was measured at, the end of
the last lasting, and r_x in force and waiting for a boundary. -/
structure XbCorr where
  rho : Nat
  probeAge : Nat
  lastedAt : Int
  /-- it passed verify without lasting and awaits its first probe (R231) -/
  verified : Bool
  drift : Nat
  driftNew : Option Nat
deriving DecidableEq, Repr

def XbCorr.init : XbCorr where
  rho := 0
  probeAge := 60000000000
  lastedAt := 0
  verified := false
  drift := 0
  driftNew := none

/-- A tile slot of the welt (R127). -/
structure TileSlot where
  valid : Bool
  pos : Nat
  gen : Nat
deriving DecidableEq, Repr

def TileSlot.init : TileSlot where
  valid := false
  pos := 0
  gen := 0

/-- A core's shadow-sampling generator (R128): the job number of its seed, the step programs loaded since, and SHADOW_SHIFT as
the last one took it. -/
structure ShadowGen where
  job : Nat
  steps : Nat
  shift : Nat
deriving DecidableEq, Repr

def ShadowGen.init : ShadowGen where
  job := 0
  steps := 0
  shift := 12

/-- A probe of a cluster's crossbar (R77): the physical crossbar, its passes not yet granted, the instants at which the granted ones begin,
and how many of the last of these no vector follows. -/
structure ProbeRun where
  phys : Nat
  left : Nat
  starts : List Nat
  tail : Nat
deriving DecidableEq, Repr

def ProbeRun.init : ProbeRun := ⟨0, 0, [], 0⟩

/-- A token sampled in a request's present step (R154, R288): the request, which of its samples it is, the token, and whether its logits
include an element marked outside the bound (R278). -/
structure Sample where
  serial : Nat
  j : Nat
  token : Nat
  oob : Bool
deriving DecidableEq, Repr

/-- What the output head gives for one target of a tune (R296): the request, the target's index in the example, m_t and Z_t of R150 at
T = 1 over the whole vocabulary, and the target token's logit z_t. -/
structure TuneTarget where
  serial : Nat
  index : Nat
  m : F32
  z : F32
  logit : F32
deriving DecidableEq, Repr

/-- The data path. -/
structure FabSt where
  /-- bank b of cluster c of core n at key 16 n + 2 c + b -/
  banks : SMap Vector
  /-- the bank of the next forward vector of cluster c of core n at key 8 n + c (R138) -/
  nextBank : SMap Nat
  /-- external time at which a cluster's occupancy ends (R62) -/
  busyUntil : SMap Nat
  /-- vectors whose load waits for a bank or a residual entry, oldest first (R138, R140) -/
  waiting : List Waiting
  /-- vectors that have come to cluster c of core n, at key 8 n + c (R359) -/
  issued : SMap Nat
  /-- tokens sampled and targets evaluated in the steps in flight (R286, R288, R296) -/
  samples : List Sample
  targets : List TuneTarget
  /-- activations quantised or read and transpose vectors loaded so far -/
  vectors : Nat
  /-- elements of a matrix and vector taken for cancel rescue on a core, at key 65,536 · (1,024 · vector + core) + matrix (R124) -/
  rescues : SMap Nat
  /-- the shadow-sampling generator of each core (R128) -/
  shadowGen : SMap ShadowGen
  /-- the energy of the passes of a launch's vectors, by launch, in aJ (R81) -/
  energy : SMap Nat
  /-- the launch, + 1, whose step last read the tile of a position from tier B (R127, R132) -/
  streamed : SMap Nat
  /-- the probe of cluster c of core n at key 8 n + c (R77) -/
  probes : SMap ProbeRun
  /-- the tally and shadow log pairs between their two reads, at key 2 · core and 2 · core + 1 (R83, R136) -/
  logHolds : SMap LogHold
  checks : List ShadowDue
  /-- buffer b of core n at key 65,536 n + b -/
  bufs : SMap VecBuf
  tiles : SMap TileSlot
  track : SMap XbTrk
  corr : SMap XbCorr
  /-- serial numbers of requests with a result marked outside the bound, with a NUMERIC event, and with a clamped key or
  value, in their present step -/
  oobMarks : List Nat
  numericMarks : List Nat
  clampMarks : List Nat
  /-- keys and values clamped, by function (R35, R36): the function's clamp counter -/
  clamps : SMap Nat
  /-- the last drift recomputation (R115) -/
  driftAt : Nat
  /-- cycles that attention units have waited beyond the last 1,024 counted (R183) -/
  feedRest : Nat
  /-- external time up to which an attention unit waits for key or value bytes: unit u of core n at key 8 n + u (R179) -/
  feeds : SMap Nat
deriving DecidableEq, Repr

def FabSt.init : FabSt where
  banks := []
  nextBank := []
  busyUntil := []
  waiting := []
  issued := []
  samples := []
  targets := []
  vectors := 0
  rescues := []
  shadowGen := []
  energy := []
  streamed := []
  probes := []
  logHolds := []
  checks := []
  bufs := []
  tiles := []
  track := []
  corr := []
  oobMarks := []
  numericMarks := []
  clampMarks := []
  clamps := []
  driftAt := 0
  feedRest := 0
  feeds := []

end Sys2Proof.Machine
end

