-- ==== Sys2Proof/Machine/Types/Host.lean ====
section
/-! DEFINITION. The state of HIF (spec/12_host_interface.md) that is not a register field: the queues' indexes, the
functions, the MSI-X tables and the posted writes the host has received, in order. -/

namespace Sys2Proof.Machine

/-- A posted write of HIF, as R314 orders them. DESIGN CHOICE (assumption log 5). -/
inductive HostWrite where
  /-- an entry of a completion ring, at an index (R276) -/
  | completion (queue index : Nat) (addr : Nat) (entry : Entry256)
  /-- an entry of a token ring, at an index (R278) -/
  | token (queue index : Nat) (addr : Nat) (entry : Entry128)
  /-- a status block: submission head, completion tail, token tail (R314) -/
  | status (queue : Nat) (addr : Nat) (sqHead cqTail tqTail : Nat)
  /-- an MSI-X message of a function's vector (R317) -/
  | msix (fn vec : Nat) (addr data : Nat)
  /-- a write of a gradient buffer (R298) -/
  | buffer (fn : Nat) (addr : Nat) (bytes : List Byte)
deriving DecidableEq, Repr

/-- What waits to be written to a queue's rings (R315). -/
inductive RingItem where
  | token (owner : Nat) (entry : Entry128)
  | completion (owner : Nat) (entry : Entry256)
deriving DecidableEq, Repr

/-- One queue: its indexes (R311), what waits for room, how many fetched entries still owe a completion, and what was
written since the last signal of each ring (R318). -/
structure QueueSt where
  sqHead : Nat
  sqTail : Nat
  cqHead : Nat
  cqTail : Nat
  tqHead : Nat
  tqTail : Nat
  waiting : List RingItem
  owed : Nat
  cqNew : Nat
  cqSince : Nat
  tqNew : Nat
  tqSince : Nat
  /-- tags of fetched entries that have not completed, oldest first, for FENCE (R270) -/
  open_ : List Nat
  /-- FENCE entries waiting: (serial number of the fence, its tag) -/
  fences : List (Nat × Nat)
deriving DecidableEq, Repr

/-- A queue as it is enabled: every index 0 (R311). -/
def QueueSt.init : QueueSt where
  sqHead := 0
  sqTail := 0
  cqHead := 0
  cqTail := 0
  tqHead := 0
  tqTail := 0
  waiting := []
  owed := 0
  cqNew := 0
  cqSince := 0
  tqNew := 0
  tqSince := 0
  open_ := []
  fences := []

/-- An MSI-X table entry and its pending bit (R317). -/
structure MsixSt where
  masked : Bool
  pending : Bool
  addr : Nat
  data : Nat
deriving DecidableEq, Repr

/-- An MSI-X entry at reset: masked, address and data zero (R322 step 7). -/
def MsixSt.init : MsixSt where
  masked := true
  pending := false
  addr := 0
  data := 0

/-- One function: its power state, its MSI-X control bits and a running reset sequence (R317, R321, R326). -/
structure FnSt where
  /-- 1 = D3hot -/
  d3 : Bool
  msixEnable : Bool
  fnMask : Bool
  /-- a reset sequence: its start and whether it is a serving reset -/
  reset : Option (Nat × Bool)
  /-- steps 5 and 6 of the sequence have been done (R322) -/
  emptied : Bool
  /-- an FLR of the physical function: the sequence ends with R324 -/
  pfFlr : Bool
  /-- fabric credit carried over, in µJ (R250) -/
  credit : Nat
deriving DecidableEq, Repr

def FnSt.init : FnSt where
  d3 := false
  msixEnable := false
  fnMask := false
  reset := none
  emptied := false
  pfFlr := false
  credit := 0

/-- The host side of the module. -/
structure HifSt where
  queues : SMap QueueSt
  fns : SMap FnSt
  /-- vector v of function f at key 64 f + v -/
  msix : SMap MsixSt
  vfEnable : Bool
  numVfs : Nat
  ariHier : Bool
  /-- an uncorrectable buffer error stopped every host write and fetch (R325) -/
  stopped : Bool
  /-- the posted writes, oldest first -/
  out : List HostWrite
  /-- the result of the last register read and the latched upper halves: (source, address) → value -/
  readData : Nat
  latches : SMap Nat
  /-- serial number given to the next fetched entry -/
  serial : Nat
  /-- the queue that HIF visits and how many entries it has fetched at this visit (R313) -/
  visit : Nat
  visited : Nat
  /-- errors reported through AER, oldest first (R325): function and kind -/
  aer : List (Nat × String)
deriving DecidableEq, Repr

def HifSt.init : HifSt where
  queues := []
  fns := []
  msix := []
  vfEnable := false
  numVfs := 0
  ariHier := false
  stopped := false
  out := []
  readData := 0
  latches := []
  serial := 0
  visit := 0
  visited := 0
  aer := []

end Sys2Proof.Machine
end

