-- ==== Sys2Proof/Machine/Types/Serving.lean ====
section
/-! DEFINITION. Jobs, sessions, requests and page columns (spec/08_kv_pages.md, spec/11_serving.md). -/

namespace Sys2Proof.Machine

/-- The status codes of completion entries (R301). -/
inductive Status where
  | ok | cancelled | alreadyDone | lengthExceeds | badOpcode | badHandle | quota | genRange | deadlineRange | badImage
  | deadlineMissed | numeric | evictedRecomputed | jobFault | functionReset | barrierOverrun | drainIncomplete
  | aborted | internal
deriving DecidableEq, Repr

/-- The opcodes of R270. -/
inductive Op where
  | nop | sessionOpen | prefill | generate | append | pause | resume | clone | cancel | close | bindWeights
  | swapWeights | loadObject | adapterLoad | adapterTune | fence | unknown (code : Nat)
deriving DecidableEq, Repr

/-- What a session request carries. -/
inductive ReqOps where
  | prompt (isPrefill : Bool) (o : PromptOps)
  | generate (o : GenerateOps)
  | tune (o : TuneOps)
  | pause (ttl : Nat)
  | resume
  | clone (newHandle prio : Nat) (prioEn : Bool)
deriving DecidableEq, Repr

/-- Where a session request stands (R271, R284). -/
inductive Phase where
  | queued | accepted | admitted
deriving DecidableEq, Repr

/-- A token held for release (R254): its number in the request, its record, and its release time. -/
structure Held where
  release : Nat
  entry : Entry128
  queue : Nat
  /-- serial number of its request -/
  owner : Nat
  fn : Nat
  /-- handle of its session, and the token's number in its request -/
  handle : Nat
  index : Nat
deriving DecidableEq, Repr

/-- A session request: one submission entry's work (R266), queued in its session. -/
structure Request where
  serial : Nat
  queue : Nat
  tag : Nat
  flags : Nat
  adapter : Nat
  ops : ReqOps
  phase : Phase
  /-- external time of acceptance, and of becoming admissible (R249) -/
  acceptAt : Nat
  readyAt : Nat
  /-- generation bound at admission (R217, R284) -/
  gen : Nat
  /-- committed length, pending token and log length at admission (R286, R291) -/
  c0 : Nat
  pend0 : Option Nat
  /-- the token buffer's IDs, read once at admission (R282), or the example's words (R275) -/
  buffer : List Nat
  /-- positions of the request's own work already committed -/
  done : Nat
  /-- tokens produced so far, and tokens released or held for release (R254, R286) -/
  produced : Nat
  /-- the anchor T0 of the due times once known (R254) -/
  t0 : Option Nat
  /-- tokens whose records have been written to the ring (R277 DETAIL1) -/
  released : Nat
  /-- the last token kept (becomes the pending token) and the tokens kept, in order -/
  kept : List Nat
  oob : Bool
  late : Bool
  clamped : Bool
  /-- the session needed a recompute for this request (R196) -/
  recomputed : Bool
  /-- position up to which the running recompute has got -/
  recompDone : Nat
  /-- launch that carries the request's step or piece now, 0 for none -/
  launch : Nat
  /-- drafts of the planned or running step (R287) -/
  drafts : List Nat
  /-- a cancel accepted while a step was in flight (R289) -/
  cancelAt : Option Nat
  /-- a job fault found while a step was in flight (R267) -/
  faulted : Bool
  /-- end stamp of the last step -/
  endAt : Nat
  /-- the first boundary strictly later than the last step's end has passed (R19) -/
  mayLaunch : Nat
  /-- the request has ended and waits for its held tokens (R256): status, TIME and END code (R276) -/
  ended : Option (Status × Nat × Nat)
  /-- the row, + 1, in which the pages or blocks of its next step did not fit (R194, R249, R376) -/
  passed : Nat
  /-- energy of its last step for each query token, in µJ; 0 before its first (R250) -/
  energy : Nat
  /-- loss and target count of a tune (R296) -/
  loss : F32
  targets : Nat
deriving DecidableEq, Repr

/-- A page column of a session (R187, R191). -/
structure Column where
  /-- column number c -/
  index : Nat
  /-- false = tier A, true = tier B (R189) -/
  tierB : Bool
  /-- layer and head pairs L × H, and the offset of its column block in the table region (R188) -/
  lh : Nat
  block : Nat
  /-- element pages in entry order l × H + h, then the scale pages of K4 -/
  pages : List Nat
  spec : Bool
  gen : Nat
  /-- external time before which a failed move is not tried again (R197, R199); 0 for none -/
  retryAt : Nat
  /-- a clone copy reads the column (R202) -/
  copied : Bool
  /-- a move to the other tier in progress: the pages allocated there, and the copy capacity at its start (R197, R199, R204) -/
  move : Option (List Nat × Nat)
  /-- the copy capacity at which a demotion made for a shortage ends (R195) -/
  busyTo : Nat
deriving DecidableEq, Repr

/-- The states of R190. -/
inductive SessState where
  | active | pausing | paused | resuming
deriving DecidableEq, Repr

/-- A session: the record of R190, its columns, its token log, its queue of requests and its pending token (R280). -/
structure Session where
  num : Nat
  handle : Nat
  fn : Nat
  job : Nat
  prio : Nat
  state : SessState
  kvFmt : Nat
  recomp : Bool
  committed : Nat
  evicted : Nat
  written : Nat
  gen : Nat
  columns : List Column
  /-- columns of an earlier generation that a clone copy still holds; each is freed when that copy ends (R196) -/
  old : List Column
  /-- offset of the column directory in the table region, and its steps of 256 pointers (R188) -/
  dir : Nat
  dirSteps : Nat
  pausedAt : Nat
  expiry : Nat
  lastStep : Nat
  /-- tier-B token pages in order (R186); the token log is what their first COMMITTED entries hold -/
  tokenPages : List Nat
  pending : Option Nat
  /-- the session's queue; its head is the request in progress (R271) -/
  queue : List Request
  /-- the session closes and its handle is released (R201): by a CLOSE, with its serial, queue and tag (R290), or by KVM -/
  closing : Option (Option (Nat × Nat × Nat))
  /-- a clone being copied: source session number, serial, queue and tag of the CLONE (R202); its handle is reserved -/
  cloneOf : Option (Nat × Nat × Nat × Nat)
  /-- the copy capacity at the start of that copy (R204) -/
  copyFrom : Nat
  /-- launches that pin the session's pages now (R195) -/
  pins : List Nat
  /-- its time to live has expired and its columns were evicted (R198) -/
  expired : Bool
  /-- full columns to recompute: a generation change (R178) set the whole range -/
  ref : Bool
deriving DecidableEq, Repr

/-- A job of a function: its flags and whether its next launch is a job start (R266, R267). -/
structure Job where
  fn : Nat
  num : Nat
  policy : Nat
  ref : Bool
  kvFmt : Nat
  /-- the next step it launches is a job start -/
  fresh : Bool
  /-- cores used since the last job start (R462) -/
  cores : List Nat
  /-- a fault was reported since the last job start (R412) -/
  faulted : Bool
  /-- the launch in which the fault was found, whose end completes the job's other requests (R267) -/
  faultStep : Option Nat
  /-- a barrier of the job was set by hand: requests that complete from then on carry OOB (R364) -/
  handSet : Bool
  /-- the seed number of the shadow-sampling generators, counted up at each job start (R128) -/
  starts : Nat
deriving DecidableEq, Repr

/-- What one entry of a batch or chunk does in a launch (R283, R285). -/
inductive Piece where
  /-- a decode step of `qcnt` query tokens -/
  | decode (qcnt : Nat)
  /-- a prefill piece of the request's own positions -/
  | prefill (qcnt : Nat) (last : Bool)
  /-- a recompute piece (R196) -/
  | recompute (first qcnt : Nat)
  /-- a tuning piece (R296) -/
  | tune (qcnt : Nat) (last : Bool)
deriving DecidableEq, Repr

/-- An entry of a launch: its session, its request, its piece and its length-table entry (R165). -/
structure LaunchEntry where
  session : Nat
  serial : Nat
  piece : Piece
  lens : LenPlan
deriving DecidableEq, Repr

/-- A step or chunk, planned for a slot or in flight (R248, R285). -/
structure Launch where
  id : Nat
  /-- absolute index k of the boundary it is planned for -/
  slot : Nat
  fn : Nat
  job : Nat
  gen : Nat
  ref : Bool
  chunk : Bool
  cores : List Nat
  entries : List LaunchEntry
  inFlight : Bool
  /-- a fault of the job was found while it ran: its outputs are dropped (R412) -/
  dropped : Bool
  /-- external time of launch -/
  at_ : Nat
  /-- the plan's number for the batch, and the CST blocks charged to the function until it completes (R376) -/
  group : Nat
  cst : Nat
  /-- its estimated fabric energy in µJ (R250), and the copy capacity that its launch waits for (R195) -/
  energy : Nat
  copyTo : Nat
  /-- the queue entries that bring its cores their step programs (R357): core and CST address -/
  programs : List (Nat × Nat)
deriving DecidableEq, Repr

/-- The serving loop and the page manager. -/
structure ServeSt where
  jobs : List Job
  /-- open, closing and cloning sessions by session number (R188) -/
  sessions : List Session
  launches : List Launch
  held : List Held
  nextLaunch : Nat
  /-- pages handed out, by tier and page number: keys of allocated pages, tier A then tier B -/
  usedA : SMap Bool
  usedB : SMap Bool
  /-- paused cores of the throttling sets and forced test pauses: core → N, core → index of the next forced boundary, + 1 (R252) -/
  throttle : SMap Nat
  testPause : SMap Nat
  /-- cores whose test pause stands -/
  testing : List Nat
  /-- external time since which a core has had no step in flight and run no slice of its test, and that of the boundary at which its test
  pause began (R252) -/
  idleFrom : SMap Nat
  pauseFrom : SMap Nat
  /-- copy capacity (KVM_MIG_CTRL.RATE): the bytes that all copies together could have moved up to an instant, that instant, and
  the capacity that the copies ended so far have used (R204) -/
  copyCap : Nat
  copyAt : Nat
  copyUsed : Nat
deriving DecidableEq, Repr

def ServeSt.init : ServeSt where
  jobs := []
  sessions := []
  launches := []
  held := []
  nextLaunch := 1
  usedA := []
  usedB := []
  throttle := []
  testPause := []
  testing := []
  idleFrom := []
  pauseFrom := []
  copyCap := 0
  copyAt := 0
  copyUsed := 0

end Sys2Proof.Machine
end

