-- ==== Sys2Proof/Machine/Types/Links.lean ====
section
/-! DEFINITION. The state of the torus ports and the storage ports (spec/13_links.md) that is not a register field. -/

namespace Sys2Proof.Machine

/-- A flit (R334): KIND, VC, FIRST, LAST, SEQ, ACK and the 248 bytes of payload. -/
structure Flit where
  kind : Nat
  vc : Nat
  first : Bool
  last : Bool
  seq : Nat
  ack : Nat
  payload : List Byte
deriving DecidableEq, Repr

/-- A flit kept until it is acknowledged (R335): how often it was replayed in a row, and when it was last sent. -/
structure Kept where
  flit : Flit
  replays : Nat
  sentAt : Nat
deriving DecidableEq, Repr

/-- A DATA flit in a port's transmit queue (R257, R336): the message it belongs to, the source that asks for the port with the function and
the PRIO of its work, and the port and channel whose receive space it frees when it leaves. -/
structure Sending where
  flit : Flit
  msg : Nat
  who : Nat
  fn : Nat
  prio : Nat
  from_ : Option (Nat × Nat)
deriving DecidableEq, Repr

/-- What becomes of the message that comes in on a channel (R337, R338, R340): there is none; it is for this module, with its bytes so far; it
goes on through a port and channel as a message; or its flits are dropped. -/
inductive Incoming where
  | none
  | gather (bytes : List Byte)
  | forward (port vc msg : Nat)
  | discard
deriving DecidableEq, Repr

/-- One torus port. -/
structure TorusPort where
  /-- DATA flits that wait for the port, a credit or the window, oldest first -/
  queue : List Sending
  /-- CONTROL flits that wait for the window -/
  ctl : List Flit
  /-- the message under way on each channel: its flits follow one another (R336) -/
  busy0 : Option Nat
  busy1 : Option Nat
  unacked : List Kept
  txNext : Nat
  credit0 : Nat
  credit1 : Nat
  /-- SEQ expected next, and whether the port ignores flits until it comes -/
  rxNext : Nat
  rxIgnore : Bool
  /-- the messages being received on the two channels -/
  rx0 : Incoming
  rx1 : Incoming
deriving DecidableEq, Repr

/-- A port before training. -/
def TorusPort.init : TorusPort where
  queue := []
  ctl := []
  busy0 := none
  busy1 := none
  unacked := []
  txNext := 0
  credit0 := 0
  credit1 := 0
  rxNext := 0
  rxIgnore := false
  rx0 := .none
  rx1 := .none

/-- A message that has come whole and waits for its check (R341): the port and channel whose space it takes, its flits and its bytes. -/
structure Arrived where
  port : Nat
  vc : Nat
  flits : Nat
  bytes : List Byte
deriving DecidableEq, Repr

/-- A READ request sent to storage (R345–R347): port, queue pair, key, remote address and length, with the destination queue pair, the path MTU,
the sequence number of its first response packet, and the VLAN tag and DSCP of its frame. -/
structure ReadReq where
  port : Nat
  qp : Nat
  rkey : Nat
  addr : Nat
  len : Nat
  dqpn : Nat
  mtu : Nat
  psn : Nat
  vlan : Option Nat
  dscp : Nat
deriving DecidableEq, Repr

/-- What a module of the block reports of itself (R227, R261, R339): slot length, epoch, whether its wheel runs, its error estimate in ns,
whether the ports of its routes are UP, the measured latencies of its six ports, and the generation whose lastings it has finished for a
swap. -/
structure PeerReport where
  len : Nat
  epoch : Nat
  run : Bool
  err : Nat
  routesUp : Bool
  lat : List Nat
  lasted : Option Nat
deriving DecidableEq, Repr

/-- A session as the home module carries it to the other modules (R268): its function and handle, its job with policy, REFERENCE flag and
format, its class, its committed length and pending token, and its request where one is admitted. -/
structure Carried where
  fn : Nat
  handle : Nat
  job : Nat
  policy : Nat
  ref : Bool
  prio : Nat
  kvFmt : Nat
  committed : Nat
  pending : Option Nat
  head : Option Request
deriving DecidableEq, Repr

/-- A firmware record that a CONTROL message carries (R340): a session, the close of one (R322), the report of a module at a position, the
boundary of a Switch (R227), a job fault (R412). -/
inductive ControlRec where
  | session (x : Carried)
  | closed (fn handle : Nat)
  | report (pos : Nat) (r : PeerReport)
  | switchAt (gen k : Nat)
  | jobFault (fn job : Nat)
deriving DecidableEq, Repr

/-- The links. -/
structure LnkSt where
  ports : SMap TorusPort
  /-- flits sent, oldest first, with their port -/
  sent : List (Nat × Flit)
  /-- receive windows open for the partition (R341): launch, first offset, length -/
  windows : List (Nat × Nat × Nat)
  /-- messages received and not yet checked, oldest first (R341) -/
  arrived : List Arrived
  /-- CONTROL messages received for the firmware (R340), oldest first -/
  controls : List (List Byte)
  /-- what the other modules were told last: this module's report, the sessions and the job faults -/
  toldReport : Option PeerReport
  toldSessions : List Carried
  toldFaults : List (Nat × Nat)
  /-- the number of the next message in the transmit queues -/
  nextMsg : Nat
  /-- READ requests sent, oldest first, and those that wait for their port's link or for a pause of it to end (R344, R347) -/
  reads : List ReadReq
  readsHeld : List ReadReq
  /-- sequence numbers of a queue pair (R345): of the next READ's first response, and of the response expected next -/
  psnNext : SMap Nat
  psnWant : SMap Nat
  /-- retries in a row and the external time of the last progress, by queue pair 64 · port + number (R345) -/
  tries : SMap Nat
  progress : SMap Nat
  /-- external time of the last congestion notification of a queue pair, + 1 (R348) -/
  cnpAt : SMap Nat
  /-- external time until which received flow control pauses a storage port (R344) -/
  pausedTo : SMap Nat
  /-- Delay_Req messages sent (R349) -/
  delayReqs : Nat
  /-- the last report of each other module of the block, by its position -/
  peers : SMap (Option PeerReport)
  /-- die-to-die bridges that are down, by array die, and failed replays in a row of the flit in transit, by 2 · die + direction (R14) -/
  bridgeDown : SMap Bool
  bridgeReplays : SMap Nat
deriving DecidableEq, Repr

def LnkSt.init : LnkSt where
  ports := []
  sent := []
  windows := []
  arrived := []
  controls := []
  toldReport := none
  toldSessions := []
  toldFaults := []
  nextMsg := 0
  reads := []
  readsHeld := []
  psnNext := []
  psnWant := []
  tries := []
  progress := []
  cnpAt := []
  pausedTo := []
  delayReqs := 0
  peers := []
  bridgeDown := []
  bridgeReplays := []

end Sys2Proof.Machine
end

