-- ==== Sys2Proof/Machine/Types/Memory.lean ====
section
/-! DEFINITION. The three memories and their upkeep (spec/15_memory_and_central_store.md). -/

namespace Sys2Proof.Machine

/-- The three device address spaces (R373). -/
inductive Space where
  | cst | tierA | tierB
deriving DecidableEq, Repr

/-- CST, tier A and tier B.  A byte that nothing has written reads 0 (assumption log 6). -/
structure MemSt where
  cst : List Host.Cell
  tierA : List Host.Cell
  tierB : List Host.Cell
  /-- frames retired, in order of retirement (R383) -/
  retiredA : List Nat
  retiredB : List Nat
  /-- frames to retire once their column has moved (R383, R385) -/
  retireWait : List (Bool × Nat)
  /-- times of correctable errors by frame: tier A at 2·page, tier B at 2·page + 1 (R383) -/
  ceTimes : SMap (List Nat)
  /-- fixed-region frames whose test failed once, coded the same way -/
  failedOnce : List Nat
  /-- tier bytes a function moved in the present slot: 2·function for tier A, + 1 for tier B (R384) -/
  moved : SMap Nat
  /-- next line of the patrol scrub in each tier, and the start of the period + 1 -/
  scrubA : Nat
  scrubB : Nat
  scrubFrom : Nat
  /-- columns to evict once they are unpinned: session number and last column index (R382, R385) -/
  evictWait : List (Nat × Nat)
deriving DecidableEq, Repr

def MemSt.init : MemSt where
  cst := []
  tierA := []
  tierB := []
  retiredA := []
  retiredB := []
  retireWait := []
  ceTimes := []
  failedOnce := []
  moved := []
  scrubA := 0
  scrubB := 0
  scrubFrom := 0
  evictWait := []

end Sys2Proof.Machine
end

