-- ==== Sys2Proof/Machine/Types/Mgmt.lean ====
section
/-! DEFINITION. The management controller, the security block and the firmware flash
(spec/18_security_and_management.md). -/

namespace Sys2Proof.Machine

/-- The states of a firmware slot, in code order (R440). -/
inductive SlotState where
  | empty | candidate | trial | confirmed | failed
deriving DecidableEq, Repr

/-- The versions of ledger records that an image writes and knows (R444). -/
structure Formats where
  calibration : Nat
  health : Nat
  endurance : Nat
  own : Nat
deriving DecidableEq, Repr

/-- The formats of the image that the factory ships. DESIGN CHOICE (assumption log 9). -/
def Formats.factory : Formats where
  calibration := 1
  health := 1
  endurance := 1
  own := 1

/-- A firmware slot: its record of R437 and its image's header with the floor that image sets (R438). -/
structure FwSlot where
  state : SlotState
  boots : Nat
  version : Nat
  svn : Nat
  svnFloor : Nat
  header : List Byte
  formats : Formats
deriving DecidableEq, Repr

/-- A slot as the factory ships it (R440), its image's numbers at the value the model names.
DESIGN CHOICE (assumption log 9). -/
def FwSlot.factory : FwSlot where
  state := .confirmed
  boots := 0
  version := 0
  svn := 0
  svnFloor := 0
  header := []
  formats := Formats.factory

/-- A slot that is erased, partly written or refused. -/
def FwSlot.blank : FwSlot where
  state := .empty
  boots := 0
  version := 0
  svn := 0
  svnFloor := 0
  header := []
  formats := Formats.factory

/-- What an SPDM connection has done (R431): nothing, GET_VERSION, GET_CAPABILITIES, NEGOTIATE_ALGORITHMS. -/
inductive SpdmSt where
  | none | version | capabilities | negotiated
deriving DecidableEq, Repr

/-- Where a firmware update stands (R443). -/
inductive UpdPhase where
  | learn | ready | download | applied
deriving DecidableEq, Repr

/-- A firmware update: its agent, target slot, the component's length, and the bytes received, in order. -/
structure UpdateSt where
  agent : Nat
  target : Nat
  phase : UpdPhase
  size : Nat
  bytes : List Byte
deriving DecidableEq, Repr

/-- A message that the management port sends (R431, R433, R435, R443); the byte layouts are those of the DMTF
specifications that these rules name. -/
inductive MgtMsg where
  /-- the address assigned on I3C (R432) -/
  | address (a : Nat)
  | endpoint (eid : Nat)
  | uuid (l : List Byte)
  | mctpVersions (l : List Nat)
  | messageTypes (l : List Nat)
  | spdmVersions (l : List Nat)
  /-- CERT_CAP, CHAL_CAP, MEAS_CAP, CTExponent, DataTransferSize, MaxSPDMmsgSize -/
  | spdmCapabilities (cert chal meas ct size max : Nat)
  | spdmAlgorithms
  | spdmDigests (l : List Byte)
  /-- a portion of the chain and how many bytes remain -/
  | spdmCertificate (l : List Byte) (left : Nat)
  | spdmChallengeAuth (digest : List Byte) (nonce : List Byte) (signature : Word)
  /-- index, DMTF value type and value of each block, and the signature -/
  | spdmMeasurements (l : List (Nat × Nat × List Byte)) (nonce : List Byte) (signature : Option Word)
  /-- the number of measurement blocks there are -/
  | spdmMeasurementCount (n : Nat) (signature : Option Word)
  | spdmError (code : Nat)
  | tid (n : Nat)
  | pldmVersion (type_ : Nat) (major minor : Nat)
  | pldmTypes (l : List Nat)
  | pldmCommands (type_ : Nat) (l : List Nat)
  | pdrInfo (records : Nat)
  /-- a sensor's PDR: sensor ID and whether it is a state sensor -/
  | pdr (sensor : Nat) (isState : Bool)
  /-- a reading: sensor ID, and its value, or none where it is unavailable -/
  | reading (sensor : Nat) (value : Option Int)
  | receiverSet
  /-- a PlatformEventMessage or a polled event: sensor and value -/
  | event (sensor : Nat) (value : Int)
  | noEvent
  | deviceIds (vendorDevice : Nat) (dsn : List Byte)
  | firmwareParameters (active : Nat) (pending : Option Nat)
  /-- a PLDM completion code with nothing else -/
  | completion (code : Nat)
  /-- ActivateFirmware: it is recorded, and waits for the next PERST_N or power-on -/
  | activationWaits
  /-- RequestFirmwareData: offset and length -/
  | requestData (offset len : Nat)
  /-- TransferComplete, VerifyComplete, ApplyComplete and their results -/
  | transferComplete (result : Nat)
  | verifyComplete (result : Nat)
  | applyComplete (result : Nat)
  /-- GetStatus: the phase's code and the last failure -/
  | updateStatus (phase : Nat) (failed : Bool)
deriving DecidableEq, Repr

/-- Management, security and flash. -/
structure MgtSt where
  /-- SMS_MGT_STATUS: MODE, APP, EID, DYN_ADDR -/
  mode : Nat
  app : Bool
  eid : Nat
  dynAddr : Nat
  /-- the PLDM terminus ID and the event receiver -/
  tid : Nat
  receiver : Option Nat
  /-- events that wait for pickup, oldest first (R435): sensor and value; the oldest was sent as a PlatformEventMessage -/
  events : List (Nat × Int)
  spdm : SpdmSt
  /-- messages sent on the management port, oldest first -/
  out : List MgtMsg
  update : Option UpdateSt
  /-- the last update ended because the rails dropped (R445) -/
  updateLost : Bool
  /-- firmware slots 0 and 1, and the security version floor -/
  slot0 : FwSlot
  slot1 : FwSlot
  floor : Nat
  /-- the slot running, whether this start is a trial boot or fell back -/
  running : Nat
  trial : Bool
  fellBack : Bool
  /-- external time at which CC0 was released, as the 600 s timer counts (R442) -/
  bootAt : Int
  /-- external time of the last READY, as the 60 s of a trial boot count (R442) -/
  readyAt : Int
  /-- the measurement value read through SMS_MEAS_DATA, fixed at word 0 (R447) -/
  measHeld : Option (Nat × List Byte)
deriving DecidableEq, Repr

def MgtSt.init : MgtSt where
  mode := 0
  app := false
  eid := 0
  dynAddr := 0
  tid := 0
  receiver := none
  events := []
  spdm := .none
  out := []
  update := none
  updateLost := false
  slot0 := FwSlot.factory
  slot1 := FwSlot.factory
  floor := 0
  running := 0
  trial := false
  fellBack := false
  bootAt := 0
  readyAt := 0
  measHeld := none

end Sys2Proof.Machine
end

