-- ==== Sys2Proof/Machine/Types/Power.lean ====
section
/-! DEFINITION. The housekeeping monitor, the thermal model, throttling and the governor
(spec/16_power_thermal.md), and the supplies, pins and trip latch (spec/19_bring_up_and_pins.md). -/

namespace Sys2Proof.Machine

/-- A throttle group (R399): its pause ratio N (0 where it is not throttled), the temperature of the previous slow round,
and the rounds in a row below the limit less the hysteresis. -/
structure ThrottleGroup where
  n : Nat
  prev : F32
  count : Nat
deriving DecidableEq, Repr

def ThrottleGroup.init : ThrottleGroup where
  n := 0
  prev := 0#32
  count := 0

/-- A diode (R396): marked failed, or the slow rounds in a row in which it differed from its model by more than 15 °C. -/
structure DiodeSt where
  failed : Bool
  rounds : Nat
deriving DecidableEq, Repr

def DiodeSt.init : DiodeSt where
  failed := false
  rounds := 0

/-- A result of the monitor in its queue (R392): channel, kind of sequence, strobe time in µs, and value. -/
structure MonResult where
  chan : Nat
  kind : Nat
  strobe : Nat
  value : Int
deriving DecidableEq, Repr

/-- A working converter of the monitor (R393): its offset in 1/16 LSB and gain in 2^-12, how often it was visited, and
whether it was updated at a limit. -/
structure MonConv where
  offset : Int
  gain : Int
  visited : Bool
  atLimit : Bool
deriving DecidableEq, Repr

def MonConv.init : MonConv where
  offset := 0
  gain := 0
  visited := false
  atLimit := false

/-- PTM. -/
structure PtmSt where
  /-- the model has started from the diodes since the last reset (R405) -/
  started : Bool
  /-- modelled temperatures of regions 0–535 and of the plate nodes 536 west, 537 east, 538 hub (R394) -/
  temps : SMap F32
  /-- offsets o_i of R396 -/
  offsets : SMap F32
  /-- diodes 0–79, in the order of channels 520–599 -/
  diodes : SMap DiodeSt
  /-- the latest value of a channel and its kind (R392), in the unit of R389 -/
  chans : SMap (Int × Nat)
  /-- channels that left their window and whose injected sequence is due, with the value that left (R391) -/
  inject : List (Nat × Int)
  /-- confirmed rail windows that wait for the end of a firmware restart (R405) -/
  railWait : List (Nat × Int)
  /-- the result queue, oldest first (R392) -/
  results : List MonResult
  /-- strobe of the last fast round and of the last slow round, + 1 -/
  fastAt : Nat
  slowAt : Nat
  /-- sum and count of the fast rounds since the last slow round: input power in W, and each core's power in µW -/
  powerSum : Nat
  coreSum : SMap Nat
  rounds : Nat
  /-- throttle groups: 0–63 the cores of an array-die diode, 64–71 a hub core, 72 hub regions 520–527, 73 the HBM stacks,
  74 the LPDDR packages (R399) -/
  groups : SMap ThrottleGroup
  /-- F of R401 in force since the last boundary, and whether R400 halves the lasting budget -/
  capNow : Nat
  halved : Bool
  /-- F lay below FABRIC_W at the last slow round -/
  capped : Bool
  /-- T_x of a core in force, and the published value that waits for a boundary (R402, R115) -/
  tx : SMap Int
  txNew : SMap (Option Int)
  /-- pulse delay lines and reference ladders (R402): the whole degrees they follow, by core, since the last boundary; and
  the hub oscillator's, since the last slow round -/
  lineAt : SMap Int
  oscAt : Int
  /-- monitor converters: 16 · die + n, die 0 west, 1 east, 2 hub; the next one visited by die; the last visit + 1; the
  converter that the spare of a die has replaced, + 1 (R393) -/
  convs : SMap MonConv
  convNext : SMap Nat
  convAt : SMap Nat
  convSpare : SMap Nat
  /-- on the return from MP1: the tracking round, and the verify pass's result, are still to come (R404) -/
  roundDue : Bool
  verifyDue : Bool
deriving DecidableEq, Repr

def PtmSt.init : PtmSt where
  started := false
  temps := []
  offsets := []
  diodes := []
  chans := []
  inject := []
  railWait := []
  results := []
  fastAt := 0
  slowAt := 0
  powerSum := 0
  coreSum := []
  rounds := 0
  groups := []
  capNow := 500
  halved := false
  capped := false
  tx := []
  txNew := []
  lineAt := []
  oscAt := 0
  convs := []
  convNext := []
  convAt := []
  convSpare := []
  roundDue := false
  verifyDue := false

/-- A shutdown record of the ledger (R397). -/
structure TripRec where
  time : Nat
  cause : Nat
  place : Nat
  /-- modelled and diode temperature in whole °C -/
  model : Int
  diode : Int
  power : Nat
deriving DecidableEq, Repr

/-- Supplies, sideband inputs and the standby domain (R448–R455). -/
structure PwrSt where
  /-- the 3.3 V standby input lies in its range, and the standby domain has left its power-on reset -/
  standby : Bool
  up : Bool
  /-- the 54 V input is applied -/
  main54 : Bool
  /-- PWR_EN is high; the main rails have been started -/
  pwrEn : Bool
  rails : Bool
  pwrGood : Bool
  /-- PERST_N is asserted (low) -/
  perst : Bool
  /-- PE_REFCLK runs -/
  refclk : Bool
  /-- the trip latch, which drives THERMTRIP_N (R398) -/
  tripLatch : Bool
  /-- the last shutdown record and the trip count of the ledger -/
  trip : Option TripRec
  trips : Nat
  /-- the standby input as the management controller last sampled it: 10 mV, mA (R404) -/
  standbyV : Nat
  standbyI : Nat
deriving DecidableEq, Repr

/-- The supplies after power-on, with PERST_N still asserted. DESIGN CHOICE (assumption log 9). -/
def PwrSt.init : PwrSt where
  standby := true
  up := true
  main54 := true
  pwrEn := true
  rails := true
  pwrGood := true
  perst := true
  refclk := true
  tripLatch := false
  trip := none
  trips := 0
  standbyV := 0
  standbyI := 0

end Sys2Proof.Machine
end

