-- ==== Sys2Proof/Machine/Types/Sms.lean ====
section
/-! DEFINITION. Fault collection, margining, retirement, in-field test and the event log (spec/17_reliability.md). -/

namespace Sys2Proof.Machine

/-- An event record (R421); its SEQ is its index and its CRC is computed when it is read. -/
structure EventRec where
  time : Nat
  type_ : Nat
  class_ : Nat
  cause : Bool
  fn : Option Nat
  job : Option Nat
  status : Nat
  core : Option Nat
  where_ : Nat
  detail : List Nat
  seq : Nat
deriving DecidableEq, Repr

/-- What a suspect event points at within its core (R414). -/
inductive Attr where
  | core
  | xb (pos : Nat)
  | slice (pos slice : Nat)
deriving DecidableEq, Repr

/-- The move a retirement waits for (R416). -/
inductive Retire where
  | slice (pos slice : Nat)
  | xb (pos : Nat)
  | site (n : Nat)
  | hub
deriving DecidableEq, Repr

/-- A core's health (R414–R416) and in-field test (R418). -/
structure Health where
  level : Nat
  /-- suspect events: time, weight in sixteenths, attribution -/
  events : List (Nat × Nat × Attr)
  /-- attributions since the core reached level 4 -/
  since4 : List Attr
  /-- external time of the last suspect event or step down (R415) -/
  quietFrom : Nat
  climbPending : Nat
  downPending : Bool
  pending : Option Retire
  /-- the lasting that a pending move waits for has completed -/
  moveReady : Bool
  site : Option Nat
  retired : Bool
  unplaceable : Bool
  /-- in-field test: next slice, the end of the slice run in the test pause that stands, overdue, and the due time once one
  test has been run -/
  slice : Nat
  running : Option Nat
  overdue : Bool
  due : Nat
  /-- external time at which the last voltage step is complete (R403) -/
  rampTo : Nat
deriving DecidableEq, Repr

def Health.init : Health where
  level := 0
  events := []
  since4 := []
  quietFrom := 0
  climbPending := 0
  downPending := false
  pending := none
  moveReady := false
  site := none
  retired := false
  unplaceable := false
  slice := 0
  running := none
  overdue := false
  due := 0
  rampTo := 0

/-- What the health region of the ledger holds (R419): the cores' health, the spares taken, the positions on spare crossbars, and the
slices that CS has replaced. -/
structure HealthPart where
  health : SMap Health
  slicesUsed : List (Nat × Nat)
  xbsUsed : List Nat
  sitesW : List Nat
  sitesE : List Nat
  onSpare : SMap Bool
  track : SMap XbTrk
deriving DecidableEq, Repr

/-- The records of a region of the ledger (R419, R444): the version of those in force, and those of other versions that are kept. -/
structure Ledgered (α : Type) where
  version : Nat
  others : List (Nat × α)
deriving DecidableEq, Repr

/-- A region as the factory ships it. DESIGN CHOICE (assumption log 9). -/
def Ledgered.factory {α : Type} : Ledgered α where
  version := 1
  others := []

/-- SMS's fault side.  The log and the cores' health lie in the ledger and outlive the main domain (R10, R419). -/
structure SmsSt where
  log : List EventRec
  nextSeq : Nat
  /-- the second of external time in which records were last written, and how many (R421) -/
  second : Nat
  inSecond : Nat
  health : SMap Health
  /-- spare converter slices and spare crossbars taken by retirement: positions -/
  slicesUsed : List (Nat × Nat)
  xbsUsed : List Nat
  /-- spare core sites taken on the west and the east die -/
  sitesW : List Nat
  sitesE : List Nat
  /-- times of the firmware restarts of the last hour (R417) -/
  restarts : List Nat
  /-- the wheel's first boundary, from which the test due times count (R418) -/
  iftBase : Option Nat
  /-- the versions of the ledger's records (R444): calibration, health, endurance and what the firmware owns -/
  calVersion : Nat
  healthLedger : Ledgered HealthPart
  wearLedger : Ledgered (SMap Nat)
  ownLedger : Ledgered Unit
deriving DecidableEq, Repr

def SmsSt.init : SmsSt where
  log := []
  nextSeq := 0
  second := 0
  inSecond := 0
  health := []
  slicesUsed := []
  xbsUsed := []
  sitesW := []
  sitesE := []
  restarts := []
  iftBase := none
  calVersion := 1
  healthLedger := Ledgered.factory
  wearLedger := Ledgered.factory
  ownLedger := Ledgered.factory

end Sys2Proof.Machine
end

