-- ==== Sys2Proof/Machine/Types/Time.lean ====
section
/-! DEFINITION. The state of TWS (spec/10_cadence_wheel.md) that is not a register field: the count of external time,
the wheel's position, the discipline of the sources and the arbiters' rotations. -/

namespace Sys2Proof.Machine

/-- A PTP master whose Announce messages were heard (R350): port, clock identity, its data set in the order of comparison,
external time of its last Announce, and its announce interval in ns. -/
structure Master where
  port : Nat
  id : Nat
  rank : List Nat
  last : Nat
  interval : Nat
  /-- the PTP domain and the transport of its messages (R349, R350) -/
  domain : Nat
  transport : Nat
deriving DecidableEq, Repr

/-- What a requester asks of an arbiter (R257, R258): its number in the fixed order, the function and the PRIO of its work (7 for
background work), the class and the burst limit that these come to under the settings in force (R259, R260), the beats it still needs, and the
external time in 1/120 ns up to which it takes no grant (R384). -/
structure ArbReq where
  who : Nat
  fn : Nat
  prio : Nat
  cls : Nat
  limit : Nat
  beats : Nat
  held : Nat
deriving DecidableEq, Repr

/-- A grant (R258, R260): the requester, the burst limit it started with and the beats it has used. -/
structure ArbGrant where
  who : Nat
  limit : Nat
  used : Nat
deriving DecidableEq, Repr

/-- An arbiter (R257, R258): the grant in force, the external time in 1/120 ns at which its present beats end, one
more than the last requester granted in each class, and the requests that wait, in the order they came. -/
structure Arbiter where
  grant : Option ArbGrant
  ends : Nat
  last : SMap Nat
  queue : List ArbReq
deriving DecidableEq, Repr

def Arbiter.init : Arbiter where
  grant := none
  ends := 0
  last := []
  queue := []

/-- External time and the wheel. -/
structure TimeSt where
  /-- external time in ns (R9, R237) -/
  now : Nat
  /-- index k of the first boundary that has not come yet (R242); meaningful while RUN = 1 -/
  nextK : Nat
  /-- the number of the slot in progress; none before the first boundary and while stopped (R243) -/
  slotNow : Option Nat
  /-- the offset still to be slewed away, in ns (R240) -/
  slewLeft : Int
  /-- the instant up to which the slew has been worked off -/
  slewAt : Nat
  /-- the error estimate at `errAt`; none: all ones (R238) -/
  errBase : Option Nat
  /-- the instant from which HOLD_RATE grows the estimate; none while a source holds it fixed -/
  errAt : Option Nat
  /-- the last PPS edge's corrected time stamp in half ns, and how many in a row were good (R238) -/
  ppsLast : Option Nat
  ppsGood : Nat
  /-- the external time of the last edge within ±10 µs of its prediction (R239) -/
  ppsSeen : Nat
  /-- whether the next PPS edge rounds the time of day to a second (R239) -/
  ppsRound : Bool
  /-- how many Sync intervals in a row changed the offset by at most 1 µs (R238) -/
  ptpGood : Nat
  /-- the external time of the last accepted Sync message (R239) -/
  ptpSeen : Nat
  /-- the mean path delay of the last Delay_Resp, in half ns (R349) -/
  ptpDelay : Int
  /-- the external time of the last Delay_Req, and the least interval in ns that the master asks for between two (R349) -/
  ptpDelayAt : Nat
  ptpDelayMin : Nat
  /-- t1 and t2 of the last Sync, and t3 of the last Delay_Req, in half ns -/
  ptpT1 : Int
  ptpT2 : Int
  ptpT3 : Option Int
  masters : List Master
  /-- the chosen master: port and clock identity -/
  master : Option (Nat × Nat)
  /-- the offset of the last Sync, in half ns -/
  ptpLastOff : Int
  /-- whether an UNLOCKED condition stood at the last check (R262) -/
  unlocked : Bool
  /-- the lower half of TWS_TIME_SET as last written -/
  setLo : Nat
deriving DecidableEq, Repr

/-- Time after power-on and PERST_N (R238, R263): UNSET, counting from 0, the wheel stopped.
DESIGN CHOICE (assumption log 1). -/
def TimeSt.init : TimeSt where
  now := 0
  nextK := 0
  slotNow := none
  slewLeft := 0
  slewAt := 0
  errBase := none
  errAt := none
  ppsLast := none
  ppsGood := 0
  ppsSeen := 0
  ppsRound := false
  ptpGood := 0
  ptpSeen := 0
  ptpDelay := 0
  ptpDelayAt := 0
  ptpDelayMin := 0
  ptpT1 := 0
  ptpT2 := 0
  ptpT3 := none
  masters := []
  master := none
  ptpLastOff := 0
  unlocked := true
  setLo := 0

end Sys2Proof.Machine
end

