-- ==== Sys2Proof/Machine/Types/Weights.lean ====
section
/-! DEFINITION. Objects, generations, binding, swap, lasting and the lehr pass (spec/09_weights_and_lasting.md). -/

namespace Sys2Proof.Machine

/-- The states of an object slot (R207), with their codes in order. -/
inductive ObjState where
  | empty | loading | checked | bad | current | old | adapter
deriving DecidableEq, Repr

/-- A matrix record of a placement section (R211). -/
structure MatrixRec where
  matrix : Nat
  layer : Nat
  kind : Nat
  expert : Nat
  rank : Nat
  cancel : Bool
  nIn : Nat
  nOut : Nat
  scaleIdx : Nat
deriving DecidableEq, Repr

/-- A cluster record of a placement section (R211). -/
structure ClusterRec where
  matrix : Nat
  core : Nat
  cluster : Nat
  diff : Bool
  height : Nat
  xbRows : Nat
  xbCol0 : Nat
  xbCols : Nat
  firstIn : Nat
  firstOut : Nat
deriving DecidableEq, Repr

/-- A tile: the 4-bit weights of one crossbar position (R212), the RAW body's bytes. -/
structure Tile where
  core : Nat
  cluster : Nat
  row : Nat
  col : Nat
  body : List Byte
deriving DecidableEq, Repr

/-- An outlier entry (R214): matrix, input, output, residual. -/
structure Outlier where
  matrix : Nat
  input : Nat
  output : Nat
  residual : Int
deriving DecidableEq, Repr

/-- A low-rank factor record (R214). -/
structure LowRank where
  matrix : Nat
  rank : Nat
  u : List BF16
  v : List BF16
deriving DecidableEq, Repr

/-- A record of the TABLES section (R214): its kind, its matrix or layer, its elements as 32-bit codes. -/
structure Table where
  kind : Nat
  idx : Nat
  elems : List F32
deriving DecidableEq, Repr

/-- One directory entry of a manifest (R209). -/
structure DirEntry where
  type_ : Nat
  encoding : Nat
  count : Nat
  offset : Nat
  length : Nat
  digest : List Byte
deriving DecidableEq, Repr

/-- The manifest of an object (R209). -/
structure Manifest where
  kind : Nat
  modelId : Nat
  block : Nat
  pos : Nat
  keySlot : Nat
  objectLen : Nat
  canonDigest : List Byte
  dir : List DirEntry
deriving DecidableEq, Repr

/-- The checked content of an object in resident layout (R215). -/
structure ObjContent where
  manifest : Option Manifest
  /-- the 4,096 bytes of the manifest as read, for measurement index 7 (R429) -/
  raw : List Byte
  matrices : List MatrixRec
  clusters : List ClusterRec
  digital : List (Nat × Nat)
  tiles : List Tile
  scales : List BF16
  outliers : List Outlier
  lowRank : List LowRank
  tables : List Table
  embedding : List BF16
  /-- the stored bytes of the probe signatures and of the factor records, and which sections have been read, by type -/
  probes : List Byte
  factors : List Byte
  seen : List Nat
deriving DecidableEq, Repr

def ObjContent.init : ObjContent where
  manifest := none
  raw := []
  matrices := []
  clusters := []
  digital := []
  tiles := []
  scales := []
  outliers := []
  lowRank := []
  tables := []
  embedding := []
  probes := []
  factors := []
  seen := []

/-- The request that a load, bind, swap or adapter command answers: serial, function, queue, tag, opcode. -/
structure Owner where
  serial : Nat
  fn : Nat
  queue : Nat
  tag : Nat
deriving DecidableEq, Repr

/-- A load in progress: its request, operands, the bytes of the section being read and the next offset (R215). -/
structure Loading where
  owner : Owner
  ops : LoadOps
  /-- sections still to be read, in ascending OFFSET -/
  left : List DirEntry
  /-- bytes of the manifest or of the present section, as they arrived -/
  bytes : List Byte
  /-- object offset of the next byte expected -/
  next : Nat
  /-- READs outstanding, oldest first: offset and length; and the offset of the next READ to issue (R347) -/
  outstanding : List (Nat × Nat)
  issued : Nat
deriving DecidableEq, Repr

/-- One object slot. -/
structure ObjSlot where
  state : ObjState
  fn : Nat
  adapter : Nat
  gen : Nat
  /-- resident size in bytes (R208) -/
  size : Nat
  content : ObjContent
  loading : Option Loading
  /-- generations for which an adapter's factors are laid out (R230) -/
  gens : List Nat
deriving DecidableEq, Repr

def ObjSlot.init : ObjSlot where
  state := .empty
  fn := 0
  adapter := 0
  gen := 0
  size := 0
  content := ObjContent.init
  loading := none
  gens := []

/-- A bind in progress (R218): its slot, generation and request, and whether the first tracking round and verify pass
are done. -/
structure BindSt where
  slot : Nat
  gen : Nat
  owner : Option Owner
  /-- positions still to be lasted -/
  left : List Nat
  /-- every position of the placement that waits for its first probe -/
  probing : List Nat
deriving DecidableEq, Repr

/-- The phases of a swap (R226), coded 1 to 4 in LST_SWAP_STATE. -/
inductive SwapPhase where
  | prepare | lasting | tail
deriving DecidableEq, Repr

/-- A swap in progress (R226). -/
structure SwapSt where
  slot : Nat
  oldSlot : Nat
  gen : Nat
  oldGen : Nat
  owner : Option Owner
  phase : SwapPhase
  left : List Nat
  /-- the boundary at which the partition switches, once the home module has announced it (R227) -/
  announced : Option Nat
  /-- external time of the Switch -/
  switchAt : Nat
deriving DecidableEq, Repr

/-- Why a crossbar is lasted. -/
inductive LastWhy where
  | bind | swap | refresh | verify | retire | site
deriving DecidableEq, Repr

/-- A lasting in progress (R219, R222): its logical position, the generation it writes, its start, and whether it runs on
the spare crossbar of its column. -/
structure Lasting where
  pos : Nat
  gen : Nat
  why : LastWhy
  start : Nat
  onSpare : Bool
  /-- the position's map has changed since the lasting began (R71) -/
  remap : Bool
deriving DecidableEq, Repr

/-- A lehr request (R232): position, order of the reason (1 to 4), ρ_x of its last probe, and those of conditions 2 and 3 that have
held. -/
structure Refresh where
  pos : Nat
  order : Nat
  rho : Nat
  failed : List Nat
deriving DecidableEq, Repr

/-- An adapter number of a function that is loaded: its slot and, when marked, the unload's request (R228). -/
structure AdapterSt where
  fn : Nat
  num : Nat
  slot : Nat
  unload : Option (Option Owner)
deriving DecidableEq, Repr

/-- The maps of a position (R69): its crossbar's spare rows and columns, and whether the column's spare crossbar serves it. -/
structure MapEntry where
  rows : List (Nat × Nat)
  cols : List (Nat × Nat)
  spare : Bool
deriving DecidableEq, Repr

/-- LST. Positions are numbered 576·core + 72·cluster + 8·row + column, row 0–8 (R12). -/
structure LstSt where
  slots : SMap ObjSlot
  current : Option (Nat × Nat)
  bind : Option BindSt
  swap : Option SwapSt
  lastings : List Lasting
  /-- slots being loaded, in acceptance order (R347) -/
  loads : List Nat
  /-- positions whose verify pass after MP1 failed and that are still to be lasted (R224) -/
  verifyLeft : List Nat
  /-- positions whose crossbar of the spare site that their core moves to has been lasted (R416) -/
  siteDone : List Nat
  /-- positions whose map has changed and that wait for a boundary (R71) -/
  remapWait : List Nat
  /-- the maps in force of a position that is being lasted or waits for that boundary (R71) -/
  mapWas : SMap (Option MapEntry)
  /-- positions that no crossbar serves, since no spare was left (R222) -/
  unserved : List Nat
  refreshQ : List Refresh
  /-- adapters loaded -/
  adapters : List AdapterSt
  /-- lastings counted beyond the factory's, by physical crossbar (R223) -/
  endurance : SMap Nat
  /-- the level sum of a physical crossbar's weight cells, recorded at its lasting (R81) -/
  levels : SMap Nat
  /-- positions served by their column's spare crossbar; keys are logical positions -/
  onSpare : SMap Bool
  /-- spare rows and columns in use: crossbar → (logical, physical) lists (R69) -/
  rowMap : SMap (List (Nat × Nat))
  colMap : SMap (List (Nat × Nat))
  /-- what a position holds: generation + 1, 0 for none bound -/
  holds : SMap Nat
  /-- position from which the present lehr round goes on, and its start (R231) -/
  lehrNext : Nat
  lehrStart : Nat
  lehrPaused : Bool
  /-- positions refreshed after condition 2 or 3 had held, each with the condition, awaiting their first probe (R232) -/
  refreshed : List (Nat × Nat)
  /-- external time at which the welt's reload after a Switch ends (R226) -/
  reloadTo : Nat
  /-- half of the embedding region that the current generation uses: 0, 1 -/
  embHalf : Nat
  /-- trust slots: 32-byte public keys by slot (R215) -/
  trust : SMap (List Byte)
deriving DecidableEq, Repr

def LstSt.init : LstSt where
  slots := []
  current := none
  bind := none
  swap := none
  lastings := []
  loads := []
  verifyLeft := []
  siteDone := []
  remapWait := []
  mapWas := []
  unserved := []
  refreshQ := []
  adapters := []
  endurance := []
  levels := []
  onSpare := []
  rowMap := []
  colMap := []
  holds := []
  lehrNext := 0
  lehrStart := 0
  lehrPaused := false
  refreshed := []
  reloadTo := 0
  embHalf := 0
  trust := []

end Sys2Proof.Machine
end

