-- ==== Sys2Proof/Machine/State.lean ====
section
/-! DEFINITION. The state of the module: its registers as values of named fields, the shadowed writes that wait for
their boundary, the sub-records of the subsystems, and the queue of commands that wait.  `State.reset` is the module
right after power-on and PERST_N with the firmware not yet started (spec/19_bring_up_and_pins.md R453, R456). -/

namespace Sys2Proof.Machine

/-- The access types of a register field (R7); reserved bits hold no value and are no field. -/
inductive FTy where
  | ro | rw | w1c | w1s | sh | wo
deriving DecidableEq, Repr

/-- A register field: the byte offset of its register, its lowest bit, its width (a 64-bit register is one field of 64
bits at the lower offset), its access type and its reset value. -/
structure Fld where
  addr : Nat
  lsb : Nat
  width : Nat
  ty : FTy
  reset : Nat
deriving DecidableEq, Repr

/-- The blocks that own shadowed fields, one for each COMMIT register. -/
inductive Blk where
  | amf | ccv | wlt | acr | atn | kvm | lst | tws | hif | cpx | cst | mem | ptm | sms
deriving DecidableEq, Repr

/-- A shadowed write (R8): the block, the field's key and reset value, and the value written. -/
structure ShWrite where
  blk : Blk
  key : Nat
  dflt : Nat
  val : Nat
deriving DecidableEq, Repr

/-- The reasons a step can stop the block.  None is raised by a meaning: every command of the table answers a next
state.  It is kept so that the interface has a type. DESIGN CHOICE (assumption log 56). -/
inductive Fault where
  /-- raised by no meaning of this model; safe -/
  | none
deriving DecidableEq, Repr

/-- The reasons a step can refuse a command. DESIGN CHOICE (assumption log 56). -/
inductive Refusal where
  /-- raised by an arm of `exec` whose command has no meaning yet; safe -/
  | notModelled (mnemonic : String)
deriving DecidableEq, Repr

/-- The module's state. -/
structure State where
  /-- the commands that wait, first in, first out -/
  pending : List Instr
  /-- register fields by key, sparse over their reset values -/
  regs : SMap Nat
  /-- shadowed writes not yet committed, oldest first (R8) -/
  shadow : List ShWrite
  /-- commits that wait for a boundary, oldest first: their time and their writes (R244) -/
  commits : List (Nat × List ShWrite)
  time : TimeSt
  /-- the arbiters of R257: CST bank port p at p, memory channel c at 1,000 + c, the cluster c of core n at 10,000 + 8 n + c, link
  injection at torus port p at 20,000 + p -/
  arbs : SMap Arbiter
  hif : HifSt
  serve : ServeSt
  lst : LstSt
  ctl : CtlSt
  mem : MemSt
  sms : SmsSt
  fab : FabSt
  lnk : LnkSt
  ptm : PtmSt
  pwr : PwrSt
  mgt : MgtSt
  /-- how many free values have been drawn (the model's own counter, no state of the spec) -/
  free : Nat
deriving DecidableEq, Repr

/-- The module right after reset, PERST_N still asserted (R456, R459): every register at its reset value, nothing listed, nothing held.
DESIGN CHOICE where no rule gives a value (assumption log 9). -/
def State.reset : State where
  pending := []
  regs := []
  shadow := []
  commits := []
  time := TimeSt.init
  arbs := []
  hif := HifSt.init
  serve := ServeSt.init
  lst := LstSt.init
  ctl := CtlSt.init
  mem := MemSt.init
  sms := SmsSt.init
  fab := FabSt.init
  lnk := LnkSt.init
  ptm := PtmSt.init
  pwr := PwrSt.init
  mgt := MgtSt.init
  free := 0

end Sys2Proof.Machine
end

