-- ==== Sys2Proof/Machine/RegMap.lean ====
section
/-! DEFINITION. The register map: one `Fld` per field of the register tables of spec/ (R82, R103, R135, R160,
R183, R204, R234, R264, R327, R352, R371, R386, R387, R406, R424, R446), with its offset, its lowest bit, its width,
its access type (R7) and its reset value.  A register of a per-core window has the address 0x0100_0000 plus its offset
in the window, one of a hub-core window only 0x0200_0000 plus its offset, one of a queue block 0x1000 plus its offset,
one of a virtual function's window 0x0400_0000 plus its offset; the bank (core, queue, function, port) is an argument
of the access. -/

namespace Sys2Proof.Machine

/- AMF_CTRL: 03_analogue_fabric.md, R82 -/
def AMF_CTRL_TALLY_MODE : Fld := ⟨0x00700000, 0, 1, .sh, 0⟩
def AMF_CTRL_SKIP_EMPTY : Fld := ⟨0x00700000, 1, 1, .sh, 1⟩
/- AMF_TALLY_TOL: 03_analogue_fabric.md, R82 -/
def AMF_TALLY_TOL_TOL_ABS : Fld := ⟨0x00700004, 0, 8, .sh, 0x50⟩
def AMF_TALLY_TOL_TOL_REL : Fld := ⟨0x00700004, 8, 4, .sh, 5⟩
/- AMF_COMMIT: 03_analogue_fabric.md, R82 -/
def AMF_COMMIT_COMMIT : Fld := ⟨0x00700008, 0, 1, .wo, 0⟩
/- AMF_ENERGY_E0: 03_analogue_fabric.md, R82 -/
def AMF_ENERGY_E0_E0 : Fld := ⟨0x00700010, 0, 16, .ro, 100⟩
def AMF_ENERGY_E0_E0T : Fld := ⟨0x00700010, 16, 16, .ro, 140⟩
/- AMF_ENERGY_UNIT: 03_analogue_fabric.md, R82 -/
def AMF_ENERGY_UNIT_E_ROW : Fld := ⟨0x00700014, 0, 16, .ro, 30⟩
def AMF_ENERGY_UNIT_E_CELL : Fld := ⟨0x00700014, 16, 16, .ro, 190⟩
/- AMF_PASS_CNT: 03_analogue_fabric.md, R82 -/
def AMF_PASS_CNT_COUNT : Fld := ⟨0x00700020, 0, 64, .ro, 0⟩
/- AMF_SKIP_CNT: 03_analogue_fabric.md, R82 -/
def AMF_SKIP_CNT_COUNT : Fld := ⟨0x00700028, 0, 32, .ro, 0⟩
/- AMF_SPLIT_CNT1: 03_analogue_fabric.md, R82 -/
def AMF_SPLIT_CNT1_COUNT : Fld := ⟨0x00700030, 0, 32, .ro, 0⟩
/- AMF_SPLIT_CNT2: 03_analogue_fabric.md, R82 -/
def AMF_SPLIT_CNT2_COUNT : Fld := ⟨0x00700034, 0, 32, .ro, 0⟩
/- AMF_SPLIT_CNT4: 03_analogue_fabric.md, R82 -/
def AMF_SPLIT_CNT4_COUNT : Fld := ⟨0x00700038, 0, 32, .ro, 0⟩
/- AMF_SPLIT_CNT8: 03_analogue_fabric.md, R82 -/
def AMF_SPLIT_CNT8_COUNT : Fld := ⟨0x0070003C, 0, 32, .ro, 0⟩
/- AMF_TALLY_ERR_CNT: 03_analogue_fabric.md, R82 -/
def AMF_TALLY_ERR_CNT_COUNT : Fld := ⟨0x00700040, 0, 32, .ro, 0⟩
/- AMF_CNT_CLR: 03_analogue_fabric.md, R82 -/
def AMF_CNT_CLR_CLEAR : Fld := ⟨0x00700044, 0, 1, .wo, 0⟩
/- AMF_CL_MODE: 03_analogue_fabric.md, R82 -/
def AMF_CL_MODE_DIFF : Fld := ⟨0x01000000, 0, 8, .ro, 0⟩
def AMF_CL_MODE_BOUND : Fld := ⟨0x01000000, 8, 8, .ro, 0⟩
/- AMF_REMAP_SEL: 03_analogue_fabric.md, R82 -/
def AMF_REMAP_SEL_CLUSTER : Fld := ⟨0x01000004, 0, 3, .rw, 0⟩
def AMF_REMAP_SEL_XB_ROW : Fld := ⟨0x01000004, 3, 4, .rw, 0⟩
def AMF_REMAP_SEL_XB_COL : Fld := ⟨0x01000004, 7, 3, .rw, 0⟩
def AMF_REMAP_SEL_ENTRY : Fld := ⟨0x01000004, 10, 4, .rw, 0⟩
def AMF_REMAP_SEL_KIND : Fld := ⟨0x01000004, 14, 2, .rw, 0⟩
/- AMF_REMAP_DATA: 03_analogue_fabric.md, R82 -/
def AMF_REMAP_DATA_VALID : Fld := ⟨0x01000008, 0, 1, .ro, 0⟩
def AMF_REMAP_DATA_LOGICAL : Fld := ⟨0x01000008, 1, 10, .ro, 0⟩
def AMF_REMAP_DATA_PHYSICAL : Fld := ⟨0x01000008, 11, 10, .ro, 0⟩
/- AMF_TALLY_ERR0: 03_analogue_fabric.md, R82 -/
def AMF_TALLY_ERR0_COUNT : Fld := ⟨0x010000A0, 0, 16, .ro, 0⟩
/- AMF_TALLY_ERR1: 03_analogue_fabric.md, R82 -/
def AMF_TALLY_ERR1_COUNT : Fld := ⟨0x010000A4, 0, 16, .ro, 0⟩
/- AMF_TALLY_ERR2: 03_analogue_fabric.md, R82 -/
def AMF_TALLY_ERR2_COUNT : Fld := ⟨0x010000A8, 0, 16, .ro, 0⟩
/- AMF_TALLY_ERR3: 03_analogue_fabric.md, R82 -/
def AMF_TALLY_ERR3_COUNT : Fld := ⟨0x010000AC, 0, 16, .ro, 0⟩
/- AMF_TALLY_ERR4: 03_analogue_fabric.md, R82 -/
def AMF_TALLY_ERR4_COUNT : Fld := ⟨0x010000B0, 0, 16, .ro, 0⟩
/- AMF_TALLY_ERR5: 03_analogue_fabric.md, R82 -/
def AMF_TALLY_ERR5_COUNT : Fld := ⟨0x010000B4, 0, 16, .ro, 0⟩
/- AMF_TALLY_ERR6: 03_analogue_fabric.md, R82 -/
def AMF_TALLY_ERR6_COUNT : Fld := ⟨0x010000B8, 0, 16, .ro, 0⟩
/- AMF_TALLY_ERR7: 03_analogue_fabric.md, R82 -/
def AMF_TALLY_ERR7_COUNT : Fld := ⟨0x010000BC, 0, 16, .ro, 0⟩
/- AMF_TALLY_LOG0: 03_analogue_fabric.md, R82 -/
def AMF_TALLY_LOG0_CLUSTER : Fld := ⟨0x010000C0, 0, 3, .ro, 0⟩
def AMF_TALLY_LOG0_XB_ROW : Fld := ⟨0x010000C0, 3, 4, .ro, 0⟩
def AMF_TALLY_LOG0_XB_COL : Fld := ⟨0x010000C0, 7, 3, .ro, 0⟩
def AMF_TALLY_LOG0_GROUP : Fld := ⟨0x010000C0, 10, 3, .ro, 0⟩
def AMF_TALLY_LOG0_PASS : Fld := ⟨0x010000C0, 13, 1, .ro, 0⟩
def AMF_TALLY_LOG0_WINDOWS : Fld := ⟨0x010000C0, 14, 3, .ro, 0⟩
def AMF_TALLY_LOG0_VALID : Fld := ⟨0x010000C0, 17, 1, .ro, 0⟩
/- AMF_TALLY_LOG1: 03_analogue_fabric.md, R82 -/
def AMF_TALLY_LOG1_DELTA : Fld := ⟨0x010000C4, 0, 32, .ro, 0⟩
/- AMF_SPLIT_LAST: 03_analogue_fabric.md, R82 -/
def AMF_SPLIT_LAST_LOG2N : Fld := ⟨0x010000C8, 0, 16, .ro, 0⟩
def regTab03a : List Fld := [AMF_CTRL_TALLY_MODE, AMF_CTRL_SKIP_EMPTY, AMF_TALLY_TOL_TOL_ABS, AMF_TALLY_TOL_TOL_REL,
  AMF_COMMIT_COMMIT, AMF_ENERGY_E0_E0, AMF_ENERGY_E0_E0T, AMF_ENERGY_UNIT_E_ROW, AMF_ENERGY_UNIT_E_CELL,
  AMF_PASS_CNT_COUNT, AMF_SKIP_CNT_COUNT, AMF_SPLIT_CNT1_COUNT, AMF_SPLIT_CNT2_COUNT, AMF_SPLIT_CNT4_COUNT,
  AMF_SPLIT_CNT8_COUNT, AMF_TALLY_ERR_CNT_COUNT, AMF_CNT_CLR_CLEAR, AMF_CL_MODE_DIFF, AMF_CL_MODE_BOUND,
  AMF_REMAP_SEL_CLUSTER]
def regTab03b : List Fld := [AMF_REMAP_SEL_XB_ROW, AMF_REMAP_SEL_XB_COL, AMF_REMAP_SEL_ENTRY, AMF_REMAP_SEL_KIND,
  AMF_REMAP_DATA_VALID, AMF_REMAP_DATA_LOGICAL, AMF_REMAP_DATA_PHYSICAL, AMF_TALLY_ERR0_COUNT, AMF_TALLY_ERR1_COUNT,
  AMF_TALLY_ERR2_COUNT, AMF_TALLY_ERR3_COUNT, AMF_TALLY_ERR4_COUNT, AMF_TALLY_ERR5_COUNT, AMF_TALLY_ERR6_COUNT,
  AMF_TALLY_ERR7_COUNT, AMF_TALLY_LOG0_CLUSTER, AMF_TALLY_LOG0_XB_ROW, AMF_TALLY_LOG0_XB_COL, AMF_TALLY_LOG0_GROUP,
  AMF_TALLY_LOG0_PASS]
def regTab03c : List Fld := [AMF_TALLY_LOG0_WINDOWS, AMF_TALLY_LOG0_VALID, AMF_TALLY_LOG1_DELTA, AMF_SPLIT_LAST_LOG2N]
/-- The fields of the register tables of spec chapter 03. -/
def regTab03 : List Fld := regTab03a ++ regTab03b ++ regTab03c

/- CCV_RANGE_CTRL: 04_column_conversion.md, R103 -/
def CCV_RANGE_CTRL_MARGIN_SHIFT : Fld := ⟨0x00700100, 0, 4, .sh, 3⟩
def CCV_RANGE_CTRL_MARGIN_ABS : Fld := ⟨0x00700100, 4, 8, .sh, 0x10⟩
/- CCV_TRACK_CTRL: 04_column_conversion.md, R103 -/
def CCV_TRACK_CTRL_EN : Fld := ⟨0x00700104, 0, 1, .sh, 1⟩
def CCV_TRACK_CTRL_PERIOD : Fld := ⟨0x00700104, 4, 13, .sh, 0x3e8⟩
/- CCV_COMMIT: 04_column_conversion.md, R103 -/
def CCV_COMMIT_COMMIT : Fld := ⟨0x00700108, 0, 1, .wo, 0⟩
/- CCV_SAT_CNT: 04_column_conversion.md, R103 -/
def CCV_SAT_CNT_COUNT : Fld := ⟨0x00700110, 0, 32, .ro, 0⟩
/- CCV_TRK_LIMIT_CNT: 04_column_conversion.md, R103 -/
def CCV_TRK_LIMIT_CNT_COUNT : Fld := ⟨0x00700114, 0, 32, .ro, 0⟩
/- CCV_TRK_ROUND: 04_column_conversion.md, R103 -/
def CCV_TRK_ROUND_COUNT : Fld := ⟨0x00700118, 0, 32, .ro, 0⟩
/- CCV_CNT_CLR: 04_column_conversion.md, R103 -/
def CCV_CNT_CLR_CLEAR : Fld := ⟨0x0070011C, 0, 1, .wo, 0⟩
/- CCV_TRK_SEL: 04_column_conversion.md, R103 -/
def CCV_TRK_SEL_CLUSTER : Fld := ⟨0x01000100, 0, 3, .rw, 0⟩
def CCV_TRK_SEL_XB_ROW : Fld := ⟨0x01000100, 3, 4, .rw, 0⟩
def CCV_TRK_SEL_XB_COL : Fld := ⟨0x01000100, 7, 3, .rw, 0⟩
def CCV_TRK_SEL_SLICE : Fld := ⟨0x01000100, 10, 5, .rw, 0⟩
def CCV_TRK_SEL_LSB_IDX : Fld := ⟨0x01000100, 15, 3, .rw, 0⟩
/- CCV_TRK_DATA: 04_column_conversion.md, R103 -/
def CCV_TRK_DATA_OFS : Fld := ⟨0x01000104, 0, 8, .ro, 0⟩
def CCV_TRK_DATA_GAIN : Fld := ⟨0x01000104, 8, 8, .ro, 0⟩
def CCV_TRK_DATA_VISITS : Fld := ⟨0x01000104, 16, 12, .ro, 0⟩
def CCV_TRK_DATA_STATE : Fld := ⟨0x01000104, 28, 2, .ro, 3⟩
def CCV_TRK_DATA_REPLACED : Fld := ⟨0x01000104, 30, 1, .ro, 0⟩
/- CCV_SAT_LOG: 04_column_conversion.md, R103 -/
def CCV_SAT_LOG_CLUSTER : Fld := ⟨0x01000108, 0, 3, .ro, 0⟩
def CCV_SAT_LOG_XB_ROW : Fld := ⟨0x01000108, 3, 4, .ro, 0⟩
def CCV_SAT_LOG_XB_COL : Fld := ⟨0x01000108, 7, 3, .ro, 0⟩
def CCV_SAT_LOG_GROUP : Fld := ⟨0x01000108, 10, 3, .ro, 0⟩
def CCV_SAT_LOG_PASS : Fld := ⟨0x01000108, 13, 2, .ro, 0⟩
def CCV_SAT_LOG_WINDOWS : Fld := ⟨0x01000108, 15, 3, .ro, 0⟩
def CCV_SAT_LOG_LSB_IDX : Fld := ⟨0x01000108, 18, 3, .ro, 0⟩
def CCV_SAT_LOG_VALID : Fld := ⟨0x01000108, 21, 1, .ro, 0⟩
/- CCV_SAT_CORE_CNT: 04_column_conversion.md, R103 -/
def CCV_SAT_CORE_CNT_COUNT : Fld := ⟨0x0100010C, 0, 32, .ro, 0⟩
def regTab04a : List Fld := [CCV_RANGE_CTRL_MARGIN_SHIFT, CCV_RANGE_CTRL_MARGIN_ABS, CCV_TRACK_CTRL_EN,
  CCV_TRACK_CTRL_PERIOD, CCV_COMMIT_COMMIT, CCV_SAT_CNT_COUNT, CCV_TRK_LIMIT_CNT_COUNT, CCV_TRK_ROUND_COUNT,
  CCV_CNT_CLR_CLEAR, CCV_TRK_SEL_CLUSTER, CCV_TRK_SEL_XB_ROW, CCV_TRK_SEL_XB_COL, CCV_TRK_SEL_SLICE,
  CCV_TRK_SEL_LSB_IDX, CCV_TRK_DATA_OFS, CCV_TRK_DATA_GAIN, CCV_TRK_DATA_VISITS, CCV_TRK_DATA_STATE,
  CCV_TRK_DATA_REPLACED, CCV_SAT_LOG_CLUSTER]
def regTab04b : List Fld := [CCV_SAT_LOG_XB_ROW, CCV_SAT_LOG_XB_COL, CCV_SAT_LOG_GROUP, CCV_SAT_LOG_PASS,
  CCV_SAT_LOG_WINDOWS, CCV_SAT_LOG_LSB_IDX, CCV_SAT_LOG_VALID, CCV_SAT_CORE_CNT_COUNT]
/-- The fields of the register tables of spec chapter 04. -/
def regTab04 : List Fld := regTab04a ++ regTab04b

/- WLT_CTRL: 05_welt.md, R135 -/
def WLT_CTRL_SHADOW_MODE : Fld := ⟨0x00600000, 0, 1, .sh, 0⟩
def WLT_CTRL_SHADOW_SHIFT : Fld := ⟨0x00600000, 1, 5, .sh, 0xc⟩
def WLT_CTRL_CANCEL_MODE : Fld := ⟨0x00600000, 6, 2, .sh, 0⟩
/- WLT_REF_FN: 05_welt.md, R135 -/
def WLT_REF_FN_FN : Fld := ⟨0x00600004, 0, 32, .sh, 0⟩
/- WLT_COMMIT: 05_welt.md, R135 -/
def WLT_COMMIT_COMMIT : Fld := ⟨0x00600008, 0, 1, .wo, 0⟩
/- WLT_DRIFT_CTRL: 05_welt.md, R135 -/
def WLT_DRIFT_CTRL_PERIOD : Fld := ⟨0x0060000C, 0, 16, .sh, 0x3e8⟩
/- WLT_STANDIN_CNT: 05_welt.md, R135 -/
def WLT_STANDIN_CNT_COUNT : Fld := ⟨0x00600100, 0, 32, .ro, 0⟩
/- WLT_SAT_RESCUE_CNT: 05_welt.md, R135 -/
def WLT_SAT_RESCUE_CNT_COUNT : Fld := ⟨0x00600104, 0, 32, .ro, 0⟩
/- WLT_CANCEL_FLAG_CNT: 05_welt.md, R135 -/
def WLT_CANCEL_FLAG_CNT_COUNT : Fld := ⟨0x00600108, 0, 32, .ro, 0⟩
/- WLT_CANCEL_RESCUE_CNT: 05_welt.md, R135 -/
def WLT_CANCEL_RESCUE_CNT_COUNT : Fld := ⟨0x0060010C, 0, 32, .ro, 0⟩
/- WLT_SHADOW_CNT: 05_welt.md, R135 -/
def WLT_SHADOW_CNT_COUNT : Fld := ⟨0x00600110, 0, 32, .ro, 0⟩
/- WLT_SHADOW_FAIL_CNT: 05_welt.md, R135 -/
def WLT_SHADOW_FAIL_CNT_COUNT : Fld := ⟨0x00600114, 0, 32, .ro, 0⟩
/- WLT_OOB_CNT: 05_welt.md, R135 -/
def WLT_OOB_CNT_COUNT : Fld := ⟨0x00600118, 0, 32, .ro, 0⟩
/- WLT_LATE_CNT: 05_welt.md, R135 -/
def WLT_LATE_CNT_COUNT : Fld := ⟨0x0060011C, 0, 32, .ro, 0⟩
/- WLT_CNT_CLR: 05_welt.md, R135 -/
def WLT_CNT_CLR_CLEAR : Fld := ⟨0x00600120, 0, 1, .wo, 0⟩
/- WLT_STORE_USE: 05_welt.md, R135 -/
def WLT_STORE_USE_OUTLIERS : Fld := ⟨0x01000220, 0, 17, .ro, 0⟩
def WLT_STORE_USE_LOWRANK_KIB : Fld := ⟨0x01000220, 17, 11, .ro, 0⟩
/- WLT_CORR_SEL: 05_welt.md, R135 -/
def WLT_CORR_SEL_CLUSTER : Fld := ⟨0x01000240, 0, 3, .rw, 0⟩
def WLT_CORR_SEL_XB_ROW : Fld := ⟨0x01000240, 3, 4, .rw, 0⟩
def WLT_CORR_SEL_XB_COL : Fld := ⟨0x01000240, 7, 3, .rw, 0⟩
def WLT_CORR_SEL_COLUMN : Fld := ⟨0x01000240, 10, 10, .rw, 0⟩
/- WLT_CORR_GAIN: 05_welt.md, R135 -/
def WLT_CORR_GAIN_GAMMA : Fld := ⟨0x01000244, 0, 24, .ro, 0⟩
def WLT_CORR_GAIN_LIMIT : Fld := ⟨0x01000244, 24, 1, .ro, 0⟩
/- WLT_CORR_DRIFT: 05_welt.md, R135 -/
def WLT_CORR_DRIFT_DRIFT : Fld := ⟨0x01000248, 0, 16, .ro, 0⟩
def WLT_CORR_DRIFT_TEMP : Fld := ⟨0x01000248, 16, 8, .ro, 0⟩
def WLT_CORR_DRIFT_LIMIT : Fld := ⟨0x01000248, 24, 1, .ro, 0⟩
/- WLT_SHADOW_LOG0: 05_welt.md, R135 -/
def WLT_SHADOW_LOG0_CLUSTER : Fld := ⟨0x01000260, 0, 3, .ro, 0⟩
def WLT_SHADOW_LOG0_XB_ROW : Fld := ⟨0x01000260, 3, 4, .ro, 0⟩
def WLT_SHADOW_LOG0_XB_COL : Fld := ⟨0x01000260, 7, 3, .ro, 0⟩
def WLT_SHADOW_LOG0_CHANNEL : Fld := ⟨0x01000260, 10, 8, .ro, 0⟩
def WLT_SHADOW_LOG0_TRANSPOSE : Fld := ⟨0x01000260, 18, 1, .ro, 0⟩
def WLT_SHADOW_LOG0_VALID : Fld := ⟨0x01000260, 19, 1, .ro, 0⟩
/- WLT_SHADOW_LOG1: 05_welt.md, R135 -/
def WLT_SHADOW_LOG1_DELTA : Fld := ⟨0x01000264, 0, 32, .ro, 0⟩
def regTab05a : List Fld := [WLT_CTRL_SHADOW_MODE, WLT_CTRL_SHADOW_SHIFT, WLT_CTRL_CANCEL_MODE, WLT_REF_FN_FN,
  WLT_COMMIT_COMMIT, WLT_DRIFT_CTRL_PERIOD, WLT_STANDIN_CNT_COUNT, WLT_SAT_RESCUE_CNT_COUNT,
  WLT_CANCEL_FLAG_CNT_COUNT, WLT_CANCEL_RESCUE_CNT_COUNT, WLT_SHADOW_CNT_COUNT, WLT_SHADOW_FAIL_CNT_COUNT,
  WLT_OOB_CNT_COUNT, WLT_LATE_CNT_COUNT, WLT_CNT_CLR_CLEAR, WLT_STORE_USE_OUTLIERS, WLT_STORE_USE_LOWRANK_KIB,
  WLT_CORR_SEL_CLUSTER, WLT_CORR_SEL_XB_ROW, WLT_CORR_SEL_XB_COL]
def regTab05b : List Fld := [WLT_CORR_SEL_COLUMN, WLT_CORR_GAIN_GAMMA, WLT_CORR_GAIN_LIMIT, WLT_CORR_DRIFT_DRIFT,
  WLT_CORR_DRIFT_TEMP, WLT_CORR_DRIFT_LIMIT, WLT_SHADOW_LOG0_CLUSTER, WLT_SHADOW_LOG0_XB_ROW,
  WLT_SHADOW_LOG0_XB_COL, WLT_SHADOW_LOG0_CHANNEL, WLT_SHADOW_LOG0_TRANSPOSE, WLT_SHADOW_LOG0_VALID,
  WLT_SHADOW_LOG1_DELTA]
/-- The fields of the register tables of spec chapter 05. -/
def regTab05 : List Fld := regTab05a ++ regTab05b

/- ACR_CTRL: 06_accumulation_and_vector.md, R160 -/
def ACR_CTRL_DBG_DRAIN_EN : Fld := ⟨0x00800000, 0, 1, .sh, 0⟩
/- ACR_COMMIT: 06_accumulation_and_vector.md, R160 -/
def ACR_COMMIT_COMMIT : Fld := ⟨0x00800004, 0, 1, .wo, 0⟩
/- ACR_DRAIN_CNT: 06_accumulation_and_vector.md, R160 -/
def ACR_DRAIN_CNT_COUNT : Fld := ⟨0x00800100, 0, 32, .ro, 0⟩
/- ACR_DBG_DRAIN_CNT: 06_accumulation_and_vector.md, R160 -/
def ACR_DBG_DRAIN_CNT_COUNT : Fld := ⟨0x00800104, 0, 32, .ro, 0⟩
/- ACR_BANK_WAIT_CNT: 06_accumulation_and_vector.md, R160 -/
def ACR_BANK_WAIT_CNT_COUNT : Fld := ⟨0x00800108, 0, 32, .ro, 0⟩
/- ACR_PRELOAD_RANGE_CNT: 06_accumulation_and_vector.md, R160 -/
def ACR_PRELOAD_RANGE_CNT_COUNT : Fld := ⟨0x0080010C, 0, 32, .ro, 0⟩
/- VEC_EXPORT_CNT: 06_accumulation_and_vector.md, R160 -/
def VEC_EXPORT_CNT_COUNT : Fld := ⟨0x00800110, 0, 32, .ro, 0⟩
/- VEC_TOPK_CNT: 06_accumulation_and_vector.md, R160 -/
def VEC_TOPK_CNT_COUNT : Fld := ⟨0x00800114, 0, 32, .ro, 0⟩
/- VEC_SAMPLE_CNT: 06_accumulation_and_vector.md, R160 -/
def VEC_SAMPLE_CNT_COUNT : Fld := ⟨0x00800118, 0, 32, .ro, 0⟩
/- VEC_FOLD_WAIT_CNT: 06_accumulation_and_vector.md, R160 -/
def VEC_FOLD_WAIT_CNT_COUNT : Fld := ⟨0x0080011C, 0, 32, .ro, 0⟩
/- ACR_CNT_CLR: 06_accumulation_and_vector.md, R160 -/
def ACR_CNT_CLR_CLEAR : Fld := ⟨0x00800120, 0, 1, .wo, 0⟩
/- ACR_DBG_DRAIN: 06_accumulation_and_vector.md, R160 -/
def ACR_DBG_DRAIN_CLUSTER : Fld := ⟨0x01000410, 0, 3, .wo, 0⟩
def ACR_DBG_DRAIN_BANK : Fld := ⟨0x01000410, 3, 1, .wo, 0⟩
def ACR_DBG_DRAIN_GO : Fld := ⟨0x01000410, 4, 1, .wo, 0⟩
/- ACR_DBG_STATUS: 06_accumulation_and_vector.md, R160 -/
def ACR_DBG_STATUS_BUSY : Fld := ⟨0x01000414, 0, 1, .ro, 0⟩
def ACR_DBG_STATUS_DONE : Fld := ⟨0x01000414, 1, 1, .w1c, 0⟩
def ACR_DBG_STATUS_INCOMPLETE : Fld := ⟨0x01000414, 2, 1, .ro, 0⟩
def ACR_DBG_STATUS_PENDING : Fld := ⟨0x01000414, 3, 5, .ro, 0⟩
/- ACR_DBG_ADDR: 06_accumulation_and_vector.md, R160 -/
def ACR_DBG_ADDR_ADDR : Fld := ⟨0x01000418, 0, 64, .rw, 0⟩
def regTab06a : List Fld := [ACR_CTRL_DBG_DRAIN_EN, ACR_COMMIT_COMMIT, ACR_DRAIN_CNT_COUNT, ACR_DBG_DRAIN_CNT_COUNT,
  ACR_BANK_WAIT_CNT_COUNT, ACR_PRELOAD_RANGE_CNT_COUNT, VEC_EXPORT_CNT_COUNT, VEC_TOPK_CNT_COUNT,
  VEC_SAMPLE_CNT_COUNT, VEC_FOLD_WAIT_CNT_COUNT, ACR_CNT_CLR_CLEAR, ACR_DBG_DRAIN_CLUSTER, ACR_DBG_DRAIN_BANK,
  ACR_DBG_DRAIN_GO, ACR_DBG_STATUS_BUSY, ACR_DBG_STATUS_DONE, ACR_DBG_STATUS_INCOMPLETE, ACR_DBG_STATUS_PENDING,
  ACR_DBG_ADDR_ADDR]
/-- The fields of the register tables of spec chapter 06. -/
def regTab06 : List Fld := regTab06a

/- ATN_CTRL: 07_attention.md, R183 -/
def ATN_CTRL_HUB_MAX_TOKENS : Fld := ⟨0x00900000, 0, 5, .sh, 8⟩
/- ATN_COMMIT: 07_attention.md, R183 -/
def ATN_COMMIT_COMMIT : Fld := ⟨0x00900004, 0, 1, .wo, 0⟩
/- ATN_DEC_CHUNK_CNT: 07_attention.md, R183 -/
def ATN_DEC_CHUNK_CNT_COUNT : Fld := ⟨0x00900100, 0, 32, .ro, 0⟩
/- ATN_PRE_CHUNK_CNT: 07_attention.md, R183 -/
def ATN_PRE_CHUNK_CNT_COUNT : Fld := ⟨0x00900104, 0, 32, .ro, 0⟩
/- ATN_BWD_CHUNK_CNT: 07_attention.md, R183 -/
def ATN_BWD_CHUNK_CNT_COUNT : Fld := ⟨0x00900108, 0, 32, .ro, 0⟩
/- ATN_EMPTY_ROW_CNT: 07_attention.md, R183 -/
def ATN_EMPTY_ROW_CNT_COUNT : Fld := ⟨0x0090010C, 0, 32, .ro, 0⟩
/- ATN_SEG_MERGE_CNT: 07_attention.md, R183 -/
def ATN_SEG_MERGE_CNT_COUNT : Fld := ⟨0x00900110, 0, 32, .ro, 0⟩
/- ATN_FEED_WAIT_CNT: 07_attention.md, R183 -/
def ATN_FEED_WAIT_CNT_COUNT : Fld := ⟨0x00900114, 0, 32, .ro, 0⟩
/- ATN_CNT_CLR: 07_attention.md, R183 -/
def ATN_CNT_CLR_CLEAR : Fld := ⟨0x00900120, 0, 1, .wo, 0⟩
/- ATN_HUB_STATE: 07_attention.md, R183 -/
def ATN_HUB_STATE_BUSY : Fld := ⟨0x02000000, 0, 8, .ro, 0⟩
def ATN_HUB_STATE_WAIT : Fld := ⟨0x02000000, 8, 8, .ro, 0⟩
/- ATN_HUB_BYTES: 07_attention.md, R183 -/
def ATN_HUB_BYTES_COUNT : Fld := ⟨0x02000008, 0, 64, .ro, 0⟩
/- ATN_PRE_STATE: 07_attention.md, R183 -/
def ATN_PRE_STATE_BUSY : Fld := ⟨0x01000600, 0, 1, .ro, 0⟩
def ATN_PRE_STATE_BACKWARD : Fld := ⟨0x01000600, 1, 1, .ro, 0⟩
def ATN_PRE_STATE_WAIT : Fld := ⟨0x01000600, 2, 1, .ro, 0⟩
/- ATN_PRE_CYCLES: 07_attention.md, R183 -/
def ATN_PRE_CYCLES_COUNT : Fld := ⟨0x01000608, 0, 64, .ro, 0⟩
def regTab07a : List Fld := [ATN_CTRL_HUB_MAX_TOKENS, ATN_COMMIT_COMMIT, ATN_DEC_CHUNK_CNT_COUNT,
  ATN_PRE_CHUNK_CNT_COUNT, ATN_BWD_CHUNK_CNT_COUNT, ATN_EMPTY_ROW_CNT_COUNT, ATN_SEG_MERGE_CNT_COUNT,
  ATN_FEED_WAIT_CNT_COUNT, ATN_CNT_CLR_CLEAR, ATN_HUB_STATE_BUSY, ATN_HUB_STATE_WAIT, ATN_HUB_BYTES_COUNT,
  ATN_PRE_STATE_BUSY, ATN_PRE_STATE_BACKWARD, ATN_PRE_STATE_WAIT, ATN_PRE_CYCLES_COUNT]
/-- The fields of the register tables of spec chapter 07. -/
def regTab07 : List Fld := regTab07a

/- KVM_CTRL: 08_kv_pages.md, R204 -/
def KVM_CTRL_EN : Fld := ⟨0x00400000, 0, 1, .rw, 0⟩
def KVM_CTRL_CFG_ERR : Fld := ⟨0x00400000, 1, 1, .w1c, 0⟩
/- KVM_COMMIT: 08_kv_pages.md, R204 -/
def KVM_COMMIT_COMMIT : Fld := ⟨0x00400004, 0, 1, .wo, 0⟩
/- KVM_MIG_CTRL: 08_kv_pages.md, R204 -/
def KVM_MIG_CTRL_RATE : Fld := ⟨0x00400008, 0, 10, .sh, 0xc8⟩
/- KVM_POOL_A_FIRST: 08_kv_pages.md, R204 -/
def KVM_POOL_A_FIRST_PAGE : Fld := ⟨0x00400010, 0, 24, .rw, 0⟩
/- KVM_POOL_A_COUNT: 08_kv_pages.md, R204 -/
def KVM_POOL_A_COUNT_COUNT : Fld := ⟨0x00400014, 0, 25, .rw, 0⟩
/- KVM_POOL_B_FIRST: 08_kv_pages.md, R204 -/
def KVM_POOL_B_FIRST_PAGE : Fld := ⟨0x00400018, 0, 24, .rw, 0⟩
/- KVM_POOL_B_COUNT: 08_kv_pages.md, R204 -/
def KVM_POOL_B_COUNT_COUNT : Fld := ⟨0x0040001C, 0, 25, .rw, 0⟩
/- KVM_TBL_BASE: 08_kv_pages.md, R204 -/
def KVM_TBL_BASE_ADDR : Fld := ⟨0x00400020, 0, 64, .rw, 0⟩
/- KVM_TBL_SIZE: 08_kv_pages.md, R204 -/
def KVM_TBL_SIZE_SIZE_MIB : Fld := ⟨0x00400028, 0, 16, .rw, 0⟩
/- KVM_FREE_A: 08_kv_pages.md, R204 -/
def KVM_FREE_A_COUNT : Fld := ⟨0x00400030, 0, 25, .ro, 0⟩
/- KVM_FREE_B: 08_kv_pages.md, R204 -/
def KVM_FREE_B_COUNT : Fld := ⟨0x00400034, 0, 25, .ro, 0⟩
/- KVM_FN_SEL: 08_kv_pages.md, R204 -/
def KVM_FN_SEL_FN : Fld := ⟨0x00400040, 0, 5, .rw, 0⟩
/- KVM_FN_QUOTA_A: 08_kv_pages.md, R204 -/
def KVM_FN_QUOTA_A_PAGES : Fld := ⟨0x00400044, 0, 25, .sh, 0⟩
/- KVM_FN_QUOTA_B: 08_kv_pages.md, R204 -/
def KVM_FN_QUOTA_B_PAGES : Fld := ⟨0x00400048, 0, 25, .sh, 0⟩
/- KVM_FN_SESSIONS: 08_kv_pages.md, R204 -/
def KVM_FN_SESSIONS_LIMIT : Fld := ⟨0x0040004C, 0, 17, .sh, 0⟩
/- KVM_FN_USE_A: 08_kv_pages.md, R204 -/
def KVM_FN_USE_A_PAGES : Fld := ⟨0x00400050, 0, 25, .ro, 0⟩
/- KVM_FN_USE_B: 08_kv_pages.md, R204 -/
def KVM_FN_USE_B_PAGES : Fld := ⟨0x00400054, 0, 25, .ro, 0⟩
/- KVM_FN_OPEN: 08_kv_pages.md, R204 -/
def KVM_FN_OPEN_SESSIONS : Fld := ⟨0x00400058, 0, 17, .ro, 0⟩
/- KVM_ALLOC_FAIL_CNT: 08_kv_pages.md, R204 -/
def KVM_ALLOC_FAIL_CNT_COUNT : Fld := ⟨0x00400100, 0, 32, .ro, 0⟩
/- KVM_EVICT_CNT: 08_kv_pages.md, R204 -/
def KVM_EVICT_CNT_COUNT : Fld := ⟨0x00400104, 0, 32, .ro, 0⟩
/- KVM_RECOMP_POS_CNT: 08_kv_pages.md, R204 -/
def KVM_RECOMP_POS_CNT_COUNT : Fld := ⟨0x00400108, 0, 32, .ro, 0⟩
/- KVM_SPEC_FREE_CNT: 08_kv_pages.md, R204 -/
def KVM_SPEC_FREE_CNT_COUNT : Fld := ⟨0x0040010C, 0, 32, .ro, 0⟩
/- KVM_DEMOTE_CNT: 08_kv_pages.md, R204 -/
def KVM_DEMOTE_CNT_COUNT : Fld := ⟨0x00400110, 0, 32, .ro, 0⟩
/- KVM_PROMOTE_CNT: 08_kv_pages.md, R204 -/
def KVM_PROMOTE_CNT_COUNT : Fld := ⟨0x00400114, 0, 32, .ro, 0⟩
/- KVM_CLONE_CNT: 08_kv_pages.md, R204 -/
def KVM_CLONE_CNT_COUNT : Fld := ⟨0x00400118, 0, 32, .ro, 0⟩
/- KVM_TTL_EXPIRE_CNT: 08_kv_pages.md, R204 -/
def KVM_TTL_EXPIRE_CNT_COUNT : Fld := ⟨0x0040011C, 0, 32, .ro, 0⟩
/- KVM_CNT_CLR: 08_kv_pages.md, R204 -/
def KVM_CNT_CLR_CLEAR : Fld := ⟨0x00400120, 0, 1, .wo, 0⟩
def regTab08a : List Fld := [KVM_CTRL_EN, KVM_CTRL_CFG_ERR, KVM_COMMIT_COMMIT, KVM_MIG_CTRL_RATE,
  KVM_POOL_A_FIRST_PAGE, KVM_POOL_A_COUNT_COUNT, KVM_POOL_B_FIRST_PAGE, KVM_POOL_B_COUNT_COUNT, KVM_TBL_BASE_ADDR,
  KVM_TBL_SIZE_SIZE_MIB, KVM_FREE_A_COUNT, KVM_FREE_B_COUNT, KVM_FN_SEL_FN, KVM_FN_QUOTA_A_PAGES,
  KVM_FN_QUOTA_B_PAGES, KVM_FN_SESSIONS_LIMIT, KVM_FN_USE_A_PAGES, KVM_FN_USE_B_PAGES, KVM_FN_OPEN_SESSIONS,
  KVM_ALLOC_FAIL_CNT_COUNT]
def regTab08b : List Fld := [KVM_EVICT_CNT_COUNT, KVM_RECOMP_POS_CNT_COUNT, KVM_SPEC_FREE_CNT_COUNT,
  KVM_DEMOTE_CNT_COUNT, KVM_PROMOTE_CNT_COUNT, KVM_CLONE_CNT_COUNT, KVM_TTL_EXPIRE_CNT_COUNT, KVM_CNT_CLR_CLEAR]
/-- The fields of the register tables of spec chapter 08. -/
def regTab08 : List Fld := regTab08a ++ regTab08b

/- LST_CTRL: 09_weights_and_lasting.md, R234 -/
def LST_CTRL_EN : Fld := ⟨0x00500000, 0, 1, .rw, 0⟩
def LST_CTRL_CFG_ERR : Fld := ⟨0x00500000, 1, 1, .w1c, 0⟩
def LST_CTRL_LEHR_EN : Fld := ⟨0x00500000, 2, 1, .sh, 1⟩
/- LST_COMMIT: 09_weights_and_lasting.md, R234 -/
def LST_COMMIT_COMMIT : Fld := ⟨0x00500004, 0, 1, .wo, 0⟩
/- LST_BUDGET: 09_weights_and_lasting.md, R234 -/
def LST_BUDGET_WATTS : Fld := ⟨0x00500008, 0, 8, .sh, 0xb4⟩
def LST_BUDGET_MAX_XB : Fld := ⟨0x00500008, 8, 11, .sh, 0x400⟩
/- LST_VERIFY_CTRL: 09_weights_and_lasting.md, R234 -/
def LST_VERIFY_CTRL_WIDEN : Fld := ⟨0x0050000C, 0, 8, .sh, 0x4b⟩
/- LST_LEHR_CTRL: 09_weights_and_lasting.md, R234 -/
def LST_LEHR_CTRL_PERIOD : Fld := ⟨0x00500010, 0, 16, .sh, 0x258⟩
def LST_LEHR_CTRL_RHO : Fld := ⟨0x00500010, 16, 16, .sh, 0x800⟩
/- LST_LEHR_LIM: 09_weights_and_lasting.md, R234 -/
def LST_LEHR_LIM_COL_TOL : Fld := ⟨0x00500014, 0, 12, .sh, 0x30⟩
def LST_LEHR_LIM_MAX_REFRESH : Fld := ⟨0x00500014, 16, 11, .sh, 0x40⟩
/- LST_TRUST_LOCK: 09_weights_and_lasting.md, R234 -/
def LST_TRUST_LOCK_LOCK : Fld := ⟨0x00500018, 0, 1, .w1s, 0⟩
/- LST_TRUST_SEL: 09_weights_and_lasting.md, R234 -/
def LST_TRUST_SEL_SLOT : Fld := ⟨0x0050001C, 0, 2, .rw, 0⟩
def LST_TRUST_SEL_WORD : Fld := ⟨0x0050001C, 2, 3, .rw, 0⟩
/- LST_TRUST_DATA: 09_weights_and_lasting.md, R234 -/
def LST_TRUST_DATA_KEY : Fld := ⟨0x00500020, 0, 32, .rw, 0⟩
/- LST_OBJ_BASE: 09_weights_and_lasting.md, R234 -/
def LST_OBJ_BASE_ADDR : Fld := ⟨0x00500028, 0, 64, .rw, 0⟩
/- LST_OBJ_SIZE: 09_weights_and_lasting.md, R234 -/
def LST_OBJ_SIZE_GIB : Fld := ⟨0x00500030, 0, 11, .rw, 0⟩
/- LST_EMB_BASE: 09_weights_and_lasting.md, R234 -/
def LST_EMB_BASE_ADDR : Fld := ⟨0x00500038, 0, 64, .rw, 0⟩
/- LST_EMB_SIZE: 09_weights_and_lasting.md, R234 -/
def LST_EMB_SIZE_GIB : Fld := ⟨0x00500040, 0, 8, .rw, 0⟩
/- LST_GEN_STATE: 09_weights_and_lasting.md, R234 -/
def LST_GEN_STATE_CURRENT : Fld := ⟨0x00500048, 0, 16, .ro, 0⟩
def LST_GEN_STATE_OLD : Fld := ⟨0x00500048, 16, 16, .ro, 0⟩
/- LST_SWAP_STATE: 09_weights_and_lasting.md, R234 -/
def LST_SWAP_STATE_PHASE : Fld := ⟨0x0050004C, 0, 3, .ro, 0⟩
def LST_SWAP_STATE_VALID : Fld := ⟨0x0050004C, 3, 1, .ro, 0⟩
def LST_SWAP_STATE_XB_LEFT : Fld := ⟨0x0050004C, 4, 19, .ro, 0⟩
/- LST_OLD_REQ: 09_weights_and_lasting.md, R234 -/
def LST_OLD_REQ_COUNT : Fld := ⟨0x00500050, 0, 32, .ro, 0⟩
/- LST_OBJ_SEL: 09_weights_and_lasting.md, R234 -/
def LST_OBJ_SEL_OBJ : Fld := ⟨0x00500054, 0, 6, .rw, 0⟩
/- LST_OBJ_STATE: 09_weights_and_lasting.md, R234 -/
def LST_OBJ_STATE_STATE : Fld := ⟨0x00500058, 0, 3, .ro, 0⟩
def LST_OBJ_STATE_FN : Fld := ⟨0x00500058, 3, 5, .ro, 0⟩
def LST_OBJ_STATE_ADAPTER : Fld := ⟨0x00500058, 8, 6, .ro, 0⟩
def LST_OBJ_STATE_GEN : Fld := ⟨0x00500058, 16, 16, .ro, 0⟩
/- LST_FN_OBJ_SEL: 09_weights_and_lasting.md, R234 -/
def LST_FN_OBJ_SEL_FN : Fld := ⟨0x0050005C, 0, 5, .rw, 0⟩
/- LST_FN_OBJ_LIMIT: 09_weights_and_lasting.md, R234 -/
def LST_FN_OBJ_LIMIT_MIB : Fld := ⟨0x00500060, 0, 16, .sh, 0⟩
/- LST_FN_OBJ_USE: 09_weights_and_lasting.md, R234 -/
def LST_FN_OBJ_USE_MIB : Fld := ⟨0x00500064, 0, 16, .ro, 0⟩
/- LST_END_SEL: 09_weights_and_lasting.md, R234 -/
def LST_END_SEL_CORE : Fld := ⟨0x00500068, 0, 9, .rw, 0⟩
def LST_END_SEL_CLUSTER : Fld := ⟨0x00500068, 9, 3, .rw, 0⟩
def LST_END_SEL_XB_ROW : Fld := ⟨0x00500068, 12, 4, .rw, 0⟩
def LST_END_SEL_XB_COL : Fld := ⟨0x00500068, 16, 3, .rw, 0⟩
/- LST_END_DATA: 09_weights_and_lasting.md, R234 -/
def LST_END_DATA_COUNT : Fld := ⟨0x0050006C, 0, 24, .ro, 0⟩
def LST_END_DATA_RATED : Fld := ⟨0x0050006C, 24, 1, .ro, 0⟩
def LST_END_DATA_SPARE : Fld := ⟨0x0050006C, 25, 1, .ro, 0⟩
/- LST_RELAST_CNT: 09_weights_and_lasting.md, R234 -/
def LST_RELAST_CNT_COUNT : Fld := ⟨0x00500100, 0, 32, .ro, 0⟩
/- LST_VERIFY_FAIL_CNT: 09_weights_and_lasting.md, R234 -/
def LST_VERIFY_FAIL_CNT_COUNT : Fld := ⟨0x00500104, 0, 32, .ro, 0⟩
/- LST_ROW_SUB_CNT: 09_weights_and_lasting.md, R234 -/
def LST_ROW_SUB_CNT_COUNT : Fld := ⟨0x00500108, 0, 32, .ro, 0⟩
/- LST_COL_SUB_CNT: 09_weights_and_lasting.md, R234 -/
def LST_COL_SUB_CNT_COUNT : Fld := ⟨0x0050010C, 0, 32, .ro, 0⟩
/- LST_XB_SUB_CNT: 09_weights_and_lasting.md, R234 -/
def LST_XB_SUB_CNT_COUNT : Fld := ⟨0x00500110, 0, 32, .ro, 0⟩
/- LST_WATCHDOG_CNT: 09_weights_and_lasting.md, R234 -/
def LST_WATCHDOG_CNT_COUNT : Fld := ⟨0x00500114, 0, 32, .ro, 0⟩
/- LST_LEHR_PROBE_CNT: 09_weights_and_lasting.md, R234 -/
def LST_LEHR_PROBE_CNT_COUNT : Fld := ⟨0x00500118, 0, 32, .ro, 0⟩
/- LST_LEHR_REFRESH_CNT: 09_weights_and_lasting.md, R234 -/
def LST_LEHR_REFRESH_CNT_COUNT : Fld := ⟨0x0050011C, 0, 32, .ro, 0⟩
/- LST_BAD_IMAGE_CNT: 09_weights_and_lasting.md, R234 -/
def LST_BAD_IMAGE_CNT_COUNT : Fld := ⟨0x00500120, 0, 32, .ro, 0⟩
/- LST_CNT_CLR: 09_weights_and_lasting.md, R234 -/
def LST_CNT_CLR_CLEAR : Fld := ⟨0x00500124, 0, 1, .wo, 0⟩
def regTab09a : List Fld := [LST_CTRL_EN, LST_CTRL_CFG_ERR, LST_CTRL_LEHR_EN, LST_COMMIT_COMMIT, LST_BUDGET_WATTS,
  LST_BUDGET_MAX_XB, LST_VERIFY_CTRL_WIDEN, LST_LEHR_CTRL_PERIOD, LST_LEHR_CTRL_RHO, LST_LEHR_LIM_COL_TOL,
  LST_LEHR_LIM_MAX_REFRESH, LST_TRUST_LOCK_LOCK, LST_TRUST_SEL_SLOT, LST_TRUST_SEL_WORD, LST_TRUST_DATA_KEY,
  LST_OBJ_BASE_ADDR, LST_OBJ_SIZE_GIB, LST_EMB_BASE_ADDR, LST_EMB_SIZE_GIB, LST_GEN_STATE_CURRENT]
def regTab09b : List Fld := [LST_GEN_STATE_OLD, LST_SWAP_STATE_PHASE, LST_SWAP_STATE_VALID, LST_SWAP_STATE_XB_LEFT,
  LST_OLD_REQ_COUNT, LST_OBJ_SEL_OBJ, LST_OBJ_STATE_STATE, LST_OBJ_STATE_FN, LST_OBJ_STATE_ADAPTER,
  LST_OBJ_STATE_GEN, LST_FN_OBJ_SEL_FN, LST_FN_OBJ_LIMIT_MIB, LST_FN_OBJ_USE_MIB, LST_END_SEL_CORE,
  LST_END_SEL_CLUSTER, LST_END_SEL_XB_ROW, LST_END_SEL_XB_COL, LST_END_DATA_COUNT, LST_END_DATA_RATED,
  LST_END_DATA_SPARE]
def regTab09c : List Fld := [LST_RELAST_CNT_COUNT, LST_VERIFY_FAIL_CNT_COUNT, LST_ROW_SUB_CNT_COUNT,
  LST_COL_SUB_CNT_COUNT, LST_XB_SUB_CNT_COUNT, LST_WATCHDOG_CNT_COUNT, LST_LEHR_PROBE_CNT_COUNT,
  LST_LEHR_REFRESH_CNT_COUNT, LST_BAD_IMAGE_CNT_COUNT, LST_CNT_CLR_CLEAR]
/-- The fields of the register tables of spec chapter 09. -/
def regTab09 : List Fld := regTab09a ++ regTab09b ++ regTab09c

/- TWS_CTRL: 10_cadence_wheel.md, R264 -/
def TWS_CTRL_RUN : Fld := ⟨0x00100000, 0, 1, .rw, 0⟩
def TWS_CTRL_CFG_ERR : Fld := ⟨0x00100000, 1, 1, .w1c, 0⟩
/- TWS_COMMIT: 10_cadence_wheel.md, R264 -/
def TWS_COMMIT_COMMIT : Fld := ⟨0x00100004, 0, 1, .wo, 0⟩
/- TWS_SLOT_LEN: 10_cadence_wheel.md, R264 -/
def TWS_SLOT_LEN_LEN : Fld := ⟨0x00100008, 0, 11, .rw, 0x20⟩
/- TWS_EPOCH: 10_cadence_wheel.md, R264 -/
def TWS_EPOCH_NS : Fld := ⟨0x00100010, 0, 64, .rw, 0⟩
/- TWS_TIME: 10_cadence_wheel.md, R264 -/
def TWS_TIME_NS : Fld := ⟨0x00100018, 0, 64, .ro, 0⟩
/- TWS_TIME_SET: 10_cadence_wheel.md, R264 -/
def TWS_TIME_SET_NS : Fld := ⟨0x00100020, 0, 64, .wo, 0⟩
/- TWS_SLOT_NOW: 10_cadence_wheel.md, R264 -/
def TWS_SLOT_NOW_SLOT : Fld := ⟨0x00100028, 0, 32, .ro, 0xffffffff⟩
/- TWS_DISC_CTRL: 10_cadence_wheel.md, R264 -/
def TWS_DISC_CTRL_SRC : Fld := ⟨0x0010002C, 0, 2, .sh, 0⟩
def TWS_DISC_CTRL_SLEW_PPM : Fld := ⟨0x0010002C, 8, 8, .sh, 0x64⟩
/- TWS_LOCK_LIMIT: 10_cadence_wheel.md, R264 -/
def TWS_LOCK_LIMIT_LIMIT : Fld := ⟨0x00100030, 0, 16, .sh, 0x7d0⟩
def TWS_LOCK_LIMIT_HOLD_RATE : Fld := ⟨0x00100030, 16, 16, .sh, 0xc8⟩
/- TWS_PPS_DELAY: 10_cadence_wheel.md, R264 -/
def TWS_PPS_DELAY_DELAY : Fld := ⟨0x00100034, 0, 16, .sh, 0⟩
/- TWS_STATUS: 10_cadence_wheel.md, R264 -/
def TWS_STATUS_QUALITY : Fld := ⟨0x00100038, 0, 3, .ro, 0⟩
def TWS_STATUS_TREF_OK : Fld := ⟨0x00100038, 3, 1, .ro, 0⟩
def TWS_STATUS_PPS_OK : Fld := ⟨0x00100038, 4, 1, .ro, 0⟩
def TWS_STATUS_PTP_OK : Fld := ⟨0x00100038, 5, 1, .ro, 0⟩
def TWS_STATUS_STEP_WANTED : Fld := ⟨0x00100038, 6, 1, .ro, 0⟩
def TWS_STATUS_UNLOCKED : Fld := ⟨0x00100038, 7, 1, .ro, 1⟩
def TWS_STATUS_RUNNING : Fld := ⟨0x00100038, 8, 1, .ro, 0⟩
/- TWS_OFFSET: 10_cadence_wheel.md, R264 -/
def TWS_OFFSET_NS : Fld := ⟨0x0010003C, 0, 32, .ro, 0⟩
/- TWS_ERR_EST: 10_cadence_wheel.md, R264 -/
def TWS_ERR_EST_NS : Fld := ⟨0x00100040, 0, 32, .ro, 0xffffffff⟩
/- TWS_EVENT: 10_cadence_wheel.md, R264 -/
def TWS_EVENT_QUALITY_CHG : Fld := ⟨0x00100044, 0, 1, .w1c, 0⟩
def TWS_EVENT_UNLOCK : Fld := ⟨0x00100044, 1, 1, .w1c, 0⟩
def TWS_EVENT_STEP_WANTED : Fld := ⟨0x00100044, 2, 1, .w1c, 0⟩
def TWS_EVENT_PLAN_LATE : Fld := ⟨0x00100044, 3, 1, .w1c, 0⟩
/- TWS_EVENT_EN: 10_cadence_wheel.md, R264 -/
def TWS_EVENT_EN_QUALITY_CHG : Fld := ⟨0x00100048, 0, 1, .rw, 0⟩
def TWS_EVENT_EN_UNLOCK : Fld := ⟨0x00100048, 1, 1, .rw, 0⟩
def TWS_EVENT_EN_STEP_WANTED : Fld := ⟨0x00100048, 2, 1, .rw, 0⟩
def TWS_EVENT_EN_PLAN_LATE : Fld := ⟨0x00100048, 3, 1, .rw, 0⟩
/- TWS_FN_SEL: 10_cadence_wheel.md, R264 -/
def TWS_FN_SEL_FN : Fld := ⟨0x00100050, 0, 5, .rw, 0⟩
/- TWS_FN_SHARE: 10_cadence_wheel.md, R264 -/
def TWS_FN_SHARE_WEIGHT : Fld := ⟨0x00100054, 0, 8, .sh, 0x10⟩
def TWS_FN_SHARE_MAX_CLASS : Fld := ⟨0x00100054, 8, 3, .sh, 0⟩
/- TWS_FN_BURST: 10_cadence_wheel.md, R264 -/
def TWS_FN_BURST_CST : Fld := ⟨0x00100058, 0, 8, .sh, 0x40⟩
def TWS_FN_BURST_MEM : Fld := ⟨0x00100058, 8, 8, .sh, 0x40⟩
def TWS_FN_BURST_FABRIC : Fld := ⟨0x00100058, 16, 8, .sh, 0x40⟩
def TWS_FN_BURST_LINK : Fld := ⟨0x00100058, 24, 8, .sh, 0x40⟩
/- TWS_PLAN_OVERRUN: 10_cadence_wheel.md, R264 -/
def TWS_PLAN_OVERRUN_COUNT : Fld := ⟨0x00100100, 0, 32, .ro, 0⟩
/- TWS_PLAN_LATE_CNT: 10_cadence_wheel.md, R264 -/
def TWS_PLAN_LATE_CNT_COUNT : Fld := ⟨0x00100104, 0, 32, .ro, 0⟩
/- TWS_PAUSE_SLOT_CNT: 10_cadence_wheel.md, R264 -/
def TWS_PAUSE_SLOT_CNT_COUNT : Fld := ⟨0x00100108, 0, 32, .ro, 0⟩
/- TWS_TEST_PAUSE_CNT: 10_cadence_wheel.md, R264 -/
def TWS_TEST_PAUSE_CNT_COUNT : Fld := ⟨0x0010010C, 0, 32, .ro, 0⟩
/- TWS_LATE_TOKEN_CNT: 10_cadence_wheel.md, R264 -/
def TWS_LATE_TOKEN_CNT_COUNT : Fld := ⟨0x00100110, 0, 32, .ro, 0⟩
/- TWS_DEADLINE_MISS_CNT: 10_cadence_wheel.md, R264 -/
def TWS_DEADLINE_MISS_CNT_COUNT : Fld := ⟨0x00100114, 0, 32, .ro, 0⟩
/- TWS_DEAD_CYCLE_CNT: 10_cadence_wheel.md, R264 -/
def TWS_DEAD_CYCLE_CNT_COUNT : Fld := ⟨0x00100118, 0, 32, .ro, 0⟩
/- TWS_HOLDOVER_CNT: 10_cadence_wheel.md, R264 -/
def TWS_HOLDOVER_CNT_COUNT : Fld := ⟨0x0010011C, 0, 32, .ro, 0⟩
/- TWS_CNT_CLR: 10_cadence_wheel.md, R264 -/
def TWS_CNT_CLR_CLEAR : Fld := ⟨0x00100120, 0, 1, .wo, 0⟩
def regTab10a : List Fld := [TWS_CTRL_RUN, TWS_CTRL_CFG_ERR, TWS_COMMIT_COMMIT, TWS_SLOT_LEN_LEN, TWS_EPOCH_NS,
  TWS_TIME_NS, TWS_TIME_SET_NS, TWS_SLOT_NOW_SLOT, TWS_DISC_CTRL_SRC, TWS_DISC_CTRL_SLEW_PPM, TWS_LOCK_LIMIT_LIMIT,
  TWS_LOCK_LIMIT_HOLD_RATE, TWS_PPS_DELAY_DELAY, TWS_STATUS_QUALITY, TWS_STATUS_TREF_OK, TWS_STATUS_PPS_OK,
  TWS_STATUS_PTP_OK, TWS_STATUS_STEP_WANTED, TWS_STATUS_UNLOCKED, TWS_STATUS_RUNNING]
def regTab10b : List Fld := [TWS_OFFSET_NS, TWS_ERR_EST_NS, TWS_EVENT_QUALITY_CHG, TWS_EVENT_UNLOCK,
  TWS_EVENT_STEP_WANTED, TWS_EVENT_PLAN_LATE, TWS_EVENT_EN_QUALITY_CHG, TWS_EVENT_EN_UNLOCK,
  TWS_EVENT_EN_STEP_WANTED, TWS_EVENT_EN_PLAN_LATE, TWS_FN_SEL_FN, TWS_FN_SHARE_WEIGHT, TWS_FN_SHARE_MAX_CLASS,
  TWS_FN_BURST_CST, TWS_FN_BURST_MEM, TWS_FN_BURST_FABRIC, TWS_FN_BURST_LINK, TWS_PLAN_OVERRUN_COUNT,
  TWS_PLAN_LATE_CNT_COUNT, TWS_PAUSE_SLOT_CNT_COUNT]
def regTab10c : List Fld := [TWS_TEST_PAUSE_CNT_COUNT, TWS_LATE_TOKEN_CNT_COUNT, TWS_DEADLINE_MISS_CNT_COUNT,
  TWS_DEAD_CYCLE_CNT_COUNT, TWS_HOLDOVER_CNT_COUNT, TWS_CNT_CLR_CLEAR]
/-- The fields of the register tables of spec chapter 10. -/
def regTab10 : List Fld := regTab10a ++ regTab10b ++ regTab10c

/- HIF_LINK: 12_host_interface.md, R327 -/
def HIF_LINK_SPEED : Fld := ⟨0x00000000, 0, 4, .ro, 0⟩
def HIF_LINK_WIDTH : Fld := ⟨0x00000000, 4, 5, .ro, 0⟩
def HIF_LINK_FLIT : Fld := ⟨0x00000000, 9, 1, .ro, 0⟩
def HIF_LINK_NUMVF : Fld := ⟨0x00000000, 10, 5, .ro, 0⟩
/- HIF_CTRL: 12_host_interface.md, R327 -/
def HIF_CTRL_SERVE_RESET : Fld := ⟨0x00000008, 0, 1, .w1s, 0⟩
/- HIF_COMMIT: 12_host_interface.md, R327 -/
def HIF_COMMIT_COMMIT : Fld := ⟨0x00000010, 0, 1, .wo, 0⟩
/- HIF_FN_SEL: 12_host_interface.md, R327 -/
def HIF_FN_SEL_FN : Fld := ⟨0x00000100, 0, 5, .rw, 0⟩
/- HIF_FN_QUEUES: 12_host_interface.md, R327 -/
def HIF_FN_QUEUES_FIRST : Fld := ⟨0x00000104, 0, 8, .rw, 0⟩
def HIF_FN_QUEUES_COUNT : Fld := ⟨0x00000104, 8, 9, .rw, 0⟩
def HIF_FN_QUEUES_ERR : Fld := ⟨0x00000104, 31, 1, .w1c, 0⟩
/- HIF_FN_QOS: 12_host_interface.md, R327 -/
def HIF_FN_QOS_TAGS : Fld := ⟨0x00000108, 0, 10, .sh, 0x40⟩
def HIF_FN_QOS_FETCH : Fld := ⟨0x00000108, 12, 4, .sh, 8⟩
/- HIF_FN_RESET: 12_host_interface.md, R327 -/
def HIF_FN_RESET_GO : Fld := ⟨0x0000010C, 0, 1, .wo, 0⟩
def HIF_FN_RESET_KEEP : Fld := ⟨0x0000010C, 1, 1, .wo, 0⟩
/- HIF_FN_STATE: 12_host_interface.md, R327 -/
def HIF_FN_STATE_STATE : Fld := ⟨0x00000110, 0, 2, .ro, 0⟩
def HIF_FN_STATE_RESETS : Fld := ⟨0x00000110, 16, 16, .ro, 0⟩
/- HIF_EVT_VEC: 12_host_interface.md, R327 -/
def HIF_EVT_VEC_TWS_VEC : Fld := ⟨0x00000200, 0, 6, .rw, 0⟩
def HIF_EVT_VEC_TWS_EN : Fld := ⟨0x00000200, 7, 1, .rw, 0⟩
def HIF_EVT_VEC_SMS_VEC : Fld := ⟨0x00000200, 8, 6, .rw, 0⟩
def HIF_EVT_VEC_SMS_EN : Fld := ⟨0x00000200, 15, 1, .rw, 0⟩
def HIF_EVT_VEC_PTM_VEC : Fld := ⟨0x00000200, 16, 6, .rw, 0⟩
def HIF_EVT_VEC_PTM_EN : Fld := ⟨0x00000200, 23, 1, .rw, 0⟩
def HIF_EVT_VEC_MBX_VEC : Fld := ⟨0x00000200, 24, 6, .rw, 0⟩
def HIF_EVT_VEC_MBX_EN : Fld := ⟨0x00000200, 31, 1, .rw, 0⟩
/- HIF_BAD_ACCESS_CNT: 12_host_interface.md, R327 -/
def HIF_BAD_ACCESS_CNT_COUNT : Fld := ⟨0x00000300, 0, 32, .ro, 0⟩
/- HIF_DB_ERR_CNT: 12_host_interface.md, R327 -/
def HIF_DB_ERR_CNT_COUNT : Fld := ⟨0x00000304, 0, 32, .ro, 0⟩
/- HIF_FETCH_ERR_CNT: 12_host_interface.md, R327 -/
def HIF_FETCH_ERR_CNT_COUNT : Fld := ⟨0x00000308, 0, 32, .ro, 0⟩
/- HIF_CPL_TIMEOUT_CNT: 12_host_interface.md, R327 -/
def HIF_CPL_TIMEOUT_CNT_COUNT : Fld := ⟨0x0000030C, 0, 32, .ro, 0⟩
/- HIF_TQ_WAIT_CNT: 12_host_interface.md, R327 -/
def HIF_TQ_WAIT_CNT_COUNT : Fld := ⟨0x00000310, 0, 32, .ro, 0⟩
/- HIF_FLR_CNT: 12_host_interface.md, R327 -/
def HIF_FLR_CNT_COUNT : Fld := ⟨0x00000314, 0, 32, .ro, 0⟩
/- HIF_CNT_CLR: 12_host_interface.md, R327 -/
def HIF_CNT_CLR_CLEAR : Fld := ⟨0x00000320, 0, 1, .wo, 0⟩
/- HIF_Q_CTRL: 12_host_interface.md, R327 -/
def HIF_Q_CTRL_EN : Fld := ⟨0x00001000, 0, 1, .rw, 0⟩
/- HIF_Q_SIZE: 12_host_interface.md, R327 -/
def HIF_Q_SIZE_SQ_LOG2 : Fld := ⟨0x00001004, 0, 5, .rw, 0⟩
def HIF_Q_SIZE_CQ_LOG2 : Fld := ⟨0x00001004, 8, 5, .rw, 0⟩
def HIF_Q_SIZE_TQ_LOG2 : Fld := ⟨0x00001004, 16, 5, .rw, 0⟩
/- HIF_Q_SQ_BASE: 12_host_interface.md, R327 -/
def HIF_Q_SQ_BASE_ADDR : Fld := ⟨0x00001008, 0, 64, .rw, 0⟩
/- HIF_Q_CQ_BASE: 12_host_interface.md, R327 -/
def HIF_Q_CQ_BASE_ADDR : Fld := ⟨0x00001010, 0, 64, .rw, 0⟩
/- HIF_Q_TQ_BASE: 12_host_interface.md, R327 -/
def HIF_Q_TQ_BASE_ADDR : Fld := ⟨0x00001018, 0, 64, .rw, 0⟩
/- HIF_Q_STAT_ADDR: 12_host_interface.md, R327 -/
def HIF_Q_STAT_ADDR_ADDR : Fld := ⟨0x00001020, 0, 64, .rw, 0⟩
/- HIF_Q_VEC: 12_host_interface.md, R327 -/
def HIF_Q_VEC_CQ_VEC : Fld := ⟨0x00001028, 0, 6, .rw, 0⟩
def HIF_Q_VEC_CQ_EN : Fld := ⟨0x00001028, 7, 1, .rw, 0⟩
def HIF_Q_VEC_TQ_VEC : Fld := ⟨0x00001028, 8, 6, .rw, 0⟩
def HIF_Q_VEC_TQ_EN : Fld := ⟨0x00001028, 15, 1, .rw, 0⟩
/- HIF_Q_MOD: 12_host_interface.md, R327 -/
def HIF_Q_MOD_CNT : Fld := ⟨0x0000102C, 0, 8, .rw, 1⟩
def HIF_Q_MOD_TIME : Fld := ⟨0x0000102C, 8, 16, .rw, 0⟩
/- HIF_Q_STATUS: 12_host_interface.md, R327 -/
def HIF_Q_STATUS_STATE : Fld := ⟨0x00001030, 0, 2, .ro, 0⟩
def HIF_Q_STATUS_DB_ERR : Fld := ⟨0x00001030, 2, 1, .w1c, 0⟩
def HIF_Q_STATUS_FETCH_ERR : Fld := ⟨0x00001030, 3, 1, .w1c, 0⟩
def HIF_Q_STATUS_CFG_ERR : Fld := ⟨0x00001030, 4, 1, .w1c, 0⟩
def HIF_Q_STATUS_OWNER : Fld := ⟨0x00001030, 8, 5, .ro, 0⟩
def HIF_Q_STATUS_ASSIGNED : Fld := ⟨0x00001030, 13, 1, .ro, 0⟩
/- HIF_Q_SQ_HEAD: 12_host_interface.md, R327 -/
def HIF_Q_SQ_HEAD_INDEX : Fld := ⟨0x00001034, 0, 32, .ro, 0⟩
/- HIF_Q_CQ_TAIL: 12_host_interface.md, R327 -/
def HIF_Q_CQ_TAIL_INDEX : Fld := ⟨0x00001038, 0, 32, .ro, 0⟩
/- HIF_Q_TQ_TAIL: 12_host_interface.md, R327 -/
def HIF_Q_TQ_TAIL_INDEX : Fld := ⟨0x0000103C, 0, 32, .ro, 0⟩
/- HIF_VF_ID: 12_host_interface.md, R327 -/
def HIF_VF_ID_FN : Fld := ⟨0x04000000, 0, 5, .ro, 0⟩
def HIF_VF_ID_QCOUNT : Fld := ⟨0x04000000, 8, 5, .ro, 0⟩
/- HIF_VF_CTRL: 12_host_interface.md, R327 -/
def HIF_VF_CTRL_SERVE_RESET : Fld := ⟨0x04000004, 0, 1, .w1s, 0⟩
/- HIF_VF_STATE: 12_host_interface.md, R327 -/
def HIF_VF_STATE_STATE : Fld := ⟨0x04000008, 0, 2, .ro, 1⟩
/- HIF_VF_EVT_VEC: 12_host_interface.md, R327 -/
def HIF_VF_EVT_VEC_MBX_VEC : Fld := ⟨0x0400000C, 0, 6, .rw, 0⟩
def HIF_VF_EVT_VEC_MBX_EN : Fld := ⟨0x0400000C, 7, 1, .rw, 0⟩
def HIF_VF_EVT_VEC_HIF_VEC : Fld := ⟨0x0400000C, 8, 6, .rw, 0⟩
def HIF_VF_EVT_VEC_HIF_EN : Fld := ⟨0x0400000C, 15, 1, .rw, 0⟩
def regTab12a : List Fld := [HIF_LINK_SPEED, HIF_LINK_WIDTH, HIF_LINK_FLIT, HIF_LINK_NUMVF, HIF_CTRL_SERVE_RESET,
  HIF_COMMIT_COMMIT, HIF_FN_SEL_FN, HIF_FN_QUEUES_FIRST, HIF_FN_QUEUES_COUNT, HIF_FN_QUEUES_ERR, HIF_FN_QOS_TAGS,
  HIF_FN_QOS_FETCH, HIF_FN_RESET_GO, HIF_FN_RESET_KEEP, HIF_FN_STATE_STATE, HIF_FN_STATE_RESETS,
  HIF_EVT_VEC_TWS_VEC, HIF_EVT_VEC_TWS_EN, HIF_EVT_VEC_SMS_VEC, HIF_EVT_VEC_SMS_EN]
def regTab12b : List Fld := [HIF_EVT_VEC_PTM_VEC, HIF_EVT_VEC_PTM_EN, HIF_EVT_VEC_MBX_VEC, HIF_EVT_VEC_MBX_EN,
  HIF_BAD_ACCESS_CNT_COUNT, HIF_DB_ERR_CNT_COUNT, HIF_FETCH_ERR_CNT_COUNT, HIF_CPL_TIMEOUT_CNT_COUNT,
  HIF_TQ_WAIT_CNT_COUNT, HIF_FLR_CNT_COUNT, HIF_CNT_CLR_CLEAR, HIF_Q_CTRL_EN, HIF_Q_SIZE_SQ_LOG2,
  HIF_Q_SIZE_CQ_LOG2, HIF_Q_SIZE_TQ_LOG2, HIF_Q_SQ_BASE_ADDR, HIF_Q_CQ_BASE_ADDR, HIF_Q_TQ_BASE_ADDR,
  HIF_Q_STAT_ADDR_ADDR, HIF_Q_VEC_CQ_VEC]
def regTab12c : List Fld := [HIF_Q_VEC_CQ_EN, HIF_Q_VEC_TQ_VEC, HIF_Q_VEC_TQ_EN, HIF_Q_MOD_CNT, HIF_Q_MOD_TIME,
  HIF_Q_STATUS_STATE, HIF_Q_STATUS_DB_ERR, HIF_Q_STATUS_FETCH_ERR, HIF_Q_STATUS_CFG_ERR, HIF_Q_STATUS_OWNER,
  HIF_Q_STATUS_ASSIGNED, HIF_Q_SQ_HEAD_INDEX, HIF_Q_CQ_TAIL_INDEX, HIF_Q_TQ_TAIL_INDEX, HIF_VF_ID_FN,
  HIF_VF_ID_QCOUNT, HIF_VF_CTRL_SERVE_RESET, HIF_VF_STATE_STATE, HIF_VF_EVT_VEC_MBX_VEC, HIF_VF_EVT_VEC_MBX_EN]
def regTab12d : List Fld := [HIF_VF_EVT_VEC_HIF_VEC, HIF_VF_EVT_VEC_HIF_EN]
/-- The fields of the register tables of spec chapter 12. -/
def regTab12 : List Fld := regTab12a ++ regTab12b ++ regTab12c ++ regTab12d

/- LNK_CTRL: 13_links.md, R352 -/
def LNK_CTRL_EN : Fld := ⟨0x00A00000, 0, 1, .rw, 0⟩
def LNK_CTRL_CFG_ERR : Fld := ⟨0x00A00000, 1, 1, .w1c, 0⟩
/- LNK_TORUS: 13_links.md, R352 -/
def LNK_TORUS_DIM_X : Fld := ⟨0x00A00008, 0, 4, .rw, 0⟩
def LNK_TORUS_DIM_Y : Fld := ⟨0x00A00008, 4, 4, .rw, 0⟩
def LNK_TORUS_DIM_Z : Fld := ⟨0x00A00008, 8, 4, .rw, 0⟩
/- LNK_MODULE: 13_links.md, R352 -/
def LNK_MODULE_NUM : Fld := ⟨0x00A0000C, 0, 12, .rw, 0⟩
/- LNK_PART: 13_links.md, R352 -/
def LNK_PART_ORIGIN : Fld := ⟨0x00A00010, 0, 12, .rw, 0⟩
def LNK_PART_EXT : Fld := ⟨0x00A00010, 12, 12, .rw, 0⟩
/- LNK_PART_ID: 13_links.md, R352 -/
def LNK_PART_ID_PART : Fld := ⟨0x00A00014, 0, 16, .rw, 0⟩
/- LNK_PART_POS: 13_links.md, R352 -/
def LNK_PART_POS_POS : Fld := ⟨0x00A00018, 0, 12, .ro, 0⟩
def LNK_PART_POS_HOME : Fld := ⟨0x00A00018, 12, 1, .ro, 0⟩
def LNK_PART_POS_ROUTES_UP : Fld := ⟨0x00A00018, 13, 1, .ro, 0⟩
/- LNK_Pp_STATUS: 13_links.md, R352 -/
def LNK_Pp_STATUS_STATE : Fld := ⟨0x00A00040, 0, 3, .ro, 0⟩
def LNK_Pp_STATUS_NEIGHBOUR : Fld := ⟨0x00A00040, 4, 12, .ro, 0⟩
def LNK_Pp_STATUS_LAT_NS : Fld := ⟨0x00A00040, 16, 16, .ro, 0⟩
/- LNK_Pp_REPLAY: 13_links.md, R352 -/
def LNK_Pp_REPLAY_COUNT : Fld := ⟨0x00A00044, 0, 32, .ro, 0⟩
/- LNK_Pp_DOWN: 13_links.md, R352 -/
def LNK_Pp_DOWN_COUNT : Fld := ⟨0x00A00048, 0, 32, .ro, 0⟩
/- LNK_Pp_CRC_ERR: 13_links.md, R352 -/
def LNK_Pp_CRC_ERR_COUNT : Fld := ⟨0x00A0004C, 0, 32, .ro, 0⟩
/- LNK_MSG_TX_CNT: 13_links.md, R352 -/
def LNK_MSG_TX_CNT_COUNT : Fld := ⟨0x00A00100, 0, 32, .ro, 0⟩
/- LNK_MSG_RX_CNT: 13_links.md, R352 -/
def LNK_MSG_RX_CNT_COUNT : Fld := ⟨0x00A00104, 0, 32, .ro, 0⟩
/- LNK_MSG_DROP_CNT: 13_links.md, R352 -/
def LNK_MSG_DROP_CNT_COUNT : Fld := ⟨0x00A00108, 0, 32, .ro, 0⟩
/- LNK_WIN_FAULT_CNT: 13_links.md, R352 -/
def LNK_WIN_FAULT_CNT_COUNT : Fld := ⟨0x00A0010C, 0, 32, .ro, 0⟩
/- LNK_CNT_CLR: 13_links.md, R352 -/
def LNK_CNT_CLR_CLEAR : Fld := ⟨0x00A00120, 0, 1, .wo, 0⟩
/- LNK_Ss_CTRL: 13_links.md, R352 -/
def LNK_Ss_CTRL_EN : Fld := ⟨0x00A00200, 0, 1, .rw, 0⟩
def LNK_Ss_CTRL_PFC_PRIO : Fld := ⟨0x00A00200, 1, 3, .rw, 3⟩
def LNK_Ss_CTRL_PFC_EN : Fld := ⟨0x00A00200, 4, 1, .rw, 0⟩
def LNK_Ss_CTRL_VLAN_EN : Fld := ⟨0x00A00200, 5, 1, .rw, 0⟩
def LNK_Ss_CTRL_IPV6 : Fld := ⟨0x00A00200, 6, 1, .rw, 0⟩
def LNK_Ss_CTRL_DSCP : Fld := ⟨0x00A00200, 7, 6, .rw, 0x1a⟩
/- LNK_Ss_STATUS: 13_links.md, R352 -/
def LNK_Ss_STATUS_LINK_UP : Fld := ⟨0x00A00204, 0, 1, .ro, 0⟩
/- LNK_Ss_MAC: 13_links.md, R352 -/
def LNK_Ss_MAC_MAC : Fld := ⟨0x00A00208, 0, 48, .rw, 0⟩
/- LNK_Ss_IP: 13_links.md, R352 -/
def LNK_Ss_IP_IP : Fld := ⟨0x00A00210, 0, 128, .rw, 0⟩
/- LNK_Ss_VLAN: 13_links.md, R352 -/
def LNK_Ss_VLAN_VID : Fld := ⟨0x00A00220, 0, 12, .rw, 0⟩
def LNK_Ss_VLAN_PCP : Fld := ⟨0x00A00220, 13, 3, .rw, 0⟩
/- LNK_Ss_QP_SEL: 13_links.md, R352 -/
def LNK_Ss_QP_SEL_QP : Fld := ⟨0x00A00240, 0, 6, .rw, 0⟩
/- LNK_Ss_QP_CTRL: 13_links.md, R352 -/
def LNK_Ss_QP_CTRL_STATE : Fld := ⟨0x00A00244, 0, 2, .rw, 0⟩
def LNK_Ss_QP_CTRL_OWNER : Fld := ⟨0x00A00244, 2, 5, .rw, 0⟩
def LNK_Ss_QP_CTRL_MTU : Fld := ⟨0x00A00244, 7, 2, .rw, 3⟩
def LNK_Ss_QP_CTRL_RETRY : Fld := ⟨0x00A00244, 9, 3, .rw, 7⟩
def LNK_Ss_QP_CTRL_TIMEOUT : Fld := ⟨0x00A00244, 12, 5, .rw, 0xe⟩
/- LNK_Ss_QP_DQPN: 13_links.md, R352 -/
def LNK_Ss_QP_DQPN_QPN : Fld := ⟨0x00A00248, 0, 24, .rw, 0⟩
/- LNK_Ss_QP_PSN: 13_links.md, R352 -/
def LNK_Ss_QP_PSN_PSN : Fld := ⟨0x00A0024C, 0, 24, .rw, 0⟩
/- LNK_Ss_QP_DMAC: 13_links.md, R352 -/
def LNK_Ss_QP_DMAC_MAC : Fld := ⟨0x00A00250, 0, 48, .rw, 0⟩
/- LNK_Ss_QP_DIP: 13_links.md, R352 -/
def LNK_Ss_QP_DIP_IP : Fld := ⟨0x00A00258, 0, 128, .rw, 0⟩
/- LNK_Ss_QP_ERR: 13_links.md, R352 -/
def LNK_Ss_QP_ERR_CAUSE : Fld := ⟨0x00A00268, 0, 3, .ro, 0⟩
/- LNK_Ss_READ_BYTES: 13_links.md, R352 -/
def LNK_Ss_READ_BYTES_COUNT : Fld := ⟨0x00A00280, 0, 64, .ro, 0⟩
/- LNK_Ss_CNP_CNT: 13_links.md, R352 -/
def LNK_Ss_CNP_CNT_COUNT : Fld := ⟨0x00A00288, 0, 32, .ro, 0⟩
/- LNK_Ss_RETRY_CNT: 13_links.md, R352 -/
def LNK_Ss_RETRY_CNT_COUNT : Fld := ⟨0x00A0028C, 0, 32, .ro, 0⟩
/- LNK_Ss_DISCARD_CNT: 13_links.md, R352 -/
def LNK_Ss_DISCARD_CNT_COUNT : Fld := ⟨0x00A00290, 0, 32, .ro, 0⟩
/- LNK_PTP_CTRL: 13_links.md, R352 -/
def LNK_PTP_CTRL_EN : Fld := ⟨0x00A00400, 0, 1, .rw, 0⟩
def LNK_PTP_CTRL_PORT : Fld := ⟨0x00A00400, 1, 2, .rw, 0⟩
def LNK_PTP_CTRL_TRANSPORT : Fld := ⟨0x00A00400, 3, 2, .rw, 0⟩
def LNK_PTP_CTRL_DOMAIN : Fld := ⟨0x00A00400, 8, 8, .rw, 0⟩
/- LNK_PTP_ASYM: 13_links.md, R352 -/
def LNK_PTP_ASYM_NS : Fld := ⟨0x00A00404, 0, 32, .rw, 0⟩
/- LNK_PTP_MASTER: 13_links.md, R352 -/
def LNK_PTP_MASTER_ID : Fld := ⟨0x00A00408, 0, 64, .ro, 0⟩
/- LNK_PTP_SYNC_CNT: 13_links.md, R352 -/
def LNK_PTP_SYNC_CNT_COUNT : Fld := ⟨0x00A00410, 0, 32, .ro, 0⟩
def regTab13a : List Fld := [LNK_CTRL_EN, LNK_CTRL_CFG_ERR, LNK_TORUS_DIM_X, LNK_TORUS_DIM_Y, LNK_TORUS_DIM_Z,
  LNK_MODULE_NUM, LNK_PART_ORIGIN, LNK_PART_EXT, LNK_PART_ID_PART, LNK_PART_POS_POS, LNK_PART_POS_HOME,
  LNK_PART_POS_ROUTES_UP, LNK_Pp_STATUS_STATE, LNK_Pp_STATUS_NEIGHBOUR, LNK_Pp_STATUS_LAT_NS, LNK_Pp_REPLAY_COUNT,
  LNK_Pp_DOWN_COUNT, LNK_Pp_CRC_ERR_COUNT, LNK_MSG_TX_CNT_COUNT, LNK_MSG_RX_CNT_COUNT]
def regTab13b : List Fld := [LNK_MSG_DROP_CNT_COUNT, LNK_WIN_FAULT_CNT_COUNT, LNK_CNT_CLR_CLEAR, LNK_Ss_CTRL_EN,
  LNK_Ss_CTRL_PFC_PRIO, LNK_Ss_CTRL_PFC_EN, LNK_Ss_CTRL_VLAN_EN, LNK_Ss_CTRL_IPV6, LNK_Ss_CTRL_DSCP,
  LNK_Ss_STATUS_LINK_UP, LNK_Ss_MAC_MAC, LNK_Ss_IP_IP, LNK_Ss_VLAN_VID, LNK_Ss_VLAN_PCP, LNK_Ss_QP_SEL_QP, LNK_Ss_QP_CTRL_STATE,
  LNK_Ss_QP_CTRL_OWNER, LNK_Ss_QP_CTRL_MTU, LNK_Ss_QP_CTRL_RETRY, LNK_Ss_QP_CTRL_TIMEOUT, LNK_Ss_QP_DQPN_QPN]
def regTab13c : List Fld := [LNK_Ss_QP_PSN_PSN, LNK_Ss_QP_DMAC_MAC, LNK_Ss_QP_DIP_IP, LNK_Ss_QP_ERR_CAUSE,
  LNK_Ss_READ_BYTES_COUNT, LNK_Ss_CNP_CNT_COUNT, LNK_Ss_RETRY_CNT_COUNT, LNK_Ss_DISCARD_CNT_COUNT, LNK_PTP_CTRL_EN,
  LNK_PTP_CTRL_PORT, LNK_PTP_CTRL_TRANSPORT, LNK_PTP_CTRL_DOMAIN, LNK_PTP_ASYM_NS, LNK_PTP_MASTER_ID,
  LNK_PTP_SYNC_CNT_COUNT]
/-- The fields of the register tables of spec chapter 13. -/
def regTab13 : List Fld := regTab13a ++ regTab13b ++ regTab13c

/- CPX_FW_STATUS: 14_control_and_sync.md, R371 -/
def CPX_FW_STATUS_STAGE : Fld := ⟨0x00B00000, 0, 3, .ro, 0⟩
def CPX_FW_STATUS_SLOT : Fld := ⟨0x00B00000, 3, 1, .ro, 0⟩
def CPX_FW_STATUS_CORES_UP : Fld := ⟨0x00B00000, 4, 4, .ro, 0⟩
def CPX_FW_STATUS_RESTARTS : Fld := ⟨0x00B00000, 16, 16, .ro, 0⟩
/- CPX_CTRL: 14_control_and_sync.md, R371 -/
def CPX_CTRL_DBG_EN : Fld := ⟨0x00B00004, 0, 1, .sh, 0⟩
def CPX_CTRL_HANG_MODE : Fld := ⟨0x00B00004, 1, 1, .sh, 0⟩
/- CPX_COMMIT: 14_control_and_sync.md, R371 -/
def CPX_COMMIT_COMMIT : Fld := ⟨0x00B00008, 0, 1, .wo, 0⟩
/- CPX_BAR_TIMEOUT: 14_control_and_sync.md, R371 -/
def CPX_BAR_TIMEOUT_TICKS : Fld := ⟨0x00B0000C, 0, 16, .sh, 0x1000⟩
/- CPX_DBG_ADDR: 14_control_and_sync.md, R371 -/
def CPX_DBG_ADDR_ADDR : Fld := ⟨0x00B00010, 0, 64, .rw, 0⟩
/- CPX_DBG_DATA: 14_control_and_sync.md, R371 -/
def CPX_DBG_DATA_DATA : Fld := ⟨0x00B00018, 0, 32, .ro, 0⟩
/- CPX_DBG_STATUS: 14_control_and_sync.md, R371 -/
def CPX_DBG_STATUS_REFUSED : Fld := ⟨0x00B0001C, 0, 1, .w1c, 0⟩
/- CPX_BAR_OVERRUN_CNT: 14_control_and_sync.md, R371 -/
def CPX_BAR_OVERRUN_CNT_COUNT : Fld := ⟨0x00B00100, 0, 32, .ro, 0⟩
/- CPX_BAR_HANG_CNT: 14_control_and_sync.md, R371 -/
def CPX_BAR_HANG_CNT_COUNT : Fld := ⟨0x00B00104, 0, 32, .ro, 0⟩
/- CPX_BAR_FORCE_CNT: 14_control_and_sync.md, R371 -/
def CPX_BAR_FORCE_CNT_COUNT : Fld := ⟨0x00B00108, 0, 32, .ro, 0⟩
/- CPX_MBX_SENT_CNT: 14_control_and_sync.md, R371 -/
def CPX_MBX_SENT_CNT_COUNT : Fld := ⟨0x00B0010C, 0, 32, .ro, 0⟩
/- CPX_MBX_ABORT_CNT: 14_control_and_sync.md, R371 -/
def CPX_MBX_ABORT_CNT_COUNT : Fld := ⟨0x00B00110, 0, 32, .ro, 0⟩
/- CPX_SEQ_FAULT_CNT: 14_control_and_sync.md, R371 -/
def CPX_SEQ_FAULT_CNT_COUNT : Fld := ⟨0x00B00114, 0, 32, .ro, 0⟩
/- CPX_CNT_CLR: 14_control_and_sync.md, R371 -/
def CPX_CNT_CLR_CLEAR : Fld := ⟨0x00B00120, 0, 1, .wo, 0⟩
/- CPX_SEQ_STATE: 14_control_and_sync.md, R371 -/
def CPX_SEQ_STATE_STATE : Fld := ⟨0x01000800, 0, 2, .ro, 0⟩
def CPX_SEQ_STATE_JOB : Fld := ⟨0x01000800, 16, 16, .ro, 0⟩
/- CPX_SEQ_LAUNCH: 14_control_and_sync.md, R371 -/
def CPX_SEQ_LAUNCH_SLOT : Fld := ⟨0x01000804, 0, 32, .ro, 0xffffffff⟩
/- CPX_EQ_BUSY: 14_control_and_sync.md, R371 -/
def CPX_EQ_BUSY_BUSY : Fld := ⟨0x01000808, 0, 16, .ro, 0⟩
def CPX_EQ_BUSY_HELD : Fld := ⟨0x01000808, 16, 16, .ro, 0⟩
/- CPX_BAR_SEL: 14_control_and_sync.md, R371 -/
def CPX_BAR_SEL_BAR : Fld := ⟨0x01000810, 0, 6, .rw, 0⟩
/- CPX_BAR_STATE0: 14_control_and_sync.md, R371 -/
def CPX_BAR_STATE0_ARRIVED : Fld := ⟨0x01000814, 0, 16, .ro, 0⟩
def CPX_BAR_STATE0_EARLY : Fld := ⟨0x01000814, 16, 16, .ro, 0⟩
/- CPX_BAR_STATE1: 14_control_and_sync.md, R371 -/
def CPX_BAR_STATE1_COUNT : Fld := ⟨0x01000818, 0, 5, .ro, 0⟩
def CPX_BAR_STATE1_FAULTED : Fld := ⟨0x01000818, 5, 1, .ro, 0⟩
def CPX_BAR_STATE1_HUNG : Fld := ⟨0x01000818, 6, 1, .ro, 0⟩
def CPX_BAR_STATE1_ROUND : Fld := ⟨0x01000818, 16, 16, .ro, 0⟩
/- CPX_BAR_SET_VAL: 14_control_and_sync.md, R371 -/
def CPX_BAR_SET_VAL_ARRIVED : Fld := ⟨0x0100081C, 0, 16, .rw, 0⟩
def CPX_BAR_SET_VAL_EARLY : Fld := ⟨0x0100081C, 16, 16, .rw, 0⟩
/- CPX_BAR_FORCE: 14_control_and_sync.md, R371 -/
def CPX_BAR_FORCE_RELEASE : Fld := ⟨0x01000820, 0, 1, .wo, 0⟩
def CPX_BAR_FORCE_SET : Fld := ⟨0x01000820, 1, 1, .wo, 0⟩
def regTab14a : List Fld := [CPX_FW_STATUS_STAGE, CPX_FW_STATUS_SLOT, CPX_FW_STATUS_CORES_UP,
  CPX_FW_STATUS_RESTARTS, CPX_CTRL_DBG_EN, CPX_CTRL_HANG_MODE, CPX_COMMIT_COMMIT, CPX_BAR_TIMEOUT_TICKS,
  CPX_DBG_ADDR_ADDR, CPX_DBG_DATA_DATA, CPX_DBG_STATUS_REFUSED, CPX_BAR_OVERRUN_CNT_COUNT, CPX_BAR_HANG_CNT_COUNT,
  CPX_BAR_FORCE_CNT_COUNT, CPX_MBX_SENT_CNT_COUNT, CPX_MBX_ABORT_CNT_COUNT, CPX_SEQ_FAULT_CNT_COUNT,
  CPX_CNT_CLR_CLEAR, CPX_SEQ_STATE_STATE, CPX_SEQ_STATE_JOB]
def regTab14b : List Fld := [CPX_SEQ_LAUNCH_SLOT, CPX_EQ_BUSY_BUSY, CPX_EQ_BUSY_HELD, CPX_BAR_SEL_BAR,
  CPX_BAR_STATE0_ARRIVED, CPX_BAR_STATE0_EARLY, CPX_BAR_STATE1_COUNT, CPX_BAR_STATE1_FAULTED, CPX_BAR_STATE1_HUNG,
  CPX_BAR_STATE1_ROUND, CPX_BAR_SET_VAL_ARRIVED, CPX_BAR_SET_VAL_EARLY, CPX_BAR_FORCE_RELEASE, CPX_BAR_FORCE_SET]
/-- The fields of the register tables of spec chapter 14. -/
def regTab14 : List Fld := regTab14a ++ regTab14b

/- CST_COMMIT: 15_memory_and_central_store.md, R386 -/
def CST_COMMIT_COMMIT : Fld := ⟨0x00200000, 0, 1, .wo, 0⟩
/- CST_FREE: 15_memory_and_central_store.md, R386 -/
def CST_FREE_BLOCKS : Fld := ⟨0x00200004, 0, 14, .ro, 0x2800⟩
/- CST_FN_SEL: 15_memory_and_central_store.md, R386 -/
def CST_FN_SEL_FN : Fld := ⟨0x00200010, 0, 5, .rw, 0⟩
/- CST_FN_QUOTA: 15_memory_and_central_store.md, R386 -/
def CST_FN_QUOTA_MIB : Fld := ⟨0x00200014, 0, 10, .sh, 0⟩
/- CST_FN_USE: 15_memory_and_central_store.md, R386 -/
def CST_FN_USE_MIB : Fld := ⟨0x00200018, 0, 10, .ro, 0⟩
/- CST_CE_CNT: 15_memory_and_central_store.md, R386 -/
def CST_CE_CNT_COUNT : Fld := ⟨0x00200100, 0, 32, .ro, 0⟩
/- CST_UE_CNT: 15_memory_and_central_store.md, R386 -/
def CST_UE_CNT_COUNT : Fld := ⟨0x00200104, 0, 32, .ro, 0⟩
/- CST_QUOTA_WAIT_CNT: 15_memory_and_central_store.md, R386 -/
def CST_QUOTA_WAIT_CNT_COUNT : Fld := ⟨0x00200108, 0, 32, .ro, 0⟩
/- CST_CNT_CLR: 15_memory_and_central_store.md, R386 -/
def CST_CNT_CLR_CLEAR : Fld := ⟨0x00200120, 0, 1, .wo, 0⟩
/- MEM_STATUS: 15_memory_and_central_store.md, R387 -/
def MEM_STATUS_A_UP : Fld := ⟨0x00300000, 0, 8, .ro, 0⟩
def MEM_STATUS_B_UP : Fld := ⟨0x00300000, 8, 16, .ro, 0⟩
def MEM_STATUS_SCRUB_BUSY : Fld := ⟨0x00300000, 24, 1, .ro, 0⟩
/- MEM_CTRL: 15_memory_and_central_store.md, R387 -/
def MEM_CTRL_SCRUB_EN : Fld := ⟨0x00300004, 0, 1, .sh, 1⟩
def MEM_CTRL_SCRUB_HOURS : Fld := ⟨0x00300004, 8, 8, .sh, 0x18⟩
/- MEM_COMMIT: 15_memory_and_central_store.md, R387 -/
def MEM_COMMIT_COMMIT : Fld := ⟨0x00300008, 0, 1, .wo, 0⟩
/- MEM_FN_SEL: 15_memory_and_central_store.md, R387 -/
def MEM_FN_SEL_FN : Fld := ⟨0x00300010, 0, 5, .rw, 0⟩
/- MEM_FN_CLASS: 15_memory_and_central_store.md, R387 -/
def MEM_FN_CLASS_A : Fld := ⟨0x00300014, 0, 2, .sh, 0⟩
def MEM_FN_CLASS_B : Fld := ⟨0x00300014, 2, 2, .sh, 0⟩
/- MEM_ERR_LOG0: 15_memory_and_central_store.md, R387 -/
def MEM_ERR_LOG0_VALID : Fld := ⟨0x00300020, 0, 1, .ro, 0⟩
def MEM_ERR_LOG0_SPACE : Fld := ⟨0x00300020, 1, 2, .ro, 0⟩
def MEM_ERR_LOG0_UE : Fld := ⟨0x00300020, 3, 1, .ro, 0⟩
def MEM_ERR_LOG0_REGION : Fld := ⟨0x00300020, 4, 3, .ro, 0⟩
/- MEM_ERR_ADDR: 15_memory_and_central_store.md, R387 -/
def MEM_ERR_ADDR_ADDR : Fld := ⟨0x00300024, 0, 64, .ro, 0⟩
/- MEM_RETIRE_SEL: 15_memory_and_central_store.md, R387 -/
def MEM_RETIRE_SEL_INDEX : Fld := ⟨0x00300030, 0, 12, .rw, 0⟩
def MEM_RETIRE_SEL_TIER : Fld := ⟨0x00300030, 12, 1, .rw, 0⟩
/- MEM_RETIRE_DATA: 15_memory_and_central_store.md, R387 -/
def MEM_RETIRE_DATA_PAGE : Fld := ⟨0x00300034, 0, 24, .ro, 0⟩
def MEM_RETIRE_DATA_VALID : Fld := ⟨0x00300034, 24, 1, .ro, 0⟩
/- MEM_RETIRE_COUNT: 15_memory_and_central_store.md, R387 -/
def MEM_RETIRE_COUNT_A : Fld := ⟨0x00300038, 0, 13, .ro, 0⟩
def MEM_RETIRE_COUNT_B : Fld := ⟨0x00300038, 16, 13, .ro, 0⟩
/- MEM_CE_A_CNT: 15_memory_and_central_store.md, R387 -/
def MEM_CE_A_CNT_COUNT : Fld := ⟨0x00300100, 0, 32, .ro, 0⟩
/- MEM_UE_A_CNT: 15_memory_and_central_store.md, R387 -/
def MEM_UE_A_CNT_COUNT : Fld := ⟨0x00300104, 0, 32, .ro, 0⟩
/- MEM_CE_B_CNT: 15_memory_and_central_store.md, R387 -/
def MEM_CE_B_CNT_COUNT : Fld := ⟨0x00300108, 0, 32, .ro, 0⟩
/- MEM_UE_B_CNT: 15_memory_and_central_store.md, R387 -/
def MEM_UE_B_CNT_COUNT : Fld := ⟨0x0030010C, 0, 32, .ro, 0⟩
/- MEM_CAP_WAIT_CNT: 15_memory_and_central_store.md, R387 -/
def MEM_CAP_WAIT_CNT_COUNT : Fld := ⟨0x00300110, 0, 32, .ro, 0⟩
/- MEM_CNT_CLR: 15_memory_and_central_store.md, R387 -/
def MEM_CNT_CLR_CLEAR : Fld := ⟨0x00300120, 0, 1, .wo, 0⟩
def regTab15a : List Fld := [CST_COMMIT_COMMIT, CST_FREE_BLOCKS, CST_FN_SEL_FN, CST_FN_QUOTA_MIB, CST_FN_USE_MIB,
  CST_CE_CNT_COUNT, CST_UE_CNT_COUNT, CST_QUOTA_WAIT_CNT_COUNT, CST_CNT_CLR_CLEAR, MEM_STATUS_A_UP, MEM_STATUS_B_UP,
  MEM_STATUS_SCRUB_BUSY, MEM_CTRL_SCRUB_EN, MEM_CTRL_SCRUB_HOURS, MEM_COMMIT_COMMIT, MEM_FN_SEL_FN, MEM_FN_CLASS_A,
  MEM_FN_CLASS_B, MEM_ERR_LOG0_VALID, MEM_ERR_LOG0_SPACE]
def regTab15b : List Fld := [MEM_ERR_LOG0_UE, MEM_ERR_LOG0_REGION, MEM_ERR_ADDR_ADDR, MEM_RETIRE_SEL_INDEX,
  MEM_RETIRE_SEL_TIER, MEM_RETIRE_DATA_PAGE, MEM_RETIRE_DATA_VALID, MEM_RETIRE_COUNT_A, MEM_RETIRE_COUNT_B,
  MEM_CE_A_CNT_COUNT, MEM_UE_A_CNT_COUNT, MEM_CE_B_CNT_COUNT, MEM_UE_B_CNT_COUNT, MEM_CAP_WAIT_CNT_COUNT,
  MEM_CNT_CLR_CLEAR]
/-- The fields of the register tables of spec chapter 15. -/
def regTab15 : List Fld := regTab15a ++ regTab15b

/- PTM_CTRL: 16_power_thermal.md, R406 -/
def PTM_CTRL_THROTTLE_EN : Fld := ⟨0x00C00000, 0, 1, .sh, 1⟩
/- PTM_COMMIT: 16_power_thermal.md, R406 -/
def PTM_COMMIT_COMMIT : Fld := ⟨0x00C00004, 0, 1, .wo, 0⟩
/- PTM_THERM: 16_power_thermal.md, R406 -/
def PTM_THERM_THROTTLE : Fld := ⟨0x00C00008, 0, 8, .sh, 0x64⟩
def PTM_THERM_HYST : Fld := ⟨0x00C00008, 8, 4, .sh, 3⟩
def PTM_THERM_HOLD : Fld := ⟨0x00C00008, 12, 8, .sh, 0xa⟩
/- PTM_MEM_THERM: 16_power_thermal.md, R406 -/
def PTM_MEM_THERM_HBM : Fld := ⟨0x00C0000C, 0, 8, .sh, 0x5f⟩
def PTM_MEM_THERM_LP : Fld := ⟨0x00C0000C, 8, 8, .sh, 0x5f⟩
/- PTM_PWR_CAP: 16_power_thermal.md, R406 -/
def PTM_PWR_CAP_MODULE_W : Fld := ⟨0x00C00010, 0, 11, .sh, 0x5dc⟩
def PTM_PWR_CAP_FABRIC_W : Fld := ⟨0x00C00010, 16, 11, .sh, 0x1f4⟩
/- PTM_PWR_STATUS: 16_power_thermal.md, R406 -/
def PTM_PWR_STATUS_INPUT_W : Fld := ⟨0x00C00014, 0, 11, .ro, 0⟩
def PTM_PWR_STATUS_EFF_FABRIC_W : Fld := ⟨0x00C00014, 16, 11, .ro, 0x1f4⟩
/- PTM_PSTATE: 16_power_thermal.md, R406 -/
def PTM_PSTATE_REQ : Fld := ⟨0x00C00018, 0, 1, .rw, 0⟩
def PTM_PSTATE_CFG_ERR : Fld := ⟨0x00C00018, 1, 1, .w1c, 0⟩
def PTM_PSTATE_STATE : Fld := ⟨0x00C00018, 2, 2, .ro, 0⟩
/- PTM_EVENT: 16_power_thermal.md, R406 -/
def PTM_EVENT_THROTTLE_ON : Fld := ⟨0x00C00020, 0, 1, .w1c, 0⟩
def PTM_EVENT_THROTTLE_OFF : Fld := ⟨0x00C00020, 1, 1, .w1c, 0⟩
def PTM_EVENT_CAP_ACTIVE : Fld := ⟨0x00C00020, 2, 1, .w1c, 0⟩
def PTM_EVENT_WINDOW : Fld := ⟨0x00C00020, 3, 1, .w1c, 0⟩
def PTM_EVENT_DIODE_FAIL : Fld := ⟨0x00C00020, 4, 1, .w1c, 0⟩
def PTM_EVENT_QUEUE_OVF : Fld := ⟨0x00C00020, 5, 1, .w1c, 0⟩
/- PTM_EVENT_EN: 16_power_thermal.md, R406 -/
def PTM_EVENT_EN_EN : Fld := ⟨0x00C00024, 0, 6, .rw, 0⟩
/- PTM_CH_SEL: 16_power_thermal.md, R406 -/
def PTM_CH_SEL_CH : Fld := ⟨0x00C00030, 0, 10, .rw, 0⟩
/- PTM_CH_VALUE: 16_power_thermal.md, R406 -/
def PTM_CH_VALUE_VALUE : Fld := ⟨0x00C00034, 0, 16, .ro, 0⟩
def PTM_CH_VALUE_KIND : Fld := ⟨0x00C00034, 16, 2, .ro, 0⟩
/- PTM_CH_WIN: 16_power_thermal.md, R406 -/
def PTM_CH_WIN_LO : Fld := ⟨0x00C00038, 0, 16, .ro, 0⟩
def PTM_CH_WIN_HI : Fld := ⟨0x00C00038, 16, 16, .ro, 0⟩
/- PTM_TEMP_MAX: 16_power_thermal.md, R406 -/
def PTM_TEMP_MAX_T_MODEL : Fld := ⟨0x00C00040, 0, 8, .ro, 0⟩
def PTM_TEMP_MAX_REGION : Fld := ⟨0x00C00040, 8, 10, .ro, 0⟩
/- PTM_DIODE_MAX: 16_power_thermal.md, R406 -/
def PTM_DIODE_MAX_T_DIODE : Fld := ⟨0x00C00044, 0, 8, .ro, 0⟩
def PTM_DIODE_MAX_DIODE : Fld := ⟨0x00C00044, 8, 7, .ro, 0⟩
/- PTM_TRIP_LOG: 16_power_thermal.md, R406 -/
def PTM_TRIP_LOG_CAUSE : Fld := ⟨0x00C00048, 0, 3, .ro, 0⟩
def PTM_TRIP_LOG_WHERE : Fld := ⟨0x00C00048, 3, 10, .ro, 0⟩
def PTM_TRIP_LOG_TEMP : Fld := ⟨0x00C00048, 13, 8, .ro, 0⟩
def PTM_TRIP_LOG_TRIPS : Fld := ⟨0x00C00048, 21, 11, .ro, 0⟩
/- PTM_THROTTLE_CNT: 16_power_thermal.md, R406 -/
def PTM_THROTTLE_CNT_COUNT : Fld := ⟨0x00C00100, 0, 32, .ro, 0⟩
/- PTM_CAP_CNT: 16_power_thermal.md, R406 -/
def PTM_CAP_CNT_COUNT : Fld := ⟨0x00C00104, 0, 32, .ro, 0⟩
/- PTM_WINDOW_CNT: 16_power_thermal.md, R406 -/
def PTM_WINDOW_CNT_COUNT : Fld := ⟨0x00C00108, 0, 32, .ro, 0⟩
/- PTM_INJECT_CNT: 16_power_thermal.md, R406 -/
def PTM_INJECT_CNT_COUNT : Fld := ⟨0x00C0010C, 0, 32, .ro, 0⟩
/- PTM_QUEUE_OVF_CNT: 16_power_thermal.md, R406 -/
def PTM_QUEUE_OVF_CNT_COUNT : Fld := ⟨0x00C00110, 0, 32, .ro, 0⟩
/- PTM_DIODE_FAIL_CNT: 16_power_thermal.md, R406 -/
def PTM_DIODE_FAIL_CNT_COUNT : Fld := ⟨0x00C00114, 0, 32, .ro, 0⟩
/- PTM_CNT_CLR: 16_power_thermal.md, R406 -/
def PTM_CNT_CLR_CLEAR : Fld := ⟨0x00C00120, 0, 1, .wo, 0⟩
/- PTM_CORE_STATE: 16_power_thermal.md, R406 -/
def PTM_CORE_STATE_VSTEP : Fld := ⟨0x01000900, 0, 3, .ro, 0⟩
def PTM_CORE_STATE_CLKDIV : Fld := ⟨0x01000900, 3, 2, .ro, 0⟩
def PTM_CORE_STATE_PAUSE_N : Fld := ⟨0x01000900, 5, 7, .ro, 0⟩
def PTM_CORE_STATE_T_MODEL : Fld := ⟨0x01000900, 12, 8, .ro, 0⟩
/- PTM_CORE_POWER: 16_power_thermal.md, R406 -/
def PTM_CORE_POWER_MW : Fld := ⟨0x01000904, 0, 16, .ro, 0⟩
def regTab16a : List Fld := [PTM_CTRL_THROTTLE_EN, PTM_COMMIT_COMMIT, PTM_THERM_THROTTLE, PTM_THERM_HYST,
  PTM_THERM_HOLD, PTM_MEM_THERM_HBM, PTM_MEM_THERM_LP, PTM_PWR_CAP_MODULE_W, PTM_PWR_CAP_FABRIC_W,
  PTM_PWR_STATUS_INPUT_W, PTM_PWR_STATUS_EFF_FABRIC_W, PTM_PSTATE_REQ, PTM_PSTATE_CFG_ERR, PTM_PSTATE_STATE,
  PTM_EVENT_THROTTLE_ON, PTM_EVENT_THROTTLE_OFF, PTM_EVENT_CAP_ACTIVE, PTM_EVENT_WINDOW, PTM_EVENT_DIODE_FAIL,
  PTM_EVENT_QUEUE_OVF]
def regTab16b : List Fld := [PTM_EVENT_EN_EN, PTM_CH_SEL_CH, PTM_CH_VALUE_VALUE, PTM_CH_VALUE_KIND, PTM_CH_WIN_LO,
  PTM_CH_WIN_HI, PTM_TEMP_MAX_T_MODEL, PTM_TEMP_MAX_REGION, PTM_DIODE_MAX_T_DIODE, PTM_DIODE_MAX_DIODE,
  PTM_TRIP_LOG_CAUSE, PTM_TRIP_LOG_WHERE, PTM_TRIP_LOG_TEMP, PTM_TRIP_LOG_TRIPS, PTM_THROTTLE_CNT_COUNT,
  PTM_CAP_CNT_COUNT, PTM_WINDOW_CNT_COUNT, PTM_INJECT_CNT_COUNT, PTM_QUEUE_OVF_CNT_COUNT, PTM_DIODE_FAIL_CNT_COUNT]
def regTab16c : List Fld := [PTM_CNT_CLR_CLEAR, PTM_CORE_STATE_VSTEP, PTM_CORE_STATE_CLKDIV, PTM_CORE_STATE_PAUSE_N,
  PTM_CORE_STATE_T_MODEL, PTM_CORE_POWER_MW]
/-- The fields of the register tables of spec chapter 16. -/
def regTab16 : List Fld := regTab16a ++ regTab16b ++ regTab16c

/- SMS_STATUS: 17_reliability.md, R424 -/
def SMS_STATUS_MODULE_FAULT : Fld := ⟨0x00D00000, 0, 1, .ro, 0⟩
def SMS_STATUS_FAULT_N : Fld := ⟨0x00D00000, 1, 1, .ro, 0⟩
def SMS_STATUS_SPARES_W : Fld := ⟨0x00D00000, 16, 5, .ro, 0⟩
def SMS_STATUS_SPARES_E : Fld := ⟨0x00D00000, 21, 5, .ro, 0⟩
def SMS_STATUS_HUB_RETIRED : Fld := ⟨0x00D00000, 26, 4, .ro, 0⟩
/- SMS_CTRL: 17_reliability.md, R424 -/
def SMS_CTRL_SUSPECT_N : Fld := ⟨0x00D00004, 0, 4, .sh, 2⟩
def SMS_CTRL_WINDOW_H : Fld := ⟨0x00D00004, 4, 12, .sh, 0x18⟩
def SMS_CTRL_DECAY_DAYS : Fld := ⟨0x00D00004, 16, 8, .sh, 7⟩
def SMS_CTRL_IFT_PERIOD_H : Fld := ⟨0x00D00004, 24, 8, .sh, 0x18⟩
/- SMS_COMMIT: 17_reliability.md, R424 -/
def SMS_COMMIT_COMMIT : Fld := ⟨0x00D00008, 0, 1, .wo, 0⟩
/- SMS_EVENT: 17_reliability.md, R424 -/
def SMS_EVENT_JOB_FAULT : Fld := ⟨0x00D0000C, 0, 1, .w1c, 0⟩
def SMS_EVENT_SUSPECT : Fld := ⟨0x00D0000C, 1, 1, .w1c, 0⟩
def SMS_EVENT_MARGIN : Fld := ⟨0x00D0000C, 2, 1, .w1c, 0⟩
def SMS_EVENT_RETIRE : Fld := ⟨0x00D0000C, 3, 1, .w1c, 0⟩
def SMS_EVENT_IFT_FAIL : Fld := ⟨0x00D0000C, 4, 1, .w1c, 0⟩
def SMS_EVENT_MODULE_FAULT : Fld := ⟨0x00D0000C, 5, 1, .w1c, 0⟩
def SMS_EVENT_LOG_DROP : Fld := ⟨0x00D0000C, 6, 1, .w1c, 0⟩
def SMS_EVENT_CAL_RESTORE : Fld := ⟨0x00D0000C, 7, 1, .w1c, 0⟩
/- SMS_EVENT_EN: 17_reliability.md, R424 -/
def SMS_EVENT_EN_EN : Fld := ⟨0x00D00010, 0, 8, .rw, 0⟩
/- SMS_LOG_HEAD: 17_reliability.md, R424 -/
def SMS_LOG_HEAD_SEQ : Fld := ⟨0x00D00014, 0, 32, .ro, 0⟩
/- SMS_LOG_TAIL: 17_reliability.md, R424 -/
def SMS_LOG_TAIL_SEQ : Fld := ⟨0x00D00018, 0, 32, .ro, 0⟩
/- SMS_RESIDUE_CNT: 17_reliability.md, R424 -/
def SMS_RESIDUE_CNT_COUNT : Fld := ⟨0x00D00100, 0, 32, .ro, 0⟩
/- SMS_PARITY_CNT: 17_reliability.md, R424 -/
def SMS_PARITY_CNT_COUNT : Fld := ⟨0x00D00104, 0, 32, .ro, 0⟩
/- SMS_JOB_FAULT_CNT: 17_reliability.md, R424 -/
def SMS_JOB_FAULT_CNT_COUNT : Fld := ⟨0x00D00108, 0, 32, .ro, 0⟩
/- SMS_SUSPECT_CNT: 17_reliability.md, R424 -/
def SMS_SUSPECT_CNT_COUNT : Fld := ⟨0x00D0010C, 0, 32, .ro, 0⟩
/- SMS_MARGIN_CNT: 17_reliability.md, R424 -/
def SMS_MARGIN_CNT_COUNT : Fld := ⟨0x00D00110, 0, 32, .ro, 0⟩
/- SMS_RETIRE_CNT: 17_reliability.md, R424 -/
def SMS_RETIRE_CNT_COUNT : Fld := ⟨0x00D00114, 0, 32, .ro, 0⟩
/- SMS_IFT_SLICE_CNT: 17_reliability.md, R424 -/
def SMS_IFT_SLICE_CNT_COUNT : Fld := ⟨0x00D00118, 0, 32, .ro, 0⟩
/- SMS_IFT_FAIL_CNT: 17_reliability.md, R424 -/
def SMS_IFT_FAIL_CNT_COUNT : Fld := ⟨0x00D0011C, 0, 32, .ro, 0⟩
/- SMS_LOG_DROP_CNT: 17_reliability.md, R424 -/
def SMS_LOG_DROP_CNT_COUNT : Fld := ⟨0x00D00120, 0, 32, .ro, 0⟩
/- SMS_CNT_CLR: 17_reliability.md, R424 -/
def SMS_CNT_CLR_CLEAR : Fld := ⟨0x00D00124, 0, 1, .wo, 0⟩
/- SMS_CORE_HEALTH: 17_reliability.md, R424 -/
def SMS_CORE_HEALTH_LEVEL : Fld := ⟨0x01000A00, 0, 3, .ro, 0⟩
def SMS_CORE_HEALTH_SUSPECT : Fld := ⟨0x01000A00, 3, 5, .ro, 0⟩
def SMS_CORE_HEALTH_RETIRE_PENDING : Fld := ⟨0x01000A00, 8, 1, .ro, 0⟩
def SMS_CORE_HEALTH_SPARE_SITE : Fld := ⟨0x01000A00, 9, 1, .ro, 0⟩
def SMS_CORE_HEALTH_SITE : Fld := ⟨0x01000A00, 10, 4, .ro, 0⟩
def SMS_CORE_HEALTH_RETIRED : Fld := ⟨0x01000A00, 14, 1, .ro, 0⟩
def SMS_CORE_HEALTH_UNPLACEABLE : Fld := ⟨0x01000A00, 15, 1, .ro, 0⟩
/- SMS_CORE_IFT: 17_reliability.md, R424 -/
def SMS_CORE_IFT_NEXT_SLICE : Fld := ⟨0x01000A04, 0, 6, .ro, 0⟩
def SMS_CORE_IFT_OVERDUE : Fld := ⟨0x01000A04, 6, 1, .ro, 0⟩
def SMS_CORE_IFT_RUNNING : Fld := ⟨0x01000A04, 7, 1, .ro, 0⟩
/- SMS_CORE_IFT_DUE: 17_reliability.md, R424 -/
def SMS_CORE_IFT_DUE_NS : Fld := ⟨0x01000A08, 0, 64, .ro, 0⟩
def regTab17a : List Fld := [SMS_STATUS_MODULE_FAULT, SMS_STATUS_FAULT_N, SMS_STATUS_SPARES_W, SMS_STATUS_SPARES_E,
  SMS_STATUS_HUB_RETIRED, SMS_CTRL_SUSPECT_N, SMS_CTRL_WINDOW_H, SMS_CTRL_DECAY_DAYS, SMS_CTRL_IFT_PERIOD_H,
  SMS_COMMIT_COMMIT, SMS_EVENT_JOB_FAULT, SMS_EVENT_SUSPECT, SMS_EVENT_MARGIN, SMS_EVENT_RETIRE, SMS_EVENT_IFT_FAIL,
  SMS_EVENT_MODULE_FAULT, SMS_EVENT_LOG_DROP, SMS_EVENT_CAL_RESTORE, SMS_EVENT_EN_EN, SMS_LOG_HEAD_SEQ]
def regTab17b : List Fld := [SMS_LOG_TAIL_SEQ, SMS_RESIDUE_CNT_COUNT, SMS_PARITY_CNT_COUNT, SMS_JOB_FAULT_CNT_COUNT,
  SMS_SUSPECT_CNT_COUNT, SMS_MARGIN_CNT_COUNT, SMS_RETIRE_CNT_COUNT, SMS_IFT_SLICE_CNT_COUNT,
  SMS_IFT_FAIL_CNT_COUNT, SMS_LOG_DROP_CNT_COUNT, SMS_CNT_CLR_CLEAR, SMS_CORE_HEALTH_LEVEL, SMS_CORE_HEALTH_SUSPECT,
  SMS_CORE_HEALTH_RETIRE_PENDING, SMS_CORE_HEALTH_SPARE_SITE, SMS_CORE_HEALTH_SITE, SMS_CORE_HEALTH_RETIRED,
  SMS_CORE_HEALTH_UNPLACEABLE, SMS_CORE_IFT_NEXT_SLICE, SMS_CORE_IFT_OVERDUE]
def regTab17c : List Fld := [SMS_CORE_IFT_RUNNING, SMS_CORE_IFT_DUE_NS]
/-- The fields of the register tables of spec chapter 17. -/
def regTab17 : List Fld := regTab17a ++ regTab17b ++ regTab17c

/- SMS_ID_DSN: 18_security_and_management.md, R446 -/
def SMS_ID_DSN_DSN : Fld := ⟨0x00D01020, 0, 64, .ro, 0⟩
/- SMS_FW_RUN: 18_security_and_management.md, R446 -/
def SMS_FW_RUN_SLOT : Fld := ⟨0x00D01030, 0, 1, .ro, 0⟩
def SMS_FW_RUN_TRIAL : Fld := ⟨0x00D01030, 1, 1, .ro, 0⟩
def SMS_FW_RUN_BOOTS : Fld := ⟨0x00D01030, 2, 2, .ro, 0⟩
def SMS_FW_RUN_FELL_BACK : Fld := ⟨0x00D01030, 4, 1, .ro, 0⟩
def SMS_FW_RUN_CONFIRM_LEFT : Fld := ⟨0x00D01030, 16, 16, .ro, 0⟩
/- SMS_FW_VERSION: 18_security_and_management.md, R446 -/
def SMS_FW_VERSION_VERSION : Fld := ⟨0x00D01034, 0, 64, .ro, 0⟩
/- SMS_FW_SEL: 18_security_and_management.md, R446 -/
def SMS_FW_SEL_SLOT : Fld := ⟨0x00D01040, 0, 1, .rw, 0⟩
/- SMS_FW_SLOT: 18_security_and_management.md, R446 -/
def SMS_FW_SLOT_STATE : Fld := ⟨0x00D01044, 0, 3, .ro, 0⟩
def SMS_FW_SLOT_BOOTS : Fld := ⟨0x00D01044, 3, 2, .ro, 0⟩
def SMS_FW_SLOT_SVN : Fld := ⟨0x00D01044, 16, 16, .ro, 0⟩
/- SMS_FW_SLOT_VER: 18_security_and_management.md, R446 -/
def SMS_FW_SLOT_VER_VERSION : Fld := ⟨0x00D01048, 0, 64, .ro, 0⟩
/- SMS_FW_SVN_FLOOR: 18_security_and_management.md, R446 -/
def SMS_FW_SVN_FLOOR_FLOOR : Fld := ⟨0x00D01050, 0, 32, .ro, 0⟩
/- SMS_MEAS_SEL: 18_security_and_management.md, R446 -/
def SMS_MEAS_SEL_INDEX : Fld := ⟨0x00D01060, 0, 4, .rw, 0⟩
def SMS_MEAS_SEL_WORD : Fld := ⟨0x00D01060, 4, 4, .rw, 0⟩
/- SMS_MEAS_DATA: 18_security_and_management.md, R446 -/
def SMS_MEAS_DATA_DATA : Fld := ⟨0x00D01064, 0, 32, .ro, 0⟩
/- SMS_MGT_STATUS: 18_security_and_management.md, R446 -/
def SMS_MGT_STATUS_MODE : Fld := ⟨0x00D01070, 0, 2, .ro, 0⟩
def SMS_MGT_STATUS_APP : Fld := ⟨0x00D01070, 2, 1, .ro, 0⟩
def SMS_MGT_STATUS_UPDATE : Fld := ⟨0x00D01070, 3, 1, .ro, 0⟩
def SMS_MGT_STATUS_EID : Fld := ⟨0x00D01070, 8, 8, .ro, 0⟩
def SMS_MGT_STATUS_DYN_ADDR : Fld := ⟨0x00D01070, 16, 7, .ro, 0⟩
/- SMS_FW_REFUSED_CNT: 18_security_and_management.md, R446 -/
def SMS_FW_REFUSED_CNT_COUNT : Fld := ⟨0x00D01100, 0, 32, .ro, 0⟩
/- SMS_SPDM_SIGN_CNT: 18_security_and_management.md, R446 -/
def SMS_SPDM_SIGN_CNT_COUNT : Fld := ⟨0x00D01104, 0, 32, .ro, 0⟩
/- SMS_ID_CNT_CLR: 18_security_and_management.md, R446 -/
def SMS_ID_CNT_CLR_CLEAR : Fld := ⟨0x00D01120, 0, 1, .wo, 0⟩
def regTab18a : List Fld := [SMS_ID_DSN_DSN, SMS_FW_RUN_SLOT, SMS_FW_RUN_TRIAL, SMS_FW_RUN_BOOTS,
  SMS_FW_RUN_FELL_BACK, SMS_FW_RUN_CONFIRM_LEFT, SMS_FW_VERSION_VERSION, SMS_FW_SEL_SLOT, SMS_FW_SLOT_STATE,
  SMS_FW_SLOT_BOOTS, SMS_FW_SLOT_SVN, SMS_FW_SLOT_VER_VERSION, SMS_FW_SVN_FLOOR_FLOOR, SMS_MEAS_SEL_INDEX,
  SMS_MEAS_SEL_WORD, SMS_MEAS_DATA_DATA, SMS_MGT_STATUS_MODE, SMS_MGT_STATUS_APP, SMS_MGT_STATUS_UPDATE,
  SMS_MGT_STATUS_EID]
def regTab18b : List Fld := [SMS_MGT_STATUS_DYN_ADDR, SMS_FW_REFUSED_CNT_COUNT, SMS_SPDM_SIGN_CNT_COUNT,
  SMS_ID_CNT_CLR_CLEAR]
/-- The fields of the register tables of spec chapter 18. -/
def regTab18 : List Fld := regTab18a ++ regTab18b

/-- Every register field of spec/ that is held as a value (not computed when read). -/
def regTable : List Fld :=
  regTab03 ++ regTab04 ++ regTab05 ++ regTab06 ++ regTab07 ++ regTab08 ++ regTab09 ++ regTab10 ++ regTab12 ++ regTab13 ++ regTab14 ++ regTab15 ++ regTab16 ++ regTab17 ++ regTab18

end Sys2Proof.Machine
end

