-- ==== Sys2Proof/Machine/Ops.lean ====
section
/-! DEFINITION. The named operations over registers and time that every meaning uses. -/

namespace Sys2Proof.Machine

/-- The place of a field in the register table: its bank (core, queue, function, port), register and lowest bit.
DESIGN CHOICE (assumption log 18). -/
def Fld.key (f : Fld) (bank : Nat) : Nat := (bank * 2 ^ 26 + f.addr) * 64 + f.lsb

/-- The value of a field in force. DESIGN CHOICE (assumption log 18). -/
def State.rd (s : State) (f : Fld) (bank : Nat := 0) : Nat := SMap.get f.reset s.regs (f.key bank)

/-- A field read as a Boolean. -/
def State.bit (s : State) (f : Fld) (bank : Nat := 0) : Bool := s.rd f bank != 0

/-- A field given a value, cut to its width. DESIGN CHOICE (assumption log 18). -/
def State.wr (s : State) (f : Fld) (v : Nat) (bank : Nat := 0) : State :=
  { s with regs := SMap.put f.reset s.regs (f.key bank) (v % 2 ^ f.width) }

/-- A counter field raised by `n`, saturating at all ones. DESIGN CHOICE (assumption log 53). -/
def State.count (s : State) (f : Fld) (n : Nat := 1) (bank : Nat := 0) : State :=
  s.wr f (min (maxOf f.width) (s.rd f bank + n)) bank

/-- A one-bit field set to 1. -/
def State.setBit (s : State) (f : Fld) (bank : Nat := 0) : State := s.wr f 1 bank

/-- A one-bit field given a Boolean. -/
def State.wrBit (s : State) (f : Fld) (b : Bool) (bank : Nat := 0) : State := s.wr f (b2n b) bank

/-- Every field of a list set to 0, in one bank. -/
def State.clearAll (s : State) (l : List Fld) (bank : Nat := 0) : State := l.foldl (fun s f => s.wr f 0 bank) s

/-- The instant of a command (assumption log 1): time does not go back, so a command of an earlier instant acts now. -/
def State.advance (s : State) (t : Nat) : State := { s with time := { s.time with now := max s.time.now t } }

/-- External time in ns. -/
def State.now (s : State) : Nat := s.time.now

/-- The number of the next free value, and the state after it was drawn. DESIGN CHOICE (assumption log 53). -/
def State.draw (s : State) : Nat × State := (s.free, { s with free := s.free + 1 })

/-- TWS_SLOT_LEN in ticks (R242). -/
def State.slotLen (s : State) : Nat := s.rd TWS_SLOT_LEN_LEN

/-- TWS_EPOCH as it applies (R264): rounded down to a multiple of 1,000 ns. -/
def State.epoch (s : State) : Nat := s.rd TWS_EPOCH_NS / 1000 * 1000

/-- The start of absolute slot `k` (R242). -/
def State.boundary (s : State) (k : Nat) : Nat := s.epoch + k * s.slotLen * 1000

/-- The smallest `k` whose start is at or after an instant (R243). -/
def State.firstK (s : State) (t : Nat) : Nat :=
  let e := s.epoch
  if t ≤ e then 0 else ceilDiv (t - e) (s.slotLen * 1000)

/-- The smallest `k` whose start is strictly later than an instant (R19). -/
def State.nextKAfter (s : State) (t : Nat) : Nat := s.firstK (t + 1)

/-- The wheel runs (TWS_CTRL.RUN). -/
def State.running (s : State) : Bool := s.bit TWS_CTRL_RUN

/-- TWS_ERR_EST (R238): the estimate, growing by HOLD_RATE per second while no source holds it. -/
def State.errEst (s : State) : Nat :=
  match s.time.errBase with
  | none => 0xFFFFFFFF
  | some b =>
    match s.time.errAt with
    | none => min 0xFFFFFFFF b
    | some t0 => min 0xFFFFFFFF (b + s.rd TWS_LOCK_LIMIT_HOLD_RATE * (s.now - t0) / 1000000000)

/-- TWS_STATUS.UNLOCKED (R262). -/
def State.unlocked (s : State) : Bool := decide (s.rd TWS_LOCK_LIMIT_LIMIT < s.errEst)

/-- The sub-record of time replaced. -/
def State.withTime (s : State) (t : TimeSt) : State := { s with time := t }
/-- The sub-record of HIF replaced. -/
def State.withHif (s : State) (h : HifSt) : State := { s with hif := h }
/-- The sub-record of serving replaced. -/
def State.withServe (s : State) (v : ServeSt) : State := { s with serve := v }
/-- The sub-record of LST replaced. -/
def State.withLst (s : State) (v : LstSt) : State := { s with lst := v }
/-- The sub-record of the controls replaced. -/
def State.withCtl (s : State) (v : CtlSt) : State := { s with ctl := v }

/-- The sub-record of memory replaced. -/
def State.withMem (s : State) (v : MemSt) : State := { s with mem := v }

/-- The sub-record of the data path replaced. -/
def State.withFab (s : State) (v : FabSt) : State := { s with fab := v }

/-- The sub-record of the links replaced. -/
def State.withLnk (s : State) (v : LnkSt) : State := { s with lnk := v }

/-- The sub-record of PTM replaced. -/
def State.withPtm (s : State) (v : PtmSt) : State := { s with ptm := v }

/-- The sub-record of the supplies replaced. -/
def State.withPwr (s : State) (v : PwrSt) : State := { s with pwr := v }

/-- The sub-record of management replaced. -/
def State.withMgt (s : State) (v : MgtSt) : State := { s with mgt := v }

/-- A register write of a function acts on a register that only the physical function may write: from the physical function,
once the firmware has reached READY (R328, R454), and not while function 0 is reset (R326).
DEDUCED (assumption log 20). -/
def State.accepts (s : State) (fn : Nat) : Bool :=
  fn == 0 && s.ctl.ready && (SMap.get FnSt.init s.hif.fns 0).reset.isNone

/-- A state folded over a list. -/
def forEach {α : Type} (l : List α) (s : State) (f : State → α → State) : State := l.foldl f s

/-- A change made only under a condition. -/
def State.when (s : State) (c : Bool) (f : State → State) : State := if c then f s else s

end Sys2Proof.Machine
end

