-- ==== Sys2Proof/Machine/Mem.lean ====
section
/-! DEFINITION. Bytes of the three device address spaces (spec/15_memory_and_central_store.md R373), in the canonical form of
`SMap`: a byte that nothing has written reads 0 (assumption log 6). -/

namespace Sys2Proof.Machine

/-- The byte at an address of a space. DESIGN CHOICE (assumption log 6). -/
def State.readByte (s : State) (sp : Space) (a : Nat) : Byte :=
  match sp with
  | .cst => SMap.get 0#8 s.mem.cst a
  | .tierA => SMap.get 0#8 s.mem.tierA a
  | .tierB => SMap.get 0#8 s.mem.tierB a

/-- A byte written at an address of a space. DESIGN CHOICE (assumption log 6). -/
def State.writeByte (s : State) (sp : Space) (a : Nat) (v : Byte) : State :=
  match sp with
  | .cst => s.withMem { s.mem with cst := SMap.put 0#8 s.mem.cst a v }
  | .tierA => s.withMem { s.mem with tierA := SMap.put 0#8 s.mem.tierA a v }
  | .tierB => s.withMem { s.mem with tierB := SMap.put 0#8 s.mem.tierB a v }

/-- Bytes from an address on. -/
def State.readBytes (s : State) (sp : Space) (a n : Nat) : List Byte := (List.range n).map fun i => s.readByte sp (a + i)

/-- Bytes written from an address on. -/
def State.writeBytes (s : State) (sp : Space) (a : Nat) : List Byte → State
  | [] => s
  | b :: t => (s.writeByte sp a b).writeBytes sp (a + 1) t

/-- The bytes of a tier that a bandwidth class allows in a slot (R384). -/
def State.tierCap (s : State) (tierB : Bool) (class_ : Nat) : Nat :=
  (if tierB then 2048000 else 16384000) * s.slotLen / 2 ^ class_

end Sys2Proof.Machine
end

