-- ==== Sys2Proof/Machine/Sha.lean ====
section
/-! DEFINITION. SHA-512 (FIPS 180-4) and the verification of Ed25519 signatures (RFC 8032), which R209, R215 and R437 name. -/

namespace Sys2Proof.Machine

/-- The primes below 410, of which there are 80: each is divided by no smaller prime up to 19. -/
def shaPrimes : List Nat :=
  (List.range 410).filter fun p => decide (2 ≤ p) && [2, 3, 5, 7, 11, 13, 17, 19].all fun q => q == p || p % q != 0

/-- The greatest `r` that keeps `r ^ e` within `x`, found from bit `k - 1` down on top of what is known. -/
def rootDown (e x : Nat) : Nat → Nat → Nat
  | 0, known => known
  | k + 1, known => rootDown e x k (if (known + 2 ^ k) ^ e ≤ x then known + 2 ^ k else known)

/-- The first 64 bits of the fraction of the e-th root of a number below 512. -/
def rootFraction (e p : Nat) : Nat := rootDown e (p * 2 ^ (64 * e)) 69 0 % 2 ^ 64

/-- The initial hash value of SHA-512 (FIPS 180-4): the square roots of the first eight primes. -/
def sha512Init : List Nat := (shaPrimes.take 8).map (rootFraction 2)

/-- The 80 round constants of SHA-512 (FIPS 180-4): the cube roots of the first 80 primes. -/
def sha512K : List Nat := shaPrimes.map (rootFraction 3)

/-- Rotation right of a 64-bit word. -/
def rotr64 (n x : Nat) : Nat := Nat.lor (x / 2 ^ n) (x * 2 ^ (64 - n) % 2 ^ 64)

/-- Sum of 64-bit words. -/
def add64 (a b : Nat) : Nat := (a + b) % 2 ^ 64

/-- The next words of the message schedule: the last 16 words, newest first, and how many words are still to be formed. -/
def sha512Expand : Nat → List Nat → List Nat
  | 0, w => w
  | n + 1, w =>
    let w2 := nth 0 w 1
    let w15 := nth 0 w 14
    let s1 := Nat.xor (Nat.xor (rotr64 19 w2) (rotr64 61 w2)) (w2 / 2 ^ 6)
    let s0 := Nat.xor (Nat.xor (rotr64 1 w15) (rotr64 8 w15)) (w15 / 2 ^ 7)
    sha512Expand n (add64 (add64 s1 (nth 0 w 6)) (add64 s0 (nth 0 w 15)) :: w)

/-- The eight working variables. -/
structure ShaVars where
  a : Nat
  b : Nat
  c : Nat
  d : Nat
  e : Nat
  f : Nat
  g : Nat
  h : Nat

/-- One round of SHA-512 with its constant and schedule word. -/
def ShaVars.round (v : ShaVars) (k w : Nat) : ShaVars :=
  let s1 := Nat.xor (Nat.xor (rotr64 14 v.e) (rotr64 18 v.e)) (rotr64 41 v.e)
  let ch := Nat.xor (Nat.land v.e v.f) (Nat.land (2 ^ 64 - 1 - v.e) v.g)
  let t1 := add64 (add64 (add64 v.h s1) (add64 ch k)) w
  let s0 := Nat.xor (Nat.xor (rotr64 28 v.a) (rotr64 34 v.a)) (rotr64 39 v.a)
  let maj := Nat.xor (Nat.xor (Nat.land v.a v.b) (Nat.land v.a v.c)) (Nat.land v.b v.c)
  ⟨add64 t1 (add64 s0 maj), v.a, v.b, v.c, add64 v.d t1, v.e, v.f, v.g⟩

/-- The rounds of a block. -/
def ShaVars.rounds : ShaVars → List Nat → List Nat → ShaVars
  | v, k :: ks, w :: ws => (v.round k w).rounds ks ws
  | v, _, _ => v

/-- The number that bytes spell big-endian. -/
def ofBeBytes (l : List Byte) : Nat := l.foldl (fun a b => a * 256 + b.toNat) 0

/-- `n` bytes of a number, big-endian. -/
def beBytes (n x : Nat) : List Byte := (leBytes n x).reverse

/-- The words of a list of bytes, eight bytes each, big-endian. -/
def beWords : Nat → List Byte → List Nat
  | 0, _ => []
  | n + 1, l => ofBeBytes (l.take 8) :: beWords n (l.drop 8)

/-- The hash value after one block of 128 bytes. -/
def sha512Block (h : List Nat) (block : List Byte) : List Nat :=
  let w := (sha512Expand 64 (beWords 16 block).reverse).reverse
  let g (i : Nat) : Nat := nth 0 h i
  let v := ShaVars.rounds ⟨g 0, g 1, g 2, g 3, g 4, g 5, g 6, g 7⟩ sha512K w
  [add64 (g 0) v.a, add64 (g 1) v.b, add64 (g 2) v.c, add64 (g 3) v.d,
   add64 (g 4) v.e, add64 (g 5) v.f, add64 (g 6) v.g, add64 (g 7) v.h]

/-- The blocks of a padded message. -/
def sha512Blocks : Nat → List Nat → List Byte → List Nat
  | 0, h, _ => h
  | n + 1, h, l => sha512Blocks n (sha512Block h (l.take 128)) (l.drop 128)

/-- SHA-512 of bytes (FIPS 180-4): 64 bytes. DEDUCED (assumption log 46). -/
def sha512 (l : List Byte) : List Byte :=
  let n := l.length
  let k := (239 - n % 128) % 128
  let m := l ++ [0x80#8] ++ List.replicate k 0#8 ++ beBytes 16 (8 * n)
  ((sha512Blocks (m.length / 128) sha512Init m).map (beBytes 8)).flatten

/-- The prime of Curve25519. -/
def edP : Nat := 2 ^ 255 - 19

/-- The order of the base point. -/
def edL : Nat := 2 ^ 252 + 27742317777372353535851937790883648493

/-- Powers modulo a number, the exponent's bits from the lowest on. -/
def powMod (m : Nat) : Nat → Nat → Nat → Nat
  | 0, _, _ => 1 % m
  | k + 1, b, e => (if e % 2 = 1 then b else 1) * powMod m k (b * b % m) (e / 2) % m

/-- The inverse modulo p. -/
def edInv (x : Nat) : Nat := powMod edP 255 x (edP - 2)

/-- The constant d of the curve: −121665 / 121666. -/
def edD : Nat := (edP - 121665) * edInv 121666 % edP

/-- A point in extended coordinates (X, Y, Z, T). -/
structure EdPoint where
  x : Nat
  y : Nat
  z : Nat
  t : Nat

/-- The neutral point. -/
def EdPoint.zero : EdPoint := ⟨0, 1, 1, 0⟩

/-- The sum of two points (RFC 8032, section 5.1.4). -/
def EdPoint.add (p q : EdPoint) : EdPoint :=
  let a := (p.y + edP - p.x) * (q.y + edP - q.x) % edP
  let b := (p.y + p.x) * (q.y + q.x) % edP
  let c := 2 * p.t * q.t % edP * edD % edP
  let d := 2 * p.z * q.z % edP
  let e := (b + edP - a) % edP
  let f := (d + edP - c) % edP
  let g := (d + c) % edP
  let h := (b + a) % edP
  ⟨e * f % edP, g * h % edP, f * g % edP, e * h % edP⟩

/-- A multiple of a point, the factor's bits from the lowest on. -/
def EdPoint.mul : Nat → Nat → EdPoint → EdPoint
  | 0, _, _ => EdPoint.zero
  | k + 1, n, p => (if n % 2 = 1 then p else EdPoint.zero).add (EdPoint.mul k (n / 2) (p.add p))

/-- Two points are equal. -/
def EdPoint.same (p q : EdPoint) : Bool :=
  p.x * q.z % edP == q.x * p.z % edP && p.y * q.z % edP == q.y * p.z % edP

/-- The point that 32 bytes encode (RFC 8032, section 5.1.3). -/
def edDecode (l : List Byte) : Option EdPoint :=
  let n := ofLeBytes l
  let y := n % 2 ^ 255
  let sign := n / 2 ^ 255 % 2
  if edP ≤ y then none
  else
    let u := (y * y + edP - 1) % edP
    let v := (edD * (y * y % edP) + 1) % edP
    let x2 := u * edInv v % edP
    let x := powMod edP 255 x2 ((edP + 3) / 8)
    let x := if x * x % edP = x2 then x else x * powMod edP 255 2 ((edP - 1) / 4) % edP
    if x * x % edP ≠ x2 || (x = 0 && sign = 1) then none
    else
      let x := if x % 2 = sign then x else edP - x
      some ⟨x, y, 1, x * y % edP⟩

/-- The base point of Ed25519: y = 4/5, x even. -/
def edBase : EdPoint :=
  (edDecode (leBytes 32 (4 * edInv 5 % edP))).getD EdPoint.zero

/-- A signature of a message verifies under a public key (RFC 8032, section 5.1.7; the equation multiplied by 8).
DEDUCED (assumption log 46). -/
def ed25519Verify (key msg sig : List Byte) : Bool :=
  let r := sig.take 32
  let sc := ofLeBytes ((sig.drop 32).take 32)
  match edDecode key, edDecode r with
  | some a, some rp =>
    if edL ≤ sc then false
    else
      let k := ofLeBytes (sha512 (r ++ key ++ msg)) % edL
      ((edBase.mul 253 sc).mul 4 8).same ((rp.add (a.mul 253 k)).mul 4 8)
  | _, _ => false

end Sys2Proof.Machine
end

