-- ==== Sys2Proof/Config.lean ====
section
/-! DEFINITION. What the spec leaves open: values that some hardware has and no rule states, as constants without a body
(nothing in Lean can evaluate them), applied to the operands they depend on or to the state's count of free values. -/

namespace Sys2Proof.Config

/-- Which free page an allocation takes: the spec names none (R194); the n-th free value, taken modulo the free count.
DESIGN CHOICE (assumption log 11). -/
opaque pagePick : Nat → Nat

/-- Which free session number SESSION_OPEN takes (R188: KVM assigns it), modulo the free count.
DESIGN CHOICE (assumption log 11). -/
opaque sessionPick : Nat → Nat

/-- Which of the gaps of the table region that hold it a directory or column block takes (R188): the spec names none; modulo the
number of such gaps. DESIGN CHOICE (assumption log 11). -/
opaque tablePick : Nat → Nat

/-- DIR of a session that has no directory yet (R190), by session number. DESIGN CHOICE (assumption log 11). -/
opaque dirOffset : Nat → BitVec 32

/-- Words of the table region and of the firmware region whose content the spec does not give (R369): records of no session, pointers
to columns that are not allocated, unused places, and what the firmware keeps; by the count of free values.
DESIGN CHOICE (assumption log 13). -/
opaque tableWord : Nat → BitVec 32

/-- The factory endurance count of a physical crossbar (R223: at most 1,000). DESIGN CHOICE (assumption log 7). -/
opaque factoryEndurance : Nat → Fin 1001

/-- Factory gain f of R112, in 2^-16 above -4,096: physical crossbar, then column group and deck.
DESIGN CHOICE (assumption log 7). -/
opaque factoryGain : Nat → Nat → Fin 8193

/-- Factory temperature coefficient θ of R112, in 2^-20 per °C, two's complement: physical crossbar, group and deck.
DESIGN CHOICE (assumption log 7). -/
opaque tempCoeff : Nat → Nat → BitVec 16

/-- The calibration temperature T_cal of R112 in whole °C, two's complement, by array die (0 west, 1 east).
DESIGN CHOICE (assumption log 7). -/
opaque calTemp : Nat → BitVec 8

/-- Factory zero-level leak z of R110, in 2^-16 levels, two's complement: physical crossbar and physical column.
DESIGN CHOICE (assumption log 7). -/
opaque zeroLevel : Nat → Nat → BitVec 16

/-- Factory offset o_f of R110, in 1/16 LSB, two's complement: physical crossbar, slice 0–25 (or 32 plus the number of a spare
column, R113) and LSB index. DESIGN CHOICE (assumption log 7). -/
opaque sliceOffset : Nat → Nat → Nat → BitVec 8

/-- The factory drift coefficient ν_x of R114 in 2^-24 for each doubling of the age, by physical crossbar.
DESIGN CHOICE (assumption log 7). -/
opaque driftCoeff : Nat → Nat

/-- The factory gain f, temperature coefficient θ and zero-level leak z of the row side, in the units of R112 and R110: physical
crossbar and logical row. The spec gives the row side no table of its own. DESIGN CHOICE (assumption log 7), DESIGN CHOICE
(assumption log 40). -/
opaque rowGain : Nat → Nat → Fin 8193
opaque rowTemp : Nat → Nat → BitVec 16
opaque rowZero : Nat → Nat → BitVec 16

/-- The bits that the 32-bit generator of shadow sampling draws (R128), whose arithmetic the spec does not give: from the job number
and the core number of its seed, the step programs loaded since, and the crossbar position and channel of a pair.
DESIGN CHOICE (assumption log 58). -/
opaque shadowBits : Nat → Nat → Nat → Nat → Nat → BitVec 32

/-- The 16-bit values of the generator of stochastic rounding (R37), whose arithmetic the spec does not give: the request's seed
and the element's number. DESIGN CHOICE (assumption log 59). -/
opaque g8Draw : Nat → Nat → BitVec 16

/-- The PTP servo's error estimate in ns (R238), by the count of free values.
DEDUCED (assumption log 24), DESIGN CHOICE (assumption log 53). -/
opaque servoEstimate : Nat → Nat

/-- The window LO, HI of a monitor channel from the factory calibration record (R391), two's complement.
DESIGN CHOICE (assumption log 7). -/
opaque windowLo : Nat → BitVec 16
opaque windowHi : Nat → BitVec 16

/-- Factory values of the thermal model in FP32 (R395): the heat capacity c_i of a region or plate node, its conductance to
its plate node (for a plate node, to the coolant), and the conductance between two regions.
DESIGN CHOICE (assumption log 7). -/
opaque heatCapacity : Nat → BitVec 32
opaque plateConductance : Nat → BitVec 32
opaque regionConductance : Nat → Nat → BitVec 32

/-- The factory-set share of a rail's power that a region other than a core takes (R395): region, rail.
DESIGN CHOICE (assumption log 7). -/
opaque railShare : Nat → Nat → BitVec 32

/-- The coolant's temperature at a fast round in FP32, by the count of free values: no rule says how the model has it.
DEDUCED (assumption log 37). -/
opaque coolant : Nat → BitVec 32

/-- The temperature a plate node starts from in FP32, by the count of free values: no rule states it.
DEDUCED (assumption log 37). -/
opaque plateStart : Nat → BitVec 32

/-- The identity public key, byte by byte (R426). DESIGN CHOICE (assumption log 14). -/
opaque identityKey : Nat → BitVec 8

/-- The certificate chain of R426: its length and its bytes. DESIGN CHOICE (assumption log 14). -/
opaque certLength : Fin 4097
opaque certByte : Nat → BitVec 8

/-- The digest of the boot ROM (R429), and of the management controller application of an image, by the image's header.
DESIGN CHOICE (assumption log 14). -/
opaque bootRomDigest : Nat → BitVec 8
opaque appDigest : List (BitVec 8) → Nat → BitVec 8

/-- The 512 header bytes of the image that the factory ships in both slots (R440). DESIGN CHOICE (assumption log 9). -/
opaque factoryHeader : Nat → BitVec 8

/-- The 16-bit version of a kind of ledger record that an image writes (R444), by the image's header: calibration, health, endurance,
firmware-owned.  Nothing of the image that the spec lays out tells it. DESIGN CHOICE (assumption log 34). -/
opaque recordFormat : List (BitVec 8) → Nat → BitVec 16

/-- The signature of an SPDM response (R431), by the count of free values: the private key never leaves the security
block. DESIGN CHOICE (assumption log 9), DESIGN CHOICE (assumption log 14). -/
opaque spdmSignature : Nat → BitVec 32

/-- The two Rhonal firmware public keys of the boot ROM, byte by byte (R438), and the firmware content key (R426).
DESIGN CHOICE (assumption log 14). -/
opaque bootKey : Nat → Nat → BitVec 8
opaque contentKey : BitVec 256

/-- Whether an operation code of the prefill attention unit is a backward pass (R183, R359: the firmware forms the codes).
DEDUCED (assumption log 43). -/
opaque attnBackward : Nat → Bool

/-- The bias, normalisation, rotary and σ tables that a matrix needs (R216), each by its kind and its matrix or layer: the object names
none. From the matrix number, layer, kind and expert of its record. DESIGN CHOICE (assumption log 30). -/
opaque tableNeeds : Nat → Nat → Nat → Nat → List (Nat × Nat)

/-- How long the welt reloads its stores at a Switch (R226: at most 0.5 ms), in ns, by the count of free values.
DESIGN CHOICE (assumption log 47). -/
opaque reloadTime : Nat → Fin 500001

/-- What a BAR read of more than 64 bytes returns (R306 names none), by the count of free values.
DESIGN CHOICE (assumption log 13). -/
opaque longRead : Nat → Nat

/-- Where in CST the bytes of a transfer are staged whose address no rule gives (R375), by requester, time and length.
DESIGN CHOICE (assumption log 61). -/
opaque stagePlace : Nat → Nat → Nat → Nat

/-- How far into the object region a part of an object slot's space begins (R206): part 0 is the object as it is read, part p + 1 the tile of
position p. DESIGN CHOICE (assumption log 46). -/
opaque objectPlace : Nat → Nat → Nat

/-- The payload of a CONTROL message that carries a firmware record (R340), and the record that a payload is read as: no rule gives the form of
a record.  DESIGN CHOICE (assumption log 65). -/
opaque controlBytes : Machine.ControlRec → List (BitVec 8)
opaque controlRecord : List (BitVec 8) → Option Machine.ControlRec

/-- Where in the system region of CST the firmware's own receive window begins, in units of 64 bytes (R340, R373).
DESIGN CHOICE (assumption log 65). -/
opaque firmwareWindow : Fin 1048576

/-- The class of the work that a message forwarded for other modules carries, which its header does not say (R259, R338).
DESIGN CHOICE (assumption log 61). -/
opaque forwardPrio : Nat → Fin 8

/-- Rhonal's PCI-SIG vendor ID, which is printed on the module label (R303), and the routing ID that the host has given the physical
function (R303). DESIGN CHOICE (assumption log 54). -/
opaque vendorId : BitVec 16
opaque pfRoutingId : BitVec 16

end Sys2Proof.Config
end

