-- ==== Sys2Proof/Machine/Arbiter.lean ====
section
/-! DEFINITION. The common arbiter (spec/10_cadence_wheel.md R257–R260): who is granted a shared resource, in which
order and for how long. -/

namespace Sys2Proof.Machine

/-- Lexicographic order of ranks. -/
def rankLt : List Nat → List Nat → Bool
  | a :: t, b :: u => decide (a < b) || (a == b && rankLt t u)
  | [], _ :: _ => true
  | _, [] => false

/-- The first of a list in an order. -/
def bestOf {α : Type} (lt : α → α → Bool) (l : List α) : Option α :=
  l.foldl (fun b x => match b with | none => some x | some y => if lt x y then some x else some y) none

/-- A burst limit as it applies (R264): 0 stands for 256 beats. -/
def burstOf (n : Nat) : Nat := if n = 0 then 256 else n

/-- A requester's rank (R258): the lowest class first; within a class the fixed order, from the successor of the last requester of
the class on. -/
def Arbiter.rank (a : Arbiter) (r : ArbReq) : List Nat := [r.cls, b2n (decide (r.who < SMap.get 0 a.last r.cls)), r.who]

/-- The grant in force lasts for a requester that still asks, until its burst limit (R258). -/
def Arbiter.holds (a : Arbiter) (r : ArbReq) : Bool :=
  match a.grant with
  | some g => g.who == r.who && decide (g.used < g.limit)
  | none => false

/-- The requester that the resource is granted to when it is free (R258): the holder of the grant while it lasts, else the first in
rank. -/
def Arbiter.next (a : Arbiter) (rs : List ArbReq) : Option ArbReq :=
  match rs.find? a.holds with
  | some r => some r
  | none => bestOf (fun x y => rankLt (a.rank x) (a.rank y)) rs

/-- A requester takes `n` beats that end at an instant (R258): under the grant in force, or under a new one, which sets the rotation
of its class. -/
def Arbiter.take (a : Arbiter) (r : ArbReq) (n ends : Nat) : Arbiter :=
  if a.holds r then
    { a with grant := a.grant.map fun g => { g with used := g.used + n }, ends := ends }
  else
    { a with grant := some ⟨r.who, r.limit, n⟩, ends := ends, last := SMap.put 0 a.last r.cls (r.who + 1) }

/-- The beats a requester may use now (R258): what it needs, up to what is left of its burst. -/
def Arbiter.room (a : Arbiter) (r : ArbReq) : Nat :=
  match a.grant with
  | some g => if a.holds r then min r.beats (g.limit - g.used) else min r.beats r.limit
  | none => min r.beats r.limit

/-- The first instant at which a held requester takes grants again (R384). -/
def Arbiter.wakes (a : Arbiter) : Option Nat := (bestOf (fun x y => decide (x.held < y.held)) a.queue).map (·.held)

/-- The arbiter up to an instant (R258), for beats of a length: each time the resource is free it is granted to one of those that
are not held; a requester that needs more than its burst goes to the back, and one that has what it needs drops its request. -/
def Arbiter.run (now beat : Nat) : Nat → Arbiter → Arbiter
  | 0, a => a
  | fuel + 1, a =>
    if now < a.ends then a
    else match a.next (a.queue.filter fun r => decide (r.held ≤ a.ends)) with
      | none =>
        match a.wakes with
        | none => { a with grant := none }
        | some f =>
          if now < f then { a with grant := none, ends := now }
          else Arbiter.run now beat fuel { a with grant := none, ends := f }
      | some r =>
        let n := a.room r
        let rest := a.queue.erase r
        let q := if n < r.beats then rest ++ [{ r with beats := r.beats - n }] else rest
        Arbiter.run now beat fuel { a.take r n (a.ends + n * beat) with queue := q }

/-- How many turns empty a queue at most. -/
def Arbiter.turns (a : Arbiter) : Nat := 1 + sumN (a.queue.map fun r => 2 + r.beats)

/-- A request for beats of a length reaches an arbiter at an instant. -/
def Arbiter.ask (a : Arbiter) (now beat : Nat) (r : ArbReq) : Arbiter :=
  let a := Arbiter.run now beat a.turns a
  let a := { a with queue := a.queue ++ [r], ends := if a.queue.isEmpty then max now a.ends else a.ends }
  Arbiter.run now beat a.turns a

/-- An arbiter of the machine. -/
def State.arb (s : State) (k : Nat) : Arbiter := SMap.get Arbiter.init s.arbs k
/-- The arbiters replaced. -/
def State.withArbs (s : State) (m : SMap Arbiter) : State := { s with arbs := m }
/-- An arbiter replaced. -/
def State.setArb (s : State) (k : Nat) (a : Arbiter) : State := s.withArbs (SMap.put Arbiter.init s.arbs k a)

/-- The arbiters count external time in 1/120 ns, in which every beat of R257 is a whole number. -/
def arbTicks (ns : Nat) : Nat := 120 * ns

/-- The keys of the arbiters (R257): CST bank ports, memory channels, clusters, link injection. -/
def arbCst (port : Nat) : Nat := port
def arbMem (channel : Nat) : Nat := 1000 + channel
def arbCluster (core cluster : Nat) : Nat := 10000 + 8 * core + cluster
def arbLink (port : Nat) : Nat := 20000 + port

/-- The burst limits that apply at an arbiter (R260). -/
def arbBurst (k : Nat) : Fld :=
  if k < 1000 then TWS_FN_BURST_CST else if k < 10000 then TWS_FN_BURST_MEM else if k < 20000 then TWS_FN_BURST_FABRIC
  else TWS_FN_BURST_LINK

/-- One beat of an arbiter in 1/120 ns (R257, R333): a clock of 1.5 GHz at a CST bank port, a line's burst of 1 ns on a memory
channel (R377, R379), a flit of 1.275 ns on a link. DEDUCED (assumption log 61). -/
def arbBeat (k : Nat) : Nat := if k < 1000 then 80 else if k < 10000 then 120 else 153

/-- A request's class and burst limit under the settings in force (R259, R260): the function's MAX_CLASS clamps the class. -/
def State.arbNow (s : State) (k : Nat) (r : ArbReq) : ArbReq :=
  { r with cls := max r.prio (s.rd TWS_FN_SHARE_MAX_CLASS r.fn), limit := burstOf (s.rd (arbBurst k) r.fn) }

/-- A request as it comes to an arbiter. -/
def State.arbReq (s : State) (k who fn prio beats held : Nat) : ArbReq := s.arbNow k ⟨who, fn, prio, 0, 0, beats, held⟩

/-- Every arbiter's grants up to now are made under the settings in force, before these change (R260). -/
def State.settleArbs (s : State) : State :=
  s.withArbs (s.arbs.foldl (fun m e => SMap.put Arbiter.init m e.1 (Arbiter.run (arbTicks s.now) (arbBeat e.1) e.2.turns e.2)) [])

/-- New settings apply to every request that waits (R260); a grant in progress keeps the limit it started with. -/
def State.renewArbs (s : State) : State :=
  s.withArbs (s.arbs.foldl (fun m e =>
    SMap.put Arbiter.init m e.1 { e.2 with queue := e.2.queue.map (s.arbNow e.1) }) [])

/-- Work of a requester uses a resource for a number of beats (R257). DEDUCED (assumption log 61). -/
def State.useArb (s : State) (k : Nat) (r : ArbReq) : State := s.setArb k ((s.arb k).ask (arbTicks s.now) (arbBeat k) r)

/-- How many of the units `lo` to `hi − 1` lie on place `b` of `m`. -/
def onPlace (lo hi m b : Nat) : Nat := (hi + m - 1 - b) / m - (lo + m - 1 - b) / m

/-- The requesters of the CST bank ports in their fixed order (R257): the bridges, the hub cores, MEM, HIF, LNK, LST and KVM. -/
def whoBridge (die : Nat) : Nat := die
def whoHub (core : Nat) : Nat := 2 + (core - 512)
def whoMem : Nat := 10
def whoHif : Nat := 11
def whoLnk : Nat := 12
def whoLst : Nat := 13
def whoKvm : Nat := 14

/-- A core's way to CST: its die's bridge, or a hub core itself. -/
def whoCore (core : Nat) : Nat := if core < 512 then whoBridge (core / 256) else whoHub core

/-- The arbiters once a request for each of a list of keys and beats has come. -/
def State.askAll (s : State) (who fn prio held : Nat) (l : List (Nat × Nat)) : State :=
  s.withArbs (l.foldl (fun m e =>
    if e.2 = 0 then m
    else SMap.put Arbiter.init m e.1
      ((SMap.get Arbiter.init m e.1).ask (arbTicks s.now) (arbBeat e.1) (s.arbReq e.1 who fn prio e.2 held))) s.arbs)

/-- A number lies in a range. -/
def within (a base len : Nat) : Bool := decide (base ≤ a) && decide (a < base + len)

/-- Bytes of CST that a requester moves for a function (R257, R375): one beat for each transfer of 512 bytes on a bank's port.
DEDUCED (assumption log 61). -/
def State.useCst (s : State) (who fn prio a n : Nat) : State :=
  let lo := a / 512
  let hi := if n = 0 then lo else (a + n - 1) / 512 + 1
  s.askAll who fn prio 0 ((List.range 64).map fun b => (arbCst b, onPlace lo hi 64 b))

/-- Bytes that pass through CST at a place that no rule gives (R13, R375): the blocks that streams, copies, ingest and the host's
transfers are staged in. DESIGN CHOICE (assumption log 61). -/
def State.stage (s : State) (who fn prio n : Nat) : State := s.useCst who fn prio (Config.stagePlace who s.now n) n

/-- Up to when a function's channel queues take no grants (R384): the next boundary once it has reached its cap in the slot.
DEDUCED (assumption log 50). -/
def State.capHeld (s : State) (fn : Nat) (tierB : Bool) : Nat :=
  let class_ := s.rd (if tierB then MEM_FN_CLASS_B else MEM_FN_CLASS_A) fn
  if class_ ≠ 0 && s.time.slotNow.isSome && decide (s.tierCap tierB class_ ≤ SMap.get 0 s.mem.moved (2 * fn + b2n tierB))
  then arbTicks (s.boundary s.time.nextK) else 0

/-- Bytes of a tier that a function's queue moves (R257, R378, R380): one beat for each burst of a line on its channel.
DEDUCED (assumption log 61). -/
def State.useTier (s : State) (tierB : Bool) (fn prio a n : Nat) : State :=
  let line := if tierB then 32 else 64
  let unit := if tierB then 1024 else 256
  let places := if tierB then 64 else 256
  let lo := a / unit
  let hi := if n = 0 then lo else (a + n - 1) / unit + 1
  s.askAll fn fn prio (s.capHeld fn tierB)
    (if hi - lo < places then
      (natsFrom lo (hi - lo)).map fun u =>
        (arbMem (places + u % places), ceilDiv (min (a + n) ((u + 1) * unit) - max a (u * unit)) line)
    else (List.range places).map fun b => (arbMem (places + b), onPlace lo hi places b * unit / line))

/-- The arbiters' keys of a tier's channels. -/
def ofTier (tierB : Bool) (k : Nat) : Bool := if tierB then within k 1064 64 else within k 1256 256

/-- A function has reached its cap: what waits of it at the tier's channels takes no further grants before the next boundary
(R384, R385). DEDUCED (assumption log 50). -/
def State.holdFn (s : State) (fn : Nat) (tierB : Bool) : State :=
  let till := s.capHeld fn tierB
  s.withArbs (s.arbs.foldl (fun m e => SMap.put Arbiter.init m e.1 (if ofTier tierB e.1 then
      let a := Arbiter.run (arbTicks s.now) (arbBeat e.1) e.2.turns e.2
      { a with queue := a.queue.map fun r => if r.fn = fn then { r with held := max r.held till } else r }
    else e.2)) [])

/-- Tier bytes that a function's work moves in a slot (R384): reaching the cap is counted, once in a slot, and holds what
waits. DEDUCED (assumption log 50). -/
def State.chargeTier (s : State) (fn : Nat) (tierB : Bool) (bytes : Nat) : State :=
  let class_ := s.rd (if tierB then MEM_FN_CLASS_B else MEM_FN_CLASS_A) fn
  if class_ = 0 || bytes = 0 || s.time.slotNow.isNone then s
  else
    let k := 2 * fn + b2n tierB
    let old := SMap.get 0 s.mem.moved k
    let cap := s.tierCap tierB class_
    let s := s.withMem { s.mem with moved := SMap.put 0 s.mem.moved k (old + bytes) }
    s.when (decide (old < cap) && decide (cap ≤ old + bytes)) fun s => (s.count MEM_CAP_WAIT_CNT_COUNT).holdFn fn tierB

end Sys2Proof.Machine
end

