-- ==== Sys2Proof/Machine/Hif.lean ====
section
/-! DEFINITION. What HIF does for every command: MSI-X messages (R317), ring writes with their status blocks and signals
(R314, R315, R318), completion entries and token records (R276–R279), and the events of R319. -/

namespace Sys2Proof.Machine

/-- Queue `q`. -/
def State.queue (s : State) (q : Nat) : QueueSt := SMap.get QueueSt.init s.hif.queues q
/-- Queue `q` changed. -/
def State.setQueue (s : State) (q : Nat) (v : QueueSt) : State :=
  { s with hif := { s.hif with queues := SMap.put QueueSt.init s.hif.queues q v } }
/-- Function `f`. -/
def State.fn (s : State) (f : Nat) : FnSt := SMap.get FnSt.init s.hif.fns f
/-- Function `f` changed. -/
def State.setFn (s : State) (f : Nat) (v : FnSt) : State :=
  { s with hif := { s.hif with fns := SMap.put FnSt.init s.hif.fns f v } }
/-- MSI-X vector `v` of function `f`. -/
def State.vec (s : State) (f v : Nat) : MsixSt := SMap.get MsixSt.init s.hif.msix (64 * f + v)
/-- MSI-X vector `v` of function `f` changed. -/
def State.setVec (s : State) (f v : Nat) (m : MsixSt) : State :=
  { s with hif := { s.hif with msix := SMap.put MsixSt.init s.hif.msix (64 * f + v) m } }

/-- A function exists: the physical one, or a virtual one while VF Enable is set (R303). -/
def State.fnExists (s : State) (f : Nat) : Bool := f == 0 || (s.hif.vfEnable && decide (f ≤ s.hif.numVfs))

/-- A reset sequence of the function runs (R322). -/
def State.resetting (s : State) (f : Nat) : Bool := (s.fn f).reset.isSome

/-- Host writes are issued for a function: not after an uncorrectable error (R325), not during a reset sequence that is
no serving reset (R322 step 1). -/
def State.hostOn (s : State) (f : Nat) : Bool :=
  !s.hif.stopped &&
  match (s.fn f).reset with
  | some (_, false) => false
  | _ => true

/-- The queue number of a request that another module carries here (R268): it has no ring. -/
def noRing : Nat := 1000

/-- The PRIO of the work of a function's session (R259); 7 where the handle names none. -/
def State.handlePrio (s : State) (f h : Nat) : Nat :=
  match s.serve.sessions.find? fun x => x.fn == f && x.handle == h with
  | some x => x.prio
  | none => 7

/-- HIF moves bytes between the host and CST for a function (R257, R375). DESIGN CHOICE (assumption log 61). -/
def State.hostMove (s : State) (f prio n : Nat) : State := s.stage whoHif f prio n

/-- A posted write reaches the host. DESIGN CHOICE (assumption log 5). -/
def State.post (s : State) (w : HostWrite) : State := { s with hif := { s.hif with out := s.hif.out ++ [w] } }

/-- A signal on a vector (R317): discarded while MSI-X Enable is 0, pending while masked (in D3hot too, R326), sent
otherwise. DEDUCED (assumption log 31). -/
def State.signal (s : State) (f v : Nat) : State :=
  let F := s.fn f
  if !s.hostOn f || !F.msixEnable then s
  else
    let e := s.vec f v
    if e.masked || F.fnMask || F.d3 then s.setVec f v { e with pending := true }
    else s.post (.msix f v e.addr e.data)

/-- The owning function of a queue (R309). -/
def State.owner (s : State) (q : Nat) : Nat := s.rd HIF_Q_STATUS_OWNER q

/-- The status block write of R314. -/
def State.statusWrite (s : State) (q : Nat) : State :=
  let Q := s.queue q
  s.post (.status q (s.rd HIF_Q_STAT_ADDR_ADDR q) Q.sqHead Q.cqTail Q.tqTail)

/-- The signal of a ring (R318): the message of the completion or the token ring, where its vector is enabled; the count
of unsignalled entries starts again. -/
def State.ringSignal (s : State) (q : Nat) (tok : Bool) : State :=
  let Q := s.queue q
  let s := s.setQueue q (if tok then { Q with tqNew := 0 } else { Q with cqNew := 0 })
  if tok then
    (if s.bit HIF_Q_VEC_TQ_EN q then s.signal (s.owner q) (s.rd HIF_Q_VEC_TQ_VEC q) else s)
  else
    (if s.bit HIF_Q_VEC_CQ_EN q then s.signal (s.owner q) (s.rd HIF_Q_VEC_CQ_VEC q) else s)

/-- After an entry is written to a ring: the status block (R314), then the ring's signal when CNT entries have gathered
or TIME is 0 (R318). -/
def State.ringWrote (s : State) (q : Nat) (tok : Bool) : State :=
  let s := s.statusWrite q
  let Q := s.queue q
  let n := (if tok then Q.tqNew else Q.cqNew) + 1
  let Q := if tok then { Q with tqNew := n, tqSince := if n = 1 then s.now else Q.tqSince }
           else { Q with cqNew := n, cqSince := if n = 1 then s.now else Q.cqSince }
  let s := s.setQueue q Q
  if max (s.rd HIF_Q_MOD_CNT q) 1 ≤ n || s.rd HIF_Q_MOD_TIME q == 0 then s.ringSignal q tok else s

/-- Occupancy of a ring (R311). -/
def occupancy (tail head : Nat) : Nat := (tail + 2 ^ 32 - head % 2 ^ 32) % 2 ^ 32

/-- The fields of a completion entry (R276). -/
structure Completion where
  tag : Nat
  status : Nat
  opcode : Nat
  flags : Nat
  handle : Nat
  time : Nat
  detail0 : Nat
  detail1 : Nat
deriving DecidableEq, Repr

/-- The 32 bytes of a completion entry (R276). -/
def Completion.encode (c : Completion) : Entry256 :=
  BitVec.ofNat 256 (c.tag % 2 ^ 32 + (c.status % 256) * 2 ^ 32 + (c.opcode % 256) * 2 ^ 40 + (c.flags % 32) * 2 ^ 48
    + (c.handle % 2 ^ 64) * 2 ^ 64 + (c.time % 2 ^ 64) * 2 ^ 128 + (c.detail0 % 2 ^ 32) * 2 ^ 192
    + (c.detail1 % 2 ^ 32) * 2 ^ 224)

/-- The 16 bytes of a token record (R278). -/
def tokenEntry (tag token : Nat) (late last oob draft : Bool) (time : Nat) : Entry128 :=
  BitVec.ofNat 128 (tag % 2 ^ 32 + (token % 2 ^ 24) * 2 ^ 32 + b2n late * 2 ^ 56 + b2n last * 2 ^ 57 + b2n oob * 2 ^ 58
    + b2n draft * 2 ^ 59 + (time % 2 ^ 64) * 2 ^ 64)

/-- The code of a status (R301). -/
def Status.code : Status → Nat
  | .ok => 0x00 | .cancelled => 0x01 | .alreadyDone => 0x02 | .lengthExceeds => 0x10 | .badOpcode => 0x11
  | .badHandle => 0x12 | .quota => 0x13 | .genRange => 0x14 | .deadlineRange => 0x15 | .badImage => 0x16
  | .deadlineMissed => 0x20 | .numeric => 0x21 | .evictedRecomputed => 0x22 | .jobFault => 0x30
  | .functionReset => 0x31 | .barrierOverrun => 0x32 | .drainIncomplete => 0x33 | .aborted => 0x34 | .internal => 0x3F

/-- The code of an opcode (R270). -/
def Op.code : Op → Nat
  | .nop => 0x00 | .sessionOpen => 0x01 | .prefill => 0x02 | .generate => 0x03 | .append => 0x04 | .pause => 0x05
  | .resume => 0x06 | .clone => 0x07 | .cancel => 0x08 | .close => 0x09 | .bindWeights => 0x10 | .swapWeights => 0x11
  | .loadObject => 0x12 | .adapterLoad => 0x13 | .adapterTune => 0x14 | .fence => 0x1F | .unknown c => c

/-- The entry of a serial number has completed: it is no longer open in its ring, and each fence of the ring with no
earlier entry open completes, in ring order (R270). -/
def State.entryDone (s : State) (q serial : Nat) : State :=
  let Q := s.queue q
  s.setQueue q { Q with open_ := Q.open_.filter (· != serial), owed := Q.owed - 1 }

/-- A completion entry is written at the completion tail, with its status block and signal. -/
def State.writeCompletion (s : State) (q : Nat) (e : Entry256) : State :=
  let Q := s.queue q
  let idx := Q.cqTail
  let s := s.post (.completion q idx (s.rd HIF_Q_CQ_BASE_ADDR q + idx % 2 ^ s.rd HIF_Q_SIZE_CQ_LOG2 q * 32) e)
  let s := s.setQueue q { Q with cqTail := (idx + 1) % 2 ^ 32 }
  s.ringWrote q false

/-- A token record is written at the token tail, with its status block and signal. -/
def State.writeToken (s : State) (q : Nat) (e : Entry128) : State :=
  let Q := s.queue q
  let idx := Q.tqTail
  let s := s.post (.token q idx (s.rd HIF_Q_TQ_BASE_ADDR q + idx % 2 ^ s.rd HIF_Q_SIZE_TQ_LOG2 q * 16) e)
  let s := s.setQueue q { Q with tqTail := (idx + 1) % 2 ^ 32 }
  s.ringWrote q true

/-- The token ring of a queue has room (R315). -/
def State.tokenRoom (s : State) (q : Nat) : Bool :=
  let Q := s.queue q
  decide (occupancy Q.tqTail Q.tqHead < 2 ^ s.rd HIF_Q_SIZE_TQ_LOG2 q)

/-- Each fence of the ring with no earlier entry open completes, in ring order (R270). -/
def State.runFences (s : State) (q : Nat) : State :=
  (s.queue q).fences.foldl (fun s (serial, tag) =>
    if (s.queue q).open_.any (fun o => decide (o < serial)) then s
    else
      let Q := s.queue q
      let s := s.setQueue q { Q with fences := Q.fences.filter (·.1 != serial) }
      let s := if s.hostOn (s.owner q) then
          s.writeCompletion q (Completion.encode ⟨tag, Status.code .ok, Op.code .fence, 0, 0, s.now, 0, 0⟩) else s
      s.entryDone q serial) s

/-- A completion entry leaves for its ring (R276, R313): written at once, or dropped while no host write is issued; then its entry has
completed.  A request that another module carries here has no ring (R268). -/
def State.finishEntry (s : State) (q serial : Nat) (e : Entry256) : State :=
  if q = noRing then s
  else
    let f := s.owner q
    let s := if s.hostOn f then (s.writeCompletion q e).hostMove f (s.handlePrio f (bitsOf e.toNat 64 64)) 32 else s
    (s.entryDone q serial).runFences q

/-- The firmware writes no completion while it restarts (R355), but those of a function being reset. DEDUCED (assumption log 34). -/
def State.completionsWait (s : State) (q : Nat) : Bool := s.ctl.restarting && !s.resetting (s.owner q)

/-- A completion entry is due: it waits behind a waiting token record of its own request (R315) and for the end of a firmware
restart (R355), or is written. -/
def State.complete (s : State) (q serial : Nat) (c : Completion) : State :=
  let Q := s.queue q
  if s.completionsWait q || Q.waiting.any (fun w => match w with | .token o _ => o == serial | _ => false) then
    s.setQueue q { Q with waiting := Q.waiting ++ [.completion serial c.encode] }
  else s.finishEntry q serial c.encode

/-- A token record of a request goes to its ring, with the class of its session (R259). -/
def State.putToken (s : State) (q serial : Nat) (e : Entry128) : State :=
  let prio := match s.serve.sessions.find? fun x => x.queue.any (·.serial == serial) with | some x => x.prio | none => 7
  (s.writeToken q e).hostMove (s.owner q) prio 16

/-- A token record's release time has come (R254, R315): written, or left waiting behind the records before it. -/
def State.releaseToken (s : State) (q serial : Nat) (e : Entry128) : State :=
  if q = noRing || !s.hostOn (s.owner q) then s
  else
    let Q := s.queue q
    if Q.waiting.any (fun w => match w with | .token _ _ => true | _ => false) || !s.tokenRoom q then
      (s.setQueue q { Q with waiting := Q.waiting ++ [.token serial e] }).count HIF_TQ_WAIT_CNT_COUNT
    else s.putToken q serial e

/-- The items waiting for room, oldest first: token records in order while the ring has room and the host is written (R325), and each
completion that no longer follows a waiting record (R315) and waits for no restart (R355). -/
def State.drainItems (s : State) (q : Nat) : List RingItem → List RingItem → State × List RingItem
  | [], kept => (s, kept)
  | .token o e :: t, kept =>
    if kept.isEmpty && s.hostOn (s.owner q) && s.tokenRoom q then State.drainItems (s.putToken q o e) q t kept
    else State.drainItems s q t (kept ++ [.token o e])
  | .completion o e :: t, kept =>
    if s.completionsWait q || kept.any (fun w => match w with | .token o' _ => o' == o | _ => false) then
      State.drainItems s q t (kept ++ [.completion o e])
    else State.drainItems (s.finishEntry q o e) q t kept

/-- Room has come: the waiting items of a queue are written as far as it lasts (R315). -/
def State.drainWaiting (s : State) (q : Nat) : State :=
  let w := (s.queue q).waiting
  let s := s.setQueue q { s.queue q with waiting := [] }
  let r := s.drainItems q w []
  r.1.setQueue q { r.1.queue q with waiting := r.2 ++ (r.1.queue q).waiting }

/-- The sources of the physical function's event vectors (R319). -/
inductive EvtSrc where
  | tws | sms | ptm | mbx
deriving DecidableEq, Repr

/-- An event is signalled on a function's vector: not while the function is reset (R322, step 1), a serving reset included.
DEDUCED (assumption log 32). -/
def State.eventSignal (s : State) (f v : Nat) : State := if s.resetting f then s else s.signal f v

/-- An event of a source reaches the physical function's vector, where it is enabled (R319). -/
def State.pfEvent (s : State) : EvtSrc → State
  | .tws => if s.bit HIF_EVT_VEC_TWS_EN then s.eventSignal 0 (s.rd HIF_EVT_VEC_TWS_VEC) else s
  | .sms => if s.bit HIF_EVT_VEC_SMS_EN then s.eventSignal 0 (s.rd HIF_EVT_VEC_SMS_VEC) else s
  | .ptm => if s.bit HIF_EVT_VEC_PTM_EN then s.eventSignal 0 (s.rd HIF_EVT_VEC_PTM_VEC) else s
  | .mbx => if s.bit HIF_EVT_VEC_MBX_EN then s.eventSignal 0 (s.rd HIF_EVT_VEC_MBX_VEC) else s

/-- A bit of an event register is set: the vector is raised when a bit newly stands in both the register and its enable
(R264, R406, R424). -/
def State.raise (s : State) (ev : Fld) (enabled : Bool) (src : EvtSrc) : State :=
  if s.bit ev then s else (s.setBit ev).when enabled (·.pfEvent src)

/-- A TWS event (R264). -/
def State.twsEvent (s : State) (ev en : Fld) : State := s.raise ev (s.bit en) .tws

/-- A queue event of a function (R319): DB_ERR or FETCH_ERR on one of its queues. -/
def State.hifEvent (s : State) (f : Nat) : State :=
  if f = 0 then s.pfEvent .mbx
  else if s.bit HIF_VF_EVT_VEC_HIF_EN f then s.eventSignal f (s.rd HIF_VF_EVT_VEC_HIF_VEC f) else s

/-- A mailbox event of a function (R319, R366). -/
def State.mbxEvent (s : State) (f : Nat) : State :=
  if f = 0 then s.pfEvent .mbx
  else if s.bit HIF_VF_EVT_VEC_MBX_EN f then s.eventSignal f (s.rd HIF_VF_EVT_VEC_MBX_VEC f) else s

/-- TWS_STATUS.QUALITY changes: the event QUALITY_CHG (R239, R264). -/
def State.setQuality (s : State) (q : Nat) : State :=
  if s.rd TWS_STATUS_QUALITY = q then s
  else (s.wr TWS_STATUS_QUALITY q).twsEvent TWS_EVENT_QUALITY_CHG TWS_EVENT_EN_QUALITY_CHG

/-- An error is reported through AER (R325). -/
def State.aer (s : State) (f : Nat) (kind : String) : State := s.withHif { s.hif with aer := s.hif.aer ++ [(f, kind)] }

end Sys2Proof.Machine
end

