-- ==== Sys2Proof/Machine/Kvm.lean ====
section
/-! DEFINITION. The key-value page manager (spec/08_kv_pages.md): page columns and the table region, the token log, allocation under
quotas, demotion, eviction and the cullet list, and the records a session leaves when it closes. -/

namespace Sys2Proof.Machine

/-- A session by its number. -/
def State.sess (s : State) (n : Nat) : Option Session := s.serve.sessions.find? (·.num == n)

/-- The sessions replaced. -/
def State.setSessions (s : State) (l : List Session) : State := { s with serve := { s.serve with sessions := l } }

/-- A session changed in place. -/
def State.setSess (s : State) (x : Session) : State :=
  s.setSessions (updFirst (·.num == x.num) (fun _ => x) s.serve.sessions)

/-- The open session of a function's handle (R200): neither closing nor still being cloned. -/
def State.openSess (s : State) (f h : Nat) : Option Session :=
  s.serve.sessions.find? fun x => x.fn == f && x.handle == h && x.closing.isNone && x.cloneOf.isNone

/-- The session that a CANCEL names: the open one, else one that is closing, whose requests its CLOSE has ended (R289, R300). -/
def State.cancelSess (s : State) (f h : Nat) : Option Session :=
  match s.openSess f h with
  | some x => some x
  | none => s.serve.sessions.find? fun x => x.fn == f && x.handle == h && x.closing.isSome

/-- A handle is open in a function or reserved by a CLONE in progress (R200, R202). -/
def State.handleTaken (s : State) (f h : Nat) : Bool :=
  s.serve.sessions.any fun x => x.fn == f && x.handle == h && x.closing.isNone

/-- Positions a page column covers (R187): 256 in FP8, 512 in K4. -/
def colSpan (kvFmt : Nat) : Nat := if kvFmt = 0 then 256 else 512

/-- Pages of a column for `lh` layer and head pairs (R187). -/
def colPages (kvFmt lh : Nat) : Nat := if kvFmt = 0 then lh else lh + ceilDiv lh 16

/-- The pages allocated in the other tier for a column's move (R197, R199). -/
def Column.target (c : Column) : List Nat :=
  match c.move with
  | some (l, _) => l
  | none => []

/-- Pages a column holds in a tier, those of a move in progress among them. -/
def Column.pagesIn (c : Column) (tierB : Bool) : Nat := if c.tierB == tierB then c.pages.length else c.target.length

/-- Pages a session holds in a tier; its token pages lie in tier B. -/
def Session.pagesIn (x : Session) (tierB : Bool) : Nat :=
  sumN ((x.columns ++ x.old).map (·.pagesIn tierB)) + (if tierB then x.tokenPages.length else 0)

/-- KVM_FN_USE_A and KVM_FN_USE_B (R204). -/
def State.fnUse (s : State) (f : Nat) (tierB : Bool) : Nat :=
  sumN ((s.serve.sessions.filter (·.fn == f)).map (·.pagesIn tierB))

/-- KVM_FN_OPEN (R204): every session of the function that has a record, also one that is still being cloned or that closes.
DESIGN CHOICE (assumption log 27). -/
def State.fnOpen (s : State) (f : Nat) : Nat :=
  (s.serve.sessions.filter fun x => x.fn == f).length

/-- Pages handed out in a tier. -/
def State.usedPages (s : State) (tierB : Bool) : SMap Bool := if tierB then s.serve.usedB else s.serve.usedA

/-- First page and size of a tier's pool (R185). -/
def State.pool (s : State) (tierB : Bool) : Nat × Nat :=
  if tierB then (s.rd KVM_POOL_B_FIRST_PAGE, s.rd KVM_POOL_B_COUNT_COUNT)
  else (s.rd KVM_POOL_A_FIRST_PAGE, s.rd KVM_POOL_A_COUNT_COUNT)

/-- The frames of a tier that no allocation may take: handed out or retired (R383), rising. -/
def State.takenFrames (s : State) (tierB : Bool) : List Nat :=
  let p := s.pool tierB
  let inPool (x : Nat) : Bool := decide (p.1 ≤ x) && decide (x < p.1 + p.2)
  let used := ((s.usedPages tierB).map (·.1)).filter inPool
  let ret := (if tierB then s.mem.retiredB else s.mem.retiredA).filter fun x => inPool x && !used.contains x
  (ret.foldl (fun m x => SMap.insert m x true) (used.map fun x => (x, true))).map (·.1)

/-- KVM_FREE_A and KVM_FREE_B (R204): 0 until KVM is enabled. -/
def State.freePages (s : State) (tierB : Bool) : Nat :=
  if s.bit KVM_CTRL_EN then (s.pool tierB).2 - (s.takenFrames tierB).length else 0

/-- The `n`-th frame from `lo` that a rising list does not take. -/
def nthFree : List Nat → Nat → Nat → Nat
  | [], lo, n => lo + n
  | a :: t, lo, n => if a < lo then nthFree t lo n else if n < a - lo then lo + n else nthFree t (a + 1) (n - (a - lo))

/-- Marks pages of a tier as handed out or as free. -/
def State.markPages (s : State) (tierB : Bool) (used : Bool) (l : List Nat) : State :=
  let m := l.foldl (fun m p => SMap.put false m p used) (s.usedPages tierB)
  { s with serve := if tierB then { s.serve with usedB := m } else { s.serve with usedA := m } }

/-- Takes one free page of a tier: which one is a free value (assumption log 11). -/
def State.takePage (s : State) (tierB : Bool) : Nat × State :=
  let (i, s) := s.draw
  let free := s.freePages tierB
  let p := nthFree (s.takenFrames tierB) (s.pool tierB).1 (Config.pagePick i % max free 1)
  (p, s.markPages tierB true [p])

/-- Takes `n` free pages of a tier. -/
def State.takePages (s : State) (tierB : Bool) : Nat → List Nat × State
  | 0 => ([], s)
  | n + 1 =>
    let (p, s) := s.takePage tierB
    let (l, s) := State.takePages s tierB n
    (p :: l, s)

/-- Frees the pages of a column, in the tier it lies in and where a move has allocated them (R201). -/
def State.freeColumn (s : State) (c : Column) : State := (s.markPages c.tierB false c.pages).markPages (!c.tierB) false c.target

/-! The content of pages (R186). -/

/-- The bytes of a tier. -/
def State.tierCells (s : State) (tierB : Bool) : List Host.Cell := if tierB then s.mem.tierB else s.mem.tierA

/-- The bytes of a tier replaced. -/
def State.withTier (s : State) (tierB : Bool) (l : List Host.Cell) : State :=
  s.withMem (if tierB then { s.mem with tierB := l } else { s.mem with tierA := l })

/-- The content of frame `p` of a tier put in frame `q` of a tier (R195, R197, R199, R202, R383). -/
def State.copyPage (s : State) (fromB : Bool) (p : Nat) (toB : Bool) (q : Nat) : State :=
  let src := (s.tierCells fromB).filter fun e => e.1 / 65536 == p
  let kept := (s.tierCells toB).filter fun e => e.1 / 65536 != q
  s.withTier toB (src.foldl (fun m e => SMap.put 0#8 m (65536 * q + e.1 % 65536) e.2) kept)

/-- The contents of frames put in as many other frames, in order: class-7 work of a function (R259), which passes through CST (R375) and
whose bytes count towards its caps (R384). -/
def State.copyPages (s : State) (fn : Nat) (fromB : Bool) (ps : List Nat) (toB : Bool) (qs : List Nat) : State :=
  let l := ps.zip qs
  let s := forEach l s fun s e =>
    ((s.copyPage fromB e.1 toB e.2).useTier fromB fn 7 (65536 * e.1) 65536).useTier toB fn 7 (65536 * e.2) 65536
  ((s.stage whoKvm fn 7 (65536 * l.length)).chargeTier fn fromB (65536 * l.length)).chargeTier fn toB (65536 * l.length)

/-- The tier-B address of a position's entry in the token log (R186). -/
def Session.tokenAddr (x : Session) (i : Nat) : Nat := 65536 * nth 0 x.tokenPages (i / 16384) + 4 * (i % 16384)

/-- The token log (R186, R191): the IDs of the committed positions, in order. -/
def State.tokenLog (s : State) (x : Session) : List Nat :=
  (List.range x.committed).map fun i => ofLeBytes (s.readBytes .tierB (x.tokenAddr i) 4) % 2 ^ 24

/-- Token IDs written to the token log from a position on (R186, R191). -/
def State.writeTokens (s : State) (x : Session) (i : Nat) : List Nat → State
  | [] => s
  | w :: t => (s.writeBytes .tierB (x.tokenAddr i) (leBytes 4 (w % 2 ^ 24))).writeTokens x (i + 1) t

/-! The rate of copies (R204). -/

/-- KVM_MIG_CTRL.RATE in bytes per ns; 0 applies as 1. -/
def State.copyRate (s : State) : Nat := max 1 (s.rd KVM_MIG_CTRL_RATE)

/-- The copy capacity: the bytes that all copies together could have moved up to now (R204).
DEDUCED (assumption log 25). -/
def State.copyCap (s : State) : Nat := s.serve.copyCap + s.copyRate * (s.now - s.serve.copyAt)

/-- The capacity up to now is settled under the rate in force, before the rate changes (R204). -/
def State.settleCopies (s : State) : State := s.withServe { s.serve with copyCap := s.copyCap, copyAt := s.now }

/-- The capacity at which a copy of pages is done that starts at a capacity, after the copies that have ended
(R197, R204). DEDUCED (assumption log 25). -/
def State.copyEnd (s : State) (from_ pages : Nat) : Nat := max s.serve.copyUsed from_ + 65536 * pages

/-- A copy ends: the capacity that it has used. -/
def State.useCopy (s : State) (from_ pages : Nat) : State := s.withServe { s.serve with copyUsed := s.copyEnd from_ pages }

/-- A column is being demoted, promoted or copied (R195). -/
def State.copying (s : State) (c : Column) : Bool := c.copied || c.move.isSome || decide (s.copyCap < c.busyTo)

/-- A column of a session may be taken by eviction or demotion (R195). -/
def State.takable (s : State) (c : Column) : Bool := !s.copying c

/-! CST (R376). -/

/-- Copies of a function's sessions in progress: each holds a block of CST. DESIGN CHOICE (assumption log 25). -/
def State.copiesOf (s : State) (f : Nat) : Nat :=
  sumN ((s.serve.sessions.filter (·.fn == f)).map fun x =>
    b2n x.cloneOf.isSome + (x.columns.filter fun c => c.move.isSome || decide (s.copyCap < c.busyTo)).length)

/-- The CST bytes charged to a function (R376): for its launches, and for its copies. -/
def State.cstUsed (s : State) (f : Nat) : Nat := SMap.get 0 s.ctl.cstUse f + 65536 * s.copiesOf f

/-- The bytes of CST's function pool in use. -/
def State.cstAll (s : State) : Nat := sumN ((List.range 32).map s.cstUsed)

/-- The CST bytes a function's work may still take (R376): within its quota, if it has one, and the pool.
DEDUCED (assumption log 26). -/
def State.cstFits (s : State) (f blocks : Nat) : Bool :=
  let q := min 640 (s.rd CST_FN_QUOTA_MIB f)
  (q = 0 || decide (s.cstUsed f + blocks * 65536 ≤ q * 1048576)) && decide (s.cstAll + blocks * 65536 ≤ 640 * 1048576)

/-- CST blocks charged or released (R376). -/
def State.chargeCst (s : State) (f : Nat) (bytes : Nat) (add : Bool) : State :=
  let use := SMap.get 0 s.ctl.cstUse f
  { s with ctl := { s.ctl with cstUse := SMap.put 0 s.ctl.cstUse f (if add then use + bytes else use - bytes) } }

/-! Eviction (R195). -/

/-- A session may be a victim (R195): no recompute runs, no step pins it, it is not one of those that wait. -/
def Session.evictable (x : Session) (waiting : List Nat) : Bool :=
  !x.recomp && x.pins.isEmpty && !waiting.contains x.num && x.cloneOf.isNone && x.closing.isNone

/-- The session's lowest-positioned resident column. -/
def Session.lowest (x : Session) : Option Column :=
  x.columns.foldl (fun b c => match b with
    | none => some c
    | some d => if c.index < d.index then some c else some d) none

/-- The column count of a session that stays after one is taken out. -/
def Session.dropColumn (x : Session) (c : Column) : Session :=
  { x with columns := x.columns.filter (·.index != c.index) }

/-- Evicts a column (R195): freed in whichever tier it lies, EVICTED raised to its last position + 1, capped at the
committed length, and counted. -/
def State.evictColumn (s : State) (x : Session) (c : Column) : State :=
  let last := (c.index + 1) * colSpan x.kvFmt
  let x := { x.dropColumn c with evicted := max x.evicted (min last x.committed) }
  ((s.freeColumn c).setSess x).count KVM_EVICT_CNT_COUNT

/-- The order of victims of R195: 1 and 2 for paused sessions, 3 for ACTIVE ones; RESUMING ones are in none. -/
def Session.order (x : Session) (now : Nat) : Option Nat :=
  match x.state with
  | .pausing | .paused =>
    if x.expiry != 0 && decide (x.pausedAt + (x.expiry - x.pausedAt) / 2 < now) then some 1 else some 2
  | .active => some 3
  | .resuming => none

/-- A victim's rank within R195, compared from the left; ties go to the lower session number. -/
def Session.rank (x : Session) (now : Nat) : List Nat :=
  match x.order now with
  | some 1 => [1, x.expiry, 0, x.num]
  | some 2 => [2, 7 - x.prio, x.pausedAt, x.num]
  | some _ => [3, 7 - x.prio, x.lastStep, x.num]
  | none => [4, 0, 0, x.num]

/-- The sessions a shortage in a tier may take from: of one function (step 1 of R194) or of any, holding a resident
column in the tier, whose lowest resident column is not excluded; a tier-B shortage takes paused ones only. -/
def State.victims (s : State) (tierB : Bool) (only : Option Nat) (waiting : List Nat) : List Session :=
  s.serve.sessions.filter fun x =>
    x.evictable waiting
      && (match only with | some f => x.fn == f | none => true)
      && (match x.order s.now with | some 3 => !tierB | some _ => true | none => false)
      && x.columns.any (·.tierB == tierB)
      && (match x.lowest with | some c => s.takable c | none => false)

/-- The next victim of R195. -/
def State.nextVictim (s : State) (tierB : Bool) (only : Option Nat) (waiting : List Nat) : Option Session :=
  bestOf (fun x y => rankLt (x.rank s.now) (y.rank s.now)) (s.victims tierB only waiting)

/-- Room in a tier for `n` pages of a function: whether quota and pool both hold them without freeing anything. -/
def State.fits (s : State) (f : Nat) (tierB : Bool) (n : Nat) : Bool :=
  decide (s.fnUse f tierB + n ≤ s.rd (if tierB then KVM_FN_QUOTA_B_PAGES else KVM_FN_QUOTA_A_PAGES) f)
    && decide (n ≤ s.freePages tierB)

/-- Moves a tier-A column to tier B for a shortage (R195): its tier-B pages taken, its tier-A pages freed; the launch that
needs them waits for the copy, and nothing takes the column until it ends. DEDUCED (assumption log 26). -/
def State.demoteNow (s : State) (x : Session) (c : Column) : State :=
  let (l, s) := s.takePages true c.pages.length
  let s := (s.copyPages x.fn false c.pages true l).markPages false false c.pages
  let ends := s.copyEnd s.copyCap c.pages.length
  let s := s.useCopy s.copyCap c.pages.length
  let cols := updFirst (·.index == c.index)
    (fun d => { d with tierB := true, pages := l, retryAt := 0, busyTo := ends }) x.columns
  let x := { x with columns := cols }
  let x := if x.state = .pausing && cols.all (·.tierB) then { x with state := .paused } else x
  (s.setSess x).count KVM_DEMOTE_CNT_COUNT

/-- The next column a tier-A shortage demotes (R195): of a paused session in the order of R195, the lowest tier-A column
not held by a step, move or copy, where tier B has room without eviction. -/
def State.nextDemotion (s : State) (only : Option Nat) (waiting : List Nat) : Option (Session × Column) :=
  let cand := s.serve.sessions.filterMap fun x =>
    if x.evictable waiting && (match only with | some f => x.fn == f | none => true)
        && (x.state = .pausing || x.state = .paused) then
      match bestOf (fun (a b : Column) => decide (a.index < b.index)) (x.columns.filter fun c => !c.tierB && s.takable c) with
      | some c => if s.fits x.fn true c.pages.length then some (x, c) else none
      | none => none
    else none
  bestOf (fun a b => rankLt (a.1.rank s.now) (b.1.rank s.now)) cand

/-- Frees pages of a tier until a condition holds: first demotions of a tier-A shortage, then evictions (R194, R195); the
fuel bounds the columns there are. DEDUCED (assumption log 26).  Demotion is tried again before each eviction, which the spec leaves open.
DESIGN CHOICE (assumption log 26). -/
def State.relieve (s : State) (tierB : Bool) (only : Option Nat) (waiting : List Nat) (enough : State → Bool) :
    Nat → State
  | 0 => s
  | k + 1 =>
    if enough s then s
    else
      match (if tierB then none else s.nextDemotion only waiting) with
      | some (x, c) => State.relieve (s.demoteNow x c) tierB only waiting enough k
      | none =>
        match s.nextVictim tierB only waiting with
        | none => s
        | some x =>
          match x.lowest with
          | some c => State.relieve (s.evictColumn x c) tierB only waiting enough k
          | none => s

/-- How many columns the sessions hold: the fuel of `relieve`. -/
def State.columnCount (s : State) : Nat := sumN (s.serve.sessions.map (·.columns.length)) * 2 + 1

/-- Steps 1 and 2 of R194 for `n` pages of a tier: whether they can be had, and the state after what was freed.
DEDUCED (assumption log 26). -/
def State.makeRoom (s : State) (f : Nat) (tierB : Bool) (n : Nat) (waiting : List Nat) : Bool × State :=
  let quota := s.rd (if tierB then KVM_FN_QUOTA_B_PAGES else KVM_FN_QUOTA_A_PAGES) f
  if quota < n then (false, s)
  else
    let underQuota (s : State) : Bool := decide (s.fnUse f tierB + n ≤ quota)
    let s := if underQuota s then s else s.relieve tierB (some f) waiting underQuota s.columnCount
    if !underQuota s then (false, s)
    else
      let inPool (s : State) : Bool := decide (n ≤ s.freePages tierB)
      let s := if inPool s then s else s.relieve tierB none waiting inPool s.columnCount
      (inPool s, s)

/-- Room for `a` tier-A pages and `b` tier-B pages together (R194): both or neither. -/
def State.makeRoom2 (s : State) (f a b : Nat) (waiting : List Nat) : Bool × State :=
  let (okA, s) := if a = 0 then (true, s) else s.makeRoom f false a waiting
  if !okA then (false, s)
  else
    let (okB, s) := if b = 0 then (true, s) else s.makeRoom f true b waiting
    if !okB then (false, s)
    else if a = 0 || (decide (s.fnUse f false + a ≤ s.rd KVM_FN_QUOTA_A_PAGES f) && decide (a ≤ s.freePages false)) then (true, s)
    else (false, s)

/-! The table region (R188). -/

/-- Bytes of the session records: the rest of the region holds directories and column blocks. -/
def tableRecords : Nat := 65536 * 512

/-- The directories and column blocks of a session: offset and size. -/
def Session.extents (x : Session) : List (Nat × Nat) :=
  (if x.dirSteps = 0 then [] else [(x.dir, 1024 * x.dirSteps)]) ++ (x.columns ++ x.old).map fun c => (c.block, 16 * c.lh)

/-- The places of the table region in use, rising; the directory of session `but`, which is to grow, left out. -/
def State.extents (s : State) (but : Nat) : List (Nat × Nat) :=
  sortBy (·.1) ((s.serve.sessions.map fun x =>
    if x.num = but then (x.extents.filter fun e => x.dirSteps = 0 || e != (x.dir, 1024 * x.dirSteps)) else x.extents).flatten)

/-- The gaps between places from `lo` to `stop` that hold `n` bytes, each by its start. -/
def gapsFor (n stop : Nat) : Nat → List (Nat × Nat) → List Nat
  | lo, [] => if lo + n ≤ stop then [lo] else []
  | lo, (a, len) :: t => (if lo + n ≤ a then [lo] else []) ++ gapsFor n stop (max lo (a + len)) t

/-- Places for directories or column blocks of given sizes, each in a gap that holds it (R188); which gap is a free value
(assumption log 11). -/
def State.placeExtents (s : State) (busy : List (Nat × Nat)) : List Nat → Option (List Nat) × State
  | [] => (some [], s)
  | n :: t =>
    match gapsFor n (s.rd KVM_TBL_SIZE_SIZE_MIB * 2 ^ 20) tableRecords busy with
    | [] => (none, s)
    | g :: gs =>
      let (i, s) := s.draw
      let a := nth g (g :: gs) (Config.tablePick i % (gs.length + 1))
      match State.placeExtents s (insertBy (·.1) (a, n) busy) t with
      | (some l, s) => (some (a :: l), s)
      | (none, s) => (none, s)

/-- Steps of 256 pointers that a directory needs for columns by number. -/
def dirStepsFor (idx : List Nat) : Nat := ceilDiv (idx.foldl (fun m i => max m (i + 1)) 0) 256

/-- Places for a session's new column blocks, of `lh` entries each, and for its directory where that must grow (R188): the directory's
place and steps, then the blocks' places. -/
def State.tableRoom (s : State) (x : Session) (lh : Nat) (idx : List Nat) : Option (Nat × Nat × List Nat) × State :=
  let steps := dirStepsFor idx
  let blocks := idx.map fun _ => 16 * lh
  if x.dirSteps < steps then
    match s.placeExtents (s.extents x.num) (1024 * steps :: blocks) with
    | (some (d :: l), s) => (some (d, steps, l), s)
    | (_, s) => (none, s)
  else
    match s.placeExtents (s.extents 65536) blocks with
    | (some l, s) => (some (x.dir, x.dirSteps, l), s)
    | (none, s) => (none, s)

/-- Columns a session lacks for positions `[lo, hi)`, by number. -/
def Session.missing (x : Session) (lo hi : Nat) : List Nat :=
  let w := colSpan x.kvFmt
  if hi ≤ lo then []
  else (natsFrom (lo / w) ((hi - 1) / w + 1 - lo / w)).filter fun i => !x.columns.any (·.index == i)

/-- Token pages a log of `n` positions needs beyond those held (R190). -/
def Session.missingTokenPages (x : Session) (n : Nat) : Nat := ceilDiv n 16384 - x.tokenPages.length

/-- Adds columns to a session in tier A (R191), each with the place of its block: SPEC where the first position is at or beyond
COMMITTED. -/
def State.addColumns (s : State) (num lh gen : Nat) (idx : List (Nat × Nat)) : State :=
  forEach idx s fun s (i, block) =>
    match s.sess num with
    | none => s
    | some x =>
      let (l, s) := s.takePages false (colPages x.kvFmt lh)
      let c : Column := ⟨i, false, lh, block, l, decide (x.committed ≤ i * colSpan x.kvFmt), gen, 0, false, none, 0⟩
      s.setSess { x with columns := x.columns ++ [c] }

/-- The allocation of a step (R191, R194): tier-A columns for positions `[lo, hi)` and tier-B token pages for a log of
`tok` positions, with their places in the table region, together or not at all. DEDUCED (assumption log 26). -/
def State.allocStep (s : State) (num lh gen lo hi tok : Nat) : Bool × State :=
  match s.sess num with
  | none => (false, s)
  | some x =>
    let idx := x.missing lo hi
    let a := idx.length * colPages x.kvFmt lh
    let b := x.missingTokenPages tok
    if a = 0 && b = 0 then (true, s)
    else
      match s.tableRoom x lh idx with
      | (none, s) => (false, s)
      | (some (dir, steps, blocks), s) =>
        let (ok, s) := s.makeRoom2 x.fn a b [num]
        if !ok then (false, s)
        else
          let s := match s.sess num with
            | none => s
            | some x => s.setSess { x with dir := dir, dirSteps := steps }
          let s := s.addColumns num lh gen (idx.zip blocks)
          let (l, s) := s.takePages true b
          match s.sess num with
          | none => (false, s)
          | some x => (true, s.setSess { x with tokenPages := x.tokenPages ++ l })

/-- Frees the columns of a session that meet a condition. -/
def State.freeColumns (s : State) (num : Nat) (p : Column → Bool) : State :=
  match s.sess num with
  | none => s
  | some x =>
    let s := forEach (x.columns.filter p) s State.freeColumn
    s.setSess { x with columns := x.columns.filter (fun c => !p c) }

/-- Frees the columns of an earlier generation that a clone copy held (R196). -/
def State.freeOld (s : State) (num : Nat) : State :=
  match s.sess num with
  | none => s
  | some x => (forEach x.old s State.freeColumn).setSess { x with old := [] }

/-- Steps 2 to 4 of R191 after COMMITTED has risen: SPEC cleared below it, columns still SPEC freed and counted, WRITTEN
set. -/
def State.settle (s : State) (num : Nat) : State :=
  match s.sess num with
  | none => s
  | some x =>
    let cols := x.columns.map fun c => if c.index * colSpan x.kvFmt < x.committed then { c with spec := false } else c
    let s := s.setSess { x with columns := cols, written := x.committed }
    let n := (cols.filter (·.spec)).length
    (s.freeColumns num (·.spec)).count KVM_SPEC_FREE_CNT_COUNT n

/-- A job closes when its last session has closed (R266). -/
def State.pruneJobs (s : State) : State :=
  { s with serve := { s.serve with
      jobs := s.serve.jobs.filter fun j => s.serve.sessions.any fun x => x.fn == j.fn && x.job == j.num } }

/-- A closing session whose pages no step pins any more is gone (R201): every page freed, its record removed. -/
def State.dropSession (s : State) (num : Nat) : State :=
  match s.sess num with
  | none => s
  | some x =>
    let s := (s.freeColumns num (fun _ => true)).freeOld num
    let s := s.markPages true false x.tokenPages
    (s.setSessions (s.serve.sessions.filter (·.num != num))).pruneJobs

end Sys2Proof.Machine
end

