-- ==== Sys2Proof/Machine/Log.lean ====
section
/-! DEFINITION. The event log and the SMS and PTM events (spec/17_reliability.md R421, R422, R424). -/

namespace Sys2Proof.Machine

/-- An SMS event bit (R424): raised on the SMS vector where SMS_EVENT_EN enables it (R319). -/
def State.smsEvent (s : State) (ev : Fld) : State := s.raise ev (bitOf (s.rd SMS_EVENT_EN_EN) ev.lsb) .sms

/-- A PTM event bit (R406). -/
def State.ptmEvent (s : State) (ev : Fld) : State := s.raise ev (bitOf (s.rd PTM_EVENT_EN_EN) ev.lsb) .ptm

/-- A record with nothing named: the fields of R421 that a caller does not set. -/
def EventRec.blank (type_ class_ : Nat) : EventRec :=
  ⟨0, type_, class_, false, none, none, 0, none, 0, [], 0⟩

/-- A record enters the log (R421): TIME 0 while external time is UNSET, the newest 32,768 kept. -/
def State.appendLog (s : State) (r : EventRec) : State :=
  let t := if s.rd TWS_STATUS_QUALITY = 0 then 0 else s.now
  let l := s.sms.log ++ [{ r with time := t, seq := s.sms.nextSeq }]
  { s with sms := { s.sms with log := l.drop (l.length - 32768), nextSeq := s.sms.nextSeq + 1 } }

/-- Writes an event record (R421): at most 1,000 in a second of external time, the others counted and reported; thermal
trip and module fault records are never dropped. -/
def State.logEvent (s : State) (r : EventRec) : State :=
  let sec := s.now / 1000000000
  let n := if s.sms.second = sec then s.sms.inSecond else 0
  if n < 1000 || r.type_ == 0x18 || r.type_ == 0x19 then
    { s with sms := { s.sms with second := sec, inSecond := n + 1 } }.appendLog r
  else (s.count SMS_LOG_DROP_CNT_COUNT).smsEvent SMS_EVENT_LOG_DROP

/-- The CRC-32C (Castagnoli) of bytes, bit-reflected, as R421 and R334 use it: one byte. -/
def crc32cByte : Nat → Nat → Nat
  | 0, c => c
  | k + 1, c => crc32cByte k (if c % 2 = 1 then Nat.xor (c / 2) 0x82F63B78 else c / 2)

/-- The CRC-32C of bytes. -/
def crc32c (l : List Byte) : Nat :=
  Nat.xor 0xFFFFFFFF (l.foldl (fun c b => crc32cByte 8 (Nat.xor c b.toNat)) 0xFFFFFFFF)

/-- Bytes 0–51 of a record (R421). -/
def EventRec.body (r : EventRec) : List Byte :=
  leBytes 8 r.time ++ leBytes 1 r.type_
    ++ leBytes 1 (r.class_ % 4 + 4 * b2n r.cause + 8 * b2n r.fn.isSome + 16 * b2n r.job.isSome)
    ++ leBytes 1 (r.fn.getD 0 % 32) ++ leBytes 1 r.status ++ leBytes 2 (r.job.getD 0)
    ++ leBytes 2 (r.core.getD 0x3FF % 1024) ++ leBytes 4 r.where_
    ++ ((List.range 6).map fun i => leBytes 4 (nth 0 r.detail i)).flatten
    ++ leBytes 4 r.seq ++ leBytes 4 0

/-- The 56 bytes of a record (R421). -/
def EventRec.bytes (r : EventRec) : List Byte := r.body ++ leBytes 4 (crc32c r.body)

/-- A message leaves on the management port. -/
def State.mgtSend (s : State) (m : MgtMsg) : State := s.withMgt { s.mgt with out := s.mgt.out ++ [m] }

/-- A PLDM event is queued (R435): at most 32, the oldest discarded; it is sent at once where it is the only one and a
receiver is set. DEDUCED (assumption log 16). -/
def State.mgtEvent (s : State) (sensor : Nat) (value : Int) : State :=
  let l := s.mgt.events ++ [(sensor, value)]
  let first := s.mgt.events.isEmpty && s.mgt.receiver.isSome
  let s := s.withMgt { s.mgt with events := l.drop (l.length - 32) }
  s.when first (·.mgtSend (.event sensor value))

/-- MGT_ALERT_N asserts while an event awaits pickup (R435). DEDUCED (assumption log 16). -/
def State.mgtAlert (s : State) : Bool := !s.mgt.events.isEmpty

/-- SMS_LOG_HEAD (R424). -/
def State.logHead (s : State) : Nat := if s.sms.nextSeq = 0 then 0xFFFFFFFF else (s.sms.nextSeq - 1) % 2 ^ 32

/-- SMS_LOG_TAIL (R424). -/
def State.logTail (s : State) : Nat := (s.sms.nextSeq - s.sms.log.length) % 2 ^ 32

end Sys2Proof.Machine
end

