-- ==== Sys2Proof/Machine/Serve.lean ====
section
/-! DEFINITION. Requests, jobs and how they end (spec/11_serving.md R266, R267, R276, R277, R289–R292; R412). -/

namespace Sys2Proof.Machine

/-- A job of a function by its number. -/
def State.job (s : State) (f n : Nat) : Option Job := s.serve.jobs.find? fun j => j.fn == f && j.num == n

/-- A job changed in place. -/
def State.setJob (s : State) (j : Job) : State :=
  { s with serve := { s.serve with jobs := updFirst (fun k => k.fn == j.fn && k.num == j.num) (fun _ => j) s.serve.jobs } }

/-- A launch by its number. -/
def State.launch (s : State) (id : Nat) : Option Launch := s.serve.launches.find? (·.id == id)

/-- The launches replaced. -/
def State.setLaunches (s : State) (l : List Launch) : State := { s with serve := { s.serve with launches := l } }

/-- Cores are idle from now on (R252). -/
def State.idleNow (s : State) (cores : List Nat) : State :=
  { s with serve := { s.serve with idleFrom := cores.foldl (fun m c => SMap.put 0 m c s.now) s.serve.idleFrom } }

/-- Program stores that a restart left to be read back are checked, once no step runs on their cores; a bad one is reloaded (R355).
DEDUCED (assumption log 34). -/
def State.checkStores (s : State) : State :=
  let busy := (s.serve.launches.filter (·.inFlight)).flatMap (·.cores)
  let w := s.ctl.stores
  if s.ctl.restarting || w.toCheck.isEmpty then s
  else s.withCtl { s.ctl with stores := { w with toCheck := w.toCheck.filter fun c => busy.contains c } }

/-- A launch that has ended or has lost its last entry is gone, its blocks and windows given back (R376). -/
def State.dropLaunch (s : State) (l : Launch) : State :=
  let s := s.setLaunches (s.serve.launches.filter (·.id != l.id))
  let s := if l.inFlight then (s.idleNow l.cores).checkStores else s
  (s.chargeCst l.fn (l.cst * 65536) false).withLnk { s.lnk with windows := s.lnk.windows.filter (·.1 != l.id) }

/-- A request of a session changed in place. -/
def State.setReq (s : State) (num : Nat) (r : Request) : State :=
  match s.sess num with
  | none => s
  | some x => s.setSess { x with queue := updFirst (·.serial == r.serial) (fun _ => r) x.queue }

/-- The opcode of a session request (R270). -/
def ReqOps.op : ReqOps → Op
  | .prompt true _ => .prefill
  | .prompt false _ => .append
  | .generate _ => .generate
  | .tune _ => .adapterTune
  | .pause _ => .pause
  | .resume => .resume
  | .clone _ _ _ => .clone

/-- A request runs steps or chunks (R289). -/
def ReqOps.runs : ReqOps → Bool
  | .prompt _ _ => true
  | .generate _ => true
  | .tune _ => true
  | _ => false

/-- The handle that a request's completion carries (R276): the new one of a CLONE, else its session's. -/
def ReqOps.handle (h : Nat) : ReqOps → Nat
  | .clone n _ _ => n
  | _ => h

/-- Byte 6 of a completion entry (R276). -/
def Request.flags6 (r : Request) (endCode : Nat) : Nat :=
  b2n r.oob + 2 * b2n r.late + 4 * b2n r.clamped + 8 * (endCode % 4)

/-- A barrier of the job was set by hand (R364): its requests carry OOB. -/
def State.handSet (s : State) (x : Session) : Bool :=
  match s.job x.fn x.job with
  | some j => j.handSet
  | none => false

/-- The completion entry of a session request (R276, R277). -/
def State.reqCompletion (s : State) (x : Session) (r : Request) (st : Status) (time endCode : Nat) : Completion :=
  let r := { r with oob := r.oob || (r.ops.runs && s.handSet x) }
  let d0 := match r.ops with
    | .tune _ => r.loss.toNat
    | _ => x.committed
  let d1 := match r.ops with
    | .tune _ => r.targets
    | _ => r.released
  ⟨r.tag, st.code, r.ops.op.code, r.flags6 endCode, ReqOps.handle x.handle r.ops, time, d0, d1⟩

/-- A request leaves its session's queue and its completion entry is due. -/
def State.completeReq (s : State) (num : Nat) (r : Request) (st : Status) (time endCode : Nat) : State :=
  match s.sess num with
  | none => s
  | some x =>
    let c := s.reqCompletion x r st time endCode
    (s.setSess { x with queue := x.queue.filter (·.serial != r.serial) }).complete r.queue r.serial c

/-- A request refused at acceptance or at admission: both detail words are 0 (R277). -/
def State.refuseReq (s : State) (num : Nat) (r : Request) (st : Status) : State :=
  match s.sess num with
  | none => s
  | some x =>
    let c := { s.reqCompletion x r st s.now 0 with detail0 := 0, detail1 := 0, flags := 0 }
    (s.setSess { x with queue := x.queue.filter (·.serial != r.serial) }).complete r.queue r.serial c

/-- The tokens a request holds for release. DEDUCED (assumption log 29). -/
def State.heldOf (s : State) (serial : Nat) : List Held := s.serve.held.filter (·.owner == serial)

/-- The tokens a request holds are dropped (R256, R292). -/
def State.dropHeld (s : State) (serial : Nat) : State :=
  { s with serve := { s.serve with held := s.serve.held.filter (·.owner != serial) } }

/-- R291: a request that ends unsuccessfully takes its session back; `k` tokens of a GENERATE were released. -/
def State.rollback (s : State) (num : Nat) (r : Request) (k : Nat) : State :=
  match s.sess num with
  | none => s
  | some x =>
    if r.phase ≠ .admitted then s
    else
      match r.ops with
      | .prompt _ _ =>
        let c := min x.committed (max r.c0 0)
        let s := s.setSess { x with committed := c, written := c, pending := r.pend0 }
        s.freeColumns num fun d => decide (c ≤ d.index * colSpan x.kvFmt)
      | .generate _ =>
        let c := min x.committed (r.c0 + k)
        let p := if k = 0 then r.pend0 else some (nth 0 r.kept (k - 1))
        let s := s.setSess { x with committed := c, written := c, pending := p }
        s.freeColumns num fun d => decide (c ≤ d.index * colSpan x.kvFmt)
      | .tune _ => s.settle num
      | _ => s

/-- Statuses under which no token is released after the end (R292). -/
def Status.dropsHeld : Status → Bool
  | .cancelled | .jobFault | .functionReset | .aborted => true
  | _ => false

/-- Statuses that are a success (R291). -/
def Status.success : Status → Bool
  | .ok | .evictedRecomputed => true
  | _ => false

/-- A request ends (R256, R291, R292): held tokens dropped where the status says so, the session rolled back after a
failure, and the completion entry written once the last held token has been released. -/
def State.endReq (s : State) (num : Nat) (r : Request) (st : Status) (time endCode : Nat) : State :=
  let r := { r with launch := 0 }
  let k := r.kept.length - (if st.dropsHeld then (s.heldOf r.serial).length else 0)
  let s := if st.dropsHeld then s.dropHeld r.serial else s
  let r := { r with released := match r.ops with | .generate _ => k | _ => r.released }
  let s := if st.success then s else s.rollback num r k
  if (s.heldOf r.serial).isEmpty then s.completeReq num r st time endCode
  else s.setReq num { r with ended := some (st, time, endCode) }

/-- Every request of a session that a filter names ends with a status at a time. -/
def State.endWhere (s : State) (num : Nat) (p : Request → Bool) (st : Status) (time : Nat) : State :=
  match s.sess num with
  | none => s
  | some x => forEach (x.queue.filter p) s fun s r => s.endReq num r st time 0

/-- A request that a fault of its job ends (R40, R267, R300): any but one whose end as NUMERIC is decided (R39).
DEDUCED (assumption log 27). -/
def Request.faultable (r : Request) : Bool :=
  match r.ended with
  | some (.numeric, _, _) => false
  | _ => true

/-- The requests that a job has when its fault is found are marked (R267): those submitted later are not ended by it. -/
def State.markFaulted (s : State) (f n : Nat) : State :=
  s.setSessions (s.serve.sessions.map fun x => if x.fn = f && x.job = n then
    { x with queue := x.queue.map fun r => if r.faultable then { r with faulted := true } else r } else x)

/-- The columns of an earlier generation that a copy held are freed once it has ended, and counted (R196). -/
def State.releaseOld (s : State) (num : Nat) : State :=
  match s.sess num with
  | none => s
  | some x => (s.count KVM_EVICT_CNT_COUNT x.old.length).freeOld num

/-- Clones being copied from a session end with a status, their pages freed (R203, R267); the copied columns are let go. -/
def State.abortClones (s : State) (num : Nat) (st : Status) : State :=
  forEach (s.serve.sessions.filter fun y => match y.cloneOf with | some (src, _) => src == num | none => false) s
    fun s y =>
      match y.cloneOf with
      | none => s
      | some (_, serial, q, tag) =>
        let c : Completion := ⟨tag, st.code, Op.code .clone, 0, y.handle, s.now, 0, 0⟩
        let s := match s.sess num with
          | none => s
          | some x =>
            let cols := x.columns.map fun (d : Column) => { d with copied := false }
            (s.setSess { x with columns := cols, queue := x.queue.filter (·.serial != serial) }).releaseOld num
        (s.dropSession y.num).complete q serial c

/-- A job fault ends the job's marked requests that have no step or chunk in flight (R40, R267, R412). -/
def State.endJobIdle (s : State) (f n : Nat) (time : Nat) : State :=
  forEach (s.serve.sessions.filter fun x => x.fn == f && x.job == n) s fun s x =>
    let copying := x.queue.any fun r => r.faulted && (match r.ops with | .clone _ _ _ => r.phase != .queued | _ => false)
    let s := if copying then s.abortClones x.num .jobFault else s
    s.endWhere x.num (fun r => r.faulted && r.launch == 0) .jobFault time

/-- A planned launch that has not started is taken out of the plan, and its requests are between steps again. -/
def State.unplan (s : State) (p : Launch → Bool) : State :=
  let gone := s.serve.launches.filter fun l => !l.inFlight && p l
  forEach gone s fun s l => forEach l.entries (s.dropLaunch l) fun s e =>
    match s.sess e.session with
    | none => s
    | some x => s.setSess { x with
        pins := x.pins.filter (· != l.id)
        queue := x.queue.map fun r => if r.launch = l.id then { r with launch := 0 } else r }

/-- A job faults (R412): counted and raised, its launches drop their outputs; requests without a step in flight end at once where the fault lies
in no step, else at the end of the faulting step (R267). DEDUCED (assumption log 27). -/
def State.jobDown (s : State) (j : Job) (step : Option Nat) : State :=
  let f := j.fn
  let n := j.num
  let s := (s.count SMS_JOB_FAULT_CNT_COUNT).smsEvent SMS_EVENT_JOB_FAULT
  let step := match step with
    | some i => if s.serve.launches.any (fun l => l.id == i && l.inFlight) then some i else none
    | none => none
  let s := (s.setJob { j with faulted := true, fresh := true, faultStep := step }).markFaulted f n
  let s := s.unplan fun l => l.fn == f && l.job == n
  let s := s.setLaunches (s.serve.launches.map fun l => if l.fn = f && l.job = n then { l with dropped := true } else l)
  match step with
  | some _ => s
  | none => s.endJobIdle f n s.now

/-- A job fault is reported (R412): one record for each detection, the first marked as the cause; the job faults once until it starts
again. DEDUCED (assumption log 27). -/
def State.faultJob (s : State) (f n : Nat) (step : Option Nat) (rec : EventRec) : State :=
  match s.job f n with
  | none => s.logEvent { rec with fn := some f, job := some n }
  | some j =>
    let s := s.logEvent { rec with fn := some f, job := some n, cause := !j.faulted, class_ := 1 }
    if j.faulted then s else s.jobDown j step

/-- The launch in flight of a core, and through it the job that uses it: the one whose program its sequencer runs or ran last, else
the first that uses the core. DEDUCED (assumption log 62). -/
def State.launchOn (s : State) (core : Nat) : Option Launch :=
  let on (l : Launch) : Bool := l.inFlight && l.cores.contains core
  match s.serve.launches.find? fun l => on l && l.id == (SMap.get CoreCtl.init s.ctl.cores core).launch with
  | some l => some l
  | none => s.serve.launches.find? on

/-- A request by its serial number, with its session. -/
def State.findReq (s : State) (serial : Option Nat) : Option (Session × Request) :=
  match serial with
  | none => none
  | some n => s.serve.sessions.findSome? fun x => (x.queue.find? (·.serial == n)).map fun r => (x, r)

/-- The launch that carries the work of a request on a core: the one in flight that holds the request's entry, else the core's (R22,
R24, R411). -/
def State.workLaunch (s : State) (core : Nat) (serial : Option Nat) : Option Launch :=
  match s.findReq serial with
  | some (_, r) => match s.serve.launches.find? fun l => l.inFlight && l.id == r.launch with
    | some l => some l
    | none => s.launchOn core
  | none => s.launchOn core

/-- A fault found in the work of a core, of a request where one is named: its job faults in its step; with no step on the core, it is
background work, and only a record is written (R411). -/
def State.faultCore (s : State) (core : Nat) (rec : EventRec) (serial : Option Nat := none) : State :=
  match s.workLaunch core serial with
  | some l => s.faultJob l.fn l.job (some l.id) { rec with core := some core }
  | none => s.logEvent { rec with core := some core }

end Sys2Proof.Machine
end

