-- ==== Sys2Proof/Machine/Sms.lean ====
section
/-! DEFINITION. Suspect units, margining, retirement and module faults (spec/17_reliability.md R414–R417). -/

namespace Sys2Proof.Machine

/-- A core's health. -/
def State.health (s : State) (core : Nat) : Health := SMap.get Health.init s.sms.health core
/-- A core's health changed. -/
def State.setHealth (s : State) (core : Nat) (h : Health) : State :=
  { s with sms := { s.sms with health := SMap.put Health.init s.sms.health core h } }

/-- The number of a crossbar position (R12): 576 · core + 72 · cluster + 8 · row + column. -/
def posOf (core cluster row col : Nat) : Nat := 576 * core + 72 * cluster + 8 * row + col
/-- The logical core of a position, also of a crossbar of a spare core site (`siteBase`). -/
def posCore (p : Nat) : Nat := p / 576 % 1024
/-- The cluster of a position. -/
def posCluster (p : Nat) : Nat := p / 72 % 8
/-- The crossbar row of a position. -/
def posRow (p : Nat) : Nat := p / 8 % 9
/-- The crossbar column of a position. -/
def posCol (p : Nat) : Nat := p % 8
/-- The spare crossbar of a position's column (R12): row 8. -/
def posSpare (p : Nat) : Nat := posOf (posCore p) (posCluster p) 8 (posCol p)
/-- The WHERE word of an event record for a position (R421). -/
def posWhere (p : Nat) : Nat := posCluster p + 8 * posRow p + 128 * posCol p

/-- The positions of a column of crossbars. -/
def columnRows (p : Nat) : List Nat := (List.range 8).map fun r => posOf (posCore p) (posCluster p) r (posCol p)

/-- The numbers of the crossbars of the spare core site that serves a core (R11, R416) lie above those of the core's own
site, which start at 0. -/
def State.siteBase (s : State) (core : Nat) : Nat :=
  match (s.health core).site with
  | some n => 589824 * (n + 1)
  | none => 0

/-- The physical crossbar that serves a logical position (R69, R70): the column's spare crossbar after a substitution, on the
site that serves the core. -/
def State.physPos (s : State) (p : Nat) : Nat :=
  s.siteBase (posCore p) + (if SMap.get false s.lst.onSpare p then posSpare p else p)

/-- The spare crossbar of a position's column is free (R69): no position of the column is served by it or waits for it.
DEDUCED (assumption log 45). -/
def State.spareFree (s : State) (p : Nat) : Bool :=
  (columnRows p).all fun q => !SMap.get false s.lst.onSpare q && !s.sms.xbsUsed.contains q

/-- The weighted suspect count in sixteenths within the window (R414). -/
def State.suspectCount (s : State) (core : Nat) : Nat :=
  let w := max (s.rd SMS_CTRL_WINDOW_H) 1 * 3600000000000
  sumN (((s.health core).events.filter fun e => decide (s.now ≤ e.1 + w)).map (·.2.1))

/-- A module fault (R417): flagged, FAULT_N asserted, raised, logged and never dropped; every job ends with JOB_FAULT at
the end of its current step, at once where none runs.  During a firmware restart it waits for the restart's end (R423).
DEDUCED (assumption log 51). -/
def State.moduleFault (s : State) (cause : Nat) : State :=
  if s.bit SMS_STATUS_MODULE_FAULT then s
  else if s.ctl.restarting then s.withCtl { s.ctl with faultWait := s.ctl.faultWait ++ [cause] }
  else
    let s := (s.setBit SMS_STATUS_MODULE_FAULT).setBit SMS_STATUS_FAULT_N
    let s := s.smsEvent SMS_EVENT_MODULE_FAULT
    let s := s.mgtEvent 102 1
    let s := s.logEvent { EventRec.blank 0x19 3 with detail := [cause] }
    forEach s.serve.jobs s fun s j =>
      let step := (s.serve.launches.find? fun l => l.inFlight && l.fn == j.fn && l.job == j.num).map (·.id)
      s.faultJob j.fn j.num step { EventRec.blank 0x19 1 with detail := [cause] }

/-- The smallest spare that covers a core's events since level 4 (R416): one slice, one crossbar, or the core. -/
def retireKind (core : Nat) (l : List Attr) : Retire :=
  match l with
  | .slice p k :: t =>
    if t.all (· == .slice p k) then .slice p k
    else if t.all (fun a => match a with | .xb q => q == p | .slice q _ => q == p | .core => false) then .xb p
    else if core < 512 then .site 0 else .hub
  | .xb p :: t =>
    if t.all (fun a => match a with | .xb q => q == p | .slice q _ => q == p | .core => false) then .xb p
    else if core < 512 then .site 0 else .hub
  | _ => if core < 512 then .site 0 else .hub

/-- The smallest number below 16 that a list does not hold. -/
def freeSite (l : List Nat) : Option Nat := (List.range 16).find? fun n => !l.contains n

/-- Where the chosen spare is not available, retirement moves up one level (R416): CS takes the place of one column-side slice of a
crossbar, and of no row-side converter (R97).  For CS itself (`k` = 17) the spec says nothing; it moves up too.
DESIGN CHOICE (assumption log 51). -/
def State.retireChoice (s : State) (core : Nat) (r : Retire) : Option Retire :=
  let site : Option Retire :=
    if 512 ≤ core then some .hub
    else (freeSite (if core < 256 then s.sms.sitesW else s.sms.sitesE)).map .site
  match r with
  | .slice p k =>
    if k ≤ 16 && !s.sms.slicesUsed.any (·.1 == s.physPos p) then some (.slice p k)
    else if s.spareFree p then some (.xb p) else site
  | .xb p => if s.spareFree p then some (.xb p) else site
  | _ => site

/-- A core is marked for retirement (R416): the spare is taken, counted, raised and recorded; with no site left the core
is unplaceable and a module fault follows (R417).  The record names the kind, the spare used and the spares left (R422).
DESIGN CHOICE (assumption log 51). -/
def State.markRetire (s : State) (core : Nat) : State :=
  let h := s.health core
  if h.pending.isSome || h.retired || h.unplaceable then s
  else
    let s := (s.count SMS_RETIRE_CNT_COUNT).smsEvent SMS_EVENT_RETIRE
    match s.retireChoice core (retireKind core h.since4) with
    | none =>
      let s := s.setHealth core { h with unplaceable := true, climbPending := 0 }
      (s.logEvent { EventRec.blank 0x11 3 with core := some core, detail := [4, 0, 0] }).moduleFault 1
    | some r =>
      let ev (k used left w : Nat) : EventRec :=
        { EventRec.blank 0x11 0 with core := some core, where_ := w, detail := [k, used, left] }
      match r with
      | .slice p k =>
        let s := s.setHealth core { h with pending := some r, moveReady := true, climbPending := 0 }
        { s with sms := { s.sms with slicesUsed := s.sms.slicesUsed ++ [(s.physPos p, k)] } }.logEvent (ev 0 0 0 (posWhere p + 1024 * k))
      | .xb p =>
        let s := s.setHealth core { h with pending := some r, moveReady := false, climbPending := 0 }
        { s with sms := { s.sms with xbsUsed := s.sms.xbsUsed ++ [p] } }.logEvent (ev 1 8 0 (posWhere p))
      | .site n =>
        let s := s.setHealth core { h with pending := some r, moveReady := false, climbPending := 0 }
        let s := if core < 256 then { s with sms := { s.sms with sitesW := s.sms.sitesW ++ [n] } }
                 else { s with sms := { s.sms with sitesE := s.sms.sitesE ++ [n] } }
        s.logEvent (ev 2 n (16 - (if core < 256 then s.sms.sitesW else s.sms.sitesE).length) 0)
      | .hub =>
        let s := s.setHealth core { h with
          retired := true, level := if s.running then h.level else 0, events := [], since4 := [], climbPending := 0 }
        let s := s.logEvent (ev 3 0 0 0)
        if 4 < SMap.count (fun k (v : Health) => decide (512 ≤ k) && v.retired) s.sms.health then s.moduleFault 2 else s

/-- A suspect event of a core, of a weight in sixteenths (R414): counted, raised, and judged against SUSPECT_N; a suspect
core climbs one level at the next boundary (R415), from level 6 to retirement (R416). DEDUCED (assumption log 51). -/
def State.suspect (s : State) (core weight : Nat) (attr : Attr) : State :=
  let s := (s.count SMS_SUSPECT_CNT_COUNT).smsEvent SMS_EVENT_SUSPECT
  let h := s.health core
  let h := { h with
    events := h.events ++ [(s.now, weight, attr)]
    since4 := if 4 ≤ h.level then h.since4 ++ [attr] else h.since4
    quietFrom := s.now }
  let s := s.setHealth core h
  if s.suspectCount core < 16 * max (s.rd SMS_CTRL_SUSPECT_N) 1 then s
  else
    let h := { h with events := [] }
    if 6 ≤ h.level + h.climbPending then (s.setHealth core h).markRetire core
    else s.setHealth core { h with climbPending := h.climbPending + 1 }

/-- VSTEP of a margin level (R415). -/
def levelVstep (l : Nat) : Nat := min l 4

/-- A core's supply goes to another margin level (R403): 10 mV a step, at 1 mV per µs. -/
def State.rampCore (s : State) (core lv : Nat) : State :=
  let h := s.health core
  let d := (levelVstep lv - levelVstep h.level) + (levelVstep h.level - levelVstep lv)
  s.setHealth core { h with level := lv, rampTo := if d = 0 then h.rampTo else max s.now h.rampTo + 10000 * d }

/-- Climbs and step-downs that are due take effect at a boundary (R415, R423: a climb cancels a step-down), and a retired hub core
goes to level 0 (R26, R416). -/
def State.applyMargins (s : State) : State :=
  forEach (SMap.keysIf (fun _ (h : Health) => decide (0 < h.climbPending) || h.downPending || (h.retired && h.level != 0))
      s.sms.health) s fun s core =>
    let h := s.health core
    if h.retired then (s.setHealth core { h with climbPending := 0, downPending := false }).rampCore core 0
    else if 0 < h.climbPending then
      let lv := min 6 (h.level + h.climbPending)
      let since := if h.level < 4 then [] else h.since4
      let s := (s.setHealth core { h with climbPending := 0, downPending := false, since4 := since }).rampCore core lv
      let s := (s.count SMS_MARGIN_CNT_COUNT h.climbPending).smsEvent SMS_EVENT_MARGIN
      s.logEvent { EventRec.blank 0x10 0 with core := some core, detail := [h.level, lv] }
    else
      let s := (s.setHealth core { h with downPending := false, quietFrom := s.now }).rampCore core (h.level - 1)
      let s := s.smsEvent SMS_EVENT_MARGIN
      s.logEvent { EventRec.blank 0x10 0 with core := some core, detail := [h.level, h.level - 1] }

/-- The clock division of a margin level (R415): 1, 2 or 4. -/
def levelClkdiv (l : Nat) : Nat := if l < 5 then 1 else if l = 5 then 2 else 4

end Sys2Proof.Machine
end

