-- ==== Sys2Proof/Machine/Float.lean ====
section
/-! DEFINITION. The number formats of spec/02_number_formats.md: FP32 and BF16 with IEEE 754 binary32 semantics (R38),
FP8 E4M3 (R35), K4 (R36), E8M0 scale bytes (R29), computed exactly on integers and rounded once, to nearest with ties
to even (R46). -/

namespace Sys2Proof.Machine

/-- A value read from a floating-point code: NaN, an infinity, or a sign and an exact magnitude `m · 2^e`. -/
inductive Num where
  | nan
  | inf (neg : Bool)
  | fin (neg : Bool) (m : Nat) (e : Int)
deriving DecidableEq, Repr

/-- The canonical quiet NaN of FP32 (R38). -/
def f32NaN : F32 := 0x7FC00000#32

/-- The canonical quiet NaN of BF16 (R38). -/
def bf16NaN : BF16 := 0x7FC0#16

/-- The canonical NaN of FP8 (R38). -/
def fp8NaN : Byte := 0x7F#8

/-- FP32's infinity of a sign. -/
def f32Inf (neg : Bool) : F32 := if neg then 0xFF800000#32 else 0x7F800000#32

/-- The value of an FP32 code (R38: subnormals are honoured). -/
def f32Num (x : F32) : Num :=
  let n := x.toNat
  let neg := bitOf n 31
  let ex := bitsOf n 23 8
  let man := bitsOf n 0 23
  if ex = 255 then (if man = 0 then .inf neg else .nan)
  else if ex = 0 then .fin neg man (-149)
  else .fin neg (man + 2 ^ 23) ((ex : Int) - 150)

/-- Rounds `m · 2^e` to `p` bits, the last bit not below `2^elo`, to nearest with ties to even. -/
def roundMag (p : Nat) (elo : Int) (m : Nat) (e : Int) : Nat × Int :=
  let len : Int := if m = 0 then 0 else (Nat.log2 m + 1 : Nat)
  let lsb := max (e + len - (p : Int)) elo
  let sh := lsb - e
  if sh ≤ 0 then (m * 2 ^ (-sh).toNat, lsb) else (divEvenN m (2 ^ sh.toNat), lsb)

/-- The FP32 code of an exact value, rounded to nearest, ties to even; a finite value past the range gives an
infinity. -/
def f32OfNum : Num → F32
  | .nan => f32NaN
  | .inf neg => f32Inf neg
  | .fin neg m e =>
    let r := roundMag 24 (-149) m e
    let r := if r.1 = 2 ^ 24 then (2 ^ 23, r.2 + 1) else r
    let s := b2n neg * 2 ^ 31
    if r.1 < 2 ^ 23 then BitVec.ofNat 32 (s + r.1)
    else
      let b := r.2 + 150
      if 255 ≤ b then f32Inf neg else BitVec.ofNat 32 (s + b.toNat * 2 ^ 23 + (r.1 - 2 ^ 23))

/-- True of a NaN or an infinity. -/
def f32NonFinite (x : F32) : Bool := bitsOf x.toNat 23 8 == 255

/-- True of a NaN. -/
def f32IsNaN (x : F32) : Bool := f32NonFinite x && bitsOf x.toNat 0 23 != 0

/-- True of +0 and −0. -/
def f32IsZero (x : F32) : Bool := bitsOf x.toNat 0 31 == 0

/-- The exact negative of a value. -/
def Num.neg : Num → Num
  | .nan => .nan
  | .inf s => .inf (!s)
  | .fin s m e => .fin (!s) m e

/-- The signed mantissa of a finite value at a given exponent not above its own. -/
def mantAt (neg : Bool) (m : Nat) (e lo : Int) : Int :=
  let v : Int := (m * 2 ^ (e - lo).toNat : Nat)
  if neg then -v else v

/-- The exact sum of two values; a zero sum is +0 unless both are −0. -/
def Num.add : Num → Num → Num
  | .nan, _ => .nan
  | _, .nan => .nan
  | .inf a, .inf b => if a = b then .inf a else .nan
  | .inf a, .fin _ _ _ => .inf a
  | .fin _ _ _, .inf b => .inf b
  | .fin s m e, .fin s' m' e' =>
    let lo := min e e'
    let v := mantAt s m e lo + mantAt s' m' e' lo
    if v = 0 then .fin (s && s') 0 lo else .fin (decide (v < 0)) v.natAbs lo

/-- The exact product of two values. -/
def Num.mul : Num → Num → Num
  | .nan, _ => .nan
  | _, .nan => .nan
  | .inf a, .inf b => .inf (a != b)
  | .inf a, .fin s m _ => if m = 0 then .nan else .inf (a != s)
  | .fin s m _, .inf b => if m = 0 then .nan else .inf (s != b)
  | .fin s m e, .fin s' m' e' => .fin (s != s') (m * m') (e + e')

/-- The quotient of two values with enough bits, and a last bit that says whether it is exact, for one correct
rounding. -/
def Num.div : Num → Num → Num
  | .nan, _ => .nan
  | _, .nan => .nan
  | .inf _, .inf _ => .nan
  | .inf a, .fin s _ _ => .inf (a != s)
  | .fin s _ _, .inf b => .fin (s != b) 0 0
  | .fin s m e, .fin s' m' e' =>
    if m' = 0 then (if m = 0 then .nan else .inf (s != s'))
    else
      let n := m * 2 ^ 96
      .fin (s != s') (n / m' * 2 + b2n (n % m' != 0)) (e - e' - 97)

/-- The integer square root, bit by bit from the top. -/
def isqrtGo : Nat → Nat → Nat → Nat
  | 0, _, r => r
  | k + 1, n, r => let c := r + 2 ^ k; isqrtGo k n (if c * c ≤ n then c else r)

/-- The greatest number whose square is at most `n`. -/
def isqrt (n : Nat) : Nat := isqrtGo (Nat.log2 n / 2 + 1) n 0

/-- The square root of a value with enough bits for one correct rounding; a negative value gives NaN. -/
def Num.sqrt : Num → Num
  | .nan => .nan
  | .inf neg => if neg then .nan else .inf false
  | .fin neg m e =>
    if m = 0 then .fin neg 0 0
    else if neg then .nan
    else
      let sh : Nat := if e % 2 = 0 then 128 else 129
      let n := m * 2 ^ sh
      let r := isqrt n
      .fin false (r * 2 + b2n (r * r != n)) ((e - (sh : Int)) / 2 - 1)

/-- FP32 addition (R46, point 7). -/
def f32Add (a b : F32) : F32 := f32OfNum (Num.add (f32Num a) (f32Num b))
/-- FP32 subtraction. -/
def f32Sub (a b : F32) : F32 := f32OfNum (Num.add (f32Num a) (Num.neg (f32Num b)))
/-- FP32 multiplication. -/
def f32Mul (a b : F32) : F32 := f32OfNum (Num.mul (f32Num a) (f32Num b))
/-- FP32 division. -/
def f32Div (a b : F32) : F32 := f32OfNum (Num.div (f32Num a) (f32Num b))
/-- FP32 fused multiply and add, one rounding. -/
def f32Fma (a b c : F32) : F32 := f32OfNum (Num.add (Num.mul (f32Num a) (f32Num b)) (f32Num c))
/-- FP32 square root. -/
def f32Sqrt (a : F32) : F32 := f32OfNum (Num.sqrt (f32Num a))
/-- FP32 reciprocal square root, one rounding of the exact quotient's bits (R151). -/
def f32Rsqrt (a : F32) : F32 :=
  match f32Num a with
  | .nan => f32NaN
  | .inf neg => if neg then f32NaN else 0#32
  | .fin neg m e =>
    if m = 0 then f32Inf neg
    else if neg then f32NaN
    else
      let sh : Nat := if e % 2 = 0 then 256 else 257
      let n := 2 ^ sh / m
      let r := isqrt n
      f32OfNum (.fin false (r * 2 + 1) ((-(e + (sh : Int))) / 2 - 1))
/-- FP32 with its sign turned. -/
def f32Neg (a : F32) : F32 := if f32IsNaN a then f32NaN else a ^^^ 0x80000000#32
/-- The magnitude of an FP32 value. -/
def f32Abs (a : F32) : F32 := if f32IsNaN a then f32NaN else a &&& 0x7FFFFFFF#32

/-- The order of two finite or infinite values: `a < b`; false where either is NaN. -/
def Num.lt : Num → Num → Bool
  | .nan, _ => false
  | _, .nan => false
  | .inf a, .inf b => a && !b
  | .inf a, .fin _ _ _ => a
  | .fin _ _ _, .inf b => !b
  | .fin s m e, .fin s' m' e' =>
    let lo := min e e'
    decide (mantAt s m e lo < mantAt s' m' e' lo)

/-- FP32 less than. -/
def f32Lt (a b : F32) : Bool := Num.lt (f32Num a) (f32Num b)
/-- FP32 less than or equal. -/
def f32Le (a b : F32) : Bool := !f32IsNaN a && !f32IsNaN b && !f32Lt b a
/-- The larger of two FP32 values, NaN where either is. -/
def f32Max (a b : F32) : F32 := if f32IsNaN a || f32IsNaN b then f32NaN else if f32Lt a b then b else a

/-- FP32 of an integer, rounded to nearest, ties to even (R46, point 4). -/
def f32OfInt (x : Int) : F32 := f32OfNum (.fin (decide (x < 0)) x.natAbs 0)
/-- FP32 of a natural number. -/
def f32OfNat (x : Nat) : F32 := f32OfInt (x : Int)
/-- FP32 of a quotient of integers, one rounding. -/
def f32OfRat (a : Int) (b : Nat) : F32 :=
  f32OfNum (Num.div (.fin (decide (a < 0)) a.natAbs 0) (.fin false b 0))
/-- FP32 of `x · 2^e`, one rounding. -/
def f32Dyadic (x : Int) (e : Int) : F32 := f32OfNum (.fin (decide (x < 0)) x.natAbs e)
/-- An FP32 value times a power of two (R46, point 5). -/
def f32Scale (a : F32) (k : Int) : F32 :=
  match f32Num a with
  | .fin s m e => f32OfNum (.fin s m (e + k))
  | n => f32OfNum n

/-- The integer nearest an FP32 value times `2^k`, ties to even; 0 for a non-finite value. -/
def f32ToIntEven (a : F32) (k : Int) : Int :=
  match f32Num a with
  | .fin s m e =>
    let sh := e + k
    let v : Nat := if 0 ≤ sh then m * 2 ^ sh.toNat else divEvenN m (2 ^ (-sh).toNat)
    if s then -(v : Int) else v
  | _ => 0

/-- BF16 as FP32 (R38: BF16 is the upper 16 bits of an FP32 value). -/
def bf16ToF32 (x : BF16) : F32 := if bitsOf x.toNat 7 8 = 255 && bitsOf x.toNat 0 7 != 0 then f32NaN else BitVec.ofNat 32 (x.toNat * 65536)

/-- FP32 rounded to BF16, to nearest with ties to even (R46, point 8); a finite value past the range gives an
infinity. -/
def f32ToBf16 (x : F32) : BF16 :=
  match f32Num x with
  | .nan => bf16NaN
  | .inf neg => if neg then 0xFF80#16 else 0x7F80#16
  | .fin neg _ _ =>
    let n := bitsOf x.toNat 0 31
    let r := divEvenN n 65536
    BitVec.ofNat 16 (b2n neg * 2 ^ 15 + r)

/-- True of a BF16 NaN or infinity. -/
def bf16NonFinite (x : BF16) : Bool := bitsOf x.toNat 7 8 == 255

/-- True where the rounding of a finite FP32 value to BF16 leaves BF16's range: a NUMERIC event (R46, point 8). -/
def bf16Overflows (x : F32) : Bool := !f32NonFinite x && bf16NonFinite (f32ToBf16 x)

/-- The value of an FP8 E4M3 code (R35). -/
def fp8Num (x : Byte) : Num :=
  let n := x.toNat
  let neg := bitOf n 7
  let ex := bitsOf n 3 4
  let man := bitsOf n 0 3
  if ex = 15 && man = 7 then .nan
  else if ex = 0 then .fin neg man (-9)
  else .fin neg (man + 8) ((ex : Int) - 10)

/-- FP8 as FP32, exact. -/
def fp8ToF32 (x : Byte) : F32 := f32OfNum (fp8Num x)

/-- The FP8 code of an exact value and whether it was clamped to ±448 (R35). -/
def fp8OfNum : Num → Byte × Bool
  | .nan => (fp8NaN, false)
  | .inf _ => (fp8NaN, false)
  | .fin neg m e =>
    let s := b2n neg * 128
    let r := roundMag 4 (-9) m e
    let r := if r.1 = 16 then (8, r.2 + 1) else r
    if r.1 < 8 then (BitVec.ofNat 8 (s + r.1), false)
    else
      let ex := r.2 + 10
      if 15 < ex || (ex = 15 && 14 < r.1) then (BitVec.ofNat 8 (s + 0x7E), true)
      else (BitVec.ofNat 8 (s + ex.toNat * 8 + (r.1 - 8)), false)

/-- FP32 rounded to FP8: the code and whether it was clamped (R35, R46 point 9). -/
def f32ToFp8 (x : F32) : Byte × Bool := fp8OfNum (f32Num x)

/-- The magnitudes of K4 in halves (R36): codes 0 to 7. -/
def k4Halves : List Nat := [0, 1, 2, 3, 4, 6, 8, 12]

/-- A K4 element's value in halves, signed (R36: 0b1000 reads as 0). -/
def k4Value (c : Nat) : Int :=
  let v : Int := (nth 0 k4Halves (c % 8) : Nat)
  if bitOf c 3 then -v else v

/-- The K4 code of an exact magnitude `m · 2^e` in units of one: nearest, ties to mantissa 0, above 6 clamped (R36). -/
def k4Round (m : Nat) (e : Int) : Nat × Bool :=
  -- thresholds between neighbouring magnitudes in quarters: 1, 3, 5, 7, 10, 14, 20
  let sh := e + 2
  let ge (t : Nat) : Bool := if 0 ≤ sh then t ≤ m * 2 ^ sh.toNat else t * 2 ^ (-sh).toNat ≤ m
  let gt (t : Nat) : Bool := if 0 ≤ sh then t < m * 2 ^ sh.toNat else t * 2 ^ (-sh).toNat < m
  let code :=
    if gt 20 then 7 else if ge 14 then 6 else if gt 10 then 5 else if ge 7 then 4
    else if gt 5 then 3 else if ge 3 then 2 else if gt 1 then 1 else 0
  (code, gt 24)

/-- The largest magnitude of a list of FP32 values, as an exact value; NaN if any is NaN. -/
def maxMag (l : List F32) : F32 := l.foldl (fun a x => f32Max a (f32Abs x)) 0#32

/-- R32 step 1, R36 step 1, R37: an element is NaN, infinite or above 2^127 in magnitude. -/
def numericBlock (l : List F32) : Bool := l.any fun x => f32NonFinite x || f32Lt 0x7F000000#32 (f32Abs x)

/-- The floor of the base-two logarithm of a positive value `m · 2^e`. -/
def log2Floor (m : Nat) (e : Int) : Int := (Nat.log2 m : Int) + e

/-- The smallest integer `k` with `x ≤ c · 2^k`, for a positive value. -/
def smallestExp (c : Nat) (m : Nat) (e : Int) : Int :=
  -- start from an exponent surely below and step up at most three times
  let k0 := log2Floor m e - (Nat.log2 c : Int) - 1
  let fits (k : Int) : Bool :=
    let lo := min e k
    decide (m * 2 ^ (e - lo).toNat ≤ c * 2 ^ (k - lo).toNat)
  if fits k0 then k0 else if fits (k0 + 1) then k0 + 1 else if fits (k0 + 2) then k0 + 2 else k0 + 3

/-- The result of quantising a block: a NUMERIC event, a zero block, or a scale code and elements. -/
inductive Quant where
  | numeric
  | zero
  | block (scale : Nat) (elems : List Int)
deriving DecidableEq, Repr

/-- R32: quantises a block of BF16 or FP32 values to A8. -/
def quantA8 (l : List F32) : Quant :=
  if numericBlock l then .numeric
  else
    match f32Num (maxMag l) with
    | .fin _ m e =>
      if m = 0 then .zero
      else
        let k := max (smallestExp 127 m e) (-127)
        let q := l.map fun x => f32ToIntEven x (-k)
        if q.all (· == 0) then .zero else .block (k + 127).toNat q
    | _ => .numeric

/-- R36: encodes a block of values to K4; the codes as integers, and how many were clamped. -/
def quantK4 (l : List F32) : Quant × Nat :=
  if numericBlock l then (.numeric, 0)
  else
    match f32Num (maxMag l) with
    | .fin _ m e =>
      if m = 0 then (.zero, 0)
      else
        let ke := max (log2Floor m e - 2) (-127)
        let cs := l.map fun x =>
          match f32Num x with
          | .fin s m' e' => let r := k4Round m' (e' - ke); ((if s && r.1 != 0 then r.1 + 8 else r.1 : Nat), r.2)
          | _ => (0, false)
        let clamps := (cs.filter (·.2)).length
        if cs.all (·.1 == 0) then (.zero, clamps) else (.block (ke + 127).toNat (cs.map fun c => (c.1 : Int)), clamps)
    | _ => (.numeric, 0)

/-- The fraction's comparison of R37 under stochastic rounding: the magnitude `m · 2^e` on the FP8 grid is rounded up
where its fraction, in 16 bits, exceeds the drawn value. DESIGN CHOICE (assumption log 59). -/
def fp8Stochastic (neg : Bool) (m : Nat) (e : Int) (draw : Nat) : Byte :=
  let s := b2n neg * 128
  let len : Int := if m = 0 then 0 else (Nat.log2 m + 1 : Nat)
  let lsb := max (e + len - 4) (-9)
  let sh := lsb - e
  let r : Nat :=
    if sh ≤ 0 then m * 2 ^ (-sh).toNat
    else
      let d := 2 ^ sh.toNat
      m / d + b2n (decide (draw % 65536 < m % d * 65536 / d))
  let p := if r = 16 then (8, lsb + 1) else (r, lsb)
  if p.1 < 8 then BitVec.ofNat 8 (s + p.1)
  else
    let ex := p.2 + 10
    if 15 < ex || (ex = 15 && 14 < p.1) then BitVec.ofNat 8 (s + 0x7E)
    else BitVec.ofNat 8 (s + ex.toNat * 8 + (p.1 - 8))

/-- R37: encodes a block of values to G8.  `draws` are the generator's values under stochastic rounding, none for
rounding to nearest. -/
def quantG8 (draws : Option (List Nat)) (l : List F32) : Quant :=
  if numericBlock l then .numeric
  else
    match f32Num (maxMag l) with
    | .fin _ m e =>
      if m = 0 then .zero
      else
        let k := max (smallestExp 448 m e) (-127)
        let one (i : Nat) (x : F32) : Int :=
          match f32Num x with
          | .fin s m' e' =>
            (match draws with
             | none => ((fp8OfNum (.fin s m' (e' - k))).1.toNat : Int)
             | some ds => ((fp8Stochastic s m' (e' - k) (nth 0 ds i)).toNat : Int))
          | _ => 0
        let q := (List.range l.length).map fun i => one i (nth 0#32 l i)
        if q.all (fun c => c == 0 || c == 128) then .zero else .block (k + 127).toNat q
    | _ => .numeric

/-- R29: the power of two of an E8M0 code, as an exponent. -/
def e8m0Exp (c : Nat) : Int := (c : Int) - 127

/-- R49, step 2: the pairwise sum within a block of 512, halving from 256 down to one value. -/
def pairSum : Nat → List F32 → F32
  | 0, l => nth 0#32 l 0
  | k + 1, l =>
    let h := 2 ^ k
    pairSum k ((List.range h).map fun i => f32Add (nth 0#32 l i) (nth 0#32 l (i + h)))

/-- Cuts a list into blocks of `n`, the last one padded. -/
def blocksOf {α : Type} (d : α) (n : Nat) (l : List α) : List (List α) :=
  (List.range (ceilDiv l.length n)).map fun b => (List.range n).map fun i => nth d l (b * n + i)

/-- R49: a reduction within the vector engine. -/
def vecSum (l : List F32) : F32 :=
  match (blocksOf 0#32 512 l).map (pairSum 9) with
  | [] => 0#32
  | a :: t => t.foldl f32Add a

/-- R44: the reference exponent of a cluster's blocks. -/
def kRef (ks : List Int) : Option Int :=
  match ks with
  | [] => none
  | k :: t =>
    let hi := t.foldl max k
    let lo := t.foldl min k
    some (max lo (hi - 6))

/-- R44: a partial of a block of exponent `k` brought to the unit `2^kr`. -/
def alignPartial (k kr : Int) (p : Int) : Int :=
  if kr ≤ k then p * (2 ^ (k - kr).toNat : Nat) else divEven p (2 ^ (kr - k).toNat)

end Sys2Proof.Machine
end

