-- ==== Sys2Proof/Machine/Submit.lean ====
section
/-! DEFINITION. Submission entries: the checks at the read and at acceptance (R271), and the acceptance of the session
opcodes (spec/11_serving.md, spec/08_kv_pages.md). -/

namespace Sys2Proof.Machine

/-- The module accepts session opcodes (R268): it is a single module, or the home module of its partition. -/
def State.isHome (s : State) : Bool := !s.bit LNK_CTRL_EN || s.bit LNK_PART_POS_HOME

/-- A fetched entry is given its serial number and owes one completion (R313). -/
def State.newEntry (s : State) (h : EntryHdr) : Nat × State :=
  let n := s.hif.serial
  let s := { s with hif := { s.hif with serial := n + 1 } }
  let Q := s.queue h.queue
  (n, (s.setQueue h.queue { Q with open_ := Q.open_ ++ [n], owed := Q.owed + 1 }).hostMove h.fn (s.handlePrio h.fn h.handle) 64)

/-- The handle a completion entry carries (R276): the session's for session opcodes, 0 for the others. -/
def Op.usesHandle : Op → Bool
  | .sessionOpen | .prefill | .generate | .append | .pause | .resume | .clone | .cancel | .close | .adapterTune => true
  | _ => false

/-- An entry completes with nothing done but what its status says (R271, R277). -/
def State.answer (s : State) (h : EntryHdr) (serial : Nat) (op : Op) (st : Status) (d0 : Nat := 0)
    (handle : Nat := h.handle) : State :=
  s.complete h.queue serial ⟨h.tag, st.code, op.code, 0, if op.usesHandle then handle else 0, s.now, d0, 0⟩

/-- A BF16 field is finite. -/
def bf16Finite (x : BF16) : Bool := !bf16NonFinite x

/-- Check 2 of R271 on a sampling block: BF16 fields finite, TEMP not negative (−0 passes). -/
def sampleFine (b : SampleBlock) : Bool :=
  bf16Finite b.temp && bf16Finite b.topP && bf16Finite b.minP && (!bitOf b.temp.toNat 15 || bitsOf b.temp.toNat 0 15 == 0)

/-- Check 2 of R271 on a session request's operands. -/
def ReqOps.fine (flags : Nat) : ReqOps → Bool
  | .prompt _ o => (!bitOf flags 0 || sampleFine o.sample) && o.addr % 4 == 0
  | .generate o => sampleFine o.sample
  | .tune o => bf16Finite o.lr && o.addr % 4 == 0 && o.outAddr % 4 == 0
  | _ => true

/-- A request as it joins its session's queue. -/
def mkRequest (serial : Nat) (h : EntryHdr) (ops : ReqOps) : Request where
  serial := serial
  queue := h.queue
  tag := h.tag
  flags := h.flags
  adapter := h.adapter
  ops := ops
  phase := .queued
  acceptAt := 0
  readyAt := 0
  gen := 0
  c0 := 0
  pend0 := none
  buffer := []
  done := 0
  produced := 0
  t0 := none
  released := 0
  kept := []
  oob := false
  late := false
  clamped := false
  recomputed := false
  recompDone := 0
  launch := 0
  drafts := []
  cancelAt := none
  faulted := false
  endAt := 0
  mayLaunch := 0
  ended := none
  passed := 0
  energy := 0
  loss := 0#32
  targets := 0

/-- An adapter number of a function that is loaded and not marked for unloading (R228, R295). -/
def State.adapterLoaded (s : State) (f n : Nat) : Bool :=
  s.lst.adapters.any fun a => a.fn == f && a.num == n && a.unload.isNone

/-- The bound of R246 on a time, from now: (2^31 − 1) · LEN µs. -/
def State.tooFar (s : State) (t : Nat) : Bool := decide (s.now + (2 ^ 31 - 1) * s.slotLen * 1000 < t)

/-- The number p of R293: 1 when a pending token is held. -/
def Session.p (x : Session) : Nat := b2n x.pending.isSome

/-- Checks 4 to 7 of R271 on a request that runs steps: the first status that fails, none where all pass. -/
def State.runCheck (s : State) (x : Session) (r : Request) : Option Status :=
  let sampleK (b : SampleBlock) : Bool := decide (b.k ≤ 64)
  let isTune := match r.ops with | .tune _ => true | _ => false
  if (r.adapter != 0 || isTune) && !s.adapterLoaded x.fn r.adapter then some .badHandle
  else if x.state ≠ .active then some .badOpcode
  else
    match r.ops with
    | .prompt isPrefill o =>
      if isPrefill && (x.committed != 0 || x.pending.isSome) then some .badOpcode
      else if 1048576 < o.count + x.committed + x.p || (bitOf r.flags 0 && !sampleK o.sample) then some .lengthExceeds
      else none
    | .generate o =>
      if x.pending.isNone then some .badOpcode
      else if 1048576 < o.maxTokens + x.committed || !sampleK o.sample then some .lengthExceeds
      else if s.tooFar o.notBefore || s.tooFar o.firstDue then some .deadlineRange
      else none
    | .tune o => if min 16384 (1048576 - x.committed) < o.count then some .lengthExceeds else none
    | _ => none

/-- The request is one of the no-ops of R293. DEDUCED (assumption log 27). -/
def ReqOps.noop : ReqOps → Bool
  | .prompt _ o => o.count == 0
  | .generate o => o.maxTokens == 0
  | .tune o => decide (o.count ≤ 1)
  | _ => false

/-- The new session of a SESSION_OPEN or CLONE (R190). -/
def mkSession (num handle fn job prio kvFmt dir : Nat) : Session where
  num := num
  handle := handle
  fn := fn
  job := job
  prio := prio
  state := .active
  kvFmt := kvFmt
  recomp := false
  committed := 0
  evicted := 0
  written := 0
  gen := 0
  columns := []
  old := []
  dir := dir
  dirSteps := 0
  pausedAt := 0
  expiry := 0
  lastStep := 0
  tokenPages := []
  pending := none
  queue := []
  closing := none
  cloneOf := none
  copyFrom := 0
  pins := []
  expired := false
  ref := false

/-- A session number that is free: which one is a free value (assumption log 11). -/
def State.takeNumber (s : State) : Nat × State :=
  let (i, s) := s.draw
  let used := s.serve.sessions.foldl (fun m x => SMap.insert m x.num true) ([] : SMap Bool)
  (nthFree (used.map (·.1)) 0 (Config.sessionPick i % max (65536 - used.length) 1), s)

/-- Sessions of a function or of the module stand at their limit (R193). -/
def State.sessionsFull (s : State) (f : Nat) : Bool :=
  decide (min (s.rd KVM_FN_SESSIONS_LIMIT f) 65536 ≤ s.fnOpen f) || decide (65536 ≤ s.serve.sessions.length)

/-! Moves between the tiers (R197, R199). -/

/-- The lowest column of a tier that no move or copy holds and that waits for no retry. -/
def Session.nextColumn (x : Session) (tierB : Bool) : Option Column :=
  bestOf (fun (a b : Column) => decide (a.index < b.index)) (x.columns.filter fun c =>
    c.tierB == tierB && !c.copied && c.move.isNone && c.retryAt == 0)

/-- A column could not be moved (R197, R199): it is tried again 1,000 slot lengths later. DEDUCED (assumption log 25). -/
def State.moveFailed (s : State) (num idx : Nat) : State :=
  match s.sess num with
  | none => s
  | some x => s.setSess { x with columns := x.columns.map fun c =>
      if c.index = idx then { c with retryAt := s.now + 1000 * s.slotLen * 1000 } else c }

/-- The move of a column to the other tier begins (R197, R199): its pages there are allocated, or it stays where it is. -/
def State.beginMove (s : State) (x : Session) (c : Column) : State :=
  let n := c.pages.length
  let (ok, s) := if c.tierB then s.makeRoom2 x.fn n 0 [x.num] else s.makeRoom2 x.fn 0 n [x.num]
  if !ok then s.moveFailed x.num c.index
  else
    let (l, s) := s.takePages (!c.tierB) n
    match s.sess x.num with
    | none => s
    | some x => s.setSess { x with columns := x.columns.map fun d =>
        if d.index = c.index then { d with move := some (l, s.copyCap), retryAt := 0 } else d }

/-- The tier that a session's columns leave (R197, R199): tier A while it pauses, tier B while it resumes. -/
def SessState.leaves : SessState → Option Bool
  | .pausing => some false
  | .resuming => some true
  | _ => none

/-- A session's columns may be moved now (R197, R382): no step pins them, no request of a pausing session is in progress, and its CST
block fits (R376). DEDUCED (assumption log 25). -/
def State.mayMove (s : State) (x : Session) : Bool :=
  x.pins.isEmpty && x.closing.isNone && (x.state == .resuming || x.queue.all fun r => r.phase == .queued) && s.cstFits x.fn 1

/-- The next column of a session on its way begins its move; a column that has no room stays, and the one after it is tried
(R197, R199). -/
def State.startMove (s : State) (num : Nat) : Nat → State
  | 0 => s
  | k + 1 =>
    match s.sess num with
    | none => s
    | some x =>
      match x.state.leaves with
      | none => s
      | some tierB =>
        if !s.mayMove x || x.columns.any (·.move.isSome) then s
        else
          match x.nextColumn tierB with
          | none => s
          | some c => State.startMove (s.beginMove x c) num k

/-- A session's moves go on: every column that has no room is passed over. -/
def State.goMoves (s : State) (num : Nat) : State :=
  match s.sess num with
  | none => s
  | some x => s.startMove num (x.columns.length + 1)

/-- A session's moves go on after an event of its own; a move that then waits for CST space is counted (R376).
DEDUCED (assumption log 25). -/
def State.goOn (s : State) (num : Nat) : State :=
  let s := s.goMoves num
  match s.sess num with
  | none => s
  | some x =>
    match x.state.leaves with
    | none => s
    | some tierB =>
      s.when (!x.columns.any (·.move.isSome) && (x.nextColumn tierB).isSome && x.pins.isEmpty && !s.cstFits x.fn 1)
        (·.count CST_QUOTA_WAIT_CNT_COUNT)

/-- The moves of a session's columns stop (R199, R203): the pages allocated for them are freed, none waits for a retry. -/
def State.stopMoves (s : State) (num : Nat) : State :=
  match s.sess num with
  | none => s
  | some x =>
    let s := forEach x.columns s fun s c => s.markPages (!c.tierB) false c.target
    s.setSess { x with columns := x.columns.map fun c => { c with retryAt := 0, move := none } }

/-- R197: PAUSE is accepted: PAUSING, PAUSED_AT and EXPIRY; PAUSED at once where no column lies in tier A.
DEDUCED (assumption log 27). -/
def State.acceptPause (s : State) (x : Session) (r : Request) (ttl : Nat) : State :=
  if x.state ≠ .active then s.refuseReq x.num r .badOpcode
  else if 2 ^ 63 ≤ ttl then s.refuseReq x.num r .deadlineRange
  else
    let st : SessState := if x.columns.all (·.tierB) then .paused else .pausing
    let s := s.setSess { x with
      state := st, pausedAt := s.now, expiry := if ttl = 0 then 0 else s.now + ttl, expired := false }
    (s.completeReq x.num r .ok s.now 0).goOn x.num

/-- R199: RESUME is accepted: EXPIRY and PAUSED_AT cleared, RESUMING; ACTIVE at once where no column lies in tier B. -/
def State.acceptResume (s : State) (x : Session) (r : Request) : State :=
  match x.state with
  | .active | .resuming => s.completeReq x.num r .ok s.now 0
  | _ =>
    let s := s.stopMoves x.num
    match s.sess x.num with
    | none => s
    | some x =>
      let x := { x with expiry := 0, pausedAt := 0 }
      if x.columns.any (·.tierB) then
        (s.setSess { x with state := .resuming, queue := updFirst (·.serial == r.serial) (fun _ => r) x.queue }).goOn x.num
      else (s.setSess { x with state := .active }).completeReq x.num r .ok s.now 0

/-- The columns a CLONE copies (R202): those that cover positions EVICTED to L0 − 1 and are not SPEC. -/
def Session.cloneColumns (x : Session) : List Column :=
  let w := colSpan x.kvFmt
  x.columns.filter fun c => !c.spec && decide (c.index * w < x.committed) && decide (x.evicted < (c.index + 1) * w)

/-- The clone's columns, their pages taken in the tiers of the source's and filled with their content (R202), each with the place of
its block. -/
def State.copyColumns (s : State) (fn : Nat) : List (Column × Nat) → List Column × State
  | [] => ([], s)
  | (c, block) :: t =>
    let (l, s) := s.takePages c.tierB c.pages.length
    let (r, s) := State.copyColumns (s.copyPages fn c.tierB c.pages c.tierB l) fn t
    ({ c with pages := l, block := block, copied := false, retryAt := 0, move := none } :: r, s)

/-- A CLONE that finds no room (R194). -/
def State.cloneQuota (s : State) (x : Session) (r : Request) : State :=
  (s.count KVM_ALLOC_FAIL_CNT_COUNT).refuseReq x.num r .quota

/-- The copy of a clone starts (R202): its session has its pages, its places in the table region and its token log.  The log of the
source up to L0 goes with its pages; what the source writes later is not copied. DEDUCED (assumption log 25).  R202 lets the source step during
the copy, R271 accepts its next request only behind the CLONE: the CLONE stays at the head of the queue until it completes, so that only a
step already in flight runs on. DESIGN CHOICE (assumption log 25). -/
def State.startClone (s : State) (x : Session) (r : Request) (nh prio dir steps : Nat) (cols : List (Column × Nat)) : State :=
  let (num, s) := s.takeNumber
  let (newCols, s) := s.copyColumns x.fn cols
  let (toks, s) := s.takePages true (ceilDiv x.committed 16384)
  let s := s.copyPages x.fn true x.tokenPages true toks
  let y := { mkSession num nh x.fn x.job prio x.kvFmt (if steps = 0 then (Config.dirOffset num).toNat else dir) with
    state := (match x.state with | .pausing | .paused => .paused | _ => .active)
    committed := x.committed, evicted := x.evicted, written := x.committed, gen := x.gen
    columns := newCols, dirSteps := steps, pausedAt := x.pausedAt, expiry := x.expiry, expired := x.expired
    tokenPages := toks, pending := x.pending
    cloneOf := some (x.num, r.serial, r.queue, r.tag), copyFrom := s.copyCap }
  let held := cols.map (·.1.index)
  let x := { x with
    columns := x.columns.map fun c => if held.contains c.index then { c with copied := true } else c
    queue := updFirst (·.serial == r.serial) (fun _ => r) x.queue }
  let s := s.setSess x
  s.setSessions (s.serve.sessions ++ [y])

/-- R202: CLONE is accepted: the new handle is reserved, pages are allocated in the source's tiers, the copied columns are
held. -/
def State.acceptClone (s : State) (x : Session) (r : Request) (nh prio : Nat) (prioEn : Bool) : State :=
  if nh = 0 || s.handleTaken x.fn nh then s.refuseReq x.num r .badHandle
  else if s.sessionsFull x.fn then s.refuseReq x.num r .quota
  else
    let cols := x.cloneColumns
    let steps := dirStepsFor (cols.map (·.index))
    match s.placeExtents (s.extents 65536) ((if steps = 0 then [] else [1024 * steps]) ++ cols.map fun c => 16 * c.lh) with
    | (none, s) => s.cloneQuota x r
    | (some places, s) =>
      let a := sumN ((cols.filter (!·.tierB)).map (·.pages.length))
      let b := sumN ((cols.filter (·.tierB)).map (·.pages.length)) + ceilDiv x.committed 16384
      let (ok, s) := if a = 0 && b = 0 then (true, s) else s.makeRoom2 x.fn a b [x.num]
      if !ok then s.cloneQuota x r
      else s.startClone x r nh (if prioEn then prio else x.prio) (nth 0 places 0) steps
        (cols.zip (if steps = 0 then places else places.drop 1))

/-- Acceptance of the request at the head of its session's queue (R271): checks 4 to 7, then what its opcode does; after a
module fault it completes with JOB_FAULT (R417). -/
def State.acceptHead (s : State) (num serial : Nat) : State :=
  match s.sess num with
  | none => s
  | some x =>
    match x.queue.find? (·.serial == serial) with
    | none => s
    | some r =>
      let r := { r with phase := .accepted, acceptAt := s.now }
      if s.bit SMS_STATUS_MODULE_FAULT then s.refuseReq num r .jobFault
      else
        match r.ops with
        | .pause ttl => s.acceptPause x r ttl
        | .resume => s.acceptResume x r
        | .clone nh prio en => s.acceptClone x r nh prio en
        | ops =>
          match s.runCheck x r with
          | some st => s.refuseReq num r st
          | none =>
            if ops.noop then s.completeReq num r .ok s.now 0
            else s.setReq num { r with
              readyAt := s.now, mayLaunch := max (s.firstK s.now) (if x.lastStep = 0 then 0 else s.nextKAfter x.lastStep) }

/-- Check 3 of R271 for an opcode that names an open session; for a CLONE, its new handle too. -/
def State.handleCheck (s : State) (h : EntryHdr) (ops : ReqOps) : Option Status :=
  match s.openSess h.fn h.handle with
  | none => some .badHandle
  | some x =>
    let newOk := match ops with
      | .clone nh _ _ => nh != 0 && !s.handleTaken h.fn nh
      | _ => true
    if !newOk then some .badHandle else if 16 ≤ x.queue.length then some .quota else none

/-- A session opcode is read (R271): checks 1 to 3, then it joins its session's queue, and is accepted at once where no
request is before it. DEDUCED (assumption log 27). -/
def State.submitSession (s : State) (h : EntryHdr) (ops : ReqOps) : State :=
  let (n, s) := s.newEntry h
  let no (st : Status) : State := s.answer h n ops.op st (handle := ReqOps.handle h.handle ops)
  if !s.isHome then no .badOpcode
  else if !h.rsvZero || !ops.fine h.flags then no .badOpcode
  else
    match s.handleCheck h ops with
    | some st => no st
    | none =>
      match s.openSess h.fn h.handle with
      | none => no .badHandle
      | some x =>
        let s := s.setSess { x with queue := x.queue ++ [mkRequest n h ops] }
        if x.queue.isEmpty then s.acceptHead x.num n else s

/-- SESSION_OPEN (R188, R200, R266). -/
def State.submitOpen (s : State) (h : EntryHdr) (job prio : Nat) : State :=
  let (n, s) := s.newEntry h
  let policy := h.flags % 2
  let ref := bitOf h.flags 1
  let kvFmt := bitsOf h.flags 2 1
  let no (st : Status) : State := s.answer h n .sessionOpen st
  if !s.isHome then no .badOpcode
  else if !h.rsvZero then no .badOpcode
  else if h.handle = 0 || s.handleTaken h.fn h.handle then no .badHandle
  else if s.bit SMS_STATUS_MODULE_FAULT then no .jobFault
  else if (match s.job h.fn job with | some j => j.policy != policy || j.ref != ref | none => false) then no .badOpcode
  else if s.sessionsFull h.fn || ((s.job h.fn job).isNone && decide (256 ≤ s.serve.jobs.length)) then no .quota
  else
    let (num, s) := s.takeNumber
    let s := if (s.job h.fn job).isSome then s
      else { s with serve := { s.serve with
        jobs := s.serve.jobs ++ [⟨h.fn, job, policy, ref, kvFmt, true, [], false, none, false, 0⟩] } }
    let s := s.setSessions (s.serve.sessions ++
      [mkSession num h.handle h.fn job prio kvFmt (Config.dirOffset num).toNat])
    s.answer h n .sessionOpen .ok 0

/-- What a CANCEL finds of its target at its read time (R289). -/
inductive CancelAt where
  | queued | inFlight | ending | between | done
deriving DecidableEq, Repr

/-- The standing of a request at a CANCEL's read time (R289). -/
def Request.standing (r : Request) : CancelAt :=
  if !r.ops.runs || r.ended.isSome then .done
  else if r.launch ≠ 0 then .inFlight
  else if r.phase = .admitted then .between
  else .queued

/-- The last step of a request has ended at this very time, while tokens are held: it counts as in flight (R289). -/
def State.endsNow (s : State) (r : Request) : Bool := r.ops.runs && r.ended.isSome && r.endAt == s.now

/-- A request planned for a slot whose launch has not come is between steps, or queued (R289). -/
def State.standing (s : State) (r : Request) : CancelAt :=
  if s.endsNow r then .ending
  else match r.standing with
  | .inFlight =>
    if s.serve.launches.any (fun l => l.id == r.launch && l.inFlight) then .inFlight
    else if r.phase = .admitted then .between else .queued
  | c => c

/-- A launch that has not started loses the entries of a request, and is taken out of the plan when none is left. -/
def State.unplanReq (s : State) (serial : Nat) : State :=
  let s := s.setLaunches (s.serve.launches.map fun l =>
    if l.inFlight then l else { l with entries := l.entries.filter (·.serial != serial) })
  forEach (s.serve.launches.filter fun l => !l.inFlight && l.entries.isEmpty) s State.dropLaunch

/-- Ends a request as a cancel at a read time does (R289): at the end of its step where one is in flight, at once
otherwise. -/
def State.cancelReq (s : State) (num : Nat) (r : Request) (time : Nat) : State :=
  match s.standing r with
  | .inFlight => s.setReq num { r with cancelAt := some time }
  | .ending => s.endReq num { r with ended := none } .cancelled time 0
  | .done => s
  | _ => (s.unplanReq r.serial).endReq num r .cancelled time 0

/-- CANCEL (R289). -/
def State.submitCancel (s : State) (h : EntryHdr) (target : Nat) : State :=
  let (n, s) := s.newEntry h
  if !s.isHome || !h.rsvZero then s.answer h n .cancel .badOpcode
  else
    match s.cancelSess h.fn h.handle with
    | none => s.answer h n .cancel .badHandle
    | some x =>
      match x.queue.find? (fun r => r.tag == target && r.ops.runs && (r.ended.isNone || s.endsNow r)
          && r.cancelAt.isNone) with
      | none => s.answer h n .cancel .alreadyDone target
      | some r => (s.cancelReq x.num r s.now).answer h n .cancel .ok target

/-- A closing session whose pages no step pins gives them back (R201); once it holds no request its CLOSE completes. -/
def State.finishClose (s : State) (num : Nat) : State :=
  match s.sess num with
  | none => s
  | some x =>
    match x.closing with
    | none => s
    | some close =>
      let s := if !x.pins.isEmpty then s
        else
          let s := (s.freeColumns num (fun _ => true)).freeOld num
          let s := s.markPages true false x.tokenPages
          match s.sess num with
          | none => s
          | some y => s.setSess { y with tokenPages := [] }
      if x.pins.isEmpty && x.queue.isEmpty then
        match close with
        | some (serial, q, tag) =>
          let c : Completion := ⟨tag, Status.code .ok, Op.code .close, 0, x.handle, s.now, x.committed, 0⟩
          (s.dropSession num).complete q serial c
        | none => s.dropSession num
      else s

/-- CLOSE acts at its read time (R290): every request of the session ends as if cancelled, copies stop, and the session
closes once no step pins its pages. -/
def State.submitClose (s : State) (h : EntryHdr) : State :=
  let (n, s) := s.newEntry h
  if !s.isHome || !h.rsvZero then s.answer h n .close .badOpcode
  else
    match s.openSess h.fn h.handle with
    | none => s.answer h n .close .badHandle
    | some x =>
      let t := s.now
      let s := forEach x.queue s fun s r =>
        if r.ops.runs then s.cancelReq x.num r t
        else
          match r.ops with
          | .clone _ _ _ => if r.phase = .queued then s.completeReq x.num r .cancelled t 0 else s
          | _ => s.completeReq x.num r .cancelled t 0
      let s := (s.abortClones x.num .aborted).stopMoves x.num
      match s.sess x.num with
      | none => s
      | some x => (s.setSess { x with closing := some (some (n, h.queue, h.tag)) }).finishClose x.num

/-- NOP (R270). -/
def State.submitNop (s : State) (h : EntryHdr) : State :=
  let (n, s) := s.newEntry h
  s.answer h n .nop (if h.rsvZero then .ok else .badOpcode)

/-- FENCE (R270): it completes once every earlier entry of its ring has completed. -/
def State.submitFence (s : State) (h : EntryHdr) : State :=
  let (n, s) := s.newEntry h
  if !h.rsvZero then s.answer h n .fence .badOpcode
  else
    let Q := s.queue h.queue
    (s.setQueue h.queue { Q with fences := Q.fences ++ [(n, h.tag)] }).runFences h.queue

/-- An opcode that the table of R270 does not hold. -/
def State.submitUnknown (s : State) (h : EntryHdr) (code : Nat) : State :=
  let (n, s) := s.newEntry h
  s.answer h n (.unknown code) .badOpcode

end Sys2Proof.Machine
end

