-- ==== Sys2Proof/Machine/Trans.lean ====
section
/-! DEFINITION. The transcendental functions of VEC (spec/06_accumulation_and_vector.md R151): exp, sin, cos, tanh and ln as
the correctly rounded FP32 value of the exact function.  Each is evaluated in fixed point far beyond the distance at which
an FP32 result can lie from a rounding boundary, then rounded once (assumption log 12). -/

namespace Sys2Proof.Machine

/-- Bits of the fixed point of the transcendental unit. DEDUCED (assumption log 12). -/
def fxBits : Nat := 640

/-- ln 2 in the fixed point. -/
def fxLn2 : Int := 3162442850577000144542819255265044123884198300717798677536341180773118696995660441338367561063358767323571958122307070903190084685977847936741854327993944726832264493303953239866611699627604094

/-- π in the fixed point. -/
def fxPi : Int := 14333329926761567455775730701799299831126131522901418329710873694248203755857903894978459978948837038337184470360789102305252273090192709030764248428292776480232102476327552185579501988876367276

/-- The fixed-point value of a dyadic `±m · 2^e`, exact where `e ≥ -640`. -/
def fxOf (neg : Bool) (m : Nat) (e : Int) : Int :=
  let p := e + (fxBits : Int)
  let v : Int := if 0 ≤ p then ((m * 2 ^ p.toNat : Nat) : Int) else ((m / 2 ^ (-p).toNat : Nat) : Int)
  if neg then -v else v

/-- A product of fixed-point values, rounded down. -/
def fxMul (a b : Int) : Int := a * b / (2 ^ fxBits : Nat)

/-- The terms of a power series from term `n` on: each is the one before times `x` over the next divisor. -/
def fxExpGo (x : Int) : Nat → Nat → Int → Int → Int
  | 0, _, _, acc => acc
  | f + 1, n, t, acc =>
    let t' := fxMul t x / ((n : Int) + 1)
    if t' = 0 then acc else fxExpGo x f (n + 1) t' (acc + t')

/-- exp of a fixed-point value of magnitude at most 1. -/
def fxExp (x : Int) : Int := fxExpGo x 160 0 (2 ^ fxBits : Nat) (2 ^ fxBits : Nat)

/-- The terms of sin and cos: signs alternate and the divisor is `(n + 1)(n + 2)`. -/
def fxTrigGo (x2 : Int) : Nat → Nat → Int → Int → Int
  | 0, _, _, acc => acc
  | f + 1, n, t, acc =>
    let t' := -(fxMul t x2) / (((n : Int) + 1) * ((n : Int) + 2))
    if t' = 0 then acc else fxTrigGo x2 f (n + 2) t' (acc + t')

/-- cos of a fixed-point value of magnitude at most 2. -/
def fxCos (x : Int) : Int := fxTrigGo (fxMul x x) 120 0 (2 ^ fxBits : Nat) (2 ^ fxBits : Nat)

/-- sin of a fixed-point value of magnitude at most 2. -/
def fxSin (x : Int) : Int := fxTrigGo (fxMul x x) 120 1 x x

/-- The FP32 value of a fixed-point value times `2^k`. -/
def fxToF32 (x : Int) (k : Int) : F32 := f32OfNum (.fin (decide (x < 0)) x.natAbs (k - (fxBits : Int)))

/-- exp, correctly rounded (R151). DEDUCED (assumption log 12). -/
def f32Exp (a : F32) : F32 :=
  match f32Num a with
  | .fin s m e =>
    if m = 0 then 0x3F800000#32
    else if 9 ≤ log2Floor m e then (if s then 0#32 else f32Inf false)
    else
      let x := fxOf s m e
      let n := divEven x fxLn2.toNat
      fxToF32 (fxExp (x - n * fxLn2)) n
  | .inf s => if s then 0#32 else f32Inf false
  | .nan => f32NaN

/-- The argument of sin or cos: the quadrant and the remainder after whole quarters of π are taken off. -/
def fxQuadrant (x : Int) : Int × Int :=
  let h := fxPi / 2
  let n := divEven x h.toNat
  (n % 4, x - n * h)

/-- cos, correctly rounded (R151, R153). DEDUCED (assumption log 12). -/
def f32Cos (a : F32) : F32 :=
  match f32Num a with
  | .fin s m e =>
    let q := fxQuadrant (fxOf s m e)
    if q.1 = 0 then fxToF32 (fxCos q.2) 0
    else if q.1 = 1 then fxToF32 (-(fxSin q.2)) 0
    else if q.1 = 2 then fxToF32 (-(fxCos q.2)) 0
    else fxToF32 (fxSin q.2) 0
  | _ => f32NaN

/-- sin, correctly rounded (R151, R153); the sine of a zero is that zero. DEDUCED (assumption log 12). -/
def f32Sin (a : F32) : F32 :=
  match f32Num a with
  | .fin s m e =>
    if m = 0 then a
    else
      let q := fxQuadrant (fxOf s m e)
      if q.1 = 0 then fxToF32 (fxSin q.2) 0
      else if q.1 = 1 then fxToF32 (fxCos q.2) 0
      else if q.1 = 2 then fxToF32 (-(fxSin q.2)) 0
      else fxToF32 (-(fxCos q.2)) 0
  | _ => f32NaN

/-- tanh, correctly rounded (R151, R152): `(1 - y) / (1 + y)` with `y = exp(-2|x|)`. DEDUCED (assumption log 12). -/
def f32Tanh (a : F32) : F32 :=
  match f32Num a with
  | .fin s m e =>
    if m = 0 then a
    else if 4 ≤ log2Floor m e then (if s then 0xBF800000#32 else 0x3F800000#32)
    else
      let x := 2 * fxOf false m e
      let n := divEven x fxLn2.toNat
      let y := fxExp (n * fxLn2 - x)
      let one : Int := (2 ^ fxBits : Nat)
      let p : Int := (2 ^ n.toNat : Nat)
      let r := (one * p - y) * one / (one * p + y)
      fxToF32 (if s then -r else r) 0
  | .inf s => if s then 0xBF800000#32 else 0x3F800000#32
  | .nan => f32NaN

/-- The terms of the inverse hyperbolic tangent. -/
def fxAtanhGo (y2 : Int) : Nat → Nat → Int → Int → Int
  | 0, _, _, acc => acc
  | f + 1, n, t, acc =>
    let t' := fxMul t y2
    if t' = 0 then acc else fxAtanhGo y2 f (n + 2) t' (acc + t' / ((n : Int) + 2))

/-- ln of a positive dyadic `m · 2^e` in the fixed point. -/
def fxLn (m : Nat) (e : Int) : Int :=
  let k := log2Floor m e
  let x := fxOf false m (e - k)
  let one : Int := (2 ^ fxBits : Nat)
  let up := decide (3 * one < 2 * x)
  let x := if up then x / 2 else x
  let k := if up then k + 1 else k
  let y := (x - one) * one / (x + one)
  2 * fxAtanhGo (fxMul y y) 300 1 y y + k * fxLn2

/-- The natural logarithm, correctly rounded (R173). DEDUCED (assumption log 12). -/
def f32Ln (a : F32) : F32 :=
  match f32Num a with
  | .fin s m e =>
    if m = 0 then f32Inf true
    else if s then f32NaN
    else fxToF32 (fxLn m e) 0
  | .inf s => if s then f32NaN else f32Inf false
  | .nan => f32NaN

/-- The square root and its reciprocal are `f32Sqrt` and `f32Rsqrt`; `exp((z - m) / T)` in three roundings (R151). -/
def expScaled (z m temp : F32) : F32 := f32Exp (f32Div (f32Sub z m) temp)

/-- Some of the three results of exp((z − m) / T) is not finite (R151). DEDUCED (assumption log 44). -/
def expOverflows (temp m z : F32) : Bool :=
  let q := f32Div (f32Sub z m) temp
  f32NonFinite (f32Sub z m) || f32NonFinite q || f32NonFinite (f32Exp q)

end Sys2Proof.Machine
end

