-- ==== Sys2Proof/Machine/Tune.lean ====
section
/-! DEFINITION. G8 blocks as they are written (spec/02_number_formats.md R37, R41), and the loss and the factor gradients of a tune
(spec/11_serving.md R296–R299). -/

namespace Sys2Proof.Machine

/-- A block of 32 values as a G8 block: its bytes, scale byte last, and whether it raises a NUMERIC event (R37, R41): it does unless
every one of its non-finite or oversized values is a NaN that a NaN of the inputs explains, which `known` says of each (R47).
Element `i` takes draw `base + i` under stochastic rounding. The scale byte of a NaN block is the model's:
DESIGN CHOICE (assumption log 59). -/
def g8Block (seed : Option Nat) (base : Nat) (known : List Bool) (b : List F32) : List Byte × Bool :=
  match quantG8 (seed.map fun sd => (List.range 32).map fun j => (Config.g8Draw sd (base + j)).toNat) b with
  | .block sc q => ((q.map fun c => BitVec.ofNat 8 c.toNat) ++ [BitVec.ofNat 8 sc], false)
  | .zero => (List.replicate 32 0#8 ++ [0xFF#8], false)
  | .numeric =>
    (List.replicate 32 fp8NaN ++ [127#8],
      b.zipIdx.any fun (x, i) => numericBlock [x] && !(f32IsNaN x && nth false known i))

/-- The value of element `e` of a run of G8 blocks (R37): 33 bytes for every 32 elements. -/
def g8At (l : List Byte) (e : Nat) : F32 :=
  let b := 33 * (e / 32)
  let sc := (nth 0#8 l (b + 32)).toNat
  if sc = 255 then 0#32 else f32Scale (fp8ToF32 (nth 0#8 l (b + e % 32))) (e8m0Exp sc)

/-- A list as G8 blocks of 32 consecutive elements: bytes, and whether an event arose; `known` says which elements a NaN of the inputs
explains. -/
def g8Run (seed : Option Nat) (base : Nat) (known : List Bool) (l : List F32) : List Byte × Bool :=
  let bs := (blocksOf 0#32 32 l).zipIdx.map fun (b, i) => g8Block seed (base + 32 * i) ((known.drop (32 * i)).take 32) b
  ((bs.map (·.1)).flatten, bs.any (·.2))

/-- An FP32 value in the fixed point; 0 for what is not finite. -/
def fxF32 (x : F32) : Int :=
  match f32Num x with
  | .fin s m e => fxOf s m e
  | _ => 0

/-- A term of the loss (R296): m + ln Z − z, rounded once. DEDUCED (assumption log 27). -/
def lossTerm (t : TuneTarget) : F32 :=
  match f32Num t.z with
  | .fin false m e =>
    if m = 0 || f32NonFinite t.m || f32NonFinite t.logit then f32Sub (f32Add t.m (f32Ln t.z)) t.logit
    else fxToF32 (fxF32 t.m + fxLn m e - fxF32 t.logit) 0
  | _ => f32Sub (f32Add t.m (f32Ln t.z)) t.logit

/-- The loss of a tune over its targets (R296): +0 where there is none. DEDUCED (assumption log 27). -/
def tuneLoss (l : List TuneTarget) : F32 :=
  match l.map lossTerm with
  | [] => 0#32
  | a :: t => f32Div (t.foldl f32Add a) (f32OfNat l.length)

/-- t_j = Σ_i V[j][i] · x_i of one token (R118, R297). -/
def tuneT (f : LowRank) (x : List F32) (j : Nat) : F32 :=
  (List.range x.length).foldl (fun t i => f32Fma (bf16ToF32 (nth 0#16 f.v (j * x.length + i))) (nth 0#32 x i) t) 0#32

/-- Σ_c U[c][j] · dy_c of one token, c ascending (R297). -/
def tuneS (f : LowRank) (dy : List F32) (j : Nat) : F32 :=
  (List.range dy.length).foldl (fun t c => f32Fma (bf16ToF32 (nth 0#16 f.u (c * f.rank + j))) (nth 0#32 dy c) t) 0#32

/-- Σ over positions of a_p · b_p, ascending, a left fold of fma (R297). -/
def foldFma : List (F32 × F32) → F32 := List.foldl (fun t e => f32Fma e.1 e.2 t) 0#32

/-- dU of a covered matrix in the element order of R214 (R297): (c, j) at c · rank + j. -/
def tuneU (f : LowRank) (w : TuneMatrix) : List F32 :=
  let ts := w.inputs.map fun x => (List.range f.rank).map (tuneT f x)
  (List.range f.u.length).map fun e =>
    foldFma ((w.grads.zip ts).map fun (dy, t) => (nth 0#32 dy (e / max f.rank 1), nth 0#32 t (e % max f.rank 1)))

/-- dV of a covered matrix in the element order of R214 (R297): (j, i) at j · N_IN + i. -/
def tuneV (f : LowRank) (w : TuneMatrix) : List F32 :=
  let n := f.v.length / max f.rank 1
  let ss := w.grads.map fun dy => (List.range f.rank).map (tuneS f dy)
  (List.range f.v.length).map fun e =>
    foldFma ((ss.zip w.inputs).map fun (sm, x) => (nth 0#32 sm (e / max n 1), nth 0#32 x (e % max n 1)))

/-- Some element of a list is NaN. -/
def anyNaN (l : List F32) : Bool := l.any f32IsNaN

/-- Which elements of dU a NaN of the inputs explains (R47): t of a token takes all of its inputs, row c one gradient of each token. -/
def tuneUKnown (f : LowRank) (w : TuneMatrix) : List Bool :=
  let all := w.inputs.any anyNaN
  (List.range f.u.length).map fun e => all || w.grads.any fun dy => f32IsNaN (nth 0#32 dy (e / max f.rank 1))

/-- Which elements of dV a NaN of the inputs explains (R47): s of a token takes all of its gradients, column i one input of each token. -/
def tuneVKnown (f : LowRank) (w : TuneMatrix) : List Bool :=
  let all := w.grads.any anyNaN
  let n := f.v.length / max f.rank 1
  (List.range f.v.length).map fun e => all || w.inputs.any fun x => f32IsNaN (nth 0#32 x (e % max n 1))

/-- The G8 bytes of a matrix's gradients (R297): those of dU, then those of dV, and whether an event arose. -/
def tuneGrads (seed : Option Nat) (base : Nat) (f : LowRank) (w : TuneMatrix) : List Byte × Bool :=
  let u := g8Run seed base (tuneUKnown f w) (tuneU f w)
  let v := g8Run seed (base + f.u.length) (tuneVKnown f w) (tuneV f w)
  (u.1 ++ v.1, u.2 || v.2)

/-- A matrix's gradients as the host's buffer holds them (R298): the header, the blocks, zeros up to a multiple of 64 bytes. -/
def tuneRecord (f : LowRank) (l : List Byte) : List Byte :=
  let r := leBytes 2 f.matrix ++ leBytes 1 f.rank ++ List.replicate 13 0#8 ++ l
  r ++ List.replicate (ceilDiv r.length 64 * 64 - r.length) 0#8

/-- One factor element after an APPLY tune (R299): bf16(f − fp32(LR · g)). -/
def tunedElem (lr : BF16) (f : BF16) (g : F32) : BF16 := f32ToBf16 (f32Sub (bf16ToF32 f) (f32Mul (bf16ToF32 lr) g))

/-- The factors of a matrix after an APPLY tune (R299), from the G8 bytes of its gradients. -/
def tunedFactors (lr : BF16) (f : LowRank) (l : List Byte) : LowRank :=
  let v := l.drop (33 * ceilDiv f.u.length 32)
  { f with
    u := f.u.zipIdx.map fun (x, i) => tunedElem lr x (g8At l i)
    v := f.v.zipIdx.map fun (x, i) => tunedElem lr x (g8At v i) }

/-- The gradients of every covered matrix, in ascending MATRIX, each with its factors and its G8 bytes (R297), and whether an event
arose. -/
def tuneAll (seed : Option Nat) : Nat → List LowRank → List TuneMatrix → List (LowRank × List Byte) × Bool
  | _, [], _ => ([], false)
  | base, f :: t, ws =>
    let g := tuneGrads seed base f ((ws.find? (·.matrix == f.matrix)).getD ⟨f.matrix, [], []⟩)
    let r := tuneAll seed (base + f.u.length + f.v.length) t ws
    ((f, g.1) :: r.1, g.2 || r.2)

end Sys2Proof.Machine
end

