-- ==== Sys2Proof/Machine/Steps.lean ====
section
/-! DEFINITION. Admission, steps and chunks, drafts, due times and token release (spec/11_serving.md R282–R292,
spec/10_cadence_wheel.md R249–R256, spec/08_kv_pages.md R191, R196). -/

namespace Sys2Proof.Machine

/-- The content of a generation's image: the slot that holds it as CURRENT or OLD. -/
def State.genSlot (s : State) (g : Nat) : Option ObjSlot :=
  match s.lst.current with
  | some (slot, cur) =>
    if cur = g then some (SMap.get ObjSlot.init s.lst.slots slot)
    else match s.lst.swap with
      | some w => if w.oldGen = g then some (SMap.get ObjSlot.init s.lst.slots w.oldSlot) else none
      | none => none
  | none => none

/-- The vocabulary of a generation (R282): the rows of its embedding, else the outputs of its output head.
DEDUCED (assumption log 27). -/
def State.vocab (s : State) (g : Nat) : Nat :=
  match s.genSlot g with
  | none => 0
  | some o =>
    match o.content.manifest with
    | none => 0
    | some m =>
      match m.dir.find? (·.type_ == 8) with
      | some d => d.count
      | none => match o.content.matrices.find? (·.kind == 3) with | some r => r.nOut | none => 0

/-- The due time D_i of token `i` (R254), once the anchor T0 is known. -/
def Request.due (r : Request) (o : GenerateOps) (i : Nat) : Option Nat :=
  (match r.t0 with | some a => some a | none => if o.firstDue = 0 then none else some o.firstDue).map (· + i * o.period)

/-- The first tick at or after an instant (R254). -/
def tickFrom (t : Nat) : Nat := ceilDiv t 1000 * 1000

/-- R254: the gate on a paced request: its next unproduced token's due time lies at most 2 · L ahead. -/
def State.gateOpen (s : State) (r : Request) : Bool :=
  match r.ops with
  | .generate o =>
    if o.period = 0 then true
    else match r.due o r.produced with
      | some d => decide (d ≤ s.now + 2 * o.lead)
      | none => true
  | _ => true

/-- R287: the latest earlier occurrence of the context's last three tokens in the search window, by its last index `j`. -/
def draftMatch (ctx : List Nat) (n : Nat) : Option Nat :=
  let lo := n - 4096
  let a := nth 0 ctx (n - 3)
  let b := nth 0 ctx (n - 2)
  let c := nth 0 ctx (n - 1)
  let w := ctx.drop lo
  let rec go (l : List Nat) (i : Nat) (best : Option Nat) : Option Nat :=
    match l with
    | x :: y :: z :: t =>
      go (y :: z :: t) (i + 1) (if x == a && y == b && z == c && decide (i + 2 ≤ n - 2) then some (i + 2) else best)
    | _ => best
  go w lo none

/-- R287: the drafts of a step. -/
def draftsOf (ctx : List Nat) (limit : Nat) : List Nat :=
  let n := ctx.length
  if n < 4 then []
  else match draftMatch ctx n with
    | none => []
    | some j => (ctx.drop (j + 1)).take limit

/-- HUB_MAX_TOKENS as it applies (R162): 0 as 1, above 16 as 16. -/
def State.hubMax (s : State) : Nat := min 16 (max 1 (s.rd ATN_CTRL_HUB_MAX_TOKENS))

/-- The positions of the request's own work (R282, R296). -/
def Request.total (r : Request) : Nat :=
  match r.ops with
  | .prompt _ o => b2n r.pend0.isSome + o.count
  | .tune o => o.count
  | _ => 0

/-- The next piece of a request's own work (R283, R288, R296). -/
def State.nextPiece (s : State) (x : Session) (r : Request) : Piece × List Nat :=
  match r.ops with
  | .generate o =>
    let ctx := s.tokenLog x ++ x.pending.toList
    let d := draftsOf ctx (min o.draftMax (min (o.maxTokens - r.produced - 1) (s.hubMax - 1)))
    (.decode (1 + d.length), d)
  | .tune _ => let q := min 2048 (r.total - r.done); (.tune q (decide (r.total ≤ r.done + q)), [])
  | _ => let q := min 2048 (r.total - r.done); (.prefill q (decide (r.total ≤ r.done + q)), [])

/-- Query tokens of a piece. -/
def Piece.qcnt : Piece → Nat
  | .decode q => q
  | .prefill q _ => q
  | .recompute _ q => q
  | .tune q _ => q

/-- A piece that belongs to a chunk. -/
def Piece.inChunk : Piece → Bool
  | .decode _ => false
  | _ => true

/-- Bytes of an adapter's or a base image's factors in one core's low-rank store: the elements of U for the outputs and of
V for the inputs that the core's clusters serve, two bytes each (R106, R228). -/
def lowRankBytes (c : ObjContent) (recs : List LowRank) (core : Nat) : Nat :=
  sumN ((c.clusters.filter (·.core == core)).map fun cl =>
    sumN ((recs.filter (·.matrix == cl.matrix)).map fun l =>
      let ch := if cl.diff then 128 else 256
      (min (cl.xbCols * ch) 2048 + cl.xbRows * 512) * l.rank * 2))

/-- R229: adapters named together fit beside the base factors in every core. -/
def State.adaptersFit (s : State) (g : Nat) (f : Nat) (nums : List Nat) : Bool :=
  match s.genSlot g with
  | none => true
  | some o =>
    let cores := (o.content.clusters.map (·.core)).eraseDups
    let recs := nums.map fun n =>
      match s.lst.adapters.find? (fun a => a.fn == f && a.num == n) with
      | some a => (SMap.get ObjSlot.init s.lst.slots a.slot).content.lowRank
      | none => []
    cores.all fun c => decide (lowRankBytes o.content o.content.lowRank c
      + sumN (recs.map fun l => lowRankBytes o.content l c) ≤ 1048576)

/-- The adapters of a launch's entries. -/
def State.launchAdapters (s : State) (l : Launch) : List Nat :=
  (l.entries.map fun e => match s.sess e.session with
    | some x => (match x.queue.find? (·.serial == e.serial) with | some r => r.adapter | none => 0)
    | none => 0).filter (· != 0) |>.eraseDups

/-- A planned launch can take one more entry (R283, R285). -/
def State.canJoin (s : State) (l : Launch) (x : Session) (r : Request) (ref : Bool) (p : Piece) (plan : AdmitPlan) : Bool :=
  !l.inFlight && l.group == plan.group && l.slot == plan.slot && l.fn == x.fn && l.job == x.job && l.gen == r.gen
    && l.ref == ref && l.chunk == p.inChunk
    && (if l.chunk then decide (sumN (l.entries.map (·.piece.qcnt)) + p.qcnt ≤ 2048) else decide (l.entries.length < 256))
    && s.adaptersFit r.gen x.fn (if r.adapter = 0 then s.launchAdapters l else (r.adapter :: s.launchAdapters l).eraseDups)

/-- The array cores of a generation's placement (R462). -/
def State.placementCores (s : State) (g : Nat) : List Nat :=
  match s.genSlot g with
  | some o => (o.content.clusters.map (·.core)).eraseDups
  | none => []

/-- The cores a job uses (R462): those of its steps since its last job start, and those of its bound placement, the generations that
its requests are bound to or else the current one. -/
def State.jobCores (s : State) (j : Job) : List Nat :=
  let mine := (s.serve.sessions.filter fun x => x.fn == j.fn && x.job == j.num).map fun x =>
    (x.queue.filter fun r => r.phase == .admitted).map (·.gen)
  let gens := mine.flatten.eraseDups
  let gens := if gens.isEmpty then (s.lst.current.map (·.2)).toList else gens
  (j.cores ++ (gens.map s.placementCores).flatten).eraseDups

/-- The work of a session runs in reference mode (R131). -/
def State.jobRef (s : State) (x : Session) : Bool :=
  (match s.job x.fn x.job with | some j => j.ref | none => false) || bitOf (s.rd WLT_REF_FN_FN) x.fn

/-- CST blocks that the streams of a step are staged in beside what the plan names (R13, R375, R376): one for the key and value pages of a
session that has positions, one for stand-in tiles where a position of the placement is stood in.
DESIGN CHOICE (assumption log 26). -/
def State.stagingBlocks (s : State) (x : Session) (ref : Bool) : Nat :=
  b2n (decide (0 < x.committed)) + b2n (ref || !s.lst.lastings.isEmpty || !s.lst.unserved.isEmpty)

/-- The CST blocks of a request's next step (R376). -/
def State.stepBlocks (s : State) (x : Session) (plan : AdmitPlan) : Nat := plan.cstBlocks + s.stagingBlocks x (s.jobRef x)

/-- The step or piece of a request is placed in the plan (R248, R285), with its cores (R462), its CST blocks, its energy and its
length-table entry. -/
def State.place (s : State) (x : Session) (r : Request) (p : Piece) (plan : AdmitPlan) (energy : Nat) : State :=
  let ref := s.jobRef x
  let blocks := s.stepBlocks x plan
  let e : LaunchEntry := ⟨x.num, r.serial, p, plan.lens⟩
  let cores := ((plan.cores ++ s.placementCores r.gen).filter fun c => !(s.health c).retired).eraseDups
  let (id, s) := match s.serve.launches.find? (fun l => s.canJoin l x r ref p plan) with
    | some l =>
      (l.id, s.setLaunches (updFirst (·.id == l.id) (fun l => { l with
        entries := l.entries ++ [e], cores := (l.cores ++ cores).eraseDups, cst := l.cst + blocks
        energy := l.energy + energy, copyTo := max l.copyTo s.serve.copyUsed
        programs := l.programs ++ plan.programs }) s.serve.launches))
    | none =>
      let id := s.serve.nextLaunch
      let l : Launch := ⟨id, plan.slot, x.fn, x.job, r.gen, ref, p.inChunk, cores, [e], false, false, 0, plan.group,
        blocks, energy, s.serve.copyUsed, plan.programs⟩
      (id, { s with serve := { s.serve with launches := s.serve.launches ++ [l], nextLaunch := id + 1 } })
  let s := s.chargeCst x.fn (blocks * 65536) true
  let s := s.withLnk { s.lnk with windows := s.lnk.windows ++ plan.windows.map fun w => (id, w) }
  s.setReq x.num { r with launch := id }

/-- R178, R196: a session whose resident positions carry another generation has its whole resident range treated as evicted; its columns
are freed, those that a copy holds once it ends, and so are those of an unfinished recompute under another generation. -/
def State.regenerate (s : State) (x : Session) (g : Nat) : State :=
  let all := decide (x.evicted < x.committed) && x.gen != g
  let old (c : Column) : Bool := all || c.gen != g
  if !all && !x.columns.any old then s
  else
    let gone := x.columns.filter fun c => old c && s.takable c
    let kept := x.columns.filter fun c => old c && !s.takable c
    let s := forEach gone s State.freeColumn
    s.setSess { x with
      columns := x.columns.filter (!old ·), old := x.old ++ kept, evicted := if all then x.committed else x.evicted
      recomp := x.recomp || all }

/-- An admission that failed leaves its session as it was (R194, R284): what `regenerate` freed is its own again. -/
def State.restore (s : State) (x : Session) : State :=
  let s := forEach x.columns s fun s c => (s.markPages c.tierB true c.pages).markPages (!c.tierB) true c.target
  match s.sess x.num with
  | none => s
  | some y => s.setSess { x with queue := y.queue }

/-- The columns that an admission has given up for another generation are counted (R196). -/
def State.countRegen (s : State) (x : Session) (g : Nat) : State :=
  let all := decide (x.evicted < x.committed) && x.gen != g
  s.count KVM_EVICT_CNT_COUNT (x.columns.filter fun c => (all || c.gen != g) && s.takable c).length

/-- The module is one of several of a partition (R330). -/
def State.inPartition (s : State) : Bool := s.bit LNK_CTRL_EN && s.rd LNK_PART_EXT != 0

/-- The positions of the other modules of this module's block (R209, R261), as R209 packs them. -/
def State.otherModules (s : State) : List Nat :=
  let e := s.rd LNK_PART_EXT
  ((List.range (e / 256 + 1)).map fun z => ((List.range (e / 16 % 16 + 1)).map fun y =>
    (List.range (e % 16 + 1)).map fun x => x + 16 * y + 256 * z).flatten).flatten.filter (· != s.rd LNK_PART_POS_POS)

/-- R261, R339: every other module of the block reports the same slot length and epoch, a running wheel, an error estimate at or below LIMIT
and every port of its routes UP. DESIGN CHOICE (assumption log 48). -/
def State.peersReady (s : State) : Bool :=
  s.otherModules.all fun p => match SMap.get none s.lnk.peers p with
    | some r => r.len == s.slotLen && r.epoch == s.epoch && r.run && decide (r.err ≤ s.rd TWS_LOCK_LIMIT_LIMIT) && r.routesUp
    | none => false

/-- R261, R262, R339: a partition's job starts only with the wheel running, the time within its limit and every port of its routes UP; one
that runs already goes on. -/
def State.partitionOk (s : State) (x : Session) : Bool :=
  !s.inPartition || (match s.job x.fn x.job with | some j => !j.fresh | none => false)
    || (s.running && !s.unlocked && s.bit LNK_PART_POS_ROUTES_UP && s.peersReady)

/-- Some region is modelled below 0 °C (R396). -/
def State.tooCold (s : State) : Bool := s.ptm.temps.any fun e => decide (e.1 < 536) && f32Lt e.2 0#32

/-- Admission is open: no module fault, MP0, no firmware restart, no region below 0 °C. -/
def State.admitOpen (s : State) : Bool :=
  !s.bit SMS_STATUS_MODULE_FAULT && !s.tooCold && s.rd PTM_PSTATE_STATE == 0 && !s.ctl.restarting

/-- R284: what admission itself decides: the host buffer, the vocabulary, the adapter's layout. -/
def State.admitCheck (s : State) (x : Session) (r : Request) (g : Nat) (buf : HostRead (List Nat)) : Option Status :=
  let needs := match r.ops with | .generate _ => false | _ => true
  match needs, buf with
  | true, .error => some .aborted
  | _, _ =>
    let toks := match buf with | .data l => l.map (· % 2 ^ 24) | .error => []
    if needs && toks.any (fun t => decide (s.vocab g ≤ t)) then some .lengthExceeds
    else if r.adapter != 0 then
      match s.lst.adapters.find? (fun a => a.fn == x.fn && a.num == r.adapter) with
      | some a => if (SMap.get ObjSlot.init s.lst.slots a.slot).gens.contains g then none else some .badImage
      | none => some .badHandle
    else none

/-- A request is an ADAPTER_TUNE with APPLY (R299). -/
def Request.applies (r : Request) : Bool := match r.ops with | .tune _ => bitOf r.flags 1 | _ => false

/-- R299: a first admission of an APPLY tune waits until no admitted request names its adapter; from the acceptance of such a tune to its
completion no other request that names the adapter is admitted, of two such tunes the one accepted first going first.  Later steps of
requests already admitted go on. DEDUCED (assumption log 27). -/
def State.adapterFreeFor (s : State) (x : Session) (r : Request) : Bool :=
  r.adapter == 0 || r.phase == .admitted || (s.serve.sessions.all fun y => y.fn != x.fn || y.queue.all fun q =>
    q.serial == r.serial || q.adapter != r.adapter || q.ended.isSome ||
      (!(r.applies && q.phase == .admitted)
        && !(q.applies && (q.phase == .admitted || (q.phase == .accepted
          && (!r.applies || rankLt [q.acceptAt, q.serial] [r.acceptAt, r.serial]))))))

/-- A request's next step or piece is placed (R191, R194, R196): its columns and token pages are allocated, or a first
admission ends with QUOTA and a later one waits; what does not fit is passed over in the row; `x0` is the session before the admission. -/
def State.placeNext (s : State) (x0 : Session) (r : Request) (first : Bool) (plan : AdmitPlan) (energy : Nat) : State :=
  let num := x0.num
  match s.sess num with
  | none => s
  | some x =>
    let (p, drafts) := if x.evicted = 0 then s.nextPiece x r
      else ((.recompute r.recompDone (min 2048 (x.evicted - r.recompDone)), []) : Piece × List Nat)
    let (lo, hi, tok) := match p with
      | .recompute a q => (a, a + q, 0)
      | .tune q _ => (x.committed, x.committed + r.done + q, 0)
      | q => (x.evicted, x.committed + q.qcnt, x.committed + q.qcnt)
    let wait (s : State) : State :=
      let s := if first then s.restore x0 else s
      match s.findReq (some r.serial) with
      | some (_, q) => s.setReq num { q with passed := plan.slot + 1, readyAt := s.now }
      | none => s
    if !s.cstFits x.fn (s.stepBlocks x plan) then (wait s).count CST_QUOTA_WAIT_CNT_COUNT
    else
      let (ok, s') := s.allocStep num plan.layerHeads r.gen lo hi tok
      if !ok then
        -- R194: the session is unchanged, but for pages already freed
        if first then (((s'.restore x0).count KVM_ALLOC_FAIL_CNT_COUNT).refuseReq num r .quota) else wait s'
      else
        let s' := if first then s'.countRegen x0 r.gen else s'
        match s'.sess num with
        | none => s'
        | some x =>
          let x := { x with recomp := x.recomp || decide (0 < x.evicted) }
          let r := { r with phase := .admitted, drafts := drafts, passed := 0 }
          ((s'.setSess x).setReq num r).place x r p plan energy

/-- The bytes of a length-table entry (R165). -/
def lenBytes (qpos qcnt kvLen pt window floor kvFmt : Nat) (stats : Option Nat) : List Byte :=
  let flags := kvFmt + 2 * b2n stats.isSome
  ([qpos, qcnt, kvLen, pt, window, floor, flags, stats.getD 0].map (leBytes 4)).flatten

/-- An entry's query position and its lowest visible position, and where its row statistics go (R165, R180, R196, R296). -/
def lenFields (x : Session) (r : Request) (e : LaunchEntry) : Nat × Nat × Option Nat :=
  match e.piece with
  | .recompute a _ => (a, e.lens.floor, e.lens.stats)
  | .tune _ _ => (x.committed + r.done, x.committed, some (e.lens.stats.getD 0))
  | _ => (x.committed, e.lens.floor, e.lens.stats)

/-- The positions that an entry's step writes (R20, R191). -/
def stepWrites (x : Session) (r : Request) (e : LaunchEntry) (pos : Nat) : Bool :=
  let q := (lenFields x r e).1
  decide (q ≤ pos) && decide (pos < q + e.piece.qcnt)

/-- The generation that a request's next step runs under (R217, R284): its own once it is admitted, else the current one. -/
def State.stepGen (s : State) (r : Request) : Option Nat := if r.phase = .admitted then some r.gen else s.lst.current.map (·.2)

/-- A recompute comes before the session's next step for a request: after an eviction, or under another generation (R178, R196). -/
def State.owesRecompute (s : State) (x : Session) (r : Request) : Bool :=
  x.evicted != 0 || (decide (x.evicted < x.committed) && (match s.stepGen r with | some g => x.gen != g | none => false))

/-- A request at the head of its session's queue may take a place in the row of slot `k`, but for its energy, its pages and its blocks
(R19, R229, R254, R261, R267, R284, R299). DESIGN CHOICE (assumption log 28). -/
def State.admissible (s : State) (x : Session) (r : Request) (k : Nat) : Bool :=
  let start := s.boundary k
  let notBefore := match r.ops with | .generate o => o.notBefore | _ => 0
  s.admitOpen && s.running && r.ops.runs && r.phase != .queued && r.launch == 0 && r.ended.isNone && !r.faulted
    && x.state == .active && x.closing.isNone && x.cloneOf.isNone && decide (s.time.nextK ≤ k)
    && decide (s.boundary r.mayLaunch ≤ start) && decide (notBefore ≤ start) && (s.owesRecompute x r || s.gateOpen r)
    && s.partitionOk x && s.adapterFreeFor x r
    && (r.adapter == 0 || s.adaptersFit ((s.stepGen r).getD 0) x.fn [r.adapter])

/-- The class of a request's work (R259). -/
def State.workClass (s : State) (x : Session) : Nat := max x.prio (s.rd TWS_FN_SHARE_MAX_CLASS x.fn)

/-- The PRIO of the work of a request (R259), which its function's MAX_CLASS clamps; 7 for background work. -/
def State.prioOf (s : State) (serial : Option Nat) : Nat :=
  match s.findReq serial with
  | some (x, _) => x.prio
  | none => 7

/-- A request's need time (R249): D − L of the next unproduced token of a paced request, else when it became admissible. -/
def Request.needTime (r : Request) : Nat :=
  match r.ops with
  | .generate o =>
    match (if o.period = 0 then none else r.due o r.produced) with
    | some d => d - o.lead
    | none => max r.readyAt o.notBefore
  | _ => r.readyAt

/-- The rank of a request's work in R249's order. -/
def State.workRank (s : State) (x : Session) (r : Request) : List Nat := [s.workClass x, r.needTime, r.serial]

/-- Requests that may take a place in the row of slot `k`, with their sessions. -/
def State.readyWork (s : State) (k : Nat) : List (Session × Request) :=
  s.serve.sessions.filterMap fun x => match x.queue with
    | r :: _ => if s.admissible x r k then some (x, r) else none
    | [] => none

/-- Functions that have admissible work for slot `k`, or a step in its row (R250). -/
def State.fnsWithWork (s : State) (k : Nat) : List Nat :=
  let ready := (s.readyWork k).map (·.1.fn)
  (List.range 32).filter fun f => ready.contains f || s.serve.launches.any fun l => l.fn == f && l.slot == k

/-- The fabric energy of one slot in µJ (R250): the effective fabric cap times the slot length.
DESIGN CHOICE (assumption log 28). -/
def State.slotBudget (s : State) : Nat := s.ptm.capNow * s.slotLen

/-- A function's allotment of slot `k` (R250): budget · W_f / ΣW over the functions with admissible work.
DESIGN CHOICE (assumption log 28). -/
def State.allotment (s : State) (k f : Nat) : Nat :=
  let fs := s.fnsWithWork k
  let w := sumN (fs.map fun g => s.rd TWS_FN_SHARE_WEIGHT g)
  if w = 0 || !fs.contains f then 0 else s.slotBudget * s.rd TWS_FN_SHARE_WEIGHT f / w

/-- The energy of a function's launches in the row of slot `k` (R250). -/
def State.rowEnergy (s : State) (f k : Nat) : Nat :=
  sumN ((s.serve.launches.filter fun l => !l.inFlight && l.fn == f && l.slot == k).map (·.energy))

/-- R250: energy `e` of a function fits its allotment and credit beside what it already takes of the slot, or what the others leave:
a function whose work still waits keeps its allotment. DESIGN CHOICE (assumption log 28). -/
def State.shareFits (s : State) (k : Nat) (waiting : List Nat) (used : Nat → Nat) (f e : Nat) : Bool :=
  let others := sumN (((List.range 32).filter (· != f)).map fun g =>
    if waiting.contains g then max (used g) (s.allotment k g) else used g)
  decide (used f + e ≤ s.allotment k f + (s.fn f).credit) || decide (others + used f + e ≤ s.slotBudget)

/-- R250: the plan admits a function's work into the row of slot `k`. DESIGN CHOICE (assumption log 28). -/
def State.energyFits (s : State) (f k e : Nat) : Bool :=
  s.shareFits k ((s.readyWork k).map (·.1.fn)) (s.rowEnergy · k) f e

/-- Query tokens of the next step or piece of a request (R196, R283, R288). -/
def State.nextCount (s : State) (x : Session) (r : Request) : Nat :=
  if s.owesRecompute x r then min 2048 (max x.evicted x.committed - r.recompDone) else (s.nextPiece x r).1.qcnt

/-- The energy in µJ of one query token at full scale under a generation (R81, R250): on every crossbar of the placement eight windows in
both passes, and 512 digits of 7 and of 15, those of the element 127. DESIGN CHOICE (assumption log 28). -/
def State.fullScale (s : State) (g : Nat) : Nat :=
  match s.genSlot g with
  | none => 0
  | some o =>
    let unit (p : Nat) : Nat :=
      s.rd AMF_ENERGY_UNIT_E_ROW * 1000 + s.rd AMF_ENERGY_UNIT_E_CELL * SMap.get 0 s.lst.levels (s.physPos p) * 65 / 32768
    sumN (o.content.clusters.map fun c =>
      sumN ((List.range (c.xbRows * c.xbCols)).map fun i =>
        16 * s.rd AMF_ENERGY_E0_E0 * 1000000
          + 512 * 22 * unit (posOf c.core c.cluster (i / c.xbCols) (c.xbCol0 + i % c.xbCols)))) / 1000000000000

/-- The energy estimated for a request's next step (R81, R250): for its first step at full scale; later that of its previous step; for as
many query tokens as it has. DESIGN CHOICE (assumption log 28). -/
def State.estimate (s : State) (x : Session) (r : Request) : Nat :=
  (if r.energy = 0 then s.fullScale ((s.stepGen r).getD 0) else r.energy) * s.nextCount x r

/-- R249: every request earlier in the order has its place in the row, or does not fit: its energy (R250), or the pages or blocks that an
admission has tried to allocate (R194, R376). DESIGN CHOICE (assumption log 28). -/
def State.firstInOrder (s : State) (x : Session) (r : Request) (k : Nat) : Bool :=
  (s.readyWork k).all fun e => !rankLt (s.workRank e.1 e.2) (s.workRank x r) || e.2.passed == k + 1
    || !s.energyFits e.1.fn k (s.estimate e.1 e.2)

/-- REQUEST_ADMIT (R284): the plan places the next step or piece of a session's first request.  Where the request is not
admissible, or not the next in the order of R249, the row is no event.  A read of its buffer that fails is reported (R294, R325). -/
def State.admitOne (s : State) (f h : Nat) (plan : AdmitPlan) : State :=
  match s.openSess f h, s.lst.current with
  | some x, some (_, cur) =>
    match x.queue with
    | [] => s
    | r :: _ =>
      let energy := s.estimate x r
      if !s.admissible x r plan.slot || !s.firstInOrder x r plan.slot || !s.energyFits f plan.slot energy then s
      else if r.phase = .accepted then
        match s.admitCheck x r cur plan.buffer with
        | some .aborted => (s.endReq x.num r .aborted s.now 0).aer f "Buffer read"
        | some st => s.refuseReq x.num r st
        | none =>
          let buf := match plan.buffer with | .data l => l | .error => []
          let r := { r with
            gen := cur, c0 := x.committed, pend0 := x.pending, buffer := buf
            t0 := (match r.ops with
              | .generate o => if o.firstDue = 0 then none else some o.firstDue
              | _ => none) }
          let s := if buf.isEmpty then s else s.hostMove f x.prio (4 * buf.length)
          (s.regenerate x cur).placeNext x r true plan energy
      else s.placeNext x r false plan energy
  | _, _ => s

/-- Whether a token is a stop token of the request (R286). -/
def isStop (o : GenerateOps) (t : Nat) : Bool :=
  (t == o.stop0 && o.stop0 != 0xFFFFFF) || (t == o.stop1 && o.stop1 != 0xFFFFFF)

/-- R288: the tokens kept of those sampled, given the drafts: up to the first that no draft led to, the first stop token
and token MAX_TOKENS − 1. -/
def keepTokens (o : GenerateOps) : Nat → List Nat → List Nat → List Nat
  | 0, _, _ => []
  | _ + 1, _, [] => []
  | left + 1, drafts, t :: ts =>
    if isStop o t then [t]
    else match drafts with
      | d :: ds => if d = t then t :: keepTokens o left ds ts else [t]
      | [] => [t]

/-- A token is released: written at once where its time has come and no earlier one of its request is held, else held
(R254, R256). -/
def State.emitToken (s : State) (x : Session) (r : Request) (i release : Nat) (e : Entry128) : State :=
  if release ≤ s.now && (s.heldOf r.serial).isEmpty then s.releaseToken r.queue r.serial e
  else { s with serve := { s.serve with held := s.serve.held ++ [⟨release, e, r.queue, r.serial, x.fn, x.handle, i⟩] } }

/-- A request without a further step ends; a cancel or a fault that met it decides its status (R292). -/
def State.endStep (s : State) (num : Nat) (r : Request) (dropped : Bool) : State :=
  match r.cancelAt with
  | some _ => s.endReq num r .cancelled s.now 0
  | none => if dropped || r.faulted then s.endReq num r .jobFault s.now 0 else s

/-- The status of a success (R196). -/
def Request.okStatus (r : Request) : Status := if r.recomputed then .evictedRecomputed else .ok

/-- How many tokens of a list are late that a step ending at `e` has produced from number `i` on (R255). -/
def Request.lateCount (r : Request) (o : GenerateOps) (e : Nat) : Nat → Nat → Nat
  | _, 0 => 0
  | i, n + 1 => (match r.due o i with | some d => b2n (decide (d < e)) | none => 0) + r.lateCount o e (i + 1) n

/-- The tokens of a decode step are released or held in order; under END the first late one ends the request, and those produced after it
in the step are counted where they are late too (R254, R255).  The result is the request with its tokens, whether a deadline was missed,
and the state. -/
def State.emitAll (s : State) (x : Session) (o : GenerateOps) (final : Bool) (e : Nat) :
    Request → List (Nat × Bool × Bool) → State × Request × Bool
  | r, [] => (s, r, false)
  | r, (tok, oob, draft) :: rest =>
    let i := r.produced
    let t0 := match r.t0 with
      | some t => some t
      | none => if o.period = 0 then none else some e
    let r := { r with t0 := t0 }
    let due := r.due o i
    let late := match due with | some d => decide (d < e) | none => false
    let s := s.when late (·.count TWS_LATE_TOKEN_CNT_COUNT)
    if late && bitOf r.flags 0 then
      ((s.count TWS_LATE_TOKEN_CNT_COUNT (r.lateCount o e (i + 1) rest.length)).count TWS_DEADLINE_MISS_CNT_COUNT, { r with late := true },
        true)
    else
      let release := match due with
        | some d => tickFrom (max e (d - o.lead))
        | none => e
      let rec_ := tokenEntry r.tag tok late (final && rest.isEmpty) oob draft e
      let s := s.emitToken x r i release rec_
      let r := { r with produced := i + 1, kept := r.kept ++ [tok], late := r.late || late, oob := r.oob || oob }
      State.emitAll s x o final e r rest

/-- The tokens that a request's present step has sampled at its query positions 0 to `n` − 1, with their marks (R286, R288); none where one
is not there. -/
def State.sampled (s : State) (serial n : Nat) : Option (List (Nat × Bool)) :=
  (List.range n).mapM fun j => (s.fab.samples.find? fun x => x.serial == serial && x.j == j).map fun x => (x.token, x.oob)

/-- A request ends with INTERNAL (R301): its step has completed without a sample that it owes; SMS logs it.
DESIGN CHOICE (assumption log 64). -/
def State.endInternal (s : State) (x : Session) (r : Request) : State :=
  let s := s.logEvent { EventRec.blank 0x0C 0 with fn := some x.fn, job := some x.job, status := Status.code .internal, detail := [4] }
  (s.settle x.num).endReq x.num { r with launch := 0, endAt := s.now } .internal s.now 0

/-- A decode step of one entry completes without fault (R191, R286, R288). -/
def State.decodeDone (s : State) (num : Nat) (r : Request) (o : GenerateOps) (ts : List (Nat × Bool)) : State :=
  match s.sess num with
  | none => s
  | some x =>
    let e := s.now
    let kept := keepTokens o (o.maxTokens - r.produced) r.drafts (ts.map (·.1))
    let k := kept.length
    let words := (x.pending.toList ++ r.drafts).take k
    let x := { x with
      committed := x.committed + k, gen := r.gen
      pending := match kept.getLast? with | some t => some t | none => x.pending }
    let s := ((s.writeTokens x (x.committed - k) words).setSess x).settle num
    let r := { r with launch := 0, endAt := e, mayLaunch := s.nextKAfter e }
    let stop := match kept.getLast? with | some t => isStop o t | none => false
    let done := stop || decide (o.maxTokens ≤ r.produced + k)
    let items := (List.range k).map fun j => (nth 0 kept j, (nth (0, false) ts j).2, decide (j + 1 < k))
    let (s, r, missed) := s.emitAll x o done e r items
    if missed then s.endReq num r .deadlineMissed e 0
    else if done then s.endReq num r r.okStatus e (if stop then 2 else 1)
    else s.setReq num r

/-- R39, R40: under FAULT a NUMERIC event in a launch faults its job at the launch's end. -/
def State.numericJob (s : State) (l : Launch) : State :=
  match s.job l.fn l.job with
  | none => s
  | some j =>
    if j.policy = 0 then
      let s := (s.setJob { j with fresh := true, faultStep := some l.id }).markFaulted l.fn l.job
      let s := s.unplan fun m => m.fn == l.fn && m.job == l.job
      s.setLaunches (s.serve.launches.map fun m => if m.fn = l.fn && m.job = l.job then { m with dropped := true } else m)
    else s

/-- R39, R42: a NUMERIC event ends its request with NUMERIC, or with the status of higher order it met (R292). -/
def State.numericEnd (s : State) (num : Nat) (r : Request) : State :=
  match s.sess num with
  | none => s
  | some _ =>
    let st : Status := if r.cancelAt.isSome then .cancelled else .numeric
    (s.settle num).endReq num { r with launch := 0, endAt := s.now } st s.now 0

/-- A launch's energy for each query token, in µJ (R81, R250). -/
def State.launchEnergy (s : State) (l : Launch) : Nat :=
  SMap.get 0 s.fab.energy l.id / 1000000000000 / max 1 (sumN (l.entries.map (·.piece.qcnt)))

/-- A session's step has completed now (R190 LAST_STEP), and its request knows the step's energy (R250). -/
def State.stampStep (s : State) (l : Launch) (e : LaunchEntry) : State :=
  match s.sess e.session with
  | none => s
  | some x => s.setSess { x with lastStep := s.now, queue := x.queue.map fun r =>
      if r.serial = e.serial then { r with energy := s.launchEnergy l } else r }

/-- What was found of a request's data in its step (R39, R122): by the step's completion, and by the marks of its work. -/
structure Found where
  oob : Bool
  clamped : Bool
  numeric : Bool

/-- A request with what its step found (R276). -/
def Request.found (r : Request) (q : Found) : Request := { r with oob := r.oob || q.oob, clamped := r.clamped || q.clamped }

/-- The step or piece of a request that the home module carries here has ended (R268): the request is gone until the home module carries its
next one. DESIGN CHOICE (assumption log 65). -/
def State.carriedDone (s : State) (num : Nat) : State :=
  let s := s.settle num
  match s.sess num with
  | some x => s.setSess { x with queue := x.queue.drop 1 }
  | none => s

/-- One entry of a step's batch at the step's completion record (R191); `dropped` where its outputs are dropped (R412). -/
def State.stepEntry (s : State) (l : Launch) (dropped : Bool) (found : Nat → Found) (e : LaunchEntry) : State :=
  let s := s.stampStep l e
  match s.sess e.session with
  | none => s
  | some x =>
    match x.queue.find? (·.serial == e.serial) with
    | none => s.settle e.session
    | some r =>
      let q := found e.serial
      let r := r.found q
      if r.queue = noRing then s.carriedDone e.session
      else if q.numeric && !l.dropped then s.numericEnd e.session r
      else if dropped || r.cancelAt.isSome || r.faulted then
        (s.settle e.session).endStep e.session { r with launch := 0, endAt := s.now } dropped
      else
        match r.ops with
        | .generate o => (match s.sampled r.serial (1 + r.drafts.length) with
          | some ts => s.decodeDone e.session r o ts
          | none => s.endInternal x r)
        | _ => (s.settle e.session).setReq e.session { r with launch := 0, endAt := s.now, mayLaunch := s.nextKAfter s.now }

/-- A recompute piece completes (R196): once the evicted prefix is rebuilt, EVICTED and RECOMP return to 0. -/
def State.recomputeDone (s : State) (num : Nat) (r : Request) (first q : Nat) : State :=
  match s.sess num with
  | none => s
  | some x =>
    let got := first + q
    let s := (s.count KVM_RECOMP_POS_CNT_COUNT q).setSess { x with written := x.committed }
    let r := { r with launch := 0, endAt := s.now, mayLaunch := s.nextKAfter s.now, recompDone := got }
    if x.evicted ≤ got then
      let x := { x with evicted := 0, recomp := false, gen := r.gen, written := x.committed
                        columns := x.columns.map fun c => { c with gen := r.gen } }
      (s.setSess x).setReq num { r with recomputed := true, recompDone := 0 }
    else s.setReq num r

/-- A prefill piece commits (R282, R283, R191); with SAMPLE the last one's token is released and becomes the pending token. -/
def State.prefillDone (s : State) (num : Nat) (r : Request) (q : Nat) (last : Bool) : State :=
  match s.sess num with
  | none => s
  | some x0 =>
    let e := s.now
    let sampled := if last && bitOf r.flags 0 then (match s.sampled r.serial 1 with | some (t :: _) => some t | _ => none) else none
    if last && bitOf r.flags 0 && sampled.isNone then s.endInternal x0 r
    else
      let words := ((r.pend0.toList ++ r.buffer.map (· % 2 ^ 24)).drop r.done).take q
      let x := { x0 with
        committed := x0.committed + q, gen := r.gen
        pending := match sampled with
          | some t => some t.1
          | none => if r.done = 0 && 0 < q then none else x0.pending }
      let s := ((s.writeTokens x (x.committed - q) words).setSess x).settle num
      let r := { r with launch := 0, endAt := e, mayLaunch := s.nextKAfter e, done := r.done + q }
      if !last then s.setReq num r
      else
        match sampled with
        | some t =>
          let s := s.emitToken x r 0 e (tokenEntry r.tag t.1 false true t.2 false e)
          let r := { r with released := 1, kept := [t.1], oob := r.oob || t.2 }
          s.endReq num r r.okStatus e 0
        | none => s.endReq num r r.okStatus e 0

/-- The factors of a function's adapter, in ascending MATRIX (R298). -/
def State.adapterFactors (s : State) (f num : Nat) : List LowRank :=
  match s.lst.adapters.find? fun a => a.fn == f && a.num == num with
  | none => []
  | some a => sortBy (·.matrix) (SMap.get ObjSlot.init s.lst.slots a.slot).content.lowRank

/-- The new factors of a function's adapter take effect in its resident copy (R299). -/
def State.applyTune (s : State) (f num : Nat) (fs : List LowRank) : State :=
  match s.lst.adapters.find? fun a => a.fn == f && a.num == num with
  | none => s
  | some a =>
    let o := SMap.get ObjSlot.init s.lst.slots a.slot
    let o := { o with content := { o.content with lowRank := fs } }
    s.withLst { s.lst with slots := SMap.put ObjSlot.init s.lst.slots a.slot o }

/-- The indices of the targets of an example (R275, R296): entries whose bit 24 is set, but for entry 0. -/
def targetIndexes (buffer : List Nat) : List Nat :=
  ((buffer.zipIdx.drop 1).filter fun e => bitOf e.1 24).map (·.2)

/-- What the output head has given for the targets of a tune's example, in ascending position (R296); none where one is not there. -/
def State.tuneTargets (s : State) (r : Request) : Option (List TuneTarget) :=
  (targetIndexes r.buffer).mapM fun i => s.fab.targets.find? fun t => t.serial == r.serial && t.index == i

/-- What the last piece of a tune comes to (R296–R299): loss, gradients and new factors of the covered matrices, and whether an event of
them raises NUMERIC (R37, R46). -/
structure TuneEnd where
  loss : F32
  count : Nat
  grads : List (LowRank × List Byte)
  factors : List LowRank
  numeric : Bool

/-- The end of a tune from its targets and its matrices (R296–R299); with no target there is no update. -/
def State.tuneEnd (s : State) (x : Session) (r : Request) (o : TuneOps) (ts : List TuneTarget) (ms : List TuneMatrix) : TuneEnd :=
  let seed := if bitOf r.flags 0 then some o.seed else none
  let g := tuneAll seed 0 (s.adapterFactors x.fn r.adapter) ms
  let fs := g.1.map fun e => tunedFactors o.lr e.1 e.2
  let loss := tuneLoss ts
  { loss := loss, count := ts.length, grads := g.1, factors := fs
    numeric := g.2 || (f32NonFinite loss && !ts.any fun t => f32IsNaN t.m || f32IsNaN t.z || f32IsNaN t.logit)
      || (bitOf r.flags 1 && !ts.isEmpty && fs.any fun f => (f.u ++ f.v).any bf16NonFinite) }

/-- The event of the last piece of a tune (R42): it is formed also where the tune has been cancelled meanwhile. -/
def State.tuneEvent (s : State) (e : LaunchEntry) (ms : List TuneMatrix) : Bool :=
  match e.piece, s.findReq (some e.serial) with
  | .tune _ true, some (x, r) => (match r.ops, s.tuneTargets r with
    | .tune o, some ts => (s.tuneEnd x r o ts ms).numeric
    | _, _ => false)
  | _, _ => false

/-- A piece of a tune completes (R283, R296–R299): at the last one the example's columns are freed, the gradients are written, the factors
change under APPLY, and the request ends; a NUMERIC event of the request leaves the factors alone.  A write of the gradient buffer that
fails is reported (R294, R325). -/
def State.tuneDone (s : State) (num : Nat) (r : Request) (q : Nat) (last numeric : Bool) (res : PieceResult) : State :=
  match s.sess num, r.ops with
  | some x, .tune o =>
    let e := s.now
    let r := { r with launch := 0, endAt := e, mayLaunch := s.nextKAfter e, done := r.done + q }
    if !last then s.setReq num r
    else
      match s.tuneTargets r with
      | none => s.endInternal x r
      | some ts =>
        let t := s.tuneEnd x r o ts res.matrices
        let s := s.settle num
        let r := { r with loss := t.loss, targets := t.count }
        if res.writeError then (s.endReq num r .aborted e 0).aer x.fn "Gradient write"
        else
          let s := if o.outAddr = 0 || !s.hostOn x.fn then s
            else
              let l := (t.grads.map fun g => tuneRecord g.1 g.2).flatten
              (s.post (.buffer x.fn o.outAddr l)).hostMove x.fn x.prio l.length
          let s := if bitOf r.flags 1 && !ts.isEmpty && !numeric then s.applyTune x.fn r.adapter t.factors else s
          s.endReq num r (if numeric then .numeric else r.okStatus) e 0
  | _, _ => s

/-- One piece of a chunk at the chunk's end (R283); `dropped` where its outputs are dropped (R412). -/
def State.chunkEntry (s : State) (l : Launch) (dropped : Bool) (res : List PieceResult) (found : Nat → Found) (e : LaunchEntry) : State :=
  let s := s.stampStep l e
  match s.sess e.session with
  | none => s
  | some x =>
    match x.queue.find? (·.serial == e.serial) with
    | none => s.settle e.session
    | some r =>
      let q := found e.serial
      let r := r.found q
      let piece := (res.find? (·.serial == e.serial)).getD ⟨e.serial, false, false, false, [], false⟩
      let isTune := match e.piece with | .tune _ true => true | _ => false
      let recomp := match e.piece with | .recompute _ _ => true | _ => false
      if r.queue = noRing && !recomp then s.carriedDone e.session
      else if q.numeric && !l.dropped && (!isTune || r.cancelAt.isSome) then s.numericEnd e.session r
      else if (dropped && !q.numeric) || l.dropped || r.cancelAt.isSome then
        (s.settle e.session).endStep e.session { r with launch := 0, endAt := s.now } true
      else
        match e.piece with
        | .recompute a n => s.recomputeDone e.session r a n
        | .prefill n last => s.prefillDone e.session r n last
        | .tune n last => s.tuneDone e.session r n last q.numeric piece
        | .decode _ => s

/-- After its entries, a launch is gone (R191, R201, R376): pins, blocks, the job's faulting step, closing sessions. -/
def State.endLaunch (s : State) (l : Launch) : State :=
  let s := s.dropLaunch l
  let s := s.withFab { s.fab with energy := s.fab.energy.filter (·.1 != l.id) }
  let s := s.setSessions (s.serve.sessions.map fun x => { x with pins := x.pins.filter (· != l.id) })
  let s := match s.job l.fn l.job with
    | none => s
    | some j =>
      if j.faultStep = some l.id then
        (s.setJob { j with faultStep := none }).endJobIdle l.fn l.job s.now
      else s
  let s := forEach (s.serve.sessions.filter (·.closing.isSome)) s fun s x => s.finishClose x.num
  forEach (s.serve.sessions.filter (·.state.leaves.isSome)) s fun s x => s.goMoves x.num

/-- A launch may end (R130, R357): every shadow check of it is made, and no sequencer still runs its program; a launch whose
outputs are dropped waits for no sequencer. -/
def State.mayEnd (s : State) (l : Launch) : Bool :=
  l.inFlight && !s.fab.checks.any (·.launch == some l.id) &&
    (l.dropped || !l.cores.any fun c =>
      let k := SMap.get CoreCtl.init s.ctl.cores c
      (decide (k.launch = l.id) && (k.seq == .running || k.seq == .stalled)) || k.next.contains l.id)

/-- The marks, samples and targets of a launch's requests are gone with their step (R122, R39, R288). -/
def State.clearMarks (s : State) (l : Launch) : State :=
  let gone (n : Nat) : Bool := l.entries.any (·.serial == n)
  s.withFab { s.fab with
    samples := s.fab.samples.filter fun x => !gone x.serial
    targets := s.fab.targets.filter fun x => !gone x.serial
    oobMarks := s.fab.oobMarks.filter fun n => !gone n
    numericMarks := s.fab.numericMarks.filter fun n => !gone n
    clampMarks := s.fab.clampMarks.filter fun n => !gone n }

/-- The entries of a launch at its end (R40, R191): those with a NUMERIC event first, so that each of them completes with it; under FAULT
the event then faults the job, and the others end with it; the rest otherwise. -/
def State.endEntries (s : State) (l : Launch) (isNum : LaunchEntry → Bool) (one : State → Bool → LaunchEntry → State) : State :=
  let nums := l.entries.filter isNum
  let s := forEach nums s fun s e => one s false e
  let s := if nums.isEmpty || l.dropped then s else s.numericJob l
  let dropped := match s.launch l.id with | some m => m.dropped | none => l.dropped
  let s := forEach (l.entries.filter (!isNum ·)) s fun s e => one s dropped e
  match s.launch l.id with
  | some l => (s.clearMarks l).endLaunch l
  | none => s

/-- STEP_COMPLETE (R191). -/
def State.stepComplete (s : State) (id : Nat) (res : List StepResult) : State :=
  match s.launch id with
  | none => s
  | some l =>
    if !s.mayEnd l || l.chunk then s
    else
      let found (n : Nat) : Found := {
        oob := s.fab.oobMarks.contains n || res.any fun q => q.serial == n && q.oob
        clamped := s.fab.clampMarks.contains n || res.any fun q => q.serial == n && q.clamped
        numeric := s.fab.numericMarks.contains n || res.any fun q => q.serial == n && q.numeric }
      s.endEntries l (fun e => (found e.serial).numeric) fun s dropped e => s.stepEntry l dropped found e

/-- CHUNK_COMPLETE (R283). -/
def State.chunkComplete (s : State) (id : Nat) (res : List PieceResult) : State :=
  match s.launch id with
  | none => s
  | some l =>
    if !s.mayEnd l || !l.chunk then s
    else
      let events := l.entries.filter fun e =>
        s.tuneEvent e (match res.find? (·.serial == e.serial) with | some q => q.matrices | none => [])
      let found (n : Nat) : Found := {
        oob := s.fab.oobMarks.contains n || res.any fun q => q.serial == n && q.oob
        clamped := s.fab.clampMarks.contains n || res.any fun q => q.serial == n && q.clamped
        numeric := s.fab.numericMarks.contains n || events.any (·.serial == n) || res.any fun q => q.serial == n && q.numeric }
      s.endEntries l (fun e => (found e.serial).numeric) fun s dropped e => s.chunkEntry l dropped res found e

/-- A request that has ended completes once its last held token has been released (R256). -/
def State.finishHeld (s : State) (num serial : Nat) : State :=
  match s.sess num with
  | none => s
  | some x =>
    match x.queue.find? (·.serial == serial) with
    | none => s
    | some r =>
      match r.ended with
      | some (st, time, endCode) =>
        if (s.heldOf serial).isEmpty then (s.completeReq num r st time endCode).finishClose num else s
      | none => s

/-- TOKEN_RELEASE (R254): the first held token of a session whose release time has come is written. -/
def State.tokenRelease (s : State) (f h : Nat) : State :=
  match s.serve.held.find? (fun t => t.fn == f && t.handle == h) with
  | none => s
  | some t =>
    let cancelled := match s.findReq (some t.owner) with | some (_, r) => r.cancelAt.isSome | none => false
    if s.now < t.release || cancelled then s
    else
      let s := { s with serve := { s.serve with held := s.serve.held.filter fun u => !(u.owner == t.owner && u.index == t.index) } }
      let s := s.releaseToken t.queue t.owner t.entry
      match s.serve.sessions.find? (fun x => x.queue.any (·.serial == t.owner)) with
      | some x => s.finishHeld x.num t.owner
      | none => s

end Sys2Proof.Machine
end

