-- ==== Sys2Proof/Machine/Objects.lean ====
section
/-! DEFINITION. Eluirex objects: their manifest and sections, the checks of R209–R216 and the resident size of R208
(spec/09_weights_and_lasting.md). -/

namespace Sys2Proof.Machine

/-- An object slot (R207). -/
def State.obj (s : State) (n : Nat) : ObjSlot := SMap.get ObjSlot.init s.lst.slots n
/-- An object slot replaced. -/
def State.setObj (s : State) (n : Nat) (o : ObjSlot) : State :=
  s.withLst { s.lst with slots := SMap.put ObjSlot.init s.lst.slots n o }

/-- `n` bytes at an offset, as a number (R6). -/
def numAt (l : List Byte) (off n : Nat) : Nat := ofLeBytes ((l.drop off).take n)

/-- Bytes of an offset and a length. -/
def sliceOf (l : List Byte) (off n : Nat) : List Byte := (l.drop off).take n

/-- "ELXIMAGE" (R209). -/
def elxMagic : List Byte := [0x45#8, 0x4C#8, 0x58#8, 0x49#8, 0x4D#8, 0x41#8, 0x47#8, 0x45#8]

/-- Directory entry `i` of a manifest (R209). -/
def dirEntryAt (l : List Byte) (i : Nat) : DirEntry :=
  let o := 192 + 96 * i
  ⟨numAt l o 2, numAt l (o + 2) 2, numAt l (o + 4) 4, numAt l (o + 8) 8, numAt l (o + 16) 8, sliceOf l (o + 32) 64⟩

/-- The manifest that 4,096 bytes hold (R209). -/
def manifestOf (l : List Byte) : Manifest where
  kind := numAt l 10 2
  modelId := numAt l 16 16
  block := numAt l 32 2
  pos := numAt l 34 2
  keySlot := numAt l 36 4
  objectLen := numAt l 40 8
  canonDigest := sliceOf l 128 64
  dir := (List.range (min 32 (numAt l 12 4))).map (dirEntryAt l)

/-- The bytes that the manifest's signature covers (R209): bytes 64–127 as zero. -/
def signedBytes (l : List Byte) : List Byte := l.take 64 ++ List.replicate 64 0#8 ++ (l.drop 128).take 3968

/-- A trust slot's key (R215); a slot whose words are all zero is empty. -/
def State.trustKey (s : State) (n : Nat) : List Byte := SMap.get (List.replicate 32 0#8) s.lst.trust n

/-- Step 1 of R215: MAGIC, FMT_VER, KIND, KEY_SLOT, OBJECT_LEN and SIGNATURE. DEDUCED (assumption log 46). -/
def State.manifestOk (s : State) (l : List Byte) (len : Nat) : Bool :=
  let m := manifestOf l
  let key := s.trustKey m.keySlot
  l.take 8 == elxMagic && numAt l 8 2 == 1 && (m.kind == 1 || m.kind == 2) && decide (m.keySlot < 4)
    && key.any (· != 0#8) && m.objectLen == len
    && ed25519Verify key (sha512 (signedBytes l)) (sliceOf l 64 64)

/-- Sections in ascending OFFSET. -/
def sortDir (l : List DirEntry) : List DirEntry := sortBy (·.offset) l

/-- Sections do not overlap: one without bytes lies in no other's way. -/
def disjointDir (l : List DirEntry) : Bool :=
  l.zipIdx.all fun a => l.zipIdx.all fun b =>
    a.2 == b.2 || a.1.length == 0 || b.1.length == 0 || decide (a.1.offset + a.1.length ≤ b.1.offset)
      || decide (b.1.offset + b.1.length ≤ a.1.offset)

/-- Step 2 of R215: the directory against R210, and R212's order for SOURCE_BF16 tiles. -/
def Manifest.dirOk (m : Manifest) (sections : Nat) : Bool :=
  let n (t : Nat) : Nat := (m.dir.filter (·.type_ == t)).length
  let at_ (t : Nat) : Nat := (match m.dir.find? (·.type_ == t) with | some d => d.offset | none => 0)
  decide (1 ≤ sections) && decide (sections ≤ 32)
    && (if m.kind = 1 then
          [1, 2, 3, 4, 7].all (fun t => n t == 1) && [5, 6, 8].all (fun t => decide (n t ≤ 1))
        else m.dir.length == 1 && n 6 == 1)
    && m.dir.all (fun d => decide (1 ≤ d.type_) && decide (d.type_ ≤ 8)
        && (d.encoding == 0 || (d.type_ == 2 && decide (d.encoding ≤ 2)) || (d.type_ == 3 && d.encoding == 3 && d.length == 0))
        && d.offset % 64 == 0 && decide (4096 ≤ d.offset) && decide (d.offset + d.length ≤ m.objectLen))
    && disjointDir m.dir
    && m.dir.all (fun (d : DirEntry) => d.type_ != 2 || d.encoding != 2 || (Nat.blt (at_ 1) d.offset && Nat.blt (at_ 4) d.offset))

/-- The resident size of an object (R208). -/
def Manifest.resident (m : Manifest) : Nat :=
  4096 + sumN (m.dir.map fun d =>
    if d.type_ = 2 then d.count * 65552 else if d.type_ = 3 then d.count * 4096 else d.length)

/-- One placement record (R211): its length and what it adds; none for an unknown kind code. -/
def placementRec (l : List Byte) (c : ObjContent) : Option (Nat × ObjContent) :=
  match numAt l 0 2 with
  | 1 =>
    let m : MatrixRec := ⟨numAt l 2 2, numAt l 4 2, numAt l 6 1, numAt l 7 1, numAt l 8 1, bitOf (numAt l 9 1) 0,
      numAt l 12 3, numAt l 16 3, numAt l 20 4⟩
    some (32, { c with matrices := c.matrices ++ [m] })
  | 2 =>
    let w := numAt l 4 2
    let r : ClusterRec := ⟨numAt l 2 2, bitsOf w 0 10, bitsOf w 10 3, bitOf w 13, numAt l 6 1, numAt l 7 1, numAt l 8 1,
      numAt l 9 1, numAt l 12 3, numAt l 16 3⟩
    some (32, { c with clusters := c.clusters ++ [r] })
  | 3 => some (8, { c with digital := c.digital ++ [(numAt l 2 2, numAt l 4 3)] })
  | _ => none

/-- A placement section of a number of records. -/
def parsePlacement : Nat → List Byte → ObjContent → Option ObjContent
  | 0, _, c => some c
  | n + 1, l, c =>
    match placementRec l c with
    | some (k, c) => parsePlacement n (l.drop k) c
    | none => none

/-- Two weights packed in a byte of a RAW body (R212). -/
def nibblePair (a b : Int) : Byte := BitVec.ofNat 8 (toCode 4 a + 16 * toCode 4 b)

/-- A list of weights as RAW bytes. -/
def packNibbles : List Int → List Byte
  | a :: b :: t => nibblePair a b :: packNibbles t
  | [a] => [nibblePair a 0]
  | [] => []

/-- One chunk of a PACKED_W4 body (R212): its 64 RAW bytes and how many bytes it took; none for a bad header. -/
def unpackChunk (l : List Byte) : Option (List Byte × Nat) :=
  match numAt l 0 1 with
  | 0 => some (sliceOf l 1 64, 65)
  | 1 => some (List.replicate 64 0#8, 1)
  | 2 => some (packNibbles ((List.range 128).map fun m => sext 2 (bitsOf (numAt l (1 + m / 4) 1) (2 * (m % 4)) 2)), 33)
  | _ => none

/-- The chunks of a PACKED_W4 body. -/
def unpackBody : Nat → List Byte → Option (List Byte)
  | 0, _ => some []
  | n + 1, l =>
    match unpackChunk l with
    | none => none
    | some (b, k) => match unpackBody n (l.drop k) with
      | none => none
      | some t => some (b ++ t)

/-- The BF16 scale s_c of a channel of a crossbar (R211, R214), where the placement assigns the channel an output. -/
def ObjContent.channelScale (c : ObjContent) (core cluster col p : Nat) : Option BF16 :=
  match c.clusters.find? fun r => r.core == core && r.cluster == cluster && decide (r.xbCol0 ≤ col)
      && decide (col < r.xbCol0 + r.xbCols) with
  | none => none
  | some r =>
    let n := if r.diff then 128 else 256
    let out := r.firstOut + (col - r.xbCol0) * n + p
    match c.matrices.find? (·.matrix == r.matrix) with
    | some m => if p < n && out < m.nOut then c.scales[m.scaleIdx + out]? else none
    | none => none

/-- The W4 weight of a BF16 value (R212): the exact quotient, ties to even, clamped; none for a value that is not finite. -/
def quantW4 (x sc : BF16) : Option Int :=
  match f32Num (bf16ToF32 x), f32Num (bf16ToF32 sc) with
  | .fin n a e, .fin m b e' =>
    if b = 0 then some 0
    else
      let k := e - e'
      let q : Int := (divEvenN (a * 2 ^ k.toNat) (b * 2 ^ (-k).toNat) : Nat)
      some (clampI (-8) 7 (if n == m then q else -q))
  | .fin _ _ _, _ => some 0
  | _, _ => none

/-- The weights of a SOURCE_BF16 body, channel by channel. -/
def quantBody (c : ObjContent) (core cluster col : Nat) (l : List Byte) : Option (List Byte) :=
  let ws := (List.range 131072).map fun n =>
    let x : BF16 := BitVec.ofNat 16 (numAt l (2 * n) 2)
    match c.channelScale core cluster col (n / 512) with
    | some sc => quantW4 x sc
    | none => if bf16NonFinite x then none else some 0
  if ws.any Option.isNone then none else some (packNibbles (ws.map (·.getD 0)))

/-- One tile record (R212): the tile and its stored length; none where it is malformed. -/
def tileRec (enc : Nat) (c : ObjContent) (l : List Byte) : Option (Tile × Nat) :=
  let w := numAt l 0 4
  let n := numAt l 4 4
  let body := sliceOf l 16 n
  let core := bitsOf w 0 10
  let cluster := bitsOf w 10 3
  let col := bitsOf w 16 3
  let raw := match enc with
    | 0 => if n = 65536 then some body else none
    | 1 => unpackBody 1024 body
    | _ => if n = 262144 then quantBody c core cluster col body else none
  match raw with
  | none => none
  | some b => some (⟨core, cluster, bitsOf w 13 3, col, b⟩, 16 + n)

/-- A tile section. -/
def parseTiles (enc : Nat) (c : ObjContent) : Nat → List Byte → Option (List Tile)
  | 0, _ => some []
  | n + 1, l =>
    match tileRec enc c l with
    | none => none
    | some (t, k) => match parseTiles enc c n (l.drop k) with
      | none => none
      | some ts => some (t :: ts)

/-- BF16 values of a section. -/
def bf16List (l : List Byte) : List BF16 := (List.range (l.length / 2)).map fun i => BitVec.ofNat 16 (numAt l (2 * i) 2)

/-- Outlier entries (R214). -/
def parseOutliers (n : Nat) (l : List Byte) : List Outlier :=
  (List.range n).map fun i => ⟨numAt l (12 * i) 2, numAt l (12 * i + 2) 3, numAt l (12 * i + 5) 3, sext 8 (numAt l (12 * i + 8) 1)⟩

/-- Table records (R214): BF16 elements for kinds 1 to 3, FP32 for the others. -/
def parseTables : Nat → List Byte → List Table
  | 0, _ => []
  | n + 1, l =>
    let kind := numAt l 0 2
    let cnt := numAt l 4 4
    let w := if kind ≤ 3 then 2 else 4
    let elems := (List.range cnt).map fun i =>
      let v := numAt l (16 + w * i) w
      if kind ≤ 3 then bf16ToF32 (BitVec.ofNat 16 v) else BitVec.ofNat 32 v
    ⟨kind, numAt l 2 2, elems⟩ :: parseTables n (l.drop (16 + ceilDiv (w * cnt) 16 * 16))

/-- Factor records (R214), with the shapes N_IN and N_OUT of the matrices they name; none where a matrix is unknown or the records do
not take up the section. -/
def parseFactors (shape : Nat → Option (Nat × Nat)) : Nat → List Byte → Option (List LowRank)
  | 0, l => if l.isEmpty then some [] else none
  | n + 1, l =>
    match shape (numAt l 0 2) with
    | none => none
    | some (nIn, nOut) =>
      let r := numAt l 2 1
      let u := bf16List (sliceOf l 16 (2 * nOut * r))
      let v := bf16List (sliceOf l (16 + 2 * nOut * r) (2 * r * nIn))
      match parseFactors shape n (l.drop (16 + 2 * r * (nIn + nOut))) with
      | none => none
      | some t => some (⟨numAt l 0 2, r, u, v⟩ :: t)

/-- The shapes of an image's matrices. -/
def ObjContent.shape (c : ObjContent) (m : Nat) : Option (Nat × Nat) :=
  (c.matrices.find? (·.matrix == m)).map fun r => (r.nIn, r.nOut)

/-- What lasting writes into a crossbar (R55–R57): its encoding, how many of its rows and weight channels are used, and the RAW
body of its tile. -/
structure XbCells where
  diff : Bool
  rows : Nat
  chans : Nat
  body : List Byte
deriving DecidableEq, Repr

/-- The record of a placement that a crossbar position belongs to (R67, R211). -/
def ObjContent.recordOf (c : ObjContent) (core cluster row col : Nat) : Option ClusterRec :=
  c.clusters.find? fun r => r.core == core && r.cluster == cluster && decide (row < r.xbRows) && decide (r.xbCol0 ≤ col)
    && decide (col < r.xbCol0 + r.xbCols)

/-- The channels of one crossbar: 256 offset-binary, 128 differential (R55, R56). -/
def channelsOf (diff : Bool) : Nat := if diff then 128 else 256

/-- The content of a crossbar position: nothing where the placement holds no weights there (R57). -/
def ObjContent.cells (c : ObjContent) (core cluster row col : Nat) : XbCells :=
  match c.recordOf core cluster row col with
  | none => ⟨false, 0, 0, []⟩
  | some r =>
    let body := match c.tiles.find? fun t => t.core == core && t.cluster == cluster && t.row == row && t.col == col with
      | some t => t.body
      | none => []
    match c.matrices.find? (·.matrix == r.matrix) with
    | none => ⟨r.diff, 0, 0, body⟩
    | some m => ⟨r.diff, m.nIn - (r.firstIn + 512 * row), m.nOut - (r.firstOut + (col - r.xbCol0) * channelsOf r.diff), body⟩

/-- The W4 weight of channel `p` and row `i` in a tile (R30, R212). -/
def tileWeight (body : List Byte) (p i : Nat) : Int :=
  let n := 512 * p + i
  sext 4 (bitsOf (nth 0#8 body (n / 2)).toNat (4 * (n % 2)) 4)

/-- The level of the cell in row `i` and logical column `j` (R55, R56, R57): unused rows and columns are at level 0. -/
def XbCells.level (x : XbCells) (i j : Nat) : Nat :=
  let p := if x.diff then j / 4 else j / 2
  if x.rows ≤ i || x.chans ≤ p then 0
  else
    let w := tileWeight x.body p i
    let u : Nat := if x.diff then (if j % 4 < 2 then w.toNat else (-w).toNat) else (w + 8).toNat
    if j % 2 = 0 then u / 4 else u % 4

/-- The level sum of a row over a column group: 64 times the target of the row's tally cell, in levels (R72). -/
def XbCells.groupLevels (x : XbCells) (i g : Nat) : Nat := sumN ((List.range 64).map fun k => x.level i (64 * g + k))

/-- The level of the cell in row `i` and logical column `j` of a tile's crossbar. -/
def ObjContent.level (c : ObjContent) (t : Tile) (i j : Nat) : Nat :=
  ({ c.cells t.core t.cluster t.row t.col with body := t.body } : XbCells).level i j

/-- The value S_wj of a tile's probe signature (R213). -/
def ObjContent.signature (c : ObjContent) (t : Tile) (w j : Nat) : Nat :=
  sumN ((List.range 64).map fun i => c.level t (64 * w + i) j)

/-- The stored probe signatures agree with those recomputed from the tiles (R213). -/
def ObjContent.probesOk (c : ObjContent) : Bool :=
  c.tiles.zipIdx.all fun (t, k) => (List.range 4096).all fun b =>
    numAt c.probes (4096 * k + b) 1 == c.signature t (b / 512) (b % 512)

/-- A section is read (step 3 of R215): its digest, its records; none where it makes the object BAD. -/
def readSection (c : ObjContent) (d : DirEntry) (l : List Byte) : Option ObjContent :=
  if sha512 l ≠ d.digest then none
  else
    let c := { c with seen := c.seen ++ [d.type_] }
    let c' : Option ObjContent := match d.type_ with
      | 1 => parsePlacement d.count l c
      | 2 => (parseTiles d.encoding c d.count l).map fun t => { c with tiles := t }
      | 3 => if d.encoding = 0 && l.length ≠ 4096 * d.count then none else some { c with probes := l }
      | 4 => some { c with scales := bf16List l }
      | 5 => some { c with outliers := parseOutliers d.count l }
      | 6 => some { c with factors := l }
      | 7 => some { c with tables := parseTables d.count l }
      | _ => some { c with embedding := bf16List l }
    match c' with
    | none => none
    | some c =>
      let raw := match c.manifest with
        | some m => m.dir.any fun e => e.type_ == 3 && e.encoding == 0
        | none => false
      if raw && [1, 2, 3].all c.seen.contains && (d.type_ == 1 || d.type_ == 2 || d.type_ == 3) && !c.probesOk then none
      else some c

/-- Step 4 of R215: CANON_DIGEST over the RAW bodies of the tiles, of which an adapter has none. -/
def ObjContent.canonOk (c : ObjContent) : Bool :=
  match c.manifest with
  | none => false
  | some m => sha512 ((c.tiles.map (·.body)).flatten) == m.canonDigest

/-- The free space of the object region (R208). -/
def State.objFree (s : State) : Nat :=
  s.rd LST_OBJ_SIZE_GIB * 2 ^ 30 - sumN (s.lst.slots.map fun e => e.2.size)

/-- The tier-B address of a byte of a part of an object slot's space (R206): within the object region, at a place that no rule gives.
DESIGN CHOICE (assumption log 46). -/
def State.objAddr (s : State) (slot part offset : Nat) : Nat :=
  s.rd LST_OBJ_BASE_ADDR + (Config.objectPlace slot part + offset) % max 1 (s.rd LST_OBJ_SIZE_GIB * 2 ^ 30)

/-- The object slot of a generation's image, current, old or being lasted. -/
def State.genSlotNum (s : State) (g : Nat) : Nat :=
  match s.lst.current with
  | some (n, c) =>
    if c = g then n
    else match s.lst.swap with
      | some w => if w.gen = g then w.slot else w.oldSlot
      | none => n
  | none => 0

/-- The tier-B address of the tile of a position in the image of a generation. -/
def State.tileAddr (s : State) (gen p : Nat) : Nat := s.objAddr (s.genSlotNum gen) (p + 1) 0

/-- The resident space that a function's objects hold (R208). -/
def State.fnObjUse (s : State) (f : Nat) : Nat :=
  sumN (s.lst.slots.map fun e => if e.2.fn = f then e.2.size else 0)

/-- The rank of a matrix's base factors. -/
def ObjContent.rankOf (c : ObjContent) (m : Nat) : Nat :=
  match c.matrices.find? (·.matrix == m) with
  | some r => r.rank
  | none => 0

end Sys2Proof.Machine
end

