-- ==== Sys2Proof/Machine/Control.lean ====
section
/-! DEFINITION. CST queue entries, the core sequencers, engine queues and barriers (spec/01_architecture.md R15–R18,
spec/14_control_and_sync.md R357–R364), and the meanings of their commands. -/

namespace Sys2Proof.Machine

/-- A core's sequencer and engine queues. -/
def State.core (s : State) (n : Nat) : CoreCtl := SMap.get CoreCtl.init s.ctl.cores n
/-- A core's sequencer and engine queues replaced. -/
def State.setCore (s : State) (n : Nat) (c : CoreCtl) : State :=
  s.withCtl { s.ctl with cores := SMap.put CoreCtl.init s.ctl.cores n c }

/-- A CST queue entry. -/
def State.entry (s : State) (a : Nat) : QEntry := SMap.get QEntry.init s.ctl.entries a
/-- A CST queue entry replaced. -/
def State.setEntry (s : State) (a : Nat) (e : QEntry) : State :=
  s.withCtl { s.ctl with entries := SMap.put QEntry.init s.ctl.entries a e }

/-- A bank's vector (R137): bank 0 is A, 1 is B. -/
def State.bank (s : State) (core cluster b : Nat) : Vector := SMap.get Vector.init s.fab.banks (16 * core + 2 * cluster + b)
/-- A bank's vector replaced. -/
def State.setBank (s : State) (core cluster b : Nat) (v : Vector) : State :=
  s.withFab { s.fab with banks := SMap.put Vector.init s.fab.banks (16 * core + 2 * cluster + b) v }

/-- The state of a bank (R143): a loaded vector flows from its first drive on, and a transpose vector, whose sums are known from the
charges of its load, is COMPLETE once they have entered ACR, its terms are formed and no rescue is due; a bank that is being drained
returns to FREE when the drain ends. DEDUCED (assumption log 41). -/
def Vector.stateAt (v : Vector) (now : Nat) : BankState :=
  match v.state with
  | .free => if now < v.drainTo then .draining else .free
  | .loaded =>
    if now < v.driveAt then .loaded
    else if v.transpose && decide (v.flowAt ≤ now) && v.termsDone && v.flags.isEmpty then .complete
    else .flowing
  | st => st

/-- The core and cluster of a load. -/
def WaitLoad.core : WaitLoad → Nat
  | .forward o => o.core
  | .transpose o _ => o.core
def WaitLoad.cluster : WaitLoad → Nat
  | .forward o => o.cluster
  | .transpose o _ => o.cluster

/-- A load waits on this cluster. -/
def Waiting.on (core cluster : Nat) (w : Waiting) : Bool := w.load.core == core && w.load.cluster == cluster

/-- The sum of a vector has reached its bank. -/
def Vector.hasArrived (v : Vector) (now : Nat) : Bool := if v.transpose then decide (v.flowAt ≤ now) else v.arrived

/-- The start of a slot has come, in serial order of slot numbers (R16, R245). -/
def State.slotCome (s : State) (slot : Nat) : Bool :=
  match s.time.slotNow with
  | none => false
  | some n => decide (n % 2 ^ 32 = slot % 2 ^ 32) || serialLater 32 slot n

/-- A job fault found on a core's work, with a record of the core (R411, R412). -/
def State.coreJobFault (s : State) (core type_ : Nat) (detail : List Nat) (place : Nat := 0) (serial : Option Nat := none)
    (status : Nat := 0) : State :=
  s.faultCore core { EventRec.blank type_ 1 with detail := detail, where_ := place, status := status } serial

/-- What a check of a unit of a core found (R409, R410, R414): a mismatch is counted, an event of the core, and its job faults.
DESIGN CHOICE (assumption log 51). -/
def State.unitCheck (s : State) (core unit : Nat) : UnitCheck → State
  | .good => s
  | .residue expected found =>
    ((s.count SMS_RESIDUE_CNT_COUNT).suspect core 16 .core).coreJobFault core 0x04 [unit, expected, found]
  | .parity place addr => ((s.count SMS_PARITY_CNT_COUNT).suspect core 16 .core).coreJobFault core 0x05 [place, addr]

/-- The sequencer of a core and its pushes may go on (R17, R357): it runs, END has not come, it waits on no entry and for no room in a
queue, and no consumer of the core stalls. DEDUCED (assumption log 42). -/
def CoreCtl.mayTake (c : CoreCtl) : Bool :=
  c.seq == .running && !c.ended && c.blocked.isNone && !c.stalls.any fun w => w.own || w.since.isSome

/-- A sequencer stops in state FAULT (R357): counted, and its job ends with JOB_FAULT; the record is INTERNAL. -/
def State.seqFault (s : State) (core : Nat) : State :=
  let c := s.core core
  let s := (s.setCore core { c with seq := .fault }).count CPX_SEQ_FAULT_CNT_COUNT
  s.coreJobFault core 0x09 [3, c.index] (status := Status.code .internal)

/-- A sequencer's core has taken another entry of its program (R357). -/
def State.nextEntry (s : State) (core : Nat) : State := s.setCore core { s.core core with index := (s.core core).index + 1 }

/-- The waits of a core that meet a condition begin to stall, each counted once as a plan overrun, one of a fold as a fold wait
(R17, R148). -/
def State.stallCore (s : State) (core : Nat) (p : Stall → Bool) : State :=
  let c := s.core core
  let new := c.stalls.filter fun w => w.since.isNone && p w
  if new.isEmpty then s
  else
    let stalls := c.stalls.map fun w => if w.since.isNone && p w then { w with since := some s.now } else w
    let s := s.setCore core { c with seq := if c.seq = .running then .stalled else c.seq, stalls := stalls }
    (s.count TWS_PLAN_OVERRUN_COUNT new.length).count VEC_FOLD_WAIT_CNT_COUNT (new.filter (·.fold)).length

/-- A consumer on a core reaches a queue entry at the valid slot the plan gives it (R16, R17): true when it sees the entry; else
it waits, and from the valid slot on the core's sequencer stalls, which counts a plan overrun once for the entry, and for a fold a
fold wait (R148); `own` is a wait of the sequencer itself. DEDUCED (assumption log 42). -/
def State.reach (s : State) (core addr slot : Nat) (fold : Bool := false) (own : Bool := false) : Bool × State :=
  let e := s.entry addr
  if e.written && e.visible && !e.consumed then (true, s)
  else
    let c := s.core core
    if c.stalls.any (·.entry == addr) then (false, s)
    else
      let s := s.setCore core { c with stalls := c.stalls ++ [⟨addr, slot, fold, own, none⟩] }
      (false, if s.slotCome slot then s.stallCore core (·.entry == addr) else s)

/-- A core waits no longer on an entry; its sequencer goes on once nothing of the core stalls (R17). -/
def CoreCtl.unstall (c : CoreCtl) (addr : Nat) : CoreCtl :=
  let stalls := c.stalls.filter (·.entry != addr)
  { c with
    stalls := stalls
    seq := if c.seq = .stalled && !stalls.any (·.since.isSome) then .running else c.seq }

/-- The cores that wait on an entry go on (R17). -/
def State.resume (s : State) (addr : Nat) : State :=
  forEach (SMap.keysIf (fun _ (c : CoreCtl) => c.stalls.any (·.entry == addr)) s.ctl.cores) s fun s core =>
    s.setCore core ((s.core core).unstall addr)

/-- An entry is consumed (R18): the next write to its address is a new entry. -/
def State.consume (s : State) (addr : Nat) : State := s.setEntry addr { s.entry addr with consumed := true }

/-- A producer's write to a queue entry completes (R16, R18): a write over an entry not yet consumed is discarded and
faults the job that wrote (R411); else the entry is written, visible from its valid slot on. -/
def State.writeEntry (s : State) (addr slot fn job : Nat) (bytes : List Byte) (driven : List Bool := []) : State :=
  let e := s.entry addr
  if e.written && !e.consumed then
    let step := (s.serve.launches.find? fun l => l.inFlight && l.fn == fn && l.job == job).map (·.id)
    s.faultJob fn job step { EventRec.blank 0x0B 1 with detail := [slot, addr] }
  else
    let seen := s.slotCome slot
    let s := s.writeBytes .cst addr bytes
    let s := s.setEntry addr
      { validSlot := slot, written := true, visible := seen, consumed := false, fn := fn, job := job, bytes := bytes
        taken := [], driven := driven }
    if seen then s.resume addr else s

/-- Entries whose valid slot has come become visible; consumers that wait for an entry still unwritten begin to stall
(R16, R17, R247). -/
def State.showEntries (s : State) : State :=
  let due := SMap.keysIf (fun _ (e : QEntry) => e.written && !e.visible && s.slotCome e.validSlot) s.ctl.entries
  let s := forEach due s fun s a => (s.setEntry a { s.entry a with visible := true }).resume a
  let late (w : Stall) : Bool := s.slotCome w.slot
  let cores := SMap.keysIf (fun _ (c : CoreCtl) => c.stalls.any fun w => w.since.isNone && late w) s.ctl.cores
  forEach cores s fun s core => s.stallCore core late

/-- The engines a core has (R358): 0–12 on an array core, 0–7 and 12 on a hub core. -/
def hasEngine (core e : Nat) : Bool := if core < 512 then decide (e ≤ 12) else decide (e ≤ 7) || e == 12

/-- How many entries an engine keeps in flight (R358). -/
def flightLimit (e : Nat) : Nat := if e ≤ 7 then 4 else 2

/-- A barrier of a core. -/
def CoreCtl.bar (c : CoreCtl) (b : Nat) : Barrier := SMap.get Barrier.init c.barriers b
/-- A barrier replaced. -/
def CoreCtl.setBar (c : CoreCtl) (b : Nat) (x : Barrier) : CoreCtl :=
  { c with barriers := SMap.put Barrier.init c.barriers b x }

/-- ROUND has reached WAIT_ROUND (R359). -/
def reached (round wait : Nat) : Bool := decide ((round + 2 ^ 16 - wait % 2 ^ 16) % 2 ^ 16 < 2 ^ 15)

/-- The oldest queued entry of an engine may start as far as its barrier goes (R359). -/
def CoreCtl.mayStart (c : CoreCtl) (x : EngineEntry) : Bool := !x.waitEn || reached (c.bar x.waitBar).round x.waitRound

/-- An engine is held by a barrier (R361). -/
def CoreCtl.isHeld (c : CoreCtl) (e : Nat) : Bool := c.barriers.any fun b => b.2.held.contains e

/-- A barrier has a waiter: a held engine, or the oldest entry of an engine that waits on it (R363). -/
def CoreCtl.barWaits (c : CoreCtl) (b : Nat) : Bool :=
  !(c.bar b).held.isEmpty || c.queued.any fun q => match q.2 with
    | x :: _ => x.waitEn && x.waitBar == b && !c.mayStart x
    | [] => false

/-- The barriers' waiting times after a change (R363): one that has a waiter keeps its start or takes `now`. -/
def CoreCtl.updWaits (c : CoreCtl) (now : Nat) : CoreCtl :=
  (List.range 64).foldl (fun c b =>
    let x := c.bar b
    let w := if c.barWaits b then some (x.waitFrom.getD now) else none
    if x.waitFrom = w then c else c.setBar b { x with waitFrom := w }) c

/-- The mask of a barrier's participants. -/
def Barrier.full (b : Barrier) : Nat := 2 ^ b.count - 1

/-- The completion rule of R361: a round completes, and the next one too where the early arrivals complete it. -/
def Barrier.settle (b : Barrier) : Nat → Barrier
  | 0 => b
  | k + 1 =>
    if b.count = 0 || Nat.land b.arrived b.full ≠ b.full then b
    else Barrier.settle { b with
      round := (b.round + 1) % 2 ^ 16, arrived := b.early, early := 0, held := [], waitFrom := none } k

/-- A barrier faults (R362): counted, logged, and the job ends with JOB_FAULT. -/
def State.barFault (s : State) (core bar : Nat) (index : Bool) : State :=
  let c := s.core core
  let b := c.bar bar
  let s := (s.setCore core (c.setBar bar { b with faulted := true })).count CPX_BAR_OVERRUN_CNT_COUNT
  s.coreJobFault core 0x0A [if index then 1 else 0x32, b.arrived, b.early, b.round] (32768 * bar)

/-- Participant `p` arrives on a barrier from an engine (R361). -/
def State.arrive (s : State) (core bar p engine : Nat) : State :=
  let c := s.core core
  let b := c.bar bar
  if b.faulted then s
  else if b.count = 0 || b.count ≤ p then s.barFault core bar true
  else if !bitOf b.arrived p then
    let b := { b with arrived := b.arrived + 2 ^ p }
    s.setCore core (c.setBar bar (b.settle 2))
  else if !bitOf b.early p then
    s.setCore core (c.setBar bar { b with early := b.early + 2 ^ p, held := b.held ++ [engine] })
  else s.barFault core bar false

/-- A core's waiting times brought up to date. -/
def State.tidyWaits (s : State) (core : Nat) : State := s.setCore core ((s.core core).updWaits s.now)

/-- A core reset or partition reset as far as the sequencer goes (R370, R360): queues and barriers are emptied.
DEDUCED (assumption log 42). -/
def State.clearCore (s : State) (core : Nat) : State :=
  s.setCore core { s.core core with
    seq := .idle, ended := false, stalls := [], next := [], blocked := none, queued := [], flying := [], barriers := [] }

/-- The slot number of slot k (R242). -/
def slotNum (k : Nat) : Nat := k % 2 ^ 32

/-- A core's shadow sampling draws anew when a step program is loaded (R128), at the SHADOW_SHIFT in force, clamped to 8 to 16
(R135). -/
def State.drawShadow (s : State) (core : Nat) : State :=
  s.withFab { s.fab with shadowGen := SMap.upd ShadowGen.init s.fab.shadowGen core fun g =>
    { g with steps := g.steps + 1, shift := min 16 (max 8 (s.rd WLT_CTRL_SHADOW_SHIFT)) } }

/-- A core's sequencer starts on the step program of a launch (R247 step 7, R357): where the entry that brings it is not written yet,
it stalls on that entry (R17). -/
def State.startProgram (s : State) (k : Nat) (l : Launch) (core : Nat) : State :=
  let s := (s.setCore core { s.core core with
    seq := .running, fn := l.fn, job := l.job, launch := l.id, launchSlot := some (slotNum k), ended := false, index := 0
    stalls := [], blocked := none }).drawShadow core
  match l.programs.find? (·.1 == core) with
  | none => s
  | some p => (s.reach core p.2 (slotNum k) (own := true)).2

/-- A launch names a core (R357): its sequencer starts on the launch's program, or the program waits in its CST entry while the
sequencer runs another. -/
def State.nameCore (s : State) (k : Nat) (l : Launch) (core : Nat) : State :=
  let c := s.core core
  if c.seq = .idle then s.startProgram k l core else s.setCore core { c with next := c.next ++ [l.id] }

/-- An idle sequencer takes up the first program that waits for it, of a launch whose outputs are still wanted (R357, R412). -/
def State.nextProgram (s : State) (core : Nat) : State :=
  let c := s.core core
  if c.seq ≠ .idle then s
  else
    let wanted (id : Nat) : Option Launch := s.serve.launches.find? fun l => l.id == id && l.inFlight && !l.dropped
    match c.next.dropWhile fun id => (wanted id).isNone with
    | [] => s.setCore core { c with next := [] }
    | id :: rest =>
      match wanted id with
      | none => s
      | some l => (s.setCore core { c with next := rest }).startProgram l.slot l core

/-- QUEUE_STALL_TIMEOUT (R17): a stall has reached 256 ticks. DEDUCED (assumption log 42). -/
def execQueueStallTimeout (t core : Nat) (s : State) : Host.Outcome State Fault Refusal :=
  let s := s.advance t
  let c := s.core core
  match c.stalls.find? fun w => w.since.any fun from_ => decide (from_ + 256000 ≤ s.now) with
  | none => .next s
  | some w =>
    let s := s.setCore core { c with seq := .idle, stalls := [], blocked := none }
    .next ((s.coreJobFault core 0x0B [w.slot, w.entry]).nextProgram core)

/-- The queue entry that brought a core the program of its launch (R357). -/
def State.programEntry (s : State) (core : Nat) : Option Nat :=
  (s.launchOn core).bind fun l => (l.programs.find? (·.1 == core)).map (·.2)

/-- SEQUENCER_STEP_END (R357): END reached and every entry retired; its program's queue entry is consumed, and the sequencer is idle
again or starts on the program that waits. DEDUCED (assumption log 42). -/
def execSequencerStepEnd (t core : Nat) (s : State) : Host.Outcome State Fault Refusal :=
  let s := s.advance t
  let c := s.core core
  if c.seq == .running && c.ended && c.queued.all (·.2.isEmpty) && c.flying.all (·.2.isEmpty) then
    let s := match s.programEntry core with | some a => s.consume a | none => s
    .next ((s.setCore core { s.core core with seq := .idle, ended := false }).nextProgram core)
  else .next s

/-- The entry that 32 bytes hold (R359). -/
def engineEntry (b : List Byte) : EngineEntry :=
  let w := ofLeBytes (b.take 4)
  let r := ofLeBytes ((b.drop 4).take 4)
  { engine := bitsOf w 0 4, op := bitsOf w 4 8
    waitBar := bitsOf w 12 6, waitEn := bitOf w 18
    arriveBar := bitsOf w 19 6, arriveEn := bitOf w 25, part := bitsOf w 26 4
    waitRound := bitsOf r 0 16
    rsvZero := bitsOf w 30 2 == 0 && bitsOf r 16 16 == 0
    operands := b.drop 8 }

/-- An entry enters its engine's queue and the sequencer goes past it; while the queue holds 16 the sequencer waits (R357, R358). -/
def State.push (s : State) (core : Nat) (x : EngineEntry) : State :=
  let c := s.core core
  let q := SMap.get [] c.queued x.engine
  if 16 ≤ q.length then s.setCore core { c with blocked := some x }
  else
    let c := { c with queued := SMap.put [] c.queued x.engine (q ++ [x]), blocked := none }
    ((s.setCore core c).nextEntry core).tidyWaits core

/-- ENGINE_PUSH (R357): an entry of 32 bytes enters its engine's queue; a malformed entry or a missing engine stops the sequencer, and
so does a parity error in its program store (R410). -/
def execEnginePush (t core : Nat) (entry : List Byte) (check : UnitCheck) (s : State) : Host.Outcome State Fault Refusal :=
  let s := s.advance t
  let x := engineEntry entry
  if !(s.core core).mayTake then .next s
  else if check != .good then .next ((s.seqFault core).unitCheck core 4 check)
  else if !x.rsvZero || !hasEngine core x.engine then .next (s.seqFault core)
  else .next (s.push core x)

/-- BAR_CFG (R360): accepted only while no entry of the core waits on or arrives at the barrier. -/
def execBarCfg (t core bar count : Nat) (s : State) : Host.Outcome State Fault Refusal :=
  let s := s.advance t
  let c := s.core core
  let uses (x : EngineEntry) : Bool := (x.waitEn && x.waitBar == bar) || (x.arriveEn && x.arriveBar == bar)
  if !c.mayTake then .next s
  else if count = 0 || 16 < count || 64 ≤ bar || c.queued.any (·.2.any uses) || c.flying.any (·.2.any fun x => uses x.1) then
    .next (s.seqFault core)
  else .next ((s.setCore core (c.setBar bar { Barrier.init with count := count })).nextEntry core)

/-- WAIT_Q (R357): the sequencer goes past the entry once it sees the entry, and waits or stalls on it until then.
DEDUCED (assumption log 42). -/
def execWaitQ (t core addr slot : Nat) (s : State) : Host.Outcome State Fault Refusal :=
  let s := s.advance t
  if !(s.core core).mayTake then .next s
  else .next ((s.nextEntry core).reach core addr slot (own := true)).2

/-- END (R357). -/
def execEnd (t core : Nat) (s : State) : Host.Outcome State Fault Refusal :=
  let s := s.advance t
  let c := s.core core
  if !c.mayTake then .next s else .next (s.setCore core { c with ended := true })

/-- The entries of an engine of a core that are in flight, oldest first. -/
def CoreCtl.inFlight (c : CoreCtl) (engine : Nat) : List (EngineEntry × Nat) := SMap.get [] c.flying engine

/-- A cluster-issue engine of an array core (R358): each of its entries issues one vector to its cluster. -/
def issuesTo (core engine : Nat) : Bool := decide (core < 512) && decide (engine ≤ 7)

/-- The number that an entry which starts takes: that of the next vector of its cluster to which no entry in flight answers (R359).
DEDUCED (assumption log 42). -/
def State.entryNumber (s : State) (core engine : Nat) : Nat :=
  if issuesTo core engine then
    ((s.core core).inFlight engine).foldl (fun n x => max n (x.2 + 1)) (SMap.get 0 s.fab.issued (8 * core + engine))
  else 0

/-- The vector of a number of a core's cluster has reached its bank (R359, R143). -/
def State.vectorLanded (s : State) (core cluster n : Nat) : Bool :=
  decide (n < SMap.get 0 s.fab.issued (8 * core + cluster))
    && !(s.fab.waiting.any fun w => w.on core cluster && w.number == n)
    && [0, 1].all fun b =>
      let v := s.bank core cluster b
      v.number != n || v.state == .free || v.hasArrived s.now

/-- The engine has retired the work of an entry of its (R359): the vector's sum has reached its bank, and no drain of ACR is still under way.
DEDUCED (assumption log 42). -/
def State.entryRetired (s : State) (core engine : Nat) (x : EngineEntry × Nat) : Bool :=
  if issuesTo core engine then s.vectorLanded core engine x.2
  else engine != 9 || (List.range 16).all fun k => (s.bank core (k / 2) (k % 2)).stateAt s.now != .draining

/-- ENGINE_ENTRY_START (R358, R359): the engine starts its oldest entry, in queue order, while its barrier condition holds,
the engine is not held and it has room in flight; a push that waits for the queue goes on (R357). -/
def execEngineEntryStart (t core engine : Nat) (s : State) : Host.Outcome State Fault Refusal :=
  let s := s.advance t
  let c := s.core core
  let fl := c.inFlight engine
  match SMap.get [] c.queued engine with
  | [] => .next s
  | x :: rest =>
    if c.seq == .fault || c.isHeld engine || !c.mayStart x || decide (flightLimit engine ≤ fl.length) then .next s
    else
      let s := (s.setCore core { c with
        queued := SMap.put [] c.queued engine rest
        flying := SMap.put [] c.flying engine (fl ++ [(x, s.entryNumber core engine)]) }).tidyWaits core
      .next (match c.blocked with
        | some y => if y.engine = engine then s.push core y else s
        | none => s)

/-- ENGINE_ENTRY_COMPLETE (R359, R361): the oldest entry in flight retires once its engine's work is done, and arrives where it says
so; what the checks of its engine found on its work is known (R409, R410). -/
def execEngineEntryComplete (t core engine : Nat) (check : UnitCheck) (s : State) : Host.Outcome State Fault Refusal :=
  let s := s.advance t
  let c := s.core core
  match c.inFlight engine with
  | [] => .next s
  | x :: rest =>
    if !s.entryRetired core engine x then .next s
    else
      let s := s.setCore core { c with flying := SMap.put [] c.flying engine rest }
      let s := (if x.1.arriveEn then s.arrive core x.1.arriveBar x.1.part engine else s).tidyWaits core
      .next (s.unitCheck core (16 + engine) check)

/-- CPX_BAR_TIMEOUT in force (R371): values below 64 apply as 64. -/
def State.barTimeout (s : State) : Nat := max 64 (s.rd CPX_BAR_TIMEOUT_TICKS)

/-- BARRIER_HANG (R363): no round has completed for CPX_BAR_TIMEOUT unpaused ticks.
DESIGN CHOICE (assumption log 3), DEDUCED (assumption log 42). -/
def execBarrierHang (t core bar : Nat) (s : State) : Host.Outcome State Fault Refusal :=
  let s := s.advance t
  let c := s.core core
  let b := c.bar bar
  match b.waitFrom with
  | none => .next s
  | some from_ =>
    if b.hung || decide (s.now < from_ + s.barTimeout * 1000) then .next s
    else
      let s := (s.setCore core (c.setBar bar { b with hung := true })).count CPX_BAR_HANG_CNT_COUNT
      let detail := [0, b.arrived, b.early, b.round]
      let s := s.smsEvent SMS_EVENT_JOB_FAULT
      if s.bit CPX_CTRL_HANG_MODE then .next (s.logEvent { EventRec.blank 0x0A 1 with
        core := some core, where_ := 32768 * bar, detail := detail })
      else .next (s.coreJobFault core 0x0A detail (32768 * bar))

/-- A hand setting of a barrier (R364): HUNG cleared, counted, logged with the state before and after, and the job's
requests carry OOB from then on. -/
def State.forceBar (s : State) (core bar : Nat) (f : Barrier → Barrier) : State :=
  if !s.bit CPX_CTRL_DBG_EN then s
  else
    let c := s.core core
    let b := c.bar bar
    let b' := { (f b).settle 2 with hung := false }
    let s := (s.setCore core (c.setBar bar b')).count CPX_BAR_FORCE_CNT_COUNT
    let s := s.logEvent { EventRec.blank 0x1B 0 with
      core := some core, where_ := 32768 * bar
      detail := [1, b.arrived + 65536 * b.early, b'.arrived + 65536 * b'.early, b.round, b'.round] }
    let s := s.tidyWaits core
    match s.launchOn core with
    | none => s
    | some l => match s.job l.fn l.job with
      | none => s
      | some j => s.setJob { j with handSet := true }

/-- RELEASE (R364): the current round completes as if every missing participant had arrived. -/
def Barrier.release (b : Barrier) : Barrier := { b with arrived := Nat.lor b.arrived b.full }

/-- CPX_BAR_FORCE_RELEASE (R364): only the physical function may set a barrier by hand. -/
def execCpxBarForceRelease (t fn core : Nat) (s : State) : Host.Outcome State Fault Refusal :=
  let s := s.advance t
  if !s.accepts fn then .next s else .next (s.forceBar core (s.rd CPX_BAR_SEL_BAR core) Barrier.release)

/-- CPX_BAR_FORCE_SET (R364): ARRIVED and EARLY come from CPX_BAR_SET_VAL. -/
def execCpxBarForceSet (t fn core : Nat) (s : State) : Host.Outcome State Fault Refusal :=
  let s := s.advance t
  if !s.accepts fn then .next s
  else .next (s.forceBar core (s.rd CPX_BAR_SEL_BAR core) fun b =>
    { b with arrived := s.rd CPX_BAR_SET_VAL_ARRIVED core, early := s.rd CPX_BAR_SET_VAL_EARLY core })

end Sys2Proof.Machine
end

