-- ==== Sys2Proof/Machine/Xbar.lean ====
section
/-! DEFINITION. One crossbar: the line map, the digits and windows of a pass, the charges its lines hold, their codes, the rebuilt
partials and the welt's correction of them (spec/03_analogue_fabric.md R51–R79, spec/04_column_conversion.md R84–R100,
spec/05_welt.md R110–R121). -/

namespace Sys2Proof.Machine

/-- The content bound as a generation (R126). -/
def State.image (s : State) (gen : Nat) : ObjContent :=
  match s.genSlot gen with
  | some o => o.content
  | none => ObjContent.init

/-- A position's tile and encoding in an image. -/
def ObjContent.placed (c : ObjContent) (p : Nat) : Option (Bool × List Byte) :=
  match c.clusters.find? fun r => r.core == posCore p && r.cluster == posCluster p && decide (posRow p < r.xbRows)
      && decide (r.xbCol0 ≤ posCol p) && decide (posCol p < r.xbCol0 + r.xbCols) with
  | none => none
  | some r => some (r.diff, (c.tiles.find? fun t => t.core == posCore p && t.cluster == posCluster p
      && t.row == posRow p && t.col == posCol p).elim [] (·.body))

/-- The content that lasting writes and probes expect for a generation: of a bind or a swap in progress, or one in force. -/
def State.contentOf (s : State) (gen : Nat) : ObjContent :=
  match s.lst.bind, s.lst.swap with
  | some b, _ => if b.gen = gen then (s.obj b.slot).content else s.image gen
  | none, some w => if w.gen = gen then (s.obj w.slot).content else s.image gen
  | none, none => s.image gen

/-- The cluster records of a cluster (R211). -/
def ObjContent.clustersAt (c : ObjContent) (core cluster : Nat) : List ClusterRec :=
  c.clusters.filter fun r => r.core == core && r.cluster == cluster

/-- The record that a crossbar of a cluster serves, where it holds weights (R67). -/
def recordAt (rs : List ClusterRec) (row col : Nat) : Option ClusterRec :=
  rs.find? fun r => decide (row < r.xbRows) && decide (r.xbCol0 ≤ col) && decide (col < r.xbCol0 + r.xbCols)

/-- The exact partial Σ q · w of a channel over a block (R50, R126). -/
def exactPartial (body : List Byte) (p : Nat) (q : List Int) : Int :=
  sumI ((List.range 512).map fun i => nth 0 q i * tileWeight body p i)

/-- The high and low digit of an element (R58). -/
def digits (q : Int) : Int × Int := (q / 16, q % 16)

/-- The digits of a block in a pass: 0 high, 1 low. -/
def passDigits (q : List Int) (pass : Nat) : List Int := q.map fun x => if pass = 0 then (digits x).1 else (digits x).2

/-- MARGIN_SHIFT as it applies (R89, R103). -/
def State.marginShift (s : State) : Nat := min 6 (max 2 (s.rd CCV_RANGE_CTRL_MARGIN_SHIFT))

/-- The required range R(B) (R89). -/
def rangeOf (shift abs b : Nat) : Nat := b + b / 2 ^ shift + abs

/-- The LSB of a window of bound `b` (R89): 0 where the window is skipped, 0 too where no LSB fits. -/
def lsbOf (shift abs b : Nat) : Nat :=
  if b = 0 then 0 else ([1, 2, 4, 8, 16].find? fun l => decide (rangeOf shift abs b ≤ 255 * l)).getD 0

/-- The bounds of the `m` windows of a pass (R88, R64), over rows or driven columns. -/
def windowBounds (ds : List Int) (m : Nat) : List Nat :=
  (List.range m).map fun w => 3 * sumN (((ds.drop (w * (512 / m))).take (512 / m)).map Int.natAbs)

/-- The window count of a pass (R90): the smallest of 1, 2, 4, 8 whose windows all fit. -/
def windowCount (shift abs : Nat) (ds : List Int) : Nat :=
  ([1, 2, 4].find? fun m => (windowBounds ds m).all fun b => decide (rangeOf shift abs b ≤ 4080)).getD 8

/-- The lines that window `w` of `m` drives, each with its digit (R59, R64). -/
def windowDigits (ds : List Int) (m w : Nat) : List (Nat × Int) :=
  ((ds.zipIdx.drop (w * (512 / m))).take (512 / m)).filterMap fun e => if e.1 = 0 then none else some (e.2, e.1)

/-- The physical spare crossbar of a position's column. -/
def State.spareOf (s : State) (p : Nat) : Nat := s.siteBase (posCore p) + posSpare p

/-- The crossbar of the spare site that a core is to move to (R416). -/
def State.siteXb (s : State) (p : Nat) : Nat :=
  match (s.health (posCore p)).pending with
  | some (.site n) => 589824 * (n + 1) + p
  | _ => p

/-- The physical crossbar that a lasting programs (R219, R416). -/
def State.lastPhys (s : State) (l : Lasting) : Nat :=
  if l.why = .site then s.siteXb l.pos else if l.onSpare then s.spareOf l.pos else s.physPos l.pos

/-- A crossbar is being lasted (R126), or its map has changed and its boundary has not come (R71); while its spare is lasted
for a retirement, a position serves (R416). -/
def State.underLasting (s : State) (p : Nat) : Bool :=
  s.lst.lastings.any (fun l => l.pos == p && l.why != .retire && l.why != .site) || s.lst.remapWait.contains p
    || s.lst.verifyLeft.contains p

/-- The boundary at which changed maps take effect (R71): the old ones stand only where a lasting still runs. -/
def State.remapNow (s : State) : State :=
  s.withLst { s.lst with
    remapWait := [], mapWas := s.lst.mapWas.filter fun e => s.lst.lastings.any (·.pos == e.1) }

/-- The maps of a position that are in force (R71). -/
def State.mapInForce (s : State) (p : Nat) : MapEntry :=
  match SMap.get none s.lst.mapWas p with
  | some m => m
  | none =>
    let phys := s.physPos p
    ⟨SMap.get [] s.lst.rowMap phys, SMap.get [] s.lst.colMap phys, SMap.get false s.lst.onSpare p⟩

/-- Tracking of a physical crossbar. -/
def State.trk (s : State) (p : Nat) : XbTrk := SMap.get XbTrk.init s.fab.track p
/-- Correction state of a physical crossbar. -/
def State.corr (s : State) (p : Nat) : XbCorr := SMap.get XbCorr.init s.fab.corr p

/-- The slice whose place CS takes on a crossbar (R94, R97): the one it visits once swapped in, or the one it has replaced. -/
def XbTrk.spare (t : XbTrk) : Option Nat :=
  match t.visit with
  | some (x, true) => some x
  | _ => t.replaced

/-- The correction of a crossbar as a vector takes it (R91): drift, temperature and every slice's own tracking values. -/
def State.snapshot (s : State) (p : Nat) : CorrSnap :=
  let t := s.trk p
  let one (k : Nat) : SliceSnap :=
    let v := SMap.get SliceTrk.init t.slices k
    ⟨v.gain, v.ofs, v.limit⟩
  ⟨(s.corr p).drift, SMap.get 0 s.ptm.tx (posCore p), (List.range 26).map one⟩

/-- One crossbar of a vector at its load (R71, R89–R91): where it stands, whether it is stood in, and the windows and LSBs of its
passes of digits. -/
def State.xbRun (s : State) (core cluster row col : Nat) (standIn : Bool) (ds : List (List Int)) : XbRun :=
  let shift := s.marginShift
  let abs := s.rd CCV_RANGE_CTRL_MARGIN_ABS
  let phys := s.physPos (posOf core cluster row col)
  let wins := ds.map (windowCount shift abs)
  { row := row, col := col, phys := phys, colMap := SMap.get [] s.lst.colMap phys, standIn := standIn, wins := wins
    lsbs := ds.zipIdx.map fun e => (windowBounds e.1 (nth 1 wins e.2)).map (lsbOf shift abs)
    digitSums := ds.map sumI, snap := s.snapshot phys, spare := (s.trk phys).spare }

/-- The slice that converts in slice `k`'s time slots when the vector drives (R94, R113). -/
def XbRun.slot (x : XbRun) (k : Nat) : Nat := if x.spare = some k then 17 else k

/-- The physical column that serves a logical one in a vector (R69, R71). -/
def XbRun.column (x : XbRun) (j : Nat) : Nat :=
  match x.colMap.find? (·.1 == j) with
  | some (_, k) => k
  | none => j

/-- The code of a held charge, given in 1/256 unit (R85): the nearest code, held at ±255; a skipped window has code 0 (R59).
A charge on a threshold gives the code farther from 0: DESIGN CHOICE (assumption log 40). -/
def codeOf (held : Int) (lsb : Nat) : Int := if lsb = 0 then 0 else clampI (-255) 255 (divAway held (256 * lsb))

/-- What a line holds beyond the charge of ideal cells in a window of a pass. -/
def extraOf (cs : List XbCharges) (row col pass w line : Nat) : Int :=
  match cs.find? fun c => c.row == row && c.col == col && c.pass == pass && c.window == w with
  | none => 0
  | some c => match c.extra.find? (·.1 == line) with
    | some e => e.2
    | none => 0

/-- The codes of one window of a pass (R86, R99): of the 512 weight columns or rows, and of the 8 tally columns. -/
structure WinCodes where
  pass : Nat
  window : Nat
  lsb : Nat
  codes : List Int
  tally : List Int
deriving DecidableEq, Repr

/-- The charge of ideal cells on a weight column, in units, over driven rows (R58). -/
def XbCells.columnUnits (x : XbCells) (rows : List (Nat × Int)) (j : Nat) : Int :=
  sumI (rows.map fun e => (x.level e.1 j : Int) * e.2)

/-- The charge of an ideal tally column in 1/64 unit over driven rows (R72). -/
def XbCells.tallyUnits (x : XbCells) (rows : List (Nat × Int)) (g : Nat) : Int :=
  sumI (rows.map fun e => (x.groupLevels e.1 g : Int) * e.2)

/-- The charge of ideal cells on a row, in units, over driven columns (R78). -/
def XbCells.rowUnits (x : XbCells) (cols : List (Nat × Int)) (i : Nat) : Int :=
  sumI (cols.map fun e => (x.level i e.1 : Int) * e.2)

/-- The codes of a forward window (R85–R87). -/
def forwardWindow (x : XbCells) (cs : List XbCharges) (row col pass w lsb : Nat) (rows : List (Nat × Int)) : WinCodes where
  pass := pass
  window := w
  lsb := lsb
  codes := (List.range 512).map fun j => codeOf (256 * x.columnUnits rows j + extraOf cs row col pass w j) lsb
  tally := (List.range 8).map fun g => codeOf (4 * x.tallyUnits rows g + extraOf cs row col pass w (532 + g)) lsb

/-- The codes of a transpose window (R99). -/
def transposeWindow (x : XbCells) (cs : List XbCharges) (row col pass w lsb : Nat) (cols : List (Nat × Int)) : WinCodes where
  pass := pass
  window := w
  lsb := lsb
  codes := (List.range 512).map fun i => codeOf (256 * x.rowUnits cols i + extraOf cs row col pass w i) lsb
  tally := []

/-- The conversions of a vector on a crossbar (R62, R64, R86): every window of every pass. -/
def XbRun.convert (x : XbRun) (cells : XbCells) (cs : List XbCharges) (transpose : Bool) (ds : List (List Int)) :
    List WinCodes :=
  (ds.zipIdx.map fun e =>
    let m := nth 1 x.wins e.2
    (List.range m).map fun w =>
      let lsb := nth 0 (nth [] x.lsbs e.2) w
      let lines := windowDigits e.1 m w
      if transpose then transposeWindow cells cs x.row x.col e.2 w lsb lines
      else forwardWindow cells cs x.row x.col e.2 w lsb lines).flatten

/-- The value C(j, P) of a line in a pass (R60, R64): codes times LSBs over the windows. -/
def passValue (ws : List WinCodes) (pass j : Nat) : Int :=
  sumI (ws.map fun w => if w.pass = pass then nth 0 w.codes j * (w.lsb : Int) else 0)

/-- The value of a tally column in a pass (R73). -/
def tallyValue (ws : List WinCodes) (pass g : Nat) : Int :=
  sumI (ws.map fun w => if w.pass = pass then nth 0 w.tally g * (w.lsb : Int) else 0)

/-- All 512 column values and 8 tally values of both passes of a crossbar. -/
structure XbValues where
  hi : List Int
  lo : List Int
  tallyHi : List Int
  tallyLo : List Int
deriving DecidableEq, Repr

/-- The values of a crossbar from its codes (R60). -/
def valuesOf (ws : List WinCodes) : XbValues :=
  ⟨(List.range 512).map (passValue ws 0), (List.range 512).map (passValue ws 1),
   (List.range 8).map (tallyValue ws 0), (List.range 8).map (tallyValue ws 1)⟩

/-- The partial of one column pair in both passes (R60). -/
def pairValue (v : XbValues) (j : Nat) : Int :=
  16 * (4 * nth 0 v.hi j + nth 0 v.hi (j + 1)) + (4 * nth 0 v.lo j + nth 0 v.lo (j + 1))

/-- The reconstructed partial of a weight channel before saturation (R60). -/
def rawPartial (v : XbValues) (diff : Bool) (sq : Int) (p : Nat) : Int :=
  if diff then pairValue v (4 * p) - pairValue v (4 * p + 2) else pairValue v (2 * p) - 8 * sq

/-- The bound of a reconstructed partial (R43, R60). -/
def partialBound : Int := 3298688

/-- The column group of a channel (R55, R56). -/
def groupOf (diff : Bool) (p : Nat) : Nat := if diff then p / 16 else p / 32

/-- A code at the end of the range (R92). -/
def atRail (c : Int) : Bool := c == 255 || c == -255

/-- A window saturates a group: one of its weight columns, or its tally column, is at ±255 (R92). -/
def WinCodes.saturates (w : WinCodes) (g : Nat) : Bool :=
  ((w.codes.drop (64 * g)).take 64).any atRail || atRail (nth 0 w.tally g)

/-- A group is saturated (R92): ±255 in a window, or a differential partial at its bound. -/
def groupSaturated (ws : List WinCodes) (v : XbValues) (diff : Bool) (g : Nat) : Bool :=
  ws.any (·.saturates g)
    || (diff && (List.range 16).any fun i => decide (partialBound ≤ (rawPartial v true 0 (16 * g + i)).natAbs))

/-- The pass and LSB index of a group's first saturated window (R103); the low pass with its greatest LSB where only a differential
partial reached its bound. DEDUCED (assumption log 41). -/
def satWhere (ws : List WinCodes) (x : XbRun) (g : Nat) : Nat × Nat :=
  match ws.find? (·.saturates g) with
  | some w => (w.pass, Nat.log2 w.lsb)
  | none => (1, Nat.log2 (maxN (nth [] x.lsbs 1)))

/-- R73: the tally check of a group in a pass passes. DEDUCED (assumption log 41). -/
def State.tallyOk (s : State) (x : XbRun) (v : XbValues) (pass g : Nat) : Bool :=
  let cs := ((if pass = 0 then v.hi else v.lo).drop (64 * g)).take 64
  let t := nth 0 (if pass = 0 then v.tallyHi else v.tallyLo) g
  let lsbs := nth [] x.lsbs pass
  let tolRel := min 12 (max 3 (s.rd AMF_TALLY_TOL_TOL_REL))
  let vg := sumI cs
  decide ((vg - 64 * t).natAbs * 2 ^ tolRel
    ≤ lsbs.length * s.rd AMF_TALLY_TOL_TOL_ABS * maxN lsbs * 2 ^ tolRel + sumN (cs.map Int.natAbs))

/-- The key of the factory values of a physical column (R112, R113): its group and deck, or the spare column's own. -/
def groupDeck (j : Nat) : Nat := if j < 512 then 2 * (j / 64) + j % 2 else j - 496

/-- The array die of a core (R11): 0 west, 1 east. -/
def dieOf (core : Nat) : Nat := if core < 256 then 0 else 1

/-- γ in 2^-20 before its limit (R112), from the factory gain and temperature coefficient, the drift, the degrees from T_cal and the
tracking gain: exact rational arithmetic, then one rounding. -/
def gammaFrom (f th drift dT g : Int) : Int :=
  let num : Int := (65536 + f) * (65536 + drift) * (1048576 + th * dT) * 4096
  let den : Nat := 65536 * 65536 * 1048576 * (4096 + g).toNat
  divEven ((num - (den : Int)) * 1048576) den

/-- γ held at ±2^-3, and whether it is held (R112). -/
def gammaHeld (g : Int) : Int × Bool := (clampI (-131072) 131072 g, decide (g < -131072) || decide (131072 < g))

/-- The degrees between a crossbar's region and the die's calibration (R112). -/
def CorrSnap.degrees (snap : CorrSnap) (die : Nat) : Int := snap.temp - (Config.calTemp die).toInt

/-- γ_j of a physical column that a slice converts (R87, R112, R113). -/
def gammaOf (phys die : Nat) (snap : CorrSnap) (slice j : Nat) : Int × Bool :=
  gammaHeld (gammaFrom (((Config.factoryGain phys (groupDeck j)).val : Int) - 4096) (Config.tempCoeff phys (groupDeck j)).toInt
    snap.drift (snap.degrees die) (snap.slice slice).gain)

/-- γ of a logical row that a row-side converter senses, in the form of R112. DESIGN CHOICE (assumption log 40). -/
def rowGamma (phys die : Nat) (snap : CorrSnap) (slice i : Nat) : Int × Bool :=
  gammaHeld (gammaFrom (((Config.rowGain phys i).val : Int) - 4096) (Config.rowTemp phys i).toInt snap.drift (snap.degrees die)
    (snap.slice slice).gain)

/-- The key of a conversion's factory offset o_f (R110, R113): the slice's, or the spare column's own. -/
def offsetKey (slice pcol : Nat) : Nat := if pcol < 512 then slice else pcol - 480

/-- The offset e_j of a pass in 1/16 unit (R110): over its windows, the factory and tracking offsets at each window's LSB. -/
def offsetSum (phys key : Nat) (v : SliceSnap) (lsbs : List Nat) : Int :=
  sumI (lsbs.map fun lsb =>
    if lsb = 0 then 0
    else ((Config.sliceOffset phys key (Nat.log2 lsb)).toInt + nth 0 v.ofs (Nat.log2 lsb)) * (lsb : Int))

/-- δ of one converted value (R110): γ in 2^-20, e in 1/16 unit, z in 2^-16, the pass's digit sum and the value. -/
def deltaOf (g e16 z d c : Int) : F32 :=
  let gf := f32Dyadic g (-20)
  let u := f32Add (f32Dyadic e16 (-4)) (f32Mul (f32Dyadic z (-16)) (f32OfInt d))
  f32Sub (f32Mul gf (f32OfInt c)) (f32Mul (f32Add 0x3F800000#32 gf) u)

/-- δ of one column in one pass (R110), and whether a value at a limit takes part (R122). -/
def columnDelta (x : XbRun) (die col pass : Nat) (c : Int) : F32 × Bool :=
  let n := x.slot (col / 32)
  let pcol := x.column col
  let v := x.snap.slice n
  let (g, held) := gammaOf x.phys die x.snap n pcol
  (deltaOf g (offsetSum x.phys (offsetKey n pcol) v (nth [] x.lsbs pass)) (Config.zeroLevel x.phys pcol).toInt
    (nth 0 x.digitSums pass) c, held || v.limit)

/-- Four corrections weighted 64, 16, 4 and 1 in the order of R110. -/
def weighted (a b c e : F32 × Bool) : F32 × Bool :=
  (f32Add (f32Add (f32Add (f32Mul 0x42800000#32 a.1) (f32Mul 0x41800000#32 b.1)) (f32Mul 0x40800000#32 c.1)) e.1,
   a.2 || b.2 || c.2 || e.2)

/-- The correction of one column pair (R110). -/
def pairDelta (die : Nat) (x : XbRun) (v : XbValues) (j : Nat) : F32 × Bool :=
  let d (col pass : Nat) : F32 × Bool := columnDelta x die col pass (nth 0 (if pass = 0 then v.hi else v.lo) col)
  weighted (d j 0) (d (j + 1) 0) (d j 1) (d (j + 1) 1)

/-- The correction δ of a weight channel (R110), and whether a value at a limit takes part (R122). -/
def channelDelta (die : Nat) (x : XbRun) (v : XbValues) (diff : Bool) (p : Nat) : F32 × Bool :=
  let held := decide (8192 ≤ x.snap.drift)
  if diff then
    let a := pairDelta die x v (4 * p)
    let b := pairDelta die x v (4 * p + 2)
    (f32Sub a.1 b.1, a.2 || b.2 || held)
  else
    let a := pairDelta die x v (2 * p)
    (a.1, a.2 || held)

/-- The correction of a row's transpose partial (R95, R110, R121): the row-side converter's offsets and gain, the row's factory
values, weights 64, 16, 4 and 1 on X1, X3, X2 and X4; and whether a value at a limit takes part (R101, R122).
DESIGN CHOICE (assumption log 40). -/
def rowDelta (die : Nat) (x : XbRun) (ws : List WinCodes) (i : Nat) : F32 × Bool :=
  let n := 18 + i / 64
  let v := x.snap.slice n
  let (g, held) := rowGamma x.phys die x.snap n i
  let d (pass : Nat) : F32 × Bool :=
    (deltaOf g (offsetSum x.phys n v (nth [] x.lsbs pass)) (Config.rowZero x.phys i).toInt (nth 0 x.digitSums pass)
      (passValue ws pass i), held || v.limit || decide (8192 ≤ x.snap.drift))
  weighted (d 0) (d 2) (d 1) (d 3)

/-- D_xb of R121, before scaling by s_c · 2^k_b: Σ (16 |hi| + |lo|) · u over the crossbar's rows. -/
def shareOf (body : List Byte) (diff : Bool) (p : Nat) (q : List Int) : Nat :=
  sumN ((List.range 512).map fun i =>
    let d := digits (nth 0 q i)
    (16 * d.1.natAbs + d.2.natAbs) * ((tileWeight body p i).natAbs + if diff then 0 else 8))

/-- E_conv of R102 for one column pair, times 2,048. -/
def convLimit (x : XbRun) (v : XbValues) (j : Nat) : Nat :=
  3072 * (80 * sumN (nth [] x.lsbs 0) + 5 * sumN (nth [] x.lsbs 1))
    + 2 * (64 * (nth 0 v.hi j).natAbs + 16 * (nth 0 v.hi (j + 1)).natAbs
      + 4 * (nth 0 v.lo j).natAbs + (nth 0 v.lo (j + 1)).natAbs)

/-- The driven digits of a crossbar's columns in transpose pass `pass` of 0 to 3 (R78): high-slice columns in the first two,
low-slice columns in the last two; hi digits in passes 0 and 2; the b columns of a differential crossbar at opposite polarity. -/
def transposeDigits (diff : Bool) (q : List Int) (base pass : Nat) : List Int :=
  (List.range 512).map fun j =>
    let p := if diff then j / 4 else j / 2
    if (j % 2 == 1) != decide (2 ≤ pass) then 0
    else
      let d := digits (nth 0 q (base + p))
      let v := if pass % 2 = 0 then d.1 else d.2
      if diff && decide (2 ≤ j % 4) then -v else v

/-- How many crossbar columns a gradient block spans, and the channels of one crossbar (R78). -/
def spanOf (diff : Bool) : Nat × Nat := if diff then (4, 128) else (2, 256)

/-- The exact transpose partial of a logical row (R78, R100): the digits of the channels from `base` on times the row's weights. -/
def transposeExact (body : List Byte) (diff : Bool) (q : List Int) (base i : Nat) : Int :=
  sumI ((List.range (channelsOf diff)).map fun p => nth 0 q (base + p) * tileWeight body p i)

/-- The transpose partial of a row of a driven crossbar (R78). -/
def transposePartial (ws : List WinCodes) (diff : Bool) (q : List Int) (base i : Nat) : Int :=
  let v (p : Nat) : Int := passValue ws p i
  16 * (4 * v 0 + v 2) + (4 * v 1 + v 3)
    - (if diff then 0 else 8 * sumI ((List.range (channelsOf diff)).map fun p => nth 0 q (base + p)))

/-- E_conv of a transpose partial, times 2,048 (R102, R121): weights 64, 4, 16 and 1 on X1 to X4. -/
def transposeConv (ws : List WinCodes) (x : XbRun) (i : Nat) : Nat :=
  let l (p : Nat) : Nat := sumN (nth [] x.lsbs p)
  let v (p : Nat) : Nat := (passValue ws p i).natAbs
  3072 * (64 * l 0 + 4 * l 1 + 16 * l 2 + l 3) + 2 * (64 * v 0 + 4 * v 1 + 16 * v 2 + v 3)

/-- D_xb of a transpose partial (R121). -/
def transposeShare (body : List Byte) (diff : Bool) (q : List Int) (base i : Nat) : Nat :=
  sumN ((List.range (channelsOf diff)).map fun p =>
    let d := digits (nth 0 q (base + p))
    (16 * d.1.natAbs + d.2.natAbs) * ((tileWeight body p i).natAbs + if diff then 0 else 8))

/-- The first saturated window of a row-side converter (R100): its pass and LSB index. -/
def rowSaturated (ws : List WinCodes) (r : Nat) : Option (Nat × Nat) :=
  (ws.find? fun w => ((w.codes.drop (64 * r)).take 64).any atRail).map fun w => (w.pass, Nat.log2 w.lsb)

/-- The energy of a crossbar's passes in aJ (R81): `base` pJ for each window driven, which with SKIP_EMPTY = 0 an all-zero one is too
(R59), and for each pulse unit `row` fJ and `cell` aJ for each level of the mean level sum Lbar, which is `lsum` · 65 / 32,768 for `lsum`
levels in the weight cells; `cell` times Lbar is cut to whole aJ. DESIGN CHOICE (assumption log 63). -/
def passEnergy (skip : Bool) (base row cell lsum : Nat) (x : XbRun) (ds : List (List Int)) : Nat :=
  sumN ((x.lsbs.flatten).map fun l => if skip && l = 0 then 0 else base * 1000000)
    + sumN (ds.map fun l => sumN (l.map Int.natAbs)) * (row * 1000 + cell * lsum * 65 / 32768)

/-- The level sum of a crossbar's weight cells, which LST records at lasting (R81). -/
def XbCells.levelSum (x : XbCells) : Nat :=
  sumN ((List.range 512).map fun i => sumN ((List.range 8).map (x.groupLevels i)))

/-- An FP32 value in 2^-150 units, exact for every finite value. -/
def f32Units150 (x : F32) : Int :=
  match f32Num x with
  | .fin s m e => let v : Int := (m * 2 ^ (e + 150).toNat : Nat); if s then -v else v
  | _ => 0

/-- Two's complement saturated at ±(2^31 - 1). -/
def satCode (x : Int) : Nat := toCode 32 (clampI (-2147483647) 2147483647 x)

/-- The matrix record of a number. -/
def ObjContent.matrix (c : ObjContent) (m : Nat) : Option MatrixRec := c.matrices.find? (·.matrix == m)

/-- The elements of an image's table by kind and matrix or layer (R214). DEDUCED (assumption log 30). -/
def ObjContent.table (c : ObjContent) (kind idx : Nat) : List F32 :=
  match c.tables.find? fun t => t.kind == kind && t.idx == idx with
  | some t => t.elems
  | none => []

/-- The channels of one crossbar of a record (R55, R56). -/
def ClusterRec.channels (r : ClusterRec) : Nat := channelsOf r.diff

/-- How many outputs a cluster record holds. -/
def ClusterRec.outs (r : ClusterRec) : Nat := r.xbCols * r.channels

/-- The accumulator of output `e` of a cluster record (R137). -/
def ClusterRec.accOf (r : ClusterRec) (e : Nat) : Nat := r.xbCol0 * r.channels + e

/-- The scale s_c of an output of a matrix, as FP32 (R30). -/
def ObjContent.scaleOf (c : ObjContent) (m : MatrixRec) (out : Nat) : F32 :=
  bf16ToF32 (nth 0#16 c.scales (m.scaleIdx + out))

end Sys2Proof.Machine
end

