-- ==== Sys2Proof/Machine/Fabric.lean ====
section
/-! DEFINITION. Vectors on the analogue fabric: loading and its arbitration, the column-flow sums, the tally check and saturation,
rescues and shadow checks (spec/03_analogue_fabric.md, spec/04_column_conversion.md, spec/05_welt.md,
spec/06_accumulation_and_vector.md R137–R144). -/

namespace Sys2Proof.Machine

/-- A buffer of a core's VEC. -/
def State.buf (s : State) (core n : Nat) : VecBuf := SMap.get .empty s.fab.bufs (65536 * core + n)
/-- A buffer replaced. -/
def State.setBuf (s : State) (core n : Nat) (b : VecBuf) : State :=
  s.withFab { s.fab with bufs := SMap.put .empty s.fab.bufs (65536 * core + n) b }

/-- A request's step has a result outside the bound (R122). -/
def State.markOob (s : State) (serial : Option Nat) : State :=
  match serial with
  | none => s
  | some n => if s.fab.oobMarks.contains n then s else s.withFab { s.fab with oobMarks := s.fab.oobMarks ++ [n] }

/-- A NUMERIC event of a request's data (R39). -/
def State.markNumeric (s : State) (serial : Option Nat) : State :=
  match serial with
  | none => s
  | some n => if s.fab.numericMarks.contains n then s else s.withFab { s.fab with numericMarks := s.fab.numericMarks ++ [n] }

/-- The job of the work of a request on a core, as the vector's owner. -/
def State.ownerOn (s : State) (core : Nat) (serial : Option Nat) : Option (Nat × Nat × Nat) :=
  (s.workLaunch core serial).map fun l => (l.fn, l.job, l.id)

/-- Reference mode for the work of a request on a core (R131). -/
def State.refOn (s : State) (core : Nat) (serial : Option Nat) : Bool :=
  match s.workLaunch core serial with
  | some l => l.ref || bitOf (s.rd WLT_REF_FN_FN) l.fn
  | none => false

/-- The weight generation of a core's work (R22, R126): that of the step in flight which carries it, and which its requests are bound to;
with no step, the request's own, else the current one. -/
def State.genOf (s : State) (core : Nat) (serial : Option Nat) : Nat :=
  match s.workLaunch core serial with
  | some l => l.gen
  | none => match s.findReq serial with
    | some (_, r) => r.gen
    | none => match s.lst.current with
      | some (_, g) => g
      | none => 0

/-- A generation is the old one of a swap after its Switch (R226). -/
def State.oldInTail (s : State) (gen : Nat) : Bool :=
  match s.lst.swap with
  | some w => w.phase == .tail && w.oldGen == gen
  | none => false

/-- A crossbar position is stood in for a generation (R126): always in reference mode, else where it is not serving that
generation's content; for the old generation of a swap everywhere once it has switched (R226). -/
def State.standsIn (s : State) (p gen : Nat) (ref : Bool) : Bool :=
  ref || s.underLasting p || SMap.get 0 s.lst.holds p != gen + 1 || s.oldInTail gen

/-- A position has the same content in the images of two generations (R127). -/
def State.sameTile (s : State) (p g h : Nat) : Bool := g == h || (s.contentOf g).placed p == (s.contentOf h).placed p

/-- A tile slot of the core's welt holds a position's tile of a generation, or of one with the same content there (R127). -/
def State.tileHeld (s : State) (core gen p : Nat) : Bool :=
  (List.range 8).any fun k =>
    let t := SMap.get TileSlot.init s.fab.tiles (8 * core + k)
    t.valid && t.pos == p && s.sameTile p t.gen gen

/-- A stand-in under lasting needs a valid tile of its generation (R127). -/
def State.tileMissing (s : State) (core cluster gen : Nat) (x : XbRun) : Bool :=
  let p := posOf core cluster x.row x.col
  x.standIn && s.underLasting p && !s.tileHeld core gen p

/-- The tile of a stood-in position that no tile slot holds is streamed from tier B by way of CST, 64 KiB once in a step, with the class of the
request that needs it, which the function is charged for (R13, R127, R132, R259, R375, R384). -/
def State.streamTile (s : State) (core : Nat) (serial : Option Nat) (gen p : Nat) : State :=
  match s.workLaunch core serial with
  | none => s
  | some l =>
    if s.tileHeld core gen p || SMap.get 0 s.fab.streamed p == l.id + 1 then s
    else
      let prio := s.prioOf serial
      let s := (s.useTier true l.fn prio (s.tileAddr gen p) 65536).stage whoMem l.fn prio 65536
      (s.withFab { s.fab with streamed := SMap.put 0 s.fab.streamed p (l.id + 1) }).chargeTier l.fn true 65536

/-- The crossbars a forward vector drives or stands in (R57, R59, R67, R126). -/
def State.planXbs (s : State) (core cluster gen : Nat) (ref : Bool) (blocks : List (Option A8Block)) (rs : List ClusterRec) :
    List XbRun :=
  (List.range 64).filterMap fun k =>
    let row := k / 8
    let col := k % 8
    match recordAt rs row col, nth none blocks row with
    | some _, some b =>
      if b.zero || b.nan then none
      else some (s.xbRun core cluster row col (s.standsIn (posOf core cluster row col) gen ref)
        [passDigits b.elems 0, passDigits b.elems 1])
    | _, _ => none

/-- BF16 values that a queue entry holds, in order. -/
def bf16At (bytes : List Byte) (i : Nat) : BF16 :=
  BitVec.ofNat 16 ((nth 0#8 bytes (2 * i)).toNat + 256 * (nth 0#8 bytes (2 * i + 1)).toNat)

/-- A preload kind takes a residual (R140). -/
def PreloadOps.takesResidual (p : PreloadOps) : Bool := p.kind == 2 || p.kind == 3

/-- The preload value v_c of an output (R140): none, the bias, the residual, or their sum. DEDUCED (assumption log 41). -/
def State.preloadValue (s : State) (c : ObjContent) (p : PreloadOps) (out : Nat) : Option F32 :=
  let bias := nth 0#32 (c.table 1 p.matrix) out
  let res := bf16ToF32 (bf16At (s.entry p.entry).bytes out)
  match p.kind with
  | 1 => some bias
  | 2 => some res
  | 3 => some (f32Add bias res)
  | _ => none

/-- R141: the integer nearest v / (s · 2^k), ties to even; none where its magnitude reaches 2^46. -/
def preloadInt (v sc : F32) (k : Int) : Option Int :=
  match f32Num v, f32Num sc with
  | .fin n a e, .fin _ b e' =>
    if b = 0 then some 0
    else
      let sh := e - e' - k
      let num : Nat := a * 2 ^ sh.toNat
      let den : Nat := b * 2 ^ (-sh).toNat
      if den * 2 ^ 46 ≤ num then none
      else
        let q : Int := (divEvenN num den : Nat)
        some (if n then -q else q)
  | _, _ => none

/-- One preload of a vector: its matrix and accumulator, v_c, whether a crossbar contributes to its element, and the quotient of
R141. -/
structure Preload where
  matrix : Nat
  acc : Nat
  value : F32
  driven : Bool
  quotient : Option Int
deriving DecidableEq, Repr

/-- A preload out of range (R141); a value that is NaN already has raised its event (R47). -/
def Preload.far (p : Preload) : Bool := p.driven && p.quotient.isNone && !f32IsNaN p.value

/-- The preloads of a vector (R140–R142): into height 0 of each matrix alone. -/
def State.preloads (s : State) (ps : List PreloadOps) (c : ObjContent) (rs : List ClusterRec) (xbs : List XbRun)
    (k : Option Int) : List Preload :=
  (rs.map fun r =>
    match ps.find? (·.matrix == r.matrix), c.matrix r.matrix with
    | some p, some m =>
      if r.height ≠ 0 then []
      else (List.range r.outs).filterMap fun e =>
        let out := r.firstOut + e
        match s.preloadValue c p out with
        | none => none
        | some v =>
          match xbs.any fun x => x.col == r.xbCol0 + e / r.channels, k with
          | true, some kr => some ⟨r.matrix, r.accOf e, v, true, preloadInt v (c.scaleOf m out) kr⟩
          | _, _ => some ⟨r.matrix, r.accOf e, v, false, none⟩
    | _, _ => []).flatten

/-- AMF's counts of a cluster vector (R59, R66, R82): passes driven, windows skipped, and the vector by its windows. -/
def State.countPasses (s : State) (core cluster n : Nat) (xbs : List XbRun) : State :=
  let driven := xbs.filter (!·.standIn)
  let all := (driven.map fun x => x.lsbs.flatten).flatten
  let skipped := (all.filter (· == 0)).length
  let skipOn := s.bit AMF_CTRL_SKIP_EMPTY
  let s := s.count AMF_PASS_CNT_COUNT (if skipOn then all.length - skipped else all.length)
  let s := if skipOn then s.count AMF_SKIP_CNT_COUNT skipped else s
  let s := match n with
    | 1 => s.count AMF_SPLIT_CNT1_COUNT
    | 2 => s.count AMF_SPLIT_CNT2_COUNT
    | 4 => s.count AMF_SPLIT_CNT4_COUNT
    | _ => s.count AMF_SPLIT_CNT8_COUNT
  let old := s.rd AMF_SPLIT_LAST_LOG2N core
  s.wr AMF_SPLIT_LAST_LOG2N (old - bitsOf old (2 * cluster) 2 * 4 ^ cluster + Nat.log2 n * 4 ^ cluster) core

/-- The energy of a vector's passes is booked to its launch (R81); `ds` gives a crossbar's digits by pass. -/
def State.bookEnergy (s : State) (core : Nat) (serial : Option Nat) (base : Nat) (xbs : List XbRun) (ds : XbRun → List (List Int)) : State :=
  match s.workLaunch core serial with
  | none => s
  | some l =>
    let e := sumN ((xbs.filter (!·.standIn)).map fun x =>
      passEnergy (s.bit AMF_CTRL_SKIP_EMPTY) base (s.rd AMF_ENERGY_UNIT_E_ROW) (s.rd AMF_ENERGY_UNIT_E_CELL) (SMap.get 0 s.lst.levels x.phys) x (ds x))
    s.withFab { s.fab with energy := SMap.upd 0 s.fab.energy l.id (· + e) }

/-- The pairs that shadow sampling has selected for the core's step (R128): of the driven crossbars of a vector, the channels whose
draw is 0 in its low SHADOW_SHIFT bits; transpose rows are numbered from 512. DESIGN CHOICE (assumption log 58). -/
def State.shadowPicks (s : State) (core cluster base count : Nat) (xbs : List XbRun) : List (Nat × Nat × Nat) :=
  let g := SMap.get ShadowGen.init s.fab.shadowGen core
  ((xbs.filter (!·.standIn)).map fun x =>
    ((List.range count).filter fun p =>
      (Config.shadowBits g.job core g.steps (posOf core cluster x.row x.col) (base + p)).toNat % 2 ^ g.shift == 0).map
        fun p => (x.row, x.col, p)).flatten

/-- The number of an activation or transpose vector is taken. -/
def State.nextVector (s : State) : State := s.withFab { s.fab with vectors := s.fab.vectors + 1 }

/-- The cluster's occupancy by a vector that starts to drive at an instant (R62, R79). -/
def State.occupy (s : State) (core cluster until_ : Nat) : State :=
  s.withFab { s.fab with busyUntil := SMap.put 0 s.fab.busyUntil (8 * core + cluster) until_ }

/-- When a vector loaded now starts to drive (R62, R91, R226): 16 ns on, at the end of the cluster's occupancy, or at the end of the
welt's reload. -/
def State.driveFrom (s : State) (core cluster : Nat) : Nat :=
  max (max (s.now + 16) s.lst.reloadTo) (SMap.get 0 s.fab.busyUntil (8 * core + cluster))

/-- The stand-ins of a vector are counted, with their tiles streamed where no slot holds them, and one without its tile faults the
job (R126, R127, R132). -/
def State.standIns (s : State) (core cluster : Nat) (serial : Option Nat) (gen : Nat) (ref : Bool) (xbs : List XbRun) : State :=
  let s := forEach (xbs.filter (·.standIn)) s fun s x => s.streamTile core serial gen (posOf core cluster x.row x.col)
  let stood := if ref then [] else xbs.filter (·.standIn)
  let s := s.count WLT_STANDIN_CNT_COUNT stood.length
  if stood.any (s.tileMissing core cluster gen) then s.coreJobFault core 0x0C [1] (serial := serial) else s

/-- What VECTOR_LOAD takes from its buffer: the request, the activation's number, the block of each crossbar row that the cluster
uses, and the digital channels (R67, R117). -/
def State.vectorInput (s : State) (o : VectorOps) (rs : List ClusterRec) :
    Option (Option Nat × Nat × List (Option A8Block) × List (Nat × BF16)) :=
  match s.buf o.core o.src with
  | .a8 serial num bs dig =>
    some (serial, num, (List.range 8).map fun r => if rs.any (fun c => decide (r < c.xbRows)) then bs[o.first + r]? else none, dig)
  | _ => none

/-- The exponents of the blocks that reach a crossbar (R44). -/
def liveExps (blocks : List (Option A8Block)) (xbs : List XbRun) : List Int :=
  blocks.zipIdx.filterMap fun e =>
    match e.1 with
    | some b => if b.zero || b.nan || !(xbs.any (·.row == e.2)) then none else some (e8m0Exp b.scale)
    | none => none

/-- A cluster takes a residual entry (R18, R140): it is consumed once every cluster of height 0 of the matrix has taken it, each for its own
outputs. DEDUCED (assumption log 41). -/
def State.takeResidual (s : State) (c : ObjContent) (core cluster : Nat) (p : PreloadOps) : State :=
  let e := s.entry p.entry
  let taken := (e.taken ++ [8 * core + cluster]).eraseDups
  let all := (c.clusters.filter fun r => r.matrix == p.matrix && r.height == 0).all fun r => taken.contains (8 * r.core + r.cluster)
  s.setEntry p.entry { e with taken := taken, consumed := e.consumed || all }

/-- The load of a vector into a bank (R91, R140, R141); in a bank still being drained it drives once the bank is FREE (R138). -/
def State.loadInto (s : State) (o : VectorOps) (number : Nat) (serial : Option Nat) (num : Nat) (blocks : List (Option A8Block))
    (digital : List (Nat × BF16)) (b : Nat) : State :=
  let gen := s.genOf o.core serial
  let c := s.image gen
  let rs := c.clustersAt o.core o.cluster
  let ref := s.refOn o.core serial
  let xbs := s.planXbs o.core o.cluster gen ref blocks rs
  let n := maxN (1 :: ((xbs.filter (!·.standIn)).map (·.wins)).flatten)
  let kr := kRef (liveExps blocks xbs)
  let ps := s.preloads o.preloads c rs xbs kr
  let far := ps.filter Preload.far
  let s := forEach (o.preloads.filter PreloadOps.takesResidual) s fun s p =>
    s.takeResidual c o.core o.cluster p
  let s := s.count ACR_PRELOAD_RANGE_CNT_COUNT far.length
  let s := if far.isEmpty then s else s.markNumeric serial
  let start := max (s.driveFrom o.core o.cluster) (if s.now < (s.bank o.core o.cluster b).drainTo then (s.bank o.core o.cluster b).drainTo + 16 else 0)
  let diff := rs.any (·.diff)
  let v : Vector := {
    state := .loaded, num := num, transpose := false, ref := ref, gen := gen, serial := serial
    owner := s.ownerOn o.core serial, blocks := blocks, digital := digital, n := n, kRef := kr, xbs := xbs
    shadow := s.shadowPicks o.core o.cluster 0 (channelsOf diff) xbs
    pre := (ps.filter (·.driven)).map fun p => (p.acc, p.quotient.getD 0)
    preExact := (ps.filter fun p => !p.driven || f32IsNaN p.value).map fun p => (p.acc, p.value)
    driveAt := start, flowAt := start + 64 * (2 * n - 1) + 136
    arrived := false, termsDone := false, acc := [], mags := [], deltas := [], flags := [], rescued := [], limited := []
    numeric := far.map (·.matrix), number := number, drainTo := 0 }
  let s := s.setBank o.core o.cluster b v
  let s := s.withFab { s.fab with nextBank := SMap.put 0 s.fab.nextBank (8 * o.core + o.cluster) (1 - b) }
  let s := (s.occupy o.core o.cluster (start + 128 * n)).countPasses o.core o.cluster n xbs
  let s := s.bookEnergy o.core serial (s.rd AMF_ENERGY_E0_E0) xbs fun x =>
    match nth none blocks x.row with | some q => [passDigits q.elems 0, passDigits q.elems 1] | none => []
  s.standIns o.core o.cluster serial gen ref xbs

/-- A cluster may take vectors (R57): its BOUND bit is set. -/
def State.clusterBound (s : State) (core cluster : Nat) : Bool := bitOf (s.rd AMF_CL_MODE_BOUND core) cluster

/-- A block whose header carries scale code 0xFF over elements (R29). -/
def badScale (b : A8Block) : Bool := !b.zero && !b.nan && b.scale == 255

/-- A forward vector is loaded: a header of scale code 0xFF faults the job (R29). -/
def State.loadForward (s : State) (o : VectorOps) (number : Nat) : State :=
  let rs := (s.image (s.genOf o.core (match s.buf o.core o.src with | .a8 q _ _ _ => q | _ => none))).clustersAt o.core o.cluster
  match s.vectorInput o rs with
  | none => s
  | some (serial, num, blocks, dig) =>
    if blocks.any fun b => match b with | some b => badScale b | none => false then s.coreJobFault o.core 0x0C [2] (serial := serial)
    else s.loadInto o number serial num blocks dig (SMap.get 0 s.fab.nextBank (8 * o.core + o.cluster))

/-- The transpose bank's data lie in bank A (R138): the bank whose vector a bank number names. -/
def State.dataBank (s : State) (core cluster b : Nat) : Nat := if (s.bank core cluster b).transpose then 0 else b

/-- The register of a cluster's tally failures (R82). -/
def tallyErrFld (cluster : Nat) : Fld :=
  nth AMF_TALLY_ERR0_COUNT [AMF_TALLY_ERR0_COUNT, AMF_TALLY_ERR1_COUNT, AMF_TALLY_ERR2_COUNT, AMF_TALLY_ERR3_COUNT,
    AMF_TALLY_ERR4_COUNT, AMF_TALLY_ERR5_COUNT, AMF_TALLY_ERR6_COUNT, AMF_TALLY_ERR7_COUNT] cluster

/-- The fields of AMF_TALLY_LOG0 and of WLT_SHADOW_LOG0, with LOG1. -/
def tallyLog : List Fld × Fld :=
  ([AMF_TALLY_LOG0_CLUSTER, AMF_TALLY_LOG0_XB_ROW, AMF_TALLY_LOG0_XB_COL, AMF_TALLY_LOG0_GROUP, AMF_TALLY_LOG0_PASS,
    AMF_TALLY_LOG0_WINDOWS, AMF_TALLY_LOG0_VALID], AMF_TALLY_LOG1_DELTA)
def shadowLog : List Fld × Fld :=
  ([WLT_SHADOW_LOG0_CLUSTER, WLT_SHADOW_LOG0_XB_ROW, WLT_SHADOW_LOG0_XB_COL, WLT_SHADOW_LOG0_CHANNEL, WLT_SHADOW_LOG0_TRANSPOSE,
    WLT_SHADOW_LOG0_VALID], WLT_SHADOW_LOG1_DELTA)

/-- The log pair `k` of a core: 0 tally, 1 shadow. -/
def logFlds (k : Nat) : List Fld × Fld := if k = 0 then tallyLog else shadowLog

/-- A record is written into a log pair. -/
def State.fillLog (s : State) (core k : Nat) (p : LogPair) : State :=
  let l := logFlds k
  (((l.1.zip p.fields).foldl (fun s e => s.wr e.1 e.2 core) s)).wr l.2 p.delta core

/-- A failure is logged (R83, R136): between the reads of LOG0 and LOG1 it waits for the second. -/
def State.logPair (s : State) (core k : Nat) (p : LogPair) : State :=
  let h := SMap.get LogHold.init s.fab.logHolds (2 * core + k)
  if h.held then s.withFab { s.fab with logHolds := SMap.put LogHold.init s.fab.logHolds (2 * core + k) { h with next := some p } }
  else s.fillLog core k p

/-- LOG0 of a pair has been read: the record stays until LOG1 is (R83, R136). -/
def State.holdLog (s : State) (core k : Nat) : State :=
  s.withFab { s.fab with logHolds := SMap.upd LogHold.init s.fab.logHolds (2 * core + k) fun h => { h with held := true } }

/-- LOG1 of a pair has been read: the newest failure that waited replaces the record (R83, R136). -/
def State.releaseLog (s : State) (core k : Nat) : State :=
  let h := SMap.get LogHold.init s.fab.logHolds (2 * core + k)
  let s := s.withFab { s.fab with logHolds := SMap.put LogHold.init s.fab.logHolds (2 * core + k) LogHold.init }
  match h.next with
  | some p => s.fillLog core k p
  | none => s

/-- The failures that wait in log pairs `k` are lost with a clear of the counters (R82, R135). -/
def State.dropLogs (s : State) (k : Nat) : State :=
  let drop (n : Nat) (h : LogHold) : LogHold := if n % 2 = k then { h with next := none } else h
  s.withFab { s.fab with logHolds := SMap.mapVals LogHold.init drop s.fab.logHolds }

/-- R75: a failed tally check is counted, logged and reported, and under TALLY_MODE 0 faults the job.  WINDOWS of the log is the
crossbar's own window count of the pass. DESIGN CHOICE (assumption log 60). -/
def State.tallyFail (s : State) (core cluster : Nat) (serial : Option Nat) (x : XbRun) (v : XbValues) (pass g : Nat) : State :=
  let cs := ((if pass = 0 then v.hi else v.lo).drop (64 * g)).take 64
  let d := sumI cs - 64 * nth 0 (if pass = 0 then v.tallyHi else v.tallyLo) g
  let m := (nth [] x.lsbs pass).length
  let s := (s.count (tallyErrFld cluster) 1 core).count AMF_TALLY_ERR_CNT_COUNT
  let s := s.logPair core 0 ⟨[cluster, x.row, x.col, g, pass, Nat.log2 m, 1], satCode d⟩
  let pos := posOf core cluster x.row x.col
  let s := s.suspect core 16 (.xb pos)
  let rec_ := { EventRec.blank 0x01 1 with core := some core, where_ := posWhere pos, detail := [g, pass, m, satCode d] }
  if s.bit AMF_CTRL_TALLY_MODE then s.logEvent { rec_ with class_ := 0 } else s.faultCore core rec_ serial

/-- R93: a saturation is counted and logged in CCV_SAT_LOG, whose WINDOWS is the crossbar's own window count of the pass.
DESIGN CHOICE (assumption log 60). -/
def State.satLog (s : State) (core cluster row col group pass windows lsbIdx : Nat) : State :=
  let s := (s.count CCV_SAT_CNT_COUNT).count CCV_SAT_CORE_CNT_COUNT 1 core
  let s := (s.wr CCV_SAT_LOG_CLUSTER cluster core).wr CCV_SAT_LOG_XB_ROW row core
  let s := (s.wr CCV_SAT_LOG_XB_COL col core).wr CCV_SAT_LOG_GROUP group core
  let s := (s.wr CCV_SAT_LOG_PASS pass core).wr CCV_SAT_LOG_WINDOWS (Nat.log2 windows) core
  (s.wr CCV_SAT_LOG_LSB_IDX lsbIdx core).wr CCV_SAT_LOG_VALID 1 core

/-- R93: a saturation flag is counted, logged and reported; a whole weight of sixteen writes a record. -/
def State.satEvent (s : State) (core cluster row col group pass windows lsbIdx : Nat) : State :=
  let s := s.satLog core cluster row col group pass windows lsbIdx
  let pos := posOf core cluster row col
  let whole := ((s.health core).events.filter (·.2.1 == 1)).length % 16 == 15
  let s := if whole then
      s.logEvent { EventRec.blank 0x03 0 with core := some core, where_ := posWhere pos, detail := [16] }
    else s
  s.suspect core 1 (.xb pos)

/-- What one crossbar of a vector comes to: its conversions and values, its flagged groups, its partials and corrections by
channel. -/
structure XbResult where
  x : XbRun
  diff : Bool
  ws : List WinCodes
  v : XbValues
  flags : List Nat
  partials : List Int
  deltas : List F32
  held : List Bool
deriving DecidableEq, Repr

/-- The elements of a crossbar row's block. -/
def Vector.rowElems (v : Vector) (row : Nat) : List Int :=
  match nth none v.blocks row with
  | some b => b.elems
  | none => []

/-- The exponent of a crossbar row's block. -/
def Vector.rowExp (v : Vector) (row : Nat) : Int :=
  match nth none v.blocks row with
  | some b => e8m0Exp b.scale
  | none => 0

/-- A crossbar's result (R60, R92, R110, R126): exact partials where it is stood in. -/
def xbResult (core cluster : Nat) (v : Vector) (c : ObjContent) (cs : List XbCharges) (x : XbRun) : XbResult :=
  let cells := c.cells core cluster x.row x.col
  let q := v.rowElems x.row
  let n := channelsOf cells.diff
  if x.standIn then
    ⟨x, cells.diff, [], ⟨[], [], [], []⟩, [], (List.range n).map fun p => exactPartial cells.body p q, List.replicate n 0#32,
      List.replicate n false⟩
  else
    let ws := x.convert cells cs false [passDigits q 0, passDigits q 1]
    let vals := valuesOf ws
    let sq := sumI q
    let ds := (List.range n).map fun p => channelDelta (dieOf core) x vals cells.diff p
    ⟨x, cells.diff, ws, vals, (List.range 8).filter (groupSaturated ws vals cells.diff),
      (List.range n).map fun p => clampI (-partialBound) partialBound (rawPartial vals cells.diff sq p), ds.map (·.1), ds.map (·.2)⟩

/-- The sums of a bank from its crossbars' results (R44, R68, R109, R111): aligned partials without the flagged groups,
their magnitudes, and the δ products summed in FP32 from crossbar row 0 on. -/
def Vector.flow (v : Vector) (rs : List XbResult) (a : Nat) : Int × Nat × F32 × Bool :=
  let kr := v.kRef.getD 0
  rs.foldl (fun acc r =>
    let n := channelsOf r.diff
    if r.x.col ≠ a / n || (r.diff && 1024 ≤ a) then acc
    else
      let p := a % n
      if r.flags.contains (groupOf r.diff p) then acc
      else
        let k := v.rowExp r.x.row
        let m := alignPartial k kr (nth 0 r.partials p)
        let d := if r.x.standIn then acc.2.2.1 else f32Add acc.2.2.1 (f32Scale (nth 0#32 r.deltas p) (k - kr))
        (acc.1 + m, acc.2.1 + m.natAbs, d, acc.2.2.2 || nth false r.held p)) (0, 0, 0#32, false)

/-- The shadow check of a selected pair (R129, R121): the difference and the limit in 2^-150 units. -/
def shadowOf (core cluster : Nat) (v : Vector) (c : ObjContent) (r : XbResult) (p : Nat) : ShadowDue :=
  let body := (c.cells core cluster r.x.row r.x.col).body
  let q := v.rowElems r.x.row
  let diff := (nth 0 r.partials p - exactPartial body p q) * (2 ^ 150 : Nat) + f32Units150 (nth 0#32 r.deltas p)
  let conv := if r.diff then convLimit r.x r.v (4 * p) + convLimit r.x r.v (4 * p + 2) else convLimit r.x r.v (2 * p)
  let limit : Nat := (conv + 128 * shareOf body r.diff p q) * 2 ^ 139
  ⟨core, cluster, r.x.row, r.x.col, p, false, v.owner.map (·.2.2), diff, limit⟩

/-- A forward vector's bank is COMPLETE once its sum is there, no rescue is outstanding and every welt term is formed (R143). -/
def State.settleBank (s : State) (core cluster b : Nat) : State :=
  let v := s.bank core cluster b
  if v.state = .flowing && v.arrived && v.termsDone && v.flags.isEmpty then
    s.setBank core cluster b { v with state := .complete }
  else s

/-- The flags and checks of a vector's crossbars (R73, R93): crossbars in order of row and column, their groups ascending, the high
pass before the low; a log shows the last of several. DESIGN CHOICE (assumption log 60). -/
def State.checkResults (s : State) (core cluster : Nat) (serial : Option Nat) (res : List XbResult) : State :=
  forEach res s fun s r =>
    let s := forEach r.flags s fun s g =>
      let w := satWhere r.ws r.x g
      s.satEvent core cluster r.x.row r.x.col g w.1 (nth 1 r.x.wins w.1) w.2
    if r.x.standIn then s
    else forEach (List.range 16) s fun s k =>
      let g := k / 2
      let pass := k % 2
      if r.flags.contains g || (nth [] r.x.lsbs pass).all (· == 0) || s.tallyOk r.x r.v pass g then s
      else s.tallyFail core cluster serial r.x r.v pass g

/-- A vector's column-flow sum reaches its bank (R62): partials are rebuilt and aligned, groups checked and flagged, the
selected shadow pairs become due, and the bank is COMPLETE unless a rescue is still to come. -/
def State.arriveFlow (s : State) (core cluster b : Nat) (cs : List XbCharges) : State :=
  let v := s.bank core cluster b
  let c := s.image v.gen
  let res := v.xbs.map (xbResult core cluster v c cs)
  let s := s.checkResults core cluster v.serial res
  let sums := (List.range 2048).map (v.flow res)
  let dues := v.shadow.filterMap fun (row, col, p) =>
    match res.find? fun r => r.x.row == row && r.x.col == col with
    | some r => if r.flags.contains (groupOf r.diff p) then none else some (shadowOf core cluster v c r p)
    | none => none
  let v := { v with
    state := .flowing, arrived := true, acc := sums.map (·.1), mags := sums.map (·.2.1), deltas := sums.map (·.2.2.1)
    flags := (res.map fun r => r.flags.map fun g => (r.x.row, r.x.col, g)).flatten
    limited := (List.range 2048).filter fun a => match nth (0, 0, 0#32, false) sums a with | (_, _, _, h) => h }
  let s := s.setBank core cluster b v
  s.withFab { s.fab with checks := s.fab.checks ++ dues }

/-- COLUMN_FLOW_ARRIVE (R62), with what the lines held beyond ideal cells and what the checks found on the way (R409, R410). -/
def execColumnFlowArrive (t core cluster b : Nat) (charges : List XbCharges) (check : UnitCheck) (s : State) :
    Host.Outcome State Fault Refusal :=
  let s := s.advance t
  let v := s.bank core cluster b
  if v.state ≠ .loaded || v.transpose then .next s
  else
    .next (((s.arriveFlow core cluster b charges).settleBank core cluster b).unitCheck core 0 check)

/-- Aligned integers added to accumulators and to their magnitudes. -/
def Vector.addTo (v : Vector) (ms : List (Nat × Int)) : Vector :=
  { v with
    acc := ms.foldl (fun l m => setNth 0 l m.1 (nth 0 l m.1 + m.2)) v.acc
    mags := ms.foldl (fun l m => setNth 0 l m.1 (nth 0 l m.1 + m.2.natAbs)) v.mags }

/-- A flag is served. -/
def Vector.rescue (v : Vector) (f : Nat × Nat × Nat) : Vector :=
  { v with flags := v.flags.filter (· != f), rescued := v.rescued ++ [f] }

/-- The exact partials of a flagged group, aligned, added at the crossbar's place (R125). -/
def Vector.rescueGroup (v : Vector) (x : XbCells) (row col g : Nat) : Vector :=
  let n := channelsOf x.diff
  let per := n / 8
  (v.rescue (row, col, g)).addTo ((List.range per).map fun i =>
    (col * n + g * per + i, alignPartial (v.rowExp row) (v.kRef.getD 0) (exactPartial x.body (g * per + i) (v.rowElems row))))

/-- Where a crossbar column's channels lie in the gradient blocks of its matrix (R78): the block's number, and the first of the
column's channels in it; blocks start at the matrix's first crossbar column. DESIGN CHOICE (assumption log 60). -/
def gradPlace (r : ClusterRec) (col : Nat) : Nat × Nat :=
  let span := spanOf r.diff
  ((col - r.xbCol0) / span.1, (col - r.xbCol0) % span.1 * span.2)

/-- The gradient block that drives a crossbar column, its exponent, and the first of the column's channels in it (R78). -/
def Vector.gradOf (v : Vector) (r : ClusterRec) (col : Nat) : List Int × Int × Nat :=
  let p := gradPlace r col
  match nth none v.blocks p.1 with
  | some b => (b.elems, e8m0Exp b.scale, p.2)
  | none => ([], 0, p.2)

/-- A saturated row-side range of a transpose vector is replaced by exact partials (R100, R125). -/
def Vector.rescueRows (v : Vector) (x : XbCells) (r : ClusterRec) (row col g : Nat) : Vector :=
  let q := v.gradOf r col
  (v.rescue (row, col, g)).addTo ((List.range 64).map fun i =>
    (512 * row + 64 * g + i, alignPartial q.2.1 (v.kRef.getD 0) (transposeExact x.body x.diff q.1 q.2.2 (64 * g + i))))

/-- SATURATION_RESCUE (R125). -/
def execSaturationRescue (t core cluster b row col g : Nat) (s : State) : Host.Outcome State Fault Refusal :=
  let s := s.advance t
  let b := s.dataBank core cluster b
  let v := s.bank core cluster b
  if !v.flags.contains (row, col, g) then .next s
  else
    let c := s.image v.gen
    let cells := c.cells core cluster row col
    let v := if v.transpose then
        (match c.recordOf core cluster row col with
        | some r => v.rescueRows cells r row col g
        | none => v.rescue (row, col, g))
      else v.rescueGroup cells row col g
    .next (((s.setBank core cluster b v).count WLT_SAT_RESCUE_CNT_COUNT).settleBank core cluster b)

/-- WELT_WORK_COMPLETE (R133): the vector's terms are formed, and the welt's checks of them made (R409, R410); work that ends after the
flow time counts as late. -/
def execWeltWorkComplete (t core cluster b : Nat) (check : UnitCheck) (s : State) : Host.Outcome State Fault Refusal :=
  let s := s.advance t
  let b := s.dataBank core cluster b
  let v := s.bank core cluster b
  if v.state = .free || v.termsDone then .next s
  else
    let s := s.setBank core cluster b { v with termsDone := true }
    let s := if v.flowAt < s.now then s.count WLT_LATE_CNT_COUNT else s
    .next ((s.settleBank core cluster b).unitCheck core 3 check)

/-- A failed shadow check is counted, logged and reported, and under SHADOW_MODE 0 faults the job (R129); DELTA is the difference
rounded to nearest with ties to even. DESIGN CHOICE (assumption log 60). -/
def State.shadowFail (s : State) (d : ShadowDue) : State :=
  let delta := satCode (divEven d.diff (2 ^ 150))
  let s := s.count WLT_SHADOW_FAIL_CNT_COUNT
  let s := s.logPair d.core 1 ⟨[d.cluster, d.row, d.col, if d.transpose then d.channel / 2 else d.channel, b2n d.transpose, 1], delta⟩
  let pos := posOf d.core d.cluster d.row d.col
  let s := s.suspect d.core 16 (.xb pos)
  let rec_ := { EventRec.blank 0x02 1 with
    core := some d.core, where_ := posWhere pos, detail := [d.channel, b2n d.transpose, delta] }
  match s.serve.launches.find? fun l => d.launch == some l.id with
  | some l =>
    if s.bit WLT_CTRL_SHADOW_MODE then s.logEvent { rec_ with class_ := 0 }
    else s.faultJob l.fn l.job (some l.id) rec_
  | none => s.logEvent rec_

/-- SHADOW_CHECK (R129): a due check is made. -/
def execShadowCheck (t core cluster row col channel : Nat) (s : State) : Host.Outcome State Fault Refusal :=
  let s := s.advance t
  match s.fab.checks.find? fun d =>
      d.core == core && d.cluster == cluster && d.row == row && d.col == col && d.channel == channel with
  | none => .next s
  | some d =>
    let s := (s.withFab { s.fab with checks := s.fab.checks.erase d }).count WLT_SHADOW_CNT_COUNT
    .next (if d.diff.natAbs ≤ d.limit.natAbs then s else s.shadowFail d)

end Sys2Proof.Machine
end

