-- ==== Sys2Proof/Machine/Load.lean ====
section
/-! DEFINITION. Loads that wait for a cluster and the arbiter that grants it, and transpose vectors (spec/01_architecture.md R24,
spec/03_analogue_fabric.md R78–R80, spec/06_accumulation_and_vector.md R138, R140, spec/10_cadence_wheel.md R257–R259). -/

namespace Sys2Proof.Machine

/-- An A8 block from 512 values (R32, R41): a NaN block on a NUMERIC event. -/
def a8Block (l : List F32) : A8Block × Bool :=
  match quantA8 l with
  | .numeric => (⟨0, false, true, List.replicate 512 0⟩, true)
  | .zero => (⟨0, true, false, List.replicate 512 0⟩, false)
  | .block sc q => (⟨sc, false, false, q⟩, false)

/-- A vector of values in a buffer, once no rescue is due on it. -/
def State.readVec (s : State) (core n : Nat) : Option (Option Nat × Nat × List F32) :=
  match s.buf core n with
  | .vec serial first vals _ [] => some (serial, first, vals)
  | .bf16 serial vals => some (serial, 0, vals.map bf16ToF32)
  | _ => none

/-- The gradient blocks of a matrix's crossbar columns (R78): each gradient times its channel's scale, quantised to A8 by 512
channels from the matrix's first crossbar column on; whether a block raised NUMERIC. -/
def gradBlocks (c : ObjContent) (r : ClusterRec) (first : Nat) (vals : List F32) : List (A8Block × Bool) :=
  match c.matrix r.matrix with
  | none => []
  | some m => (List.range (ceilDiv r.outs 512)).map fun b =>
    a8Block ((List.range 512).map fun i =>
      let out := r.firstOut + 512 * b + i
      if m.nOut ≤ out || out < first || r.outs ≤ 512 * b + i then 0#32
      else f32Mul (nth 0#32 vals (out - first)) (c.scaleOf m out))

/-- The digits of a crossbar of a transpose vector by pass (R78). -/
def Vector.transposeDs (v : Vector) (r : ClusterRec) (col : Nat) : List (List Int) :=
  let q := v.gradOf r col
  (List.range 4).map (transposeDigits r.diff q.1 q.2.2)

/-- The crossbars of a transpose vector with their column windows (R79, R99, R126). -/
def State.planTranspose (s : State) (core cluster : Nat) (v : Vector) (r : ClusterRec) : List XbRun :=
  (List.range 64).filterMap fun k =>
    let row := k / 8
    let col := k % 8
    if r.xbRows ≤ row || col < r.xbCol0 || r.xbCol0 + r.xbCols ≤ col then none
    else
      match nth none v.blocks (gradPlace r col).1 with
      | none => none
      | some b =>
        if b.zero || b.nan then none
        else some (s.xbRun core cluster row col (s.standsIn (posOf core cluster row col) v.gen v.ref) (v.transposeDs r col))

/-- What a crossbar of a transpose vector comes to: its conversions, its flagged row ranges with pass and LSB index, and for each logical row its partial, its correction and whether
a value at a limit takes part. -/
structure RowResult where
  x : XbRun
  ws : List WinCodes
  flags : List (Nat × Nat × Nat)
  partials : List Int
  deltas : List F32
  held : List Bool
deriving DecidableEq, Repr

/-- A crossbar's result in a transpose vector (R78, R100, R126). -/
def rowResult (core cluster : Nat) (v : Vector) (c : ObjContent) (r : ClusterRec) (cs : List XbCharges) (x : XbRun) : RowResult :=
  let cells := c.cells core cluster x.row x.col
  let q := v.gradOf r x.col
  if x.standIn then
    ⟨x, [], [], (List.range 512).map (transposeExact cells.body cells.diff q.1 q.2.2), List.replicate 512 0#32,
      List.replicate 512 false⟩
  else
    let ws := x.convert cells cs true (v.transposeDs r x.col)
    let ds := (List.range 512).map (rowDelta (dieOf core) x ws)
    ⟨x, ws, (List.range 8).filterMap fun g => (rowSaturated ws g).map fun l => (g, l),
      (List.range 512).map (transposePartial ws cells.diff q.1 q.2.2), ds.map (·.1), ds.map (·.2)⟩

/-- The row-flow sum of one accumulator of a transpose vector (R79, R138): row `a % 512` of crossbar row `a / 512`. -/
def Vector.rowFlow (v : Vector) (r : ClusterRec) (rs : List RowResult) (a : Nat) : Int × Nat × F32 × Bool :=
  let i := a % 512
  let kr := v.kRef.getD 0
  rs.foldl (fun acc x =>
    if x.x.row ≠ a / 512 || x.flags.any (·.1 == i / 64) then acc
    else
      let k := (v.gradOf r x.x.col).2.1
      let m := alignPartial k kr (nth 0 x.partials i)
      (acc.1 + m, acc.2.1 + m.natAbs,
        if x.x.standIn then acc.2.2.1 else f32Add acc.2.2.1 (f32Scale (nth 0#32 x.deltas i) (k - kr)),
        acc.2.2.2 || nth false x.held i)) (0, 0, 0#32, false)

/-- The shadow check of a selected transpose row (R128, R129). -/
def rowShadow (core cluster : Nat) (v : Vector) (c : ObjContent) (r : ClusterRec) (x : RowResult) (i : Nat) : ShadowDue :=
  let cells := c.cells core cluster x.x.row x.x.col
  let q := v.gradOf r x.x.col
  ⟨core, cluster, x.x.row, x.x.col, i, true, v.owner.map (·.2.2),
    (nth 0 x.partials i - transposeExact cells.body cells.diff q.1 q.2.2 i) * (2 ^ 150 : Nat) + f32Units150 (nth 0#32 x.deltas i),
    ((transposeConv x.ws x.x i + 128 * transposeShare cells.body cells.diff q.1 q.2.2 i) * 2 ^ 139 : Nat)⟩

/-- The sums, flags and due checks of a transpose vector (R79, R93, R100, R128). -/
def State.rowSums (s : State) (core cluster : Nat) (v : Vector) (c : ObjContent) (r : ClusterRec) (cs : List XbCharges) : State :=
  let res := v.xbs.map (rowResult core cluster v c r cs)
  let s := forEach res s fun s x => forEach x.flags s fun s g =>
    s.satEvent core cluster x.x.row x.x.col g.1 2 (nth 1 x.x.wins g.2.1) g.2.2
  let sums := (List.range 4096).map (v.rowFlow r res)
  let dues := v.shadow.filterMap fun (row, col, i) =>
    match res.find? fun x => x.x.row == row && x.x.col == col with
    | none => none
    | some x => if x.flags.any (·.1 == i / 64) then none else some (rowShadow core cluster v c r x i)
  let v := { v with
    acc := sums.map (·.1), mags := sums.map (·.2.1), deltas := sums.map (·.2.2.1)
    flags := (res.map fun x => x.flags.map fun g => (x.x.row, x.x.col, g.1)).flatten
    limited := (List.range 4096).filter fun a => match nth (0, 0, 0#32, false) sums a with | (_, _, _, h) => h }
  let s := (s.setBank core cluster 0 v).setBank core cluster 1
    { Vector.init with
      state := .loaded, transpose := true, gen := v.gen, n := v.n, driveAt := v.driveAt, flowAt := v.flowAt, number := v.number }
  s.withFab { s.fab with checks := s.fab.checks ++ dues }

/-- A transpose vector is loaded into both banks and runs (R78–R80, R99, R138): its last pass begins 128 ns before the cluster is free again,
and its last code comes 176 ns after that. -/
def State.loadTranspose (s : State) (o : TransposeOps) (cs : List XbCharges) (number : Nat) : State :=
  match s.readVec o.core o.src with
  | none => s
  | some (serial, first, vals) =>
    let gen := s.genOf o.core serial
    let c := s.image gen
    match (c.clustersAt o.core o.cluster).find? (·.matrix == o.matrix) with
    | none => s
    | some r =>
      let bs := gradBlocks c r first vals
      let s := if bs.any (·.2) then s.markNumeric serial else s
      let ref := s.refOn o.core serial
      let v : Vector := { Vector.init with
        state := .loaded, num := s.fab.vectors + 1, transpose := true, ref := ref, gen := gen, serial := serial
        owner := s.ownerOn o.core serial, blocks := bs.map fun b => some b.1, number := number }
      let xbs := s.planTranspose o.core o.cluster v r
      let n := maxN (1 :: ((xbs.filter (!·.standIn)).map (·.wins)).flatten)
      let free := max (s.bank o.core o.cluster 0).drainTo (s.bank o.core o.cluster 1).drainTo
      let start := max (s.driveFrom o.core o.cluster) (if s.now < free then free + 16 else 0)
      let v := { v with
        n := n, kRef := kRef (xbs.map fun x => (v.gradOf r x.col).2.1), xbs := xbs
        shadow := s.shadowPicks o.core o.cluster 512 512 xbs
        driveAt := start, flowAt := start + 512 * n + 48 }
      let s := (s.nextVector).rowSums o.core o.cluster v c r cs
      let s := (s.occupy o.core o.cluster (start + 512 * n)).countPasses o.core o.cluster n xbs
      let s := s.bookEnergy o.core serial (s.rd AMF_ENERGY_E0_E0T) xbs fun x => v.transposeDs r x.col
      s.standIns o.core o.cluster serial gen ref xbs

/-- The request of a load. -/
def State.loadSerial (s : State) : WaitLoad → Option Nat
  | .forward o => (match s.buf o.core o.src with | .a8 q _ _ _ => q | _ => none)
  | .transpose o _ => (s.readVec o.core o.src).bind (·.1)

/-- A load as it comes to its cluster (R24, R257–R259): requested by the launch that carries its work, and numbered among the vectors of its
cluster (R359). -/
def State.waitingOf (s : State) (l : WaitLoad) : Waiting :=
  let serial := s.loadSerial l
  let n := SMap.get 0 s.fab.issued (8 * l.core + l.cluster)
  match s.workLaunch l.core serial with
  | some x => ⟨l, x.id, x.fn, serial, n⟩
  | none => ⟨l, 0, 0, serial, n⟩

/-- A load's request at the arbiter, with the class and the burst limit in force now (R259, R260); its beats are counted when they are
driven. -/
def State.loadReq (s : State) (w : Waiting) : ArbReq :=
  s.arbReq (arbCluster w.load.core w.load.cluster) w.who (if w.who = 0 then 32 else w.fn) (s.prioOf w.serial) 0 0

/-- A load's residual entries: the first that its consumer does not see yet (R140). -/
def State.residualMissing (s : State) : WaitLoad → Option PreloadOps
  | .forward o => o.preloads.find? fun p =>
      let e := s.entry p.entry
      PreloadOps.takesResidual p && !(e.written && e.visible && !e.consumed && !e.taken.contains (8 * o.core + o.cluster))
  | .transpose _ _ => none

/-- The bank of a load holds no vector, both banks for a transpose vector (R138); its drain may still be under way. -/
def State.banksFree (s : State) (l : WaitLoad) : Bool :=
  let free (b : Nat) : Bool := (s.bank l.core l.cluster b).state == .free
  match l with
  | .forward o => free (SMap.get 0 s.fab.nextBank (8 * o.core + o.cluster))
  | .transpose _ _ => free 0 && free 1

/-- A bank that a load takes is still being drained (R143). -/
def State.draining (s : State) (l : WaitLoad) : Bool :=
  let busy (b : Nat) : Bool := (s.bank l.core l.cluster b).stateAt s.now == .draining
  match l with
  | .forward o => busy (SMap.get 0 s.fab.nextBank (8 * o.core + o.cluster))
  | .transpose _ _ => busy 0 || busy 1

/-- A granted load is made. -/
def State.makeLoad (s : State) (w : Waiting) : State :=
  match w.load with
  | .forward o => s.loadForward o w.number
  | .transpose o cs => s.loadTranspose o cs w.number

/-- The first waiting load of each requester of a cluster, oldest first. -/
def headsOf : List Waiting → List Waiting
  | [] => []
  | w :: t => w :: (headsOf t).filter (·.who != w.who)

/-- The cluster's arbiter (R257): its grant has ended once the cluster is idle, since the requester then asked for nothing (R258). -/
def State.clusterArb (s : State) (core cluster : Nat) : Arbiter :=
  let a := s.arb (arbCluster core cluster)
  if SMap.get 0 s.fab.busyUntil (8 * core + cluster) ≤ s.now then { a with grant := none } else a

/-- The probe of a cluster. -/
def State.probeOf (s : State) (core cluster : Nat) : ProbeRun := SMap.get ProbeRun.init s.fab.probes (8 * core + cluster)
/-- The probe of a cluster replaced. -/
def State.setProbe (s : State) (core cluster : Nat) (r : ProbeRun) : State :=
  s.withFab { s.fab with probes := SMap.put ProbeRun.init s.fab.probes (8 * core + cluster) r }

/-- A probe of a cluster is under way (R77). -/
def State.probing (s : State) (core cluster : Nat) : Bool :=
  let r := s.probeOf core cluster
  decide (0 < r.left) || r.starts.any fun a => decide (s.now < a + 64)

/-- The request of a cluster's probe (R257–R259): class 7, one pass to a grant, so that vectors go between its passes (R77).
DEDUCED (assumption log 47). -/
def probeReq : ArbReq := ⟨2 ^ 40, 32, 7, 7, 1, 1, 0⟩

/-- A probe pass is granted: it holds the cluster for 64 ns. -/
def State.grantPass (s : State) (core cluster : Nat) : State :=
  let r := s.probeOf core cluster
  let start := s.driveFrom core cluster
  let a := s.clusterArb core cluster
  let s := s.setProbe core cluster { r with left := r.left - 1, starts := r.starts ++ [start], tail := r.tail + 1 }
  (s.occupy core cluster (start + 64)).setArb (arbCluster core cluster) (a.take probeReq 1 (arbTicks (start + 64)))

/-- While a load waits, the probe passes that have not begun and that no vector follows go back to the arbiter (R77). -/
def State.recallPasses (s : State) (core cluster : Nat) : State :=
  let r := s.probeOf core cluster
  let back := (r.starts.drop (r.starts.length - r.tail)).filter fun a => decide (s.now < a)
  match back with
  | [] => s
  | a :: _ =>
    if !s.fab.waiting.any (Waiting.on core cluster) then s
    else
      let n := back.length
      (s.setProbe core cluster { r with
        left := r.left + n, starts := r.starts.take (r.starts.length - n), tail := r.tail - n }).occupy core cluster a

/-- A load that the arbiter grants is made; it holds the cluster for its pass intervals, two or four to a window (R24, R62, R79). -/
def State.grantLoad (s : State) (w : Waiting) : State :=
  let core := w.load.core
  let cluster := w.load.cluster
  let a := s.clusterArb core cluster
  let r := s.loadReq w
  let b := match w.load with
    | .forward _ => SMap.get 0 s.fab.nextBank (8 * core + cluster)
    | .transpose _ _ => 0
  let s := (s.withFab { s.fab with waiting := s.fab.waiting.erase w }).makeLoad w
  let v := s.bank core cluster b
  let s := s.setProbe core cluster { s.probeOf core cluster with tail := 0 }
  if v.state == .free then s
  else s.setArb (arbCluster core cluster)
    (a.take r ((if v.transpose then 4 else 2) * v.n) (arbTicks (SMap.get 0 s.fab.busyUntil (8 * core + cluster))))

/-- The first loads of a cluster's requesters whose residuals are there (R140, R258). -/
def State.readyLoads (s : State) (core cluster : Nat) : List Waiting :=
  (headsOf (s.fab.waiting.filter (Waiting.on core cluster))).filter fun w => (s.residualMissing w.load).isNone

/-- What a cluster's arbiter grants now (R24, R257, R258): the first load of a requester whose residuals are there, or the probe's next pass; a
load whose bank is not FREE lets the probe go before it. -/
def State.clusterNext (s : State) (core cluster : Nat) : Option (Option Waiting) :=
  let ready := s.readyLoads core cluster
  let pass : Option (Option Waiting) := if 0 < (s.probeOf core cluster).left then some none else none
  match (s.clusterArb core cluster).next (ready.map s.loadReq ++ if pass.isSome then [probeReq] else []) with
  | none => none
  | some r =>
    match ready.find? fun w => (s.loadReq w).who == r.who with
    | none => pass
    | some w => if s.banksFree w.load then some (some w) else pass

/-- The loads and the probe that wait on a cluster go on (R24, R77, R138, R140).  A load whose bank is not FREE keeps the other loads waiting; the
sequencer waits on the residual of the oldest load. DEDUCED (assumption log 41). -/
def State.goCluster (s : State) (core cluster : Nat) : Nat → State
  | 0 => s
  | fuel + 1 =>
    let s := match s.fab.waiting.find? (Waiting.on core cluster) with
      | some w => (match s.residualMissing w.load with
        | some p => (s.reach core p.entry p.slot).2
        | none => s)
      | none => s
    match s.clusterNext core cluster with
    | none => s
    | some none => (s.grantPass core cluster).goCluster core cluster fuel
    | some (some w) => (s.grantLoad w).goCluster core cluster fuel

/-- Turns that grant everything a cluster may be granted at one instant: two banks and a probe's 16 passes. -/
def clusterTurns : Nat := 20

/-- A cluster's waiting loads go on, before the passes of a probe that have not begun. -/
def State.goWaiting (s : State) (core cluster : Nat) : State := (s.recallPasses core cluster).goCluster core cluster clusterTurns

/-- Every waiting load that can go on does so. -/
def State.goLoads (s : State) : State :=
  forEach ((s.fab.waiting.map fun w => (w.load.core, w.load.cluster)).eraseDups) s fun s c => s.goWaiting c.1 c.2

/-- A load comes to its cluster (R138): it is made where the arbiter grants it and its bank is FREE; else it waits, and a wait for a
bank is counted. -/
def State.tryLoad (s : State) (l : WaitLoad) : State :=
  let w := s.waitingOf l
  let waits := s.draining l
  let s := s.withFab { s.fab with
    waiting := s.fab.waiting ++ [w], issued := SMap.put 0 s.fab.issued (8 * l.core + l.cluster) (w.number + 1) }
  let s := s.goWaiting l.core l.cluster
  if waits || (s.fab.waiting.contains w && !s.banksFree l) then s.count ACR_BANK_WAIT_CNT_COUNT else s

/-- VECTOR_LOAD (R91). -/
def execVectorLoad (t : Nat) (o : VectorOps) (s : State) : Host.Outcome State Fault Refusal :=
  let s := s.advance t
  if !s.clusterBound o.core o.cluster || 512 ≤ o.core then .next s else .next (s.tryLoad (.forward o))

/-- TRANSPOSE_VECTOR (R78, R138): loaded only when both banks are free; else its load waits and is counted. -/
def execTransposeVector (t : Nat) (o : TransposeOps) (charges : List XbCharges) (s : State) : Host.Outcome State Fault Refusal :=
  let s := s.advance t
  if !s.clusterBound o.core o.cluster || 512 ≤ o.core then .next s else .next (s.tryLoad (.transpose o charges))

/-- A queue entry is written, and loads that waited for it go on (R16, R140). -/
def State.putEntry (s : State) (addr slot fn job : Nat) (bytes : List Byte) (driven : List Bool := []) : State :=
  (s.writeEntry addr slot fn job bytes driven).goLoads

/-- QUEUE_ENTRY_WRITE (R16). -/
def execQueueEntryWrite (t addr slot fn job : Nat) (bytes : List Byte) (s : State) : Host.Outcome State Fault Refusal :=
  .next ((s.advance t).putEntry addr slot fn job bytes)

/-- The loads of a core are dropped with its banks at a reset (R146): where the cluster becomes free in that very cycle and its arbiter grants
it to one of them, it stays idle for the cycle (R258). DEDUCED (assumption log 61). -/
def State.dropLoads (s : State) (core : Nat) : State :=
  let dead := (List.range 8).filter fun c =>
    SMap.get 0 s.fab.busyUntil (8 * core + c) == s.now && (match s.clusterNext core c with | some (some _) => true | _ => false)
  (s.withFab { s.fab with waiting := s.fab.waiting.filter (·.load.core != core) }).count TWS_DEAD_CYCLE_CNT_COUNT dead.length

/-- A core is reset, by a partition reset or a change of its site (R412, R413, R456): its sequencer, barriers, queues, banks,
waiting loads, buffers and due checks are cleared. -/
def State.resetCore (s : State) (core : Nat) : State :=
  let s := (s.clearCore core).dropLoads core
  s.withFab { s.fab with
    banks := s.fab.banks.filter fun e => e.1 / 16 != core
    nextBank := s.fab.nextBank.filter fun e => e.1 / 8 != core
    busyUntil := s.fab.busyUntil.filter fun e => e.1 / 8 != core
    issued := s.fab.issued.filter fun e => e.1 / 8 != core
    probes := s.fab.probes.filter fun e => e.1 / 8 != core
    checks := s.fab.checks.filter (·.core != core)
    bufs := s.fab.bufs.filter fun e => e.1 / 65536 != core }

end Sys2Proof.Machine
end

