-- ==== Sys2Proof/Machine/Track.lean ====
section
/-! DEFINITION. Continuous tracking of the converter slices and the recomputation of drift
(spec/04_column_conversion.md R94–R98, spec/05_welt.md R114, R115), and the meanings of their commands. -/

namespace Sys2Proof.Machine

/-- The crossbar positions that a placement uses (R211, R216): rows 0 to XB_ROWS − 1 of each record's crossbar columns. -/
def ObjContent.positions (c : ObjContent) : List Nat :=
  (c.clusters.map fun r => ((List.range r.xbRows).map fun i =>
    (natsFrom r.xbCol0 r.xbCols).map fun j => posOf r.core r.cluster i j).flatten).flatten

/-- The placements in force: the current generation's, the old one's, and that of a bind in progress. -/
def State.placements (s : State) : List ObjContent :=
  let of (n : Nat) : ObjContent := (SMap.get ObjSlot.init s.lst.slots n).content
  (match s.lst.current with | some (n, _) => [of n] | none => [])
    ++ (match s.lst.swap with | some w => [of w.slot, of w.oldSlot] | none => [])
    ++ (match s.lst.bind with | some b => [of b.slot] | none => [])

/-- A logical position belongs to a placement in force. -/
def State.positionUsed (s : State) (p : Nat) : Bool :=
  s.placements.any fun c => c.clusters.any fun r =>
    r.core == posCore p && r.cluster == posCluster p && decide (posRow p < r.xbRows)
      && decide (r.xbCol0 ≤ posCol p) && decide (posCol p < r.xbCol0 + r.xbCols)

/-- The logical position that a physical crossbar serves (R69): its own, or for a spare the one of its column that moved to
it; none for a crossbar of a site that serves no core. -/
def State.logicalOf (s : State) (phys : Nat) : Option Nat :=
  let p := posOf (posCore phys) (posCluster phys) (posRow phys) (posCol phys)
  if phys ≠ p + s.siteBase (posCore phys) then none
  else if posRow p = 8 then (columnRows p).find? fun q => SMap.get false s.lst.onSpare q
  else if SMap.get false s.lst.onSpare p then none else some p

/-- A physical crossbar holds or will hold bound content. -/
def State.xbUsed (s : State) (phys : Nat) : Bool :=
  match s.logicalOf phys with
  | some p => s.positionUsed p
  | none => false

/-- Tracking of a physical crossbar replaced. -/
def State.setTrk (s : State) (p : Nat) (t : XbTrk) : State :=
  s.withFab { s.fab with track := SMap.put XbTrk.init s.fab.track p t }
/-- Correction state of a physical crossbar replaced. -/
def State.setCorr (s : State) (p : Nat) (c : XbCorr) : State :=
  s.withFab { s.fab with corr := SMap.put XbCorr.init s.fab.corr p c }

/-- The slice of visit `n` of a round (R94): C0–C15, CT, then RS0–RS7, numbered as in CCV_TRK_SEL. -/
def visitSlice (n : Nat) : Nat := if n ≤ 16 then n else n + 1

/-- The first round of a crossbar since reset is complete: RS7 has been visited (R98). -/
def XbTrk.firstRound (t : XbTrk) : Bool := decide (0 < (SMap.get SliceTrk.init t.slices 25).visits)

/-- CCV_TRACK_CTRL.PERIOD as it applies, in ns (R94, R98): 0 in the power-up round and on the return from MP1. -/
def State.trackPeriod (s : State) (t : XbTrk) : Nat :=
  if !t.firstRound || s.rd PTM_PSTATE_STATE != 0 then 0 else max 100 (s.rd CCV_TRACK_CTRL_PERIOD) * 1000

/-- A stored value brought to a measured one that is `num / den` (R95): the value itself at the first visit, an eighth of the
way afterwards; held at ±64, with whether it passed the limit. DEDUCED (assumption log 39). -/
def trackStep (first : Bool) (v num : Int) (den : Nat) : Int × Bool :=
  let x := if first then divAway num den else v + divAway (num - v * den) (8 * den)
  (clampI (-64) 64 x, decide (x < -64) || decide (64 < x))

/-- The tracking values of a slice after a visit's ladder set (R95), and how many of its values were stored at a limit.
DEDUCED (assumption log 39). -/
def SliceTrk.visit (v : SliceTrk) (l : List Ladder) : SliceTrk × Nat :=
  let first := v.visits == 0
  let z : Ladder := ⟨0, 0, 0⟩
  let os := (List.range 5).map fun i => trackStep first (nth 0 v.ofs i) (nth z l i).zero 2
  let top := nth z l 4
  let g := trackStep first v.gain (top.plus - top.minus - 12288) 3
  let n := ((os.filter (·.2)).length) + b2n g.2
  (⟨os.map (·.1), g.1, min 4095 (v.visits + 1), decide (0 < n)⟩, n)

/-- A visit's update of a slice is formed (R95): it waits for the next slot boundary; each value stored at a limit counts, and
the slice is reported as suspect. -/
def State.trackUpdate (s : State) (phys k : Nat) (l : List Ladder) : State :=
  let t := s.trk phys
  let v := match t.waiting.find? (·.1 == k) with
    | some w => w.2
    | none => SMap.get SliceTrk.init t.slices k
  let (v', n) := v.visit l
  let t := { t with waiting := t.waiting.filter (·.1 != k) ++ [(k, v')] }
  let s := s.setTrk phys t
  if n = 0 then s
  else
    let s := s.count CCV_TRK_LIMIT_CNT_COUNT n
    let core := posCore phys
    let s := s.logEvent { EventRec.blank 0x13 0 with
      core := some core, where_ := posWhere phys + 1024 * k
      detail := [k, toCode 32 (nth 0 v'.ofs 4), toCode 32 v'.gain] }
    s.suspect core 16 (match s.logicalOf phys with | some p => .slice p k | none => .core)

/-- Tracking updates and recomputed drift and temperature take effect (R95, R115): at a slot boundary. -/
def State.applyTracking (s : State) : State :=
  let track := SMap.mapVals XbTrk.init (fun _ t => { t with
    slices := t.waiting.foldl (fun m w => SMap.put SliceTrk.init m w.1 w.2) t.slices
    waiting := [] }) s.fab.track
  let corr := SMap.mapVals XbCorr.init (fun _ c => { c with
    drift := c.driftNew.getD c.drift, driftNew := none }) s.fab.corr
  let tx := s.ptm.txNew.foldl (fun m e => match e.2 with | some v => SMap.put 0 m e.1 v | none => m) s.ptm.tx
  (s.withFab { s.fab with track := track, corr := corr }).withPtm { s.ptm with tx := tx, txNew := [] }

/-- With the wheel stopped no boundary is waited for (R244). -/
def State.trackNow (s : State) : State := if s.running then s else s.applyTracking

/-- A vector's passes run on a cluster now (R62, R79): the swap of slices waits for their end (R94). -/
def State.driving (s : State) (core cluster : Nat) : Bool :=
  [0, 1].any fun b =>
    let v := s.bank core cluster b
    v.state != .free && decide (v.driveAt < s.now) && decide (s.now < v.driveAt + (if v.transpose then 512 else 128) * v.n)

/-- A transpose vector is on a cluster. DEDUCED (assumption log 39). -/
def State.transposing (s : State) (core cluster : Nat) : Bool :=
  [0, 1].any fun b => let v := s.bank core cluster b; v.transpose && v.state != .free && v.state != .complete

/-- LST lasts a physical crossbar now: its slices serve the verify reads, and visits on it are suspended (R98). -/
def State.lastedNow (s : State) (phys : Nat) : Bool :=
  s.lst.lastings.any fun l => s.lastPhys l == phys

/-- Visits run on a crossbar (R94, R98): it is used, not being lasted, and tracking is enabled or its first round or the round
after MP1 runs. -/
def State.visitsRun (s : State) (phys : Nat) : Bool :=
  s.xbUsed phys && !s.lastedNow phys
    && (s.bit CCV_TRACK_CTRL_EN || !(s.trk phys).firstRound || s.rd PTM_PSTATE_STATE == 3)
    && s.rd PTM_PSTATE_STATE != 1 && s.rd PTM_PSTATE_STATE != 2

/-- The number of the next visit: a crossbar whose slice CS has replaced skips its column side (R97). -/
def XbTrk.nextVisit (t : XbTrk) : Nat := if t.replaced.isSome && decide (t.next < 17) then 17 else t.next

/-- TRACK_VISIT (R94): CS starts a visit of the crossbar's next slice by converting the ladder set, which updates CS's own
values; a row-side slice is converted directly, once no transpose vector is on the cluster. -/
def execTrackVisit (t phys : Nat) (cs : List Ladder) (s : State) : Host.Outcome State Fault Refusal :=
  let s := s.advance t
  let x := s.trk phys
  let n := x.nextVisit
  if !s.visitsRun phys || x.visit.isSome || (x.last != 0 && decide (s.now < x.last + s.trackPeriod x))
      || (decide (17 ≤ n) && s.transposing (posCore phys) (posCluster phys)) then .next s
  else
    let s := s.setTrk phys { x with visit := some (visitSlice n, false), next := n, last := s.now }
    .next (if n ≤ 16 then (s.trackUpdate phys 17 cs).trackNow else s)

/-- A vector whose first drive is still to come is converted by the slices of its drive (R94): CS's place follows the swap. -/
def Vector.respare (v : Vector) (now phys : Nat) (spare : Option Nat) : Vector :=
  if v.driveAt < now then v
  else { v with xbs := v.xbs.map fun x => if x.phys = phys then { x with spare := spare } else x }

/-- The vectors of a crossbar's cluster that have not begun to drive follow a swap of slices (R94). -/
def State.respare (s : State) (phys : Nat) : State :=
  let core := posCore phys
  let cluster := posCluster phys
  forEach [0, 1] s fun s b => s.setBank core cluster b ((s.bank core cluster b).respare s.now phys (s.trk phys).spare)

/-- TRACK_SWAP_IN (R94): between vectors, CS takes the visited slice's columns, while visits run on the crossbar (R98). -/
def execTrackSwapIn (t phys : Nat) (s : State) : Host.Outcome State Fault Refusal :=
  let s := s.advance t
  let x := s.trk phys
  match x.visit with
  | some (k, false) =>
    if 17 ≤ k || !s.visitsRun phys || s.driving (posCore phys) (posCluster phys) then .next s
    else .next ((s.setTrk phys { x with visit := some (k, true) }).respare phys)
  | _ => .next s

/-- The used physical crossbars on which visits run. -/
def State.trackedXbs (s : State) : List Nat :=
  (s.placements.map ObjContent.positions).flatten.map s.physPos

/-- A round of visits is complete on a crossbar; once every crossbar on which visits run has completed one, CCV_TRK_ROUND
rises (R103). -/
def State.roundDone (s : State) (phys : Nat) : State :=
  let s := s.setTrk phys { s.trk phys with round := true }
  if s.trackedXbs.all fun p => !s.visitsRun p || (s.trk p).round then
    let s := (s.count CCV_TRK_ROUND_COUNT).withPtm { s.ptm with roundDue := false }
    s.withFab { s.fab with track := SMap.mapVals XbTrk.init (fun _ t => { t with round := false }) s.fab.track }
  else s

/-- TRACK_SWAP_OUT (R94): between vectors, the visited slice is reconnected and its values are updated from its ladder set; where visits
have stopped meanwhile, by EN = 0 or MP1, the stored values are kept (R98). DEDUCED (assumption log 39). -/
def execTrackSwapOut (t phys : Nat) (l : List Ladder) (s : State) : Host.Outcome State Fault Refusal :=
  let s := s.advance t
  let x := s.trk phys
  match x.visit with
  | none => .next s
  | some (k, swapped) =>
    if s.lastedNow phys || s.driving (posCore phys) (posCluster phys) then .next s
    else if !s.visitsRun phys then .next ((s.setTrk phys { x with visit := none }).respare phys)
    else if k ≤ 16 && !swapped then .next s
    else
      let n := (x.next + 1) % 25
      let s := ((s.setTrk phys { x with visit := none, next := n }).respare phys).trackUpdate phys k l
      .next (if n = 0 then s.trackNow.roundDone phys else s.trackNow)

/-- The age of a crossbar's content in ns (R114). -/
def State.xbAge (s : State) (c : XbCorr) : Nat := ((s.now : Int) - c.lastedAt).toNat

/-- Bits after the point of a logarithm to base 2 (R114): each squaring of a fixed-point number of 32 fraction bits in [1, 2)
gives one. -/
def log2Bits : Nat → Nat → Nat
  | 0, _ => 0
  | n + 1, x =>
    let y := x * x / 2 ^ 32
    if 2 ^ 33 ≤ y then 2 ^ n + log2Bits n (y / 2) else log2Bits n y

/-- log2(a / b) in 2^-16 for `b ≤ a`, rounded down. DESIGN CHOICE (assumption log 60). -/
def log2Ratio (a b : Nat) : Nat :=
  if b = 0 then 0 else 65536 * Nat.log2 (a / b) + log2Bits 16 (a * 2 ^ 32 / (b * 2 ^ Nat.log2 (a / b)))

/-- The drift r_x of a physical crossbar in 2^-16 (R114), held at 2^-3; the product with the logarithm is rounded to its unit, which the spec
leaves open, to nearest with ties to even. DESIGN CHOICE (assumption log 60). -/
def State.driftOf (s : State) (phys : Nat) : Nat :=
  let c := s.corr phys
  let a := s.xbAge c
  min 8192 (c.rho + if c.probeAge < a then divEvenN (Config.driftCoeff phys * log2Ratio a c.probeAge) (2 ^ 24) else 0)

/-- A position is asked for refresh for a reason of R232, with the ρ_x it now has and those of conditions 2 and 3 that hold; a request
already queued keeps the earlier reason, the newest ρ_x and every condition that has held. -/
def State.askRefresh (s : State) (p order rho : Nat) (failed : List Nat) : State :=
  match s.lst.refreshQ.find? (·.pos == p) with
  | some r =>
    let r : Refresh := ⟨p, min r.order order, rho, (r.failed ++ failed).eraseDups⟩
    s.withLst { s.lst with refreshQ := updFirst (·.pos == p) (fun _ => r) s.lst.refreshQ }
  | none => s.withLst { s.lst with refreshQ := s.lst.refreshQ ++ [⟨p, order, rho, failed⟩] }

/-- The welt recomputes one crossbar's drift (R114, R115): in force at the next boundary; at 2^-3 LST is asked to relast it. -/
def State.recomputeDrift (s : State) (phys : Nat) : State :=
  let r := s.driftOf phys
  let s := s.setCorr phys { s.corr phys with driftNew := some r }
  if r = 8192 then
    match s.logicalOf phys with
    | some p => s.askRefresh p 1 (s.corr phys).rho []
    | none => s
  else s

/-- The physical crossbars that have a drift (R115): those ever lasted or probed, and those in use. -/
def State.driftXbs (s : State) : List Nat := ((s.fab.corr.map (·.1)) ++ s.trackedXbs).eraseDups

/-- WLT_DRIFT_UPDATE (R115): every WLT_DRIFT_CTRL.PERIOD ms, of which 0 applies as 1, every r_x is recomputed. -/
def execWltDriftUpdate (t : Nat) (s : State) : Host.Outcome State Fault Refusal :=
  let s := s.advance t
  if s.now < s.fab.driftAt + max 1 (s.rd WLT_DRIFT_CTRL_PERIOD) * 1000000 then .next s
  else
    let s := s.withFab { s.fab with driftAt := s.now }
    .next (forEach s.driftXbs s State.recomputeDrift).trackNow

end Sys2Proof.Machine
end

