-- ==== Sys2Proof/Machine/Verify.lean ====
section
/-! DEFINITION. The targets and verify windows of a crossbar's cells, the readings of lasting and of the verify pass
(spec/03_analogue_fabric.md R51, R53, R54, R72, spec/09_weights_and_lasting.md R219, R224). -/

namespace Sys2Proof.Machine

/-- The nominal conductance of a level in nS (R53); level 0, which the spec gives only as below 200 nS, counts as 0.
DESIGN CHOICE (assumption log 60). -/
def nominal (l : Nat) : Nat := 5000 * l

/-- The level sum, in 1/64 level, that a logical line holds in a row (R51, R55–R57, R72): a weight column its level, reference column
528 + L the level L, tally column 532 + g the sum over its group. -/
def XbCells.sixtyFourths (x : XbCells) (row col : Nat) : Nat :=
  if col < 512 then 64 * x.level row col
  else if col < 532 then 64 * (col - 528)
  else x.groupLevels row (col - 532)

/-- The target of a cell in 1/64 nS (R53, R54, R72). -/
def XbCells.target (x : XbCells) (row col : Nat) : Nat := nominal (x.sixtyFourths row col)

/-- The verify window of a cell in 1/64 nS (R53, R54): at most 400 nS for a weight or reference cell at level 0, else 250 nS on either
side of its target. -/
def XbCells.window (x : XbCells) (row col : Nat) : Nat × Nat :=
  let t := x.target row col
  if col < 532 && t == 0 then (0, 64 * 400) else (t - 64 * 250, t + 64 * 250)

/-- A conductance, given in 1/64 nS over `den`, lies within a cell's window widened on each side by `widen` nS, once divided by the
ratio `num / den` (R219, R224). -/
def XbCells.within (x : XbCells) (row col g num den widen : Nat) : Bool :=
  let w := x.window row col
  decide ((w.1 - 64 * widen) * num ≤ g * den) && decide (g * den ≤ (w.2 + 64 * widen) * num)

/-- A cell's reading after its last iteration lies outside its window (R219). -/
def XbCells.misses (x : XbCells) (r : CellRead) : Bool := !x.within r.row r.col (64 * r.conductance) 1 1 0

/-- The least of a list of numbers. -/
def leastOf : List Nat → Option Nat
  | [] => none
  | a :: t => some (t.foldl min a)

/-- The logical columns of the failing cells of a row, one for each physical row in turn that did not converge (R222). -/
def XbCells.rowFails (x : XbCells) (reads : List CellRead) (row : Nat) : Nat → Nat → List Nat
  | 0, _ => []
  | fuel + 1, k =>
    match leastOf ((reads.filter fun r => r.row == row && r.attempt == k && x.misses r).map (·.col)) with
    | none => []
    | some c => c :: x.rowFails reads row fuel (k + 1)

/-- The rows that did not converge within 12 iterations, ascending, each with its first failing cell's column (R219, R222); a row
stands once more for each spare row that failed in its place. DESIGN CHOICE (assumption log 60). -/
def XbCells.failing (x : XbCells) (reads : List CellRead) : List (Nat × Nat) :=
  ((List.range 512).map fun i => (x.rowFails reads i 17 0).map fun c => (i, c)).flatten

/-- A cell's verify reading in 2^-22 nS (R224): as listed, else its target less the crossbar's common fall. -/
def XbCells.reading (x : XbCells) (v : VerifyRead) (row col : Nat) : Nat :=
  match v.reads.find? fun r => r.row == row && r.col == col with
  | some r => 2 ^ 22 * r.conductance
  | none => x.target row col * (65536 - v.fall)

/-- ρ̂ of R224 as a ratio 1 − ρ̂: the reference cells' sum over their nominal sum, held to [7/8, 1]. -/
def XbCells.verifyRatio (x : XbCells) (v : VerifyRead) : Nat × Nat :=
  let sum := sumN ((List.range 512).map fun i => sumN ((List.range 4).map fun l => x.reading v i (528 + l)))
  let nom := 65536 * sumN ((List.range 4).map fun l => 512 * (64 * nominal l))
  if nom ≤ sum then (1, 1) else if 8 * sum ≤ 7 * nom then (7, 8) else (sum, nom)

/-- The logical lines of a crossbar: weight, reference and tally columns (R51). -/
def cellLines : List Nat := List.range 512 ++ natsFrom 528 12

/-- A crossbar passes the verify pass (R224). -/
def XbCells.verified (x : XbCells) (v : VerifyRead) (widen : Nat) : Bool :=
  let q := x.verifyRatio v
  (List.range 512).all fun i => cellLines.all fun j => x.within i j (x.reading v i j) (65536 * q.1) q.2 widen

/-- The cells of a position in an image. -/
def ObjContent.cellsAt (c : ObjContent) (p : Nat) : XbCells := c.cells (posCore p) (posCluster p) (posRow p) (posCol p)

/-- Positions, each with its cells, that the verify pass finds with a failing cell (R224): LST_VERIFY_CTRL.WIDEN is in 10 nS.  A
position with no reading reads at its targets. -/
def State.verifyFails (s : State) (cells : Nat → XbCells) (vs : List VerifyRead) (ps : List Nat) : List Nat :=
  ps.filter fun p => vs.any fun v => v.pos == p && !(cells p).verified v (10 * s.rd LST_VERIFY_CTRL_WIDEN)

end Sys2Proof.Machine
end

