-- ==== Sys2Proof/Machine/Loader.lean ====
section
/-! DEFINITION. Loading, checking, binding, swapping and adapters (spec/09_weights_and_lasting.md R206–R218, R225–R230;
spec/13_links.md R346, R347). -/

namespace Sys2Proof.Machine

/-- The completion of a weight or object request (R276, R277). -/
def State.answerOwner (s : State) (o : Owner) (op : Op) (st : Status) (time d0 : Nat) : State :=
  s.complete o.queue o.serial ⟨o.tag, st.code, op.code, 0, 0, time, d0, 0⟩

/-- The request of a fetched entry. -/
def ownerOf (h : EntryHdr) (serial : Nat) : Owner := ⟨serial, h.fn, h.queue, h.tag⟩

/-- The bank of a queue pair's registers. DESIGN CHOICE (assumption log 18). -/
def qpBank (port qp : Nat) : Nat := 64 * port + qp

/-- A queue pair carries reads of a function (R346): in RTS, the function's own, on an enabled port. -/
def State.qpReady (s : State) (f port qp : Nat) : Bool :=
  s.rd LNK_Ss_QP_CTRL_STATE (qpBank port qp) == 1 && s.rd LNK_Ss_QP_CTRL_OWNER (qpBank port qp) == f
    && s.bit LNK_Ss_CTRL_EN port

/-- The object is named by a bind or swap in progress (R208). -/
def State.objBusy (s : State) (n : Nat) : Bool :=
  (match s.lst.bind with | some b => b.slot == n | none => false)
    || (match s.lst.swap with | some w => w.slot == n | none => false)

/-- Whether R208 lets a LOAD_OBJECT of a function take a slot. -/
def State.slotAvailable (s : State) (f n : Nat) : Bool :=
  let o := s.obj n
  match o.state with
  | .empty => true
  | .checked | .bad => o.fn == f && !s.objBusy n
  | _ => false

/-- READs are issued up to 16 outstanding (R345, R347): the manifest alone first (R215), then 1 MiB at a time; each with its offset and
length. -/
def Loading.issue (l : Loading) : Nat → Loading × List (Nat × Nat)
  | 0 => (l, [])
  | k + 1 =>
    let o := l.ops
    if 16 ≤ l.outstanding.length || o.length ≤ l.issued || (l.issued ≠ 0 && l.next < 4096) then (l, [])
    else
      let n := if l.issued = 0 then 4096 else min 1048576 (o.length - l.issued)
      let (l', t) := Loading.issue { l with outstanding := l.outstanding ++ [(l.issued, n)], issued := l.issued + n } k
      (l', (l.issued, n) :: t)

/-- The path MTU of a queue pair in bytes (R345, R346). -/
def State.qpMtu (s : State) (port qp : Nat) : Nat := 512 * 2 ^ s.rd LNK_Ss_QP_CTRL_MTU (qpBank port qp)

/-- The VLAN tag of a port's frames, where they carry one (R344): PCP and VID. -/
def State.vlanTag (s : State) (port : Nat) : Option Nat :=
  if s.bit LNK_Ss_CTRL_VLAN_EN port then some (s.rd LNK_Ss_VLAN_VID port + 8192 * s.rd LNK_Ss_VLAN_PCP port) else none

/-- The READ requests of offsets and lengths of a load, their response packets numbered on from `psn` (R345), and the number that follows:
each response packet but a READ's last carries an MTU of bytes. -/
def State.readReqs (s : State) (port : Nat) (o : LoadOps) (psn : Nat) : List (Nat × Nat) → List ReadReq × Nat
  | [] => ([], psn)
  | (a, n) :: t =>
    let mtu := s.qpMtu port o.qp
    let (l, last) := State.readReqs s port o ((psn + ceilDiv n mtu) % 2 ^ 24) t
    (⟨port, o.qp, o.rkey, o.remoteAddr + a, n, s.rd LNK_Ss_QP_DQPN_QPN (qpBank port o.qp), mtu, psn, s.vlanTag port,
      s.rd LNK_Ss_CTRL_DSCP port⟩ :: l, last)

/-- A storage port sends (R344, R347): its link is up and no flow control pauses it. -/
def State.portSends (s : State) (port : Nat) : Bool :=
  s.bit LNK_Ss_STATUS_LINK_UP port && decide (SMap.get 0 s.lnk.pausedTo port ≤ s.now)

/-- READs leave through a port, or wait for it (R344, R347). -/
def State.sendReads (s : State) (port : Nat) (rs : List ReadReq) : State :=
  s.withLnk (if s.portSends port then { s.lnk with reads := s.lnk.reads ++ rs } else { s.lnk with readsHeld := s.lnk.readsHeld ++ rs })

/-- READs that waited for a port leave once it sends again (R344, R347). DEDUCED (assumption log 48). -/
def State.flushReads (s : State) (port : Nat) : State :=
  if s.portSends port then s.withLnk { s.lnk with
    reads := s.lnk.reads ++ s.lnk.readsHeld.filter (·.port == port)
    readsHeld := s.lnk.readsHeld.filter (·.port != port) }
  else s

/-- READs of a queue pair that wait are given up with their loads. -/
def State.dropHeldReads (s : State) (port qp : Nat) : State :=
  s.withLnk { s.lnk with readsHeld := s.lnk.readsHeld.filter fun r => !(r.port == port && r.qp == qp) }

/-- The load in progress on a queue pair: the oldest accepted (R347). DEDUCED (assumption log 49). -/
def State.loadOn (s : State) (port qp : Nat) : Option (Nat × Loading) :=
  s.lst.loads.findSome? fun n => match (s.obj n).loading with
    | some l => if l.ops.port = port && l.ops.qp = qp then some (n, l) else none
    | none => none

/-- The loads of a queue pair, oldest first. -/
def State.loadsOn (s : State) (port qp : Nat) : List (Nat × Loading) :=
  s.lst.loads.filterMap fun n => match (s.obj n).loading with
    | some l => if l.ops.port = port && l.ops.qp = qp then some (n, l) else none
    | none => none

/-- The load in progress of a queue pair in RTS sends its READs (R346, R347). DEDUCED (assumption log 49). -/
def State.pumpReads (s : State) (port qp : Nat) : State :=
  let k := qpBank port qp
  let s := s.flushReads port
  match s.loadOn port qp with
  | none => s
  | some (n, l) =>
    if s.rd LNK_Ss_QP_CTRL_STATE k ≠ 1 then s
    else
      let (l, es) := l.issue 17
      if es.isEmpty then s
      else
        let (rs, psn) := s.readReqs port l.ops (SMap.get 0 s.lnk.psnNext k) es
        let s := (s.setObj n { s.obj n with loading := some l }).sendReads port rs
        s.withLnk { s.lnk with psnNext := SMap.put 0 s.lnk.psnNext k psn, progress := SMap.put 0 s.lnk.progress k s.now }

/-- A load leaves its slot and its queue pair; the next load of the queue pair goes on. -/
def State.endLoad (s : State) (n : Nat) (o : ObjSlot) (st : Status) (d0 : Nat) : State :=
  match (s.obj n).loading with
  | none => s
  | some l =>
    let s := s.setObj n { o with loading := none }
    let s := s.withLst { s.lst with loads := s.lst.loads.filter (· != n) }
    (s.answerOwner l.owner .loadObject st s.now d0).pumpReads l.ops.port l.ops.qp

/-- A load fails at a check (R215): BAD, counted, BAD_IMAGE. -/
def State.loadBad (s : State) (n : Nat) : State :=
  (s.count LST_BAD_IMAGE_CNT_COUNT).endLoad n { ObjSlot.init with state := .bad, fn := (s.obj n).fn } .badImage 0

/-- A load ends without a verdict on the object: the slot is EMPTY (R208). -/
def State.loadEmpty (s : State) (n : Nat) (st : Status) : State := s.endLoad n ObjSlot.init st 0

/-- LOAD_OBJECT (R208, R271). DEDUCED (assumption log 46). -/
def State.submitLoad (s : State) (h : EntryHdr) (o : LoadOps) : State :=
  let (n, s) := s.newEntry h
  let no (st : Status) : State := s.answer h n .loadObject st
  if !h.rsvZero then no .badOpcode
  else if s.bit SMS_STATUS_MODULE_FAULT then no .jobFault
  else if !s.slotAvailable h.fn o.slot || !s.qpReady h.fn o.port o.qp then no .badHandle
  else if !s.bit LST_CTRL_EN then no .badOpcode
  else if o.length = 0 then no .ok
  else if 2 ^ 40 < o.length || s.objFree < o.length then no .lengthExceeds
  else if o.length < 4096 then no .badImage
  else
    let l : Loading := ⟨ownerOf h n, o, [], [], 0, [], 0⟩
    let s := s.setObj o.slot { ObjSlot.init with state := .loading, fn := h.fn, loading := some l }
    (s.withLst { s.lst with loads := s.lst.loads ++ [o.slot] }).pumpReads o.port o.qp

/-- Steps 1 and 2 of R215 once the manifest is there: none where the load goes on, else how it ends. -/
def State.manifestStep (s : State) (n : Nat) (l : Loading) : State :=
  let o := s.obj n
  let b := l.bytes.take 4096
  let m := manifestOf b
  if !s.manifestOk b l.ops.length then s.loadBad n
  else if !m.dirOk (numAt b 12 4) || (o.fn != 0 && m.kind != 2) then s.loadBad n
  else if s.objFree < m.resident || (o.fn != 0 && decide (s.rd LST_FN_OBJ_LIMIT_MIB o.fn * 2 ^ 20 < s.fnObjUse o.fn + m.resident)) then
    s.loadEmpty n .quota
  else
    s.setObj n { o with
      size := m.resident
      content := { ObjContent.init with manifest := some m, raw := b }
      loading := some { l with left := sortDir m.dir } }

/-- Step 3 of R215: every section whose last byte has come is read and checked. -/
def State.sectionSteps (s : State) (n : Nat) : List DirEntry → State
  | [] => s
  | d :: t =>
    let o := s.obj n
    match o.loading with
    | none => s
    | some l =>
      if l.next < d.offset + d.length then s
      else
        match readSection o.content d (sliceOf l.bytes d.offset d.length) with
        | none => s.loadBad n
        | some c => (s.setObj n { o with content := c, loading := some { l with left := t } }).sectionSteps n t

/-- Bytes written to an object slot's space in tier B, from an offset on. -/
def State.writeObj (s : State) (slot offset : Nat) (data : List Byte) : State :=
  forEach data.zipIdx s fun s e => s.writeByte .tierB (s.objAddr slot 0 (offset + e.2)) e.1

/-- Bytes of the load in progress arrive in order (R215, R347): they pass through CST into the slot's space in tier B, class-7 work of the
loading function (R259, R375, R384). -/
def State.loadBytes (s : State) (n : Nat) (data : List Byte) : State :=
  let o := s.obj n
  match o.loading with
  | none => s
  | some l =>
    let had := decide (4096 ≤ l.next)
    let k := data.length
    let out := match l.outstanding with
      | (a, m) :: t => if m ≤ k then t else (a + k, m - k) :: t
      | [] => []
    let l := { l with bytes := l.bytes ++ data, next := l.next + k, outstanding := out }
    let s := (s.setObj n { o with loading := some l }).writeObj n (l.next - k) data
    let s := ((s.stage whoLst o.fn 7 k).useTier true o.fn 7 (s.objAddr n 0 (l.next - k)) k).chargeTier o.fn true k
    let s := if !had && 4096 ≤ l.next then s.manifestStep n l else s
    match (s.obj n).loading with
    | none => s
    | some l => (s.sectionSteps n l.left).pumpReads l.ops.port l.ops.qp

/-- The factors of an object, with the shapes of an image. DEDUCED (assumption log 46). -/
def ObjContent.factorsFor (c base : ObjContent) : Option (List LowRank) :=
  match c.manifest with
  | none => none
  | some m => match m.dir.find? (·.type_ == 6) with
    | none => some []
    | some d => parseFactors base.shape d.count c.factors

/-- OBJECT_CHECK_COMPLETE (R215, steps 4 and 5). -/
def State.checkComplete (s : State) (n : Nat) : State :=
  let o := s.obj n
  match o.loading with
  | none => s
  | some l =>
    if !l.left.isEmpty || l.next < l.ops.length then s
    else if !o.content.canonOk then s.loadBad n
    else
      let c := o.content
      let c := { c with lowRank := if (c.manifest.map (·.kind)) = some 1 then (c.factorsFor c).getD [] else [] }
      s.endLoad n { o with state := .checked, content := c } .ok (ceilDiv o.size 1048576)

/-- A queue pair fails (R347): ERROR with its cause, and every load on it completes with BAD_HANDLE, its slot EMPTY. -/
def State.qpError (s : State) (port qp cause : Nat) : State :=
  let s := ((s.wr LNK_Ss_QP_CTRL_STATE 2 (qpBank port qp)).wr LNK_Ss_QP_ERR_CAUSE cause (qpBank port qp)).dropHeldReads port qp
  forEach (s.loadsOn port qp) s fun s e => s.loadEmpty e.1 .badHandle

/-- A positive normal BF16 value (R216). -/
def bf16PosNormal (x : BF16) : Bool := !bitOf x.toNat 15 && decide (1 ≤ bitsOf x.toNat 7 8) && decide (bitsOf x.toNat 7 8 ≤ 254)

/-- The partition block and position of the module (R216, R330), as BLOCK and POS of R209. -/
def State.blockPos (s : State) : Nat × Nat :=
  if s.bit LNK_CTRL_EN then (s.rd LNK_PART_EXT, s.rd LNK_PART_POS_POS) else (0, 0)

/-- Every logical cluster is used in one encoding, and matrices that share it share FIRST_IN and no crossbar column (R216).
DEDUCED (assumption log 30). -/
def ObjContent.clustersOk (c : ObjContent) : Bool :=
  c.clusters.zipIdx.all fun (a, i) => c.clusters.zipIdx.all fun (b, j) =>
    i == j || a.core != b.core || a.cluster != b.cluster ||
      (a.diff == b.diff && a.firstIn == b.firstIn
        && (decide (a.xbCol0 + a.xbCols ≤ b.xbCol0) || decide (b.xbCol0 + b.xbCols ≤ a.xbCol0)))

/-- Exactly one tile for every crossbar position used, and no other (R216). -/
def ObjContent.tilesOk (c : ObjContent) : Bool :=
  let want := c.positions
  let have_ := c.tiles.map fun t => posOf t.core t.cluster t.row t.col
  want.all (fun p => (have_.filter (· == p)).length == 1) && have_.all want.contains

/-- Every s_c is present, positive and normal (R216). -/
def ObjContent.scalesOk (c : ObjContent) : Bool :=
  c.matrices.all fun m => (List.range m.nOut).all fun i => match c.scales[m.scaleIdx + i]? with
    | some x => bf16PosNormal x
    | none => false

/-- Each RANK is 0 or a multiple of 4 up to 64, with one factor record of that rank where it is not 0 (R216). -/
def ObjContent.ranksOk (c : ObjContent) : Bool :=
  c.matrices.all fun m => m.rank == 0
    || (m.rank % 4 == 0 && decide (m.rank ≤ 64)
      && (c.lowRank.filter (·.matrix == m.matrix)).map (·.rank) == [m.rank])

/-- An input and output of a matrix lie in a cluster record. -/
def ClusterRec.covers (r : ClusterRec) (m i o : Nat) : Bool :=
  r.matrix == m && decide (r.firstIn ≤ i) && decide (i < r.firstIn + 512 * r.xbRows)
    && decide (r.firstOut ≤ o) && decide (o < r.firstOut + r.xbCols * (if r.diff then 128 else 256))

/-- Outliers: at most one per input and output, none of residual 0, at most 65,536 a core (R216). -/
def ObjContent.outliersOk (c : ObjContent) : Bool :=
  c.outliers.all (fun e => e.residual != 0
      && (c.outliers.filter fun d => d.matrix == e.matrix && d.input == e.input && d.output == e.output).length == 1)
    && (c.clusters.map (·.core)).eraseDups.all fun k =>
      decide ((c.outliers.filter fun e => c.clusters.any fun r =>
        r.core == k && r.covers e.matrix e.input e.output).length ≤ 65536)

/-- The digital input channels of a cluster record (R117). -/
def ObjContent.digitalIn (c : ObjContent) (r : ClusterRec) : List Nat :=
  (c.digital.filter fun d =>
    d.1 == r.matrix && decide (r.firstIn ≤ d.2) && decide (d.2 < r.firstIn + 512 * r.xbRows)).map (·.2)

/-- At most 8 digital channels in a height, and 8 rows of 2,048 weights in a cluster's digital-channel store, where matrices that
share the cluster share a row (R106, R117, R216). DEDUCED (assumption log 30). -/
def ObjContent.digitalOk (c : ObjContent) : Bool :=
  c.clusters.all fun r =>
    decide (((c.clustersAt r.core r.cluster).map c.digitalIn).flatten.eraseDups.length ≤ 8)

/-- The head dimension is 128 (R163, R216): a rotary table holds its 64 angles and the pairing.
DEDUCED (assumption log 30). -/
def ObjContent.headOk (c : ObjContent) : Bool := c.tables.all fun t => t.kind != 5 || t.elems.length == 65

/-- Every bias, normalisation, rotary and σ table that the matrices need is present (R216); which ones a matrix needs the object does
not say. DESIGN CHOICE (assumption log 30). -/
def ObjContent.tablesOk (c : ObjContent) : Bool :=
  c.matrices.all fun m => (Config.tableNeeds m.matrix m.layer m.kind m.expert).all fun n =>
    c.tables.any fun t => t.kind == n.1 && t.idx == n.2

/-- R216: an image may be bound. -/
def State.bindable (s : State) (c : ObjContent) : Bool :=
  match c.manifest with
  | none => false
  | some m =>
    decide ((m.block, m.pos) = s.blockPos) && c.clustersOk && c.tilesOk && c.scalesOk && c.ranksOk && c.outliersOk
      && c.digitalOk && c.headOk && c.tablesOk
      && (c.clusters.map (·.core)).eraseDups.all (fun k => decide (lowRankBytes c c.lowRank k ≤ 1048576))
      && decide (2 * c.embedding.length ≤ s.rd LST_EMB_SIZE_GIB * 2 ^ 29)

/-- The tier-A address of a half of the embedding region (R214). -/
def State.embBase (s : State) (half : Nat) : Nat := s.rd LST_EMB_BASE_ADDR + half * s.rd LST_EMB_SIZE_GIB * 2 ^ 29

/-- The embedding is copied to the half of the embedding region that the current generation does not use (R214). -/
def State.copyEmbedding (s : State) (c : ObjContent) : State :=
  let half := if s.lst.current.isSome then 1 - s.lst.embHalf else s.lst.embHalf
  s.writeBytes .tierA (s.embBase half) ((c.embedding.map fun x => leBytes 2 x.toNat).flatten)

/-- A KIND 1 object in a state. -/
def ObjSlot.isBase (o : ObjSlot) : Bool := (o.content.manifest.map (·.kind)) == some 1

/-- BIND_WEIGHTS (R218, R271); `verify` holds the readings of the verify pass of step 3 (R224). -/
def State.submitBind (s : State) (h : EntryHdr) (slot gen : Nat) (verify : List VerifyRead) : State :=
  let (n, s) := s.newEntry h
  let no (st : Status) : State := s.answer h n .bindWeights st
  let o := s.obj slot
  if h.fn ≠ 0 || !h.rsvZero then no .badOpcode
  else if s.bit SMS_STATUS_MODULE_FAULT then no .jobFault
  else if o.state ≠ .checked || !o.isBase then no .badHandle
  else if !s.running || s.lst.current.isSome || s.lst.bind.isSome then no .badOpcode
  else if !s.bindable o.content then no .badImage
  else
    let ps := o.content.positions
    let fails := s.verifyFails o.content.cellsAt verify ps
    let ok := ps.filter fun p => !fails.contains p
    let s := s.copyEmbedding o.content
    let s := s.count LST_VERIFY_FAIL_CNT_COUNT fails.length
    s.withLst { s.lst with
      bind := some ⟨slot, gen, some (ownerOf h n), fails, ps⟩
      levels := ok.foldl (fun m p => SMap.put 0 m (s.physPos p) (o.content.cellsAt p).levelSum) s.lst.levels
      holds := ok.foldl (fun m p => SMap.put 0 m p (gen + 1)) [] }
      |>.withFab { s.fab with
        corr := ok.foldl (fun m p =>
          SMap.put XbCorr.init m (s.physPos p) { XbCorr.init with
            verified := true, probeAge := 86400000000000, lastedAt := (s.now : Int) - 86400000000000 }) s.fab.corr }

/-- The generations of live requests and of sessions with a resident position (R225). -/
def State.liveGens (s : State) : List Nat :=
  ((s.serve.sessions.map fun x =>
    (x.queue.filter fun r => r.phase == .admitted).map (·.gen)
      ++ (if x.evicted < x.committed then [x.gen] else [])).flatten).eraseDups

/-- `g` is later than `h` by 1 to 2^15 − 1 (R225). -/
def genLater (g h : Nat) : Bool := serialLater 16 h g

/-- SWAP_WEIGHTS (R225, R226). -/
def State.submitSwap (s : State) (h : EntryHdr) (slot gen : Nat) : State :=
  let (n, s) := s.newEntry h
  let no (st : Status) : State := s.answer h n .swapWeights st
  let o := s.obj slot
  if h.fn ≠ 0 || !h.rsvZero then no .badOpcode
  else if s.bit SMS_STATUS_MODULE_FAULT then no .jobFault
  else if !((o.state = .checked && o.isBase) || o.state = .current) then no .badHandle
  else
    match s.lst.current with
    | none => no .badOpcode
    | some (old, cur) =>
      if s.lst.bind.isSome || !s.running then no .badOpcode
      else if !genLater gen cur || s.liveGens.any (fun g => !genLater gen g) then no .genRange
      else if s.lst.swap.isSome then no .quota
      else if !s.bindable o.content then no .badImage
      else
        let base := (s.obj old).content
        let left := o.content.positions.filter fun p => o.content.placed p != base.placed p
        s.withLst { s.lst with swap := some ⟨slot, old, gen, cur, some (ownerOf h n), .prepare, left, none, 0⟩ }

/-- An adapter's records have the model and the shapes of an image (R228, R230). -/
def adapterShaped (a base : ObjContent) : Bool :=
  match a.manifest, base.manifest, a.factorsFor base with
  | some m, some b, some fs =>
    m.modelId == b.modelId && fs.all fun f => match base.shape f.matrix with
      | some (nIn, nOut) => f.u.length == nOut * f.rank && f.v.length == f.rank * nIn
      | none => false
  | _, _, _ => false

/-- An adapter's ranks are multiples of 4 that fit beside the base's (R228). -/
def adapterRanked (a base : ObjContent) : Bool :=
  ((a.factorsFor base).getD []).all fun f =>
    f.rank % 4 == 0 && decide (4 ≤ f.rank) && decide (f.rank + base.rankOf f.matrix ≤ 64)

/-- The generations bound or being bound, with their images. -/
def State.bindings (s : State) : List (Nat × ObjContent) :=
  (match s.lst.current with | some (n, g) => [(g, (s.obj n).content)] | none => [])
    ++ (match s.lst.swap with
      | some w => if w.phase = .tail then [(w.oldGen, (s.obj w.oldSlot).content)] else [(w.gen, (s.obj w.slot).content)]
      | none => [])

/-- R228: an adapter's share of every core's low-rank store fits beside the base factors. -/
def adapterFits (base : ObjContent) (fs : List LowRank) : Bool :=
  ((base.clusters.map (·.core)).eraseDups).all fun k =>
    decide (lowRankBytes base base.lowRank k + lowRankBytes base fs k ≤ 1048576)

/-- ADAPTER_LOAD of an object (R228); the adapter number is the header's. -/
def State.submitAdapter (s : State) (h : EntryHdr) (slot : Nat) : State :=
  let (n, s) := s.newEntry h
  let no (st : Status) : State := s.answer h n .adapterLoad st
  let o := s.obj slot
  let taken := s.lst.adapters.any fun a => a.fn == h.fn && a.num == h.adapter
  if !h.rsvZero then no .badOpcode
  else if s.bit SMS_STATUS_MODULE_FAULT then no .jobFault
  else if h.adapter = 0 || 63 < h.adapter || 63 < slot || taken || o.state ≠ .checked || o.fn ≠ h.fn || o.isBase then no .badHandle
  else
    match s.lst.current with
    | none => no .badOpcode
    | some (cur, g) =>
      if s.lst.bind.isSome then no .badOpcode
      else
        let base := (s.obj cur).content
        if !adapterShaped o.content base || !adapterRanked o.content base then no .badImage
        else
          let fs := (o.content.factorsFor base).getD []
          if !adapterFits base fs then no .quota
          else
            let gens := g :: ((s.bindings.filter fun b => b.1 != g && adapterShaped o.content b.2).map (·.1))
            let s := s.setObj slot { o with
              state := .adapter, adapter := h.adapter, gens := gens, content := { o.content with lowRank := fs } }
            let s := s.withLst { s.lst with adapters := s.lst.adapters ++ [⟨h.fn, h.adapter, slot, none⟩] }
            s.answer h n .adapterLoad .ok slot

/-- A request admitted with an adapter is live (R228). -/
def State.adapterInUse (s : State) (f num : Nat) : Bool :=
  s.serve.sessions.any fun x => x.fn == f && x.queue.any fun r => r.adapter == num && r.phase == .admitted

/-- An unload ends: the object is CHECKED again, the number free, and its request, if any, completes (R228). -/
def State.unloadDone (s : State) (a : AdapterSt) : State :=
  let o := s.obj a.slot
  let s := s.setObj a.slot { o with state := .checked, adapter := 0, gens := [], content := { o.content with lowRank := [] } }
  let s := s.withLst { s.lst with adapters := s.lst.adapters.filter fun b => !(b.fn == a.fn && b.num == a.num) }
  match a.unload with
  | some (some w) => s.answerOwner w .adapterLoad .ok s.now a.slot
  | _ => s

/-- ADAPTER_LOAD with object 0xFF (R228): the number is marked; ADAPTER_UNLOAD_COMPLETE ends the unload. -/
def State.submitUnload (s : State) (h : EntryHdr) : State :=
  let (n, s) := s.newEntry h
  let no (st : Status) : State := s.answer h n .adapterLoad st
  if !h.rsvZero then no .badOpcode
  else if s.bit SMS_STATUS_MODULE_FAULT then no .jobFault
  else
    match s.lst.adapters.find? fun a => a.fn == h.fn && a.num == h.adapter && a.unload.isNone with
    | none => no .badHandle
    | some a =>
      let a := { a with unload := some (some (ownerOf h n)) }
      s.withLst { s.lst with adapters := updFirst (fun b => b.fn == a.fn && b.num == a.num) (fun _ => a) s.lst.adapters }

/-- BOUND and DIFF of AMF_CL_MODE as a placement sets them (R218). -/
def State.setModes (s : State) (c : ObjContent) (cores : List Nat) : State :=
  forEach cores s fun s k =>
    let m (f : ClusterRec → Bool) : Nat := sumN ((List.range 8).map fun i =>
      b2n ((c.clustersAt k i).any f) * 2 ^ i)
    (s.wr AMF_CL_MODE_BOUND (m fun _ => true) k).wr AMF_CL_MODE_DIFF (m (·.diff)) k

/-- The cores of a placement. -/
def ObjContent.cores (c : ObjContent) : List Nat := (c.clusters.map (·.core)).eraseDups

/-- The next boundary of the running wheel, at which a step of LST takes effect: time moves to it.
DEDUCED (assumption log 29), DEDUCED (assumption log 47). -/
def State.toBoundary (s : State) : State := if s.running then s.advance (s.boundary s.time.nextK) else s

/-- BIND_COMPLETE (R218, step 6): at the boundary after every crossbar has been lasted where it failed and probed, its first
tracking round behind it (R98). -/
def State.bindComplete (s : State) : State :=
  match s.lst.bind with
  | none => s
  | some b =>
    if !b.left.isEmpty || !b.probing.isEmpty || s.lst.lastings.any (·.why == .bind)
        || !(s.obj b.slot).content.positions.all (fun p => (s.trk (s.physPos p)).firstRound) then s
    else
      let s := s.toBoundary
      let o := s.obj b.slot
      let s := s.setModes o.content o.content.cores
      let s := s.setObj b.slot { o with state := .current, gen := b.gen }
      let s := s.withLst { s.lst with bind := none, current := some (b.slot, b.gen), lehrPaused := false, lehrNext := 0, lehrStart := s.now }
      match b.owner with
      | some w => s.answerOwner w .bindWeights .ok s.now b.gen
      | none => s

/-- SWAP_PREPARE_COMPLETE (R226, R230): the embedding is copied, every loaded adapter that matches is re-laid for G, and the
Lasting phase begins. -/
def State.swapPrepared (s : State) : State :=
  match s.lst.swap with
  | none => s
  | some w =>
    if w.phase ≠ .prepare then s
    else
      let c := (s.obj w.slot).content
      let s := s.copyEmbedding c
      let s := forEach s.lst.adapters s fun s a =>
        let o := s.obj a.slot
        if adapterShaped o.content c then s.setObj a.slot { o with gens := (o.gens ++ [w.gen]).eraseDups } else s
      s.withLst { s.lst with swap := some { w with phase := .lasting } }

/-- This module has finished its Lasting phase of a swap (R226, R227). -/
def State.swapLasted (s : State) : Bool :=
  match s.lst.swap with
  | some w => w.phase == .lasting && w.left.isEmpty && !s.lst.lastings.any (·.why == .swap)
  | none => false

/-- The Switch (R226): the new object becomes CURRENT and the old one OLD; positions that G uses hold G, those that only g used stay as they
are until the End, and vectors wait for the welt's reload. -/
def State.switchNow (s : State) : State :=
  match s.lst.swap with
  | none => s
  | some w =>
    if !s.swapLasted then s
    else
      let c := (s.obj w.slot).content
      let old := (s.obj w.oldSlot).content
      let s := s.setModes c (c.cores ++ old.cores).eraseDups
      let s := if w.slot = w.oldSlot then s else s.setObj w.oldSlot { s.obj w.oldSlot with state := .old, gen := w.oldGen }
      let s := s.setObj w.slot { s.obj w.slot with state := .current, gen := w.gen }
      let (i, s) := s.draw
      s.withLst { s.lst with
        reloadTo := s.now + (Config.reloadTime i).val
        current := some (w.slot, w.gen)
        embHalf := 1 - s.lst.embHalf
        swap := some { w with phase := .tail, switchAt := s.now }
        lehrPaused := false
        holds := c.positions.foldl (fun m p => if SMap.get 0 m p = 0 then m else SMap.put 0 m p (w.gen + 1)) s.lst.holds }

/-- The home module announces the boundary of a partition's Switch (R227): 64 slots ahead of the next boundary, once it and every other module
have finished their lastings.  DESIGN CHOICE (assumption log 48). -/
def State.announceSwitch (s : State) : State :=
  match s.lst.swap with
  | none => s
  | some w =>
    let ready (p : Nat) : Bool := match SMap.get none s.lnk.peers p with | some r => r.lasted == some w.gen | none => false
    if w.announced.isSome || !s.isHome || !s.swapLasted || !s.otherModules.all ready then s
    else s.withLst { s.lst with swap := some { w with announced := some (s.time.nextK + 64) } }

/-- SWAP_SWITCH (R226, R227): a module on its own switches at the first boundary after its last lasting; in a partition the home module
announces the boundary, and each module switches at it. -/
def State.swapSwitch (s : State) : State :=
  if !s.swapLasted then s
  else if !s.inPartition then s.toBoundary.switchNow
  else
    match s.lst.swap.bind (·.announced) with
    | some k => if s.running && s.time.nextK < k then s else s.toBoundary.switchNow
    | none => s.announceSwitch

/-- The live requests bound to a generation (R226). -/
def State.boundTo (s : State) (g : Nat) : Nat :=
  sumN (s.serve.sessions.map fun x => (x.queue.filter fun r => r.phase == .admitted && r.gen == g).length)

/-- SWAP_END (R226, R230): with no request left on the old generation, the OLD object is CHECKED again, adapters that do not
match G are unloaded, and the request completes with the time of the Switch. -/
def State.swapEnd (s : State) : State :=
  match s.lst.swap with
  | none => s
  | some w =>
    if w.phase ≠ .tail || s.boundTo w.oldGen ≠ 0 then s
    else
      let s := if w.slot = w.oldSlot then s else s.setObj w.oldSlot { s.obj w.oldSlot with state := .checked, gen := 0 }
      let s := s.withLst { s.lst with swap := none, holds := s.lst.holds.filter fun e => e.2 == w.gen + 1 }
      let s := forEach s.lst.adapters s fun s a =>
        let o := s.obj a.slot
        if o.gens.contains w.gen then s.setObj a.slot { o with gens := [w.gen] } else s.unloadDone a
      match w.owner with
      | some o => s.answerOwner o .swapWeights .ok w.switchAt w.gen
      | none => s

/-- LOAD_OBJECT (R208). -/
def execLoadObject (t : Nat) (h : EntryHdr) (o : LoadOps) (s : State) : Host.Outcome State Fault Refusal :=
  .next ((s.advance t).submitLoad h o)

/-- BIND_WEIGHTS (R218). -/
def execBindWeights (t : Nat) (h : EntryHdr) (slot gen : Nat) (verify : List VerifyRead) (s : State) : Host.Outcome State Fault Refusal :=
  .next ((s.advance t).submitBind h slot gen verify)

/-- SWAP_WEIGHTS (R225). -/
def execSwapWeights (t : Nat) (h : EntryHdr) (slot gen : Nat) (s : State) : Host.Outcome State Fault Refusal :=
  .next ((s.advance t).submitSwap h slot gen)

/-- ADAPTER_LOAD of an object slot (R228). -/
def execAdapterLoad (t : Nat) (h : EntryHdr) (slot : Nat) (s : State) : Host.Outcome State Fault Refusal :=
  .next ((s.advance t).submitAdapter h slot)

/-- ADAPTER_LOAD with object 0xFF (R228). -/
def execAdapterUnload (t : Nat) (h : EntryHdr) (s : State) : Host.Outcome State Fault Refusal :=
  .next ((s.advance t).submitUnload h)

/-- ADAPTER_UNLOAD_COMPLETE (R228): the last request that used a marked adapter has ended. -/
def execAdapterUnloadComplete (t fn num : Nat) (s : State) : Host.Outcome State Fault Refusal :=
  let s := s.advance t
  match s.lst.adapters.find? fun a => a.fn == fn && a.num == num && a.unload.isSome with
  | none => .next s
  | some a => .next (if s.adapterInUse fn num then s else s.unloadDone a)

/-- OBJECT_CHECK_COMPLETE (R215). -/
def execObjectCheckComplete (t slot : Nat) (s : State) : Host.Outcome State Fault Refusal :=
  .next ((s.advance t).checkComplete slot)

/-- BIND_COMPLETE (R218). -/
def execBindComplete (t : Nat) (s : State) : Host.Outcome State Fault Refusal := .next (s.advance t).bindComplete

/-- SWAP_PREPARE_COMPLETE (R226). -/
def execSwapPrepareComplete (t : Nat) (s : State) : Host.Outcome State Fault Refusal := .next (s.advance t).swapPrepared

/-- SWAP_SWITCH (R226). -/
def execSwapSwitch (t : Nat) (s : State) : Host.Outcome State Fault Refusal := .next (s.advance t).swapSwitch

/-- SWAP_END (R226). -/
def execSwapEnd (t : Nat) (s : State) : Host.Outcome State Fault Refusal := .next (s.advance t).swapEnd

end Sys2Proof.Machine
end

