-- ==== Sys2Proof/Machine/Mail.lean ====
section
/-! DEFINITION. Mailbox channels and the firmware restart (spec/14_control_and_sync.md R355, R365–R368), and the meanings of
their commands. -/

namespace Sys2Proof.Machine

/-- The identity of the management controller (R366). -/
def idMc : Nat := 0x20
/-- The identity of the main firmware (R366). -/
def idFw : Nat := 0x21

/-- The mailbox channel from a sender to a receiver. -/
def State.mbox (s : State) (a b : Nat) : Mbx := SMap.get Mbx.init s.ctl.mbx (64 * a + b)
/-- A mailbox channel replaced. -/
def State.setMbox (s : State) (a b : Nat) (m : Mbx) : State :=
  s.withCtl { s.ctl with mbx := SMap.put Mbx.init s.ctl.mbx (64 * a + b) m }

/-- A channel of R308, or of the pair that the main firmware and the management controller share: a host function talks to
these two and the physical function to the virtual ones. -/
def isChannel (a b : Nat) : Bool :=
  let host (x : Nat) : Bool := decide (x < 32)
  let inner (x : Nat) : Bool := x == idMc || x == idFw
  a != b && ((host a && inner b) || (inner a && host b) || (inner a && inner b) || (host a && host b && (a == 0 || b == 0)))

/-- Both ends of a channel exist: a virtual function only while it is there (R308). -/
def State.chanOpen (s : State) (a b : Nat) : Bool :=
  isChannel a b && (32 ≤ a || s.fnExists a) && (32 ≤ b || s.fnExists b)

/-- The mailbox interrupt of an identity (R366): the MBX vector of a host function; an internal interrupt has no register.
DEDUCED (assumption log 33). -/
def State.mbxInterrupt (s : State) (i : Nat) : State := if i < 32 then s.mbxEvent i else s

/-- The identity that hardware stamps (R366): the boot ROM's while it runs on the main firmware's channels. -/
def State.stamp (s : State) (a : Nat) : Nat := if a == idFw && s.rd CPX_FW_STATUS_STAGE == 1 then 0x22 else a

/-- GO (R366): the message is copied into the receive block; a GO while BUSY is ignored and marked. -/
def State.mbxGo (s : State) (a b : Nat) : State :=
  let m := s.mbox a b
  if m.busy then s.setMbox a b { m with overrun := true }
  else
    let seq := (m.seq + 1) % 2 ^ 16
    let s := s.setMbox a b { m with busy := true, seq := seq, msg := some (m.data, s.stamp a, seq) }
    (s.count CPX_MBX_SENT_CNT_COUNT).mbxInterrupt b

/-- DONE (R366): the channel is emptied and the sender told. -/
def State.mbxDone (s : State) (a b : Nat) : State :=
  let m := s.mbox a b
  if m.msg.isNone then s
  else (s.setMbox a b { m with busy := false, emptied := true, msg := none }).mbxInterrupt a

/-- The receiver of a channel is reset (R367): a sender whose message was pending is told. -/
def State.mbxAbort (s : State) (a b : Nat) : State :=
  let m := s.mbox a b
  if m.msg.isNone then s
  else ((s.setMbox a b { m with busy := false, aborted := true, msg := none }).count CPX_MBX_ABORT_CNT_COUNT).mbxInterrupt a

/-- The sender of a channel is reset (R367): its block and its pending message are cleared. -/
def State.mbxClear (s : State) (a b : Nat) : State := s.setMbox a b Mbx.init

/-- Every identity with a channel. -/
def mbxIds : List Nat := List.range 32 ++ [idMc, idFw]

/-- A reset of one identity (R367): the channels it receives on, then those it sends on. -/
def State.mbxReset (s : State) (i : Nat) : State :=
  let s := forEach (mbxIds.filter (isChannel · i)) s fun s a => s.mbxAbort a i
  forEach (mbxIds.filter (isChannel i)) s fun s b => s.mbxClear i b

/-- A reset of the physical function with all the others (R367): every host-visible channel is cleared; only the firmware and
the management controller are told. -/
def State.mbxResetHost (s : State) : State :=
  forEach (List.range 32) s fun s f =>
    let s := (s.mbxAbort idFw f).mbxAbort idMc f
    forEach (mbxIds.filter (isChannel f)) s fun s b => s.mbxClear f b

/-- A function's mailbox accesses act: not while it is reset (R326). -/
def State.mbxMay (s : State) (i : Nat) : Bool := 32 ≤ i || !s.resetting i

/-- A sender's GO is accepted (R454): not on a channel to the main firmware while the firmware is not READY, and by no host
function after a start that ended in STAGE 4 (R453). DEDUCED (assumption log 33). -/
def State.goAccepted (s : State) (a b : Nat) : Bool :=
  let stage := s.rd CPX_FW_STATUS_STAGE
  s.chanOpen a b && s.mbxMay a && (b != idFw || stage == 3) && (32 ≤ a || s.ctl.ready || stage != 4)

/-- MBX_S_GO (R365, R366): a sender writes GO; the management controller and the firmware bring the words they stored in their
block. DEDUCED (assumption log 33). -/
def execMbxSGo (t a b : Nat) (words : List Word) (s : State) : Host.Outcome State Fault Refusal :=
  let s := s.advance t
  if !s.goAccepted a b then .next s
  else
    let m := s.mbox a b
    let s := if a < 32 || m.busy then s
      else s.setMbox a b { m with data := (words ++ List.replicate 16 0#32).take 16 }
    .next (s.mbxGo a b)

/-- MBX_R_DONE (R365, R366). -/
def execMbxRDone (t a b : Nat) (s : State) : Host.Outcome State Fault Refusal :=
  let s := s.advance t
  if !s.chanOpen a b || !s.mbxMay b then .next s else .next (s.mbxDone a b)

/-- A request of a job ends in a firmware restart (R355): at once, or at the end of its step in flight, which drops its
outputs. -/
def State.faultReq (s : State) (num : Nat) (r : Request) : State :=
  if s.serve.launches.any fun l => l.inFlight && l.id == r.launch then s.setReq num { r with faulted := true }
  else s.endReq num { r with launch := 0 } .jobFault s.now 0

/-- A firmware restart is counted, logged and remembered for an hour (R355, R417, R442). -/
def State.noteRestart (s : State) (cause : Nat) : State :=
  let s := s.count CPX_FW_STATUS_RESTARTS
  let s := s.logEvent { EventRec.blank 0x0D 2 with detail := [cause, s.rd CPX_FW_STATUS_RESTARTS] }
  let hour := (s.sms.restarts.filter fun x => decide (s.now < x + 3600000000000)) ++ [s.now]
  { s with sms := { s.sms with restarts := hour } }

/-- A firmware restart (R355): counted, job requests end, the plan is empty, the firmware's channels are cleared, and the program
stores are to be read back; the fourth within an hour is a module fault (R417).  Before the first READY, and while the firmware
restarts already, it starts over. DEDUCED (assumption log 34). -/
def State.restartNow (s : State) (cause : Nat) : State :=
  let s := (s.wr CPX_FW_STATUS_STAGE 2).noteRestart cause
  let w := s.ctl.stores
  let s := s.withCtl { s.ctl with
    restarting := s.ctl.ready, stores := { w with toCheck := if w.loaded then List.range 520 else [] } }
  let s := s.unplan fun _ => true
  let s := forEach s.serve.sessions s fun s x => forEach (x.queue.filter (·.ops.runs)) s fun s r => s.faultReq x.num r
  (s.mbxReset idFw).when (decide (4 ≤ s.sms.restarts.length)) (·.moduleFault 4)

/-- A cause of a firmware restart (R355): it acts where the main firmware runs. DEDUCED (assumption log 34). -/
def State.firmwareRestart (s : State) (cause : Nat) : State :=
  if s.rd CPX_FW_STATUS_STAGE == 2 || s.rd CPX_FW_STATUS_STAGE == 3 then s.restartNow cause else s

/-- FIRMWARE_RESTART (R355): a residue mismatch of a control core, which counts as one (R409), or an uncorrectable error in its
caches or in control SRAM. -/
def execFirmwareRestart (t cause : Nat) (s : State) : Host.Outcome State Fault Refusal :=
  let s := s.advance t
  let runs := s.rd CPX_FW_STATUS_STAGE == 2 || s.rd CPX_FW_STATUS_STAGE == 3
  .next ((s.when (cause = 1 && runs) (·.count SMS_RESIDUE_CNT_COUNT)).firmwareRestart cause)

/-- CONTROL_WATCHDOG (R355): the watchdog of a control core has expired. DEDUCED (assumption log 34). -/
def execControlWatchdog (t core : Nat) (s : State) : Host.Outcome State Fault Refusal :=
  let s := s.advance t
  if 4 ≤ core then .next s else .next (s.firmwareRestart 2)

end Sys2Proof.Machine
end

