-- ==== Sys2Proof/Machine/Store.lean ====
section
/-! DEFINITION. Memory errors, their repair, retired frames, the patrol scrub and bandwidth classes
(spec/15_memory_and_central_store.md R375–R385), and the meaning of SCRUB_READ. -/

namespace Sys2Proof.Machine

/-- Bytes in a tier (R373). -/
def tierSize (tierB : Bool) : Nat := if tierB then 1024 * 2 ^ 30 else 384 * 2 ^ 30

/-- A column has a page in a tier, where it lies or where its move goes. -/
def Column.has (c : Column) (tierB : Bool) (page : Nat) : Bool := (if c.tierB == tierB then c.pages else c.target).contains page

/-- The session and column that hold a page of a tier. -/
def State.pageHolder (s : State) (tierB : Bool) (page : Nat) : Option (Session × Column) :=
  s.serve.sessions.findSome? fun x => ((x.columns ++ x.old).find? (·.has tierB page)).map fun c => (x, c)

/-- The session whose token log a tier-B page holds. -/
def State.tokenHolder (s : State) (page : Nat) : Option Session := s.serve.sessions.find? (·.tokenPages.contains page)

/-- The frame of a tier lies in its key-value pool (R185). -/
def State.inPool (s : State) (tierB : Bool) (page : Nat) : Bool := within page (s.pool tierB).1 (s.pool tierB).2

/-- MEM_ERR_LOG0.REGION (R387) of an address: space 0 tier A, 1 tier B, 2 CST. DEDUCED (assumption log 50). -/
def State.regionOf (s : State) (space a : Nat) : Nat :=
  let page := a / 65536
  match space with
  | 0 =>
    if page < 262144 then 3
    else if s.inPool false page then 0
    else if within a (s.rd KVM_TBL_BASE_ADDR) (s.rd KVM_TBL_SIZE_SIZE_MIB * 2 ^ 20) then 2
    else if within a (s.rd LST_EMB_BASE_ADDR) (s.rd LST_EMB_SIZE_GIB * 2 ^ 30) then 4
    else 0
  | 1 => if (s.tokenHolder page).isSome then 1 else if s.inPool true page then 0 else 5
  | _ => if a < 0x08000000 then 7 else 6

/-- Bytes of a line (R375, R377, R379): 64 in tier A, 32 in tier B, a word of 8 in CST. DEDUCED (assumption log 50). -/
def lineOf (space : Nat) : Nat := match space with | 0 => 64 | 1 => 32 | _ => 8

/-- An error at its line's address. -/
def errAtLine (e : MemErr) : MemErr := { e with addr := e.addr / lineOf e.space * lineOf e.space }

/-- A session's record or one of its column blocks lies in a frame of the table region (R188, R382). -/
def Session.inFrame (x : Session) (frame : Nat) : Bool :=
  x.num * 512 / 65536 == frame
    || (x.columns ++ x.old).any fun c => decide (c.block < 65536 * (frame + 1)) && decide (65536 * frame < c.block + 16 * c.lh)

/-- A tier holds as many retired frames as it may (R383). -/
def State.retireFull (s : State) (tierB : Bool) : Bool :=
  decide (4096 ≤ (if tierB then s.mem.retiredB else s.mem.retiredA).length)

/-- A frame is retired (R383): at most 4,096 in a tier. DEDUCED (assumption log 50). -/
def State.retireFrame (s : State) (tierB : Bool) (page : Nat) : State :=
  let l := if tierB then s.mem.retiredB else s.mem.retiredA
  if l.contains page || s.retireFull tierB then s
  else if tierB then s.withMem { s.mem with retiredB := l ++ [page] }
  else s.withMem { s.mem with retiredA := l ++ [page] }

/-- A column may be taken from a session now: no step, move, copy or clone holds it (R382, R383, R385). -/
def State.sessFree (s : State) (x : Session) : Bool :=
  x.pins.isEmpty && x.columns.all s.takable && x.old.isEmpty && x.cloneOf.isNone

/-- The columns from position 0 up to a column are evicted (R382); what a recompute had rebuilt is rebuilt again. -/
def State.evictUpTo (s : State) (num idx : Nat) : State :=
  let s := forEach (List.range (idx + 1)) s fun s i =>
    match s.sess num with
    | none => s
    | some x => match x.columns.find? (·.index == i) with
      | some c => s.evictColumn x c
      | none => s
  match s.sess num with
  | none => s
  | some x => s.setSess { x with queue := x.queue.map fun r => { r with recompDone := 0 } }

/-- The eviction of R382 is made, or waits until nothing holds the session's pages (R385). -/
def State.evictOrWait (s : State) (num idx : Nat) : State :=
  match s.sess num with
  | none => s
  | some x =>
    if s.sessFree x then s.evictUpTo num idx
    else s.withMem { s.mem with evictWait := s.mem.evictWait ++ [(num, idx)] }

/-- A frame's content moves to other pages of its tier, where nothing holds it and there is room; then the frame is retired
(R383); none is once the tier's limit is reached. -/
def State.moveFrame (s : State) (tierB : Bool) (page : Nat) : State :=
  if s.retireFull tierB then s
  else match s.pageHolder tierB page with
  | some (x, c) =>
    if !s.sessFree x || s.freePages tierB < c.pages.length then s
    else
      let (l, s) := s.takePages tierB c.pages.length
      let s := (s.copyPages x.fn tierB c.pages tierB l).markPages tierB false c.pages
      let s := s.setSess { x with columns := x.columns.map fun d => if d.index = c.index then { d with pages := l } else d }
      s.retireFrame tierB page
  | none =>
    match (if tierB then s.tokenHolder page else none) with
    | some x =>
      if !s.sessFree x || s.freePages true = 0 then s
      else
        let (p, s) := s.takePage true
        let s := (s.copyPages x.fn true [page] true [p]).markPages true false [page]
        (s.setSess { x with tokenPages := x.tokenPages.map fun q => if q = page then p else q }).retireFrame true page
    | none => s.retireFrame tierB page

/-- Evictions and retirements that waited for an unpin are made where they can be (R383, R385). -/
def State.memRepair (s : State) : State :=
  let l := s.mem.evictWait
  let s := forEach l (s.withMem { s.mem with evictWait := [] }) fun s e => s.evictOrWait e.1 e.2
  let w := s.mem.retireWait
  let s := forEach w s fun s e => s.moveFrame e.1 e.2
  s.withMem { s.mem with retireWait := s.mem.retireWait.filter fun e =>
    !(s.retireFull e.1 || (if e.1 then s.mem.retiredB else s.mem.retiredA).contains e.2) }

/-- KVM closes a session under R201 (R382): its requests end, clones being copied from it or into it end with ABORTED.
DEDUCED (assumption log 27). -/
def State.closeLost (s : State) (num : Nat) : State :=
  match s.sess num with
  | none => s
  | some x =>
    match x.cloneOf with
    | some (src, _) => s.abortClones src .aborted
    | none =>
      let s := s.abortClones num .aborted
      let s := forEach x.queue s fun s r =>
        if r.ops.runs then s.faultReq num r
        else
          match r.ops, r.phase with
          | .clone _ _ _, .accepted => s
          | _, _ => s.completeReq num r .badHandle s.now 0
      let s := s.stopMoves num
      match s.sess num with
      | none => s
      | some x => (s.setSess { x with closing := some (x.closing.getD none) }).finishClose num

/-- The embedding region is rewritten from the CURRENT object (R382). -/
def State.rewriteEmbedding (s : State) : State :=
  match s.lst.current with
  | none => s
  | some (n, _) =>
    s.writeBytes .tierA (s.embBase s.lst.embHalf) (((s.obj n).content.embedding.map fun x => leBytes 2 x.toNat).flatten)

/-- MEM_ERR_LOG0 and MEM_ERR_ADDR are loaded (R382, R387). DEDUCED (assumption log 50). -/
def State.loadErrLog (s : State) (e : MemErr) : State :=
  let s := ((s.setBit MEM_ERR_LOG0_VALID).wr MEM_ERR_LOG0_SPACE e.space).wrBit MEM_ERR_LOG0_UE e.ue
  (s.wr MEM_ERR_LOG0_REGION (s.regionOf e.space e.addr)).wr MEM_ERR_ADDR_ADDR e.addr

/-- The word of MEM_ERR_LOG0. -/
def State.errLogWord (s : State) : Nat :=
  s.rd MEM_ERR_LOG0_VALID + 2 * s.rd MEM_ERR_LOG0_SPACE + 8 * s.rd MEM_ERR_LOG0_UE + 16 * s.rd MEM_ERR_LOG0_REGION

/-- A correctable error (R375, R383): a pool frame with 16 of them within 24 hours is retired. -/
def State.corrected (s : State) (e : MemErr) : State :=
  if 2 ≤ e.space then s.count CST_CE_CNT_COUNT
  else
    let b := e.space == 1
    let page := e.addr / 65536
    let s := s.count (if b then MEM_CE_B_CNT_COUNT else MEM_CE_A_CNT_COUNT)
    if !s.inPool b page then s
    else
      let k := 2 * page + b2n b
      let l := (SMap.get [] s.mem.ceTimes k).filter fun t => decide (s.now < t + 86400000000000)
      let l := l ++ [s.now]
      let s := s.withMem { s.mem with ceTimes := SMap.put [] s.mem.ceTimes k l }
      if l.length < 16 || s.retireFull b || s.mem.retireWait.contains (b, page) then s
      else (s.withMem { s.mem with retireWait := s.mem.retireWait ++ [(b, page)] }).memRepair

/-- The test of R383 has failed: a pool frame is retired; a frame of a fixed region that fails a second time is a module
fault. -/
def State.testFailed (s : State) (e : MemErr) : State :=
  let b := e.space == 1
  let page := e.addr / 65536
  if s.inPool b page then s.retireFrame b page
  else
    let k := 2 * page + b2n b
    if s.mem.failedOnce.contains k then s.moduleFault 3
    else s.withMem { s.mem with failedOnce := s.mem.failedOnce ++ [k] }

/-- The job that owns a written entry of the system region. -/
def State.systemOwner (s : State) (a : Nat) : Option (Nat × Nat) :=
  (s.ctl.entries.find? fun e => e.2.written && !e.2.consumed && within a e.1 e.2.bytes.length).map fun e => (e.2.fn, e.2.job)

/-- What an uncorrectable error does (R382), by its region; `fault` faults the work that read the line, or only writes the
record where no job did. -/
def State.uncorrected (s : State) (e : MemErr) (fault : State → EventRec → State) : State :=
  let rec_ := { EventRec.blank 0x06 0 with detail := [s.errLogWord, e.addr % 2 ^ 32, e.addr / 2 ^ 32] }
  let page := e.addr / 65536
  match s.regionOf e.space e.addr with
  | 0 =>
    let s := fault s rec_
    match s.pageHolder (e.space == 1) page with
    | none => s
    | some (x, c) => if x.old.contains c then s else s.evictOrWait x.num c.index
  | 1 =>
    match s.tokenHolder page with
    | none => fault s rec_
    | some x =>
      let r := { rec_ with fn := some x.fn, detail := rec_.detail ++ [x.handle % 2 ^ 32, x.handle / 2 ^ 32] }
      (fault s r).closeLost x.num
  | 2 =>
    let s := (s.logEvent { rec_ with class_ := 2 }).firmwareRestart 3
    let frame := (e.addr - s.rd KVM_TBL_BASE_ADDR) / 65536
    let lost := s.serve.sessions.filter fun x => x.inFrame frame
    forEach lost s fun s x => s.closeLost x.num
  | 3 => (s.logEvent { rec_ with class_ := 2 }).firmwareRestart 3
  | 4 => (fault s rec_).rewriteEmbedding
  | 5 =>
    let s := fault s rec_
    let o := s.obj e.obj
    if o.state = .checked then s.setObj e.obj { o with state := .bad } else s
  | 6 => fault s rec_
  | _ =>
    match s.systemOwner e.addr with
    | some (f, j) =>
      let step := (s.serve.launches.find? fun l => l.inFlight && l.fn == f && l.job == j).map (·.id)
      s.faultJob f j step rec_
    | none =>
      if 0x07F00000 ≤ e.addr then s.logEvent rec_ else (s.logEvent { rec_ with class_ := 2 }).firmwareRestart 3

/-- An ECC error met by a read (R375, R382, R383). DEDUCED (assumption log 50). -/
def State.memError (s : State) (e : MemErr) (fault : State → EventRec → State) : State :=
  let e := errAtLine e
  let s := s.loadErrLog e
  if !e.ue then s.corrected e
  else
    let s := s.count (match e.space with | 0 => MEM_UE_A_CNT_COUNT | 1 => MEM_UE_B_CNT_COUNT | _ => CST_UE_CNT_COUNT)
    let s := s.uncorrected e fault
    if 2 ≤ e.space || e.testPass then s else s.testFailed e

/-- The errors that a core's work met (R382): whether its reads returned data, and the state. -/
def State.coreErrors (s : State) (core : Nat) (l : List MemErr) : Bool × State :=
  let s := forEach l s fun s e => s.memError e fun s r => s.faultCore core r
  (l.all (!·.ue), s)

/-- The errors that a copy of a session's columns met: it counts as work of the session's job (R382). -/
def State.copyErrors (s : State) (fn job : Nat) (l : List MemErr) : Bool × State :=
  let s := forEach l s fun s e => s.memError e fun s r => s.faultJob fn job none r
  (l.all (!·.ue), s)

/-- Lines of a tier (R377, R379): 64 bytes in tier A, 32 in tier B. -/
def tierLines (tierB : Bool) : Nat := tierSize tierB / (if tierB then 32 else 64)

/-- The patrol scrub runs: enabled, both tiers trained and not in self-refresh. -/
def State.scrubOn (s : State) : Bool := s.bit MEM_CTRL_SCRUB_EN && s.ctl.ready && s.rd PTM_PSTATE_STATE == 0

/-- A scrub pass begins (R382): the first, and the next one once the period is over and both tiers were read. -/
def State.scrubBegin (s : State) : State :=
  let m := s.mem
  let hours := max 1 (s.rd MEM_CTRL_SCRUB_HOURS)
  let done := tierLines false ≤ m.scrubA && tierLines true ≤ m.scrubB
  if m.scrubFrom = 0 || (done && m.scrubFrom - 1 + hours * 3600000000000 ≤ s.now) then
    s.withMem { m with scrubA := 0, scrubB := 0, scrubFrom := s.now + 1 }
  else s

/-- SCRUB_READ (R382, R385): the scrub reads the next lines of a tier, as class-7 work of no function (R259); `errs` are the errors met in them.  An error has no job,
and its repair is applied at once. DEDUCED (assumption log 50). -/
def execScrubRead (t : Nat) (tierB : Bool) (lines : Nat) (errs : List MemErr) (s : State) : Host.Outcome State Fault Refusal :=
  let s := s.advance t
  if !s.scrubOn then .next s
  else
    let s := s.scrubBegin
    let from_ := if tierB then s.mem.scrubB else s.mem.scrubA
    let n := min lines (tierLines tierB - from_)
    let w := if tierB then 32 else 64
    let s := s.withMem (if tierB then { s.mem with scrubB := from_ + n } else { s.mem with scrubA := from_ + n })
    let s := (s.useTier tierB 32 7 (from_ * w) (n * w)).stage whoMem 32 7 (n * w)
    let met := errs.filter fun e => e.space == b2n tierB && within e.addr (from_ * w) (n * w)
    let s := forEach met s fun s e => s.memError e State.logEvent
    .next (s.wrBit MEM_STATUS_SCRUB_BUSY (decide (s.mem.scrubA < tierLines false) || decide (s.mem.scrubB < tierLines true)))

end Sys2Proof.Machine
end

