-- ==== Sys2Proof/Machine/Lasting.lean ====
section
/-! DEFINITION. Lasting, its failures and substitutions, endurance, the lehr pass and its refreshes
(spec/09_weights_and_lasting.md R219–R224, R231–R233; spec/03_analogue_fabric.md R69, R76, R77). -/

namespace Sys2Proof.Machine

/-- The rated count of lastings (R223). -/
def ratedLastings : Nat := 200000

/-- The endurance count of a physical crossbar (R223): the factory's lastings and those since. -/
def State.enduranceOf (s : State) (phys : Nat) : Nat :=
  min (maxOf 24) ((Config.factoryEndurance phys).val + SMap.get 0 s.lst.endurance phys)

/-- A lasting of a physical crossbar completes, fails or restarts (R223). -/
def State.wear (s : State) (phys : Nat) : State :=
  s.withLst { s.lst with endurance := SMap.upd 0 s.lst.endurance phys (· + 1) }

/-- PTM_PWR_CAP.FABRIC_W as it applies (R406). -/
def State.fabricCap (s : State) : Nat := min 500 (max 100 (s.rd PTM_PWR_CAP_FABRIC_W))

/-- Lastings that may run at once (R221): the budget scaled by F / FABRIC_W (R401), then halved under R400. -/
def State.maxLastings (s : State) : Nat :=
  let w := min 180 (max 20 (s.rd LST_BUDGET_WATTS))
  min (min 1024 (max 1 (s.rd LST_BUDGET_MAX_XB)))
    (w * min s.ptm.capNow s.fabricCap * 1024 / (180 * s.fabricCap * (if s.ptm.halved then 2 else 1)))

/-- A position holds content of a bound generation, so that its lasting takes one of the core's four places (R127, R221). -/
def State.holdsBound (s : State) (p : Nat) : Bool :=
  match s.lst.current with
  | none => false
  | some _ => SMap.get 0 s.lst.holds p ≠ 0

/-- Positions of one core that stand in: those being lasted (R221), and those that no spare crossbar serves any more (R222).
DEDUCED (assumption log 45). -/
def State.coreLastings (s : State) (core : Nat) : Nat :=
  (s.lst.lastings.filter fun l => posCore l.pos == core && l.why != .retire && l.why != .site && s.holdsBound l.pos).length
    + (s.lst.unserved.filter (posCore · == core)).length

/-- A position takes one of its core's four stand-in places (R127, R222): it is under lasting, or no crossbar serves it. -/
def State.takesPlace (s : State) (p : Nat) : Bool := s.underLasting p || s.lst.unserved.contains p

/-- The first of a core's four stand-in places whose tile slots no position needs (R127). DESIGN CHOICE (assumption log 45). -/
def State.tilePlace (s : State) (core : Nat) : Option Nat :=
  (List.range 4).find? fun k => [0, 1].all fun j =>
    let t := SMap.get TileSlot.init s.fab.tiles (8 * core + 2 * k + j)
    !(t.valid && s.takesPlace t.pos)

/-- The generations whose requests may need a stand-in at a position, the newer first (R126, R127): the current one and that of a swap. -/
def State.tileGens (s : State) (p : Nat) : List Nat :=
  ((match s.lst.swap with
    | some w => [w.gen, w.oldGen]
    | none => match s.lst.current with
      | some (_, g) => [g]
      | none => []).filter fun g => ((s.contentOf g).placed p).isSome).eraseDups

/-- LST loads a position's tiles into the two slots of a place before it leaves service (R127, R221), class-7 work that passes through CST
(R259, R375): that of each generation's image, one tile where both have the same content. -/
def State.loadTiles (s : State) (p : Nat) : State :=
  match (if s.holdsBound p then s.tilePlace (posCore p) else none) with
  | none => s
  | some k =>
    let a := 8 * posCore p + 2 * k
    let (one, two) : TileSlot × TileSlot := match s.tileGens p with
      | [] => (TileSlot.init, TileSlot.init)
      | [g] => (⟨true, p, g⟩, TileSlot.init)
      | g :: h :: _ => (⟨true, p, g⟩, if s.sameTile p g h then TileSlot.init else ⟨true, p, h⟩)
    let s := forEach ([one, two].filter (·.valid)) s fun s t =>
      (s.useTier true 32 7 (s.tileAddr t.gen p) 65536).stage whoLst 32 7 65536
    s.withFab { s.fab with
      tiles := SMap.put TileSlot.init (SMap.put TileSlot.init s.fab.tiles a one) (a + 1) two }

/-- A worn crossbar is not lasted again while the spare of its column is free and below the rating (R223): the position moves
to the spare; else an endurance event is logged. -/
def State.enduranceMove (s : State) (p : Nat) : State :=
  let phys := s.physPos p
  if s.enduranceOf phys < ratedLastings then s
  else if s.spareFree p && decide (s.enduranceOf (s.spareOf p) < ratedLastings) then
    (s.withLst { s.lst with onSpare := SMap.put false s.lst.onSpare p true }).count LST_XB_SUB_CNT_COUNT
  else s.logEvent { EventRec.blank 0x15 0 with
    core := some (posCore p), where_ := posWhere p, detail := [s.enduranceOf phys] }

/-- The maps in force are kept while a position's lasting may change them (R71). -/
def State.keepMap (s : State) (p : Nat) : State :=
  let phys := s.physPos p
  let m : MapEntry := ⟨SMap.get [] s.lst.rowMap phys, SMap.get [] s.lst.colMap phys, SMap.get false s.lst.onSpare p⟩
  s.withLst { s.lst with mapWas := SMap.put none s.lst.mapWas p (some m) }

/-- The maps of a position as they stand are in force. -/
def State.mapNow (s : State) (p : Nat) : State := s.withLst { s.lst with mapWas := SMap.put none s.lst.mapWas p none }

/-- LST starts a lasting of a position (R219, R221). -/
def State.startLasting (s : State) (p gen : Nat) (why : LastWhy) : State :=
  let spare := SMap.get false s.lst.onSpare p
  let s := if why = .retire || why = .site then s else ((s.loadTiles p).keepMap p).enduranceMove p
  s.withLst { s.lst with
    lastings := s.lst.lastings ++ [⟨p, gen, why, s.now, why == .retire, SMap.get false s.lst.onSpare p != spare⟩]
    refreshQ := s.lst.refreshQ.filter (·.pos != p) }

/-- The lasting of a position with what it holds: its repair after a verify failure (R224), or on the spare that a retirement
waits for (R416), so that during a swap a site is lasted from both generations' images (R423). DEDUCED (assumption log 45). -/
def State.heldDue (s : State) (p : Nat) : Option (Nat × LastWhy) :=
  let h := s.health (posCore p)
  if s.lst.verifyLeft.contains p then some (SMap.get 0 s.lst.holds p - 1, .verify)
  else match h.pending with
  | some (.xb q) => if q = p && !h.moveReady then some (SMap.get 0 s.lst.holds p - 1, .retire) else none
  | some (.site _) =>
    if s.positionUsed p && !s.lst.siteDone.contains p then
      some (if SMap.get 0 s.lst.holds p = 0 then (s.lst.current.map (·.2)).getD 0 else SMap.get 0 s.lst.holds p - 1, .site)
    else none
  | _ => none

/-- The reason and generation for which a position waits for lasting: a bind's verify failure, a swap, a verify failure after
MP1, or the spare of a retirement (R218, R224, R226, R416). DEDUCED (assumption log 45). -/
def State.lastingDue (s : State) (p : Nat) : Option (Nat × LastWhy) :=
  let tracked (c : ObjContent) : Bool := c.positions.all fun q => (s.trk (s.physPos q)).firstRound
  if s.lst.lastings.any (·.pos == p) then none
  else
    match s.lst.bind, s.lst.swap with
    | some b, _ => if b.left.contains p && tracked (s.obj b.slot).content then some (b.gen, .bind) else none
    | none, some w =>
      if w.left.contains p then if w.phase = .lasting then some (w.gen, .swap) else none else s.heldDue p
    | none, none => s.heldDue p

/-- At a boundary LST starts the lasting of a position it has chosen, where it is due and R221 allows it. -/
def State.tryLasting (s : State) (p : Nat) : State :=
  match s.lastingDue p with
  | none => s
  | some (g, why) =>
    if s.maxLastings ≤ s.lst.lastings.length then s
    else if why != .retire && why != .site && s.holdsBound p && decide (4 ≤ s.coreLastings (posCore p)) then s
    else s.startLasting p g why

/-- The spare row of a crossbar that is taken next: of those free, R222 names none, and the lowest is taken (R69).
DESIGN CHOICE (assumption log 45). -/
def State.freeRow (s : State) (phys : Nat) : Option Nat :=
  let m := SMap.get [] s.lst.rowMap phys
  (natsFrom 512 16).find? fun r => !m.any (·.2 == r)

/-- The deck of a logical column (R51): weight columns by parity, reference columns deck 1, tally columns deck 0. -/
def deckOf (col : Nat) : Nat := if col < 512 then col % 2 else if col < 532 then 1 else 0

/-- The spare column of a crossbar that is taken next for a logical column: the lowest free one of its deck (R51, R69).
DESIGN CHOICE (assumption log 45). -/
def State.freeColumn69 (s : State) (phys col : Nat) : Option Nat :=
  let m := SMap.get [] s.lst.colMap phys
  (natsFrom (512 + 8 * deckOf col) 8).find? fun c => !m.any (·.2 == c)

/-- What the failures of a lasting come to (R222): it may complete, starts again, or moves to the spare crossbar. -/
inductive LastEnd where
  | done | restart | move
deriving DecidableEq, Repr

/-- The rows that did not converge, each with its failing cell's column, are resolved in order (R222).
DEDUCED (assumption log 45). -/
def State.lastRows (s : State) (phys : Nat) : List (Nat × Nat) → State × LastEnd
  | [] => (s, .done)
  | (row, col) :: t =>
    match s.freeRow phys with
    | some r =>
      let s := s.withLst { s.lst with rowMap := SMap.upd [] s.lst.rowMap phys ((row, r) :: ·) }
      (s.count LST_ROW_SUB_CNT_COUNT).lastRows phys t
    | none =>
      match s.freeColumn69 phys col with
      | some c =>
        let s := s.withLst { s.lst with colMap := SMap.upd [] s.lst.colMap phys ((col, c) :: ·) }
        (s.count LST_COL_SUB_CNT_COUNT, .restart)
      | none => (s, .move)

/-- A lasting's record replaced. -/
def State.setLasting (s : State) (l : Lasting) : State :=
  s.withLst { s.lst with lastings := updFirst (·.pos == l.pos) (fun _ => l) s.lst.lastings }

/-- A lasting leaves the list, and its position no longer waits for it. -/
def State.dropLasting (s : State) (l : Lasting) : State :=
  s.withLst { s.lst with
    lastings := s.lst.lastings.filter (·.pos != l.pos)
    verifyLeft := s.lst.verifyLeft.filter (· != l.pos)
    bind := s.lst.bind.map fun b => if l.why = .bind then { b with left := b.left.filter (· != l.pos) } else b
    swap := s.lst.swap.map fun w => if l.why = .swap then { w with left := w.left.filter (· != l.pos) } else w }

/-- A core is retired to a spare core site whatever its suspect events (R222); one that is to move to a site keeps it, unless that site
itself has failed (`failed`). -/
def State.retireSite (s : State) (core : Nat) (failed : Bool) : State :=
  let kept := match (s.health core).pending with | some (.site _) => !failed | _ => false
  if kept then s
  else
    let s := s.withLst { s.lst with siteDone := s.lst.siteDone.filter (posCore · != core) }
    (s.setHealth core { s.health core with pending := none, since4 := [.core] }).markRetire core

/-- A lasting cannot go on where it is (R222): the position moves to the spare crossbar of its column, lasted from the start;
with no spare free it is served by stand-in and its core is retired to a spare core site. -/
def State.lastMove (s : State) (l : Lasting) : State :=
  let s := s.wear (s.lastPhys l)
  if l.why = .retire || l.why = .site then (s.dropLasting l).retireSite (posCore l.pos) (l.why == .site)
  else if s.spareFree l.pos then
    let s := s.withLst { s.lst with onSpare := SMap.put false s.lst.onSpare l.pos true }
    (s.count LST_XB_SUB_CNT_COUNT).setLasting { l with start := s.now, remap := true }
  else
    let s := (s.dropLasting l).mapNow l.pos
    let s := s.withLst { s.lst with
      holds := SMap.put 0 s.lst.holds l.pos 0, unserved := s.lst.unserved.filter (· != l.pos) ++ [l.pos] }
    s.retireSite (posCore l.pos) false

/-- A lasting's crossbar carries its new content (R81, R219, R223): the endurance counter rises, ρ is 0, the level sum is recorded. -/
def State.lasted (s : State) (phys : Nat) (cells : XbCells) : State :=
  let s := (s.wear phys).setCorr phys { XbCorr.init with lastedAt := s.now }
  (s.count LST_RELAST_CNT_COUNT).withLst { s.lst with levels := SMap.put 0 s.lst.levels phys cells.levelSum }

/-- Every crossbar of a spare site that is to serve has been lasted (R416), and no swap is before its Switch (R423).
DEDUCED (assumption log 45). -/
def State.siteReady (s : State) (core : Nat) : Bool :=
  (match s.lst.swap with
    | some w => w.phase == .tail
    | none => true)
  && (s.placements.map ObjContent.positions).flatten.all fun p => posCore p != core || s.lst.siteDone.contains p

/-- A lasting ends with its verify read (R219): the position holds its generation, a changed map waits for the boundary (R71), and
what waited for the lasting goes on. DEDUCED (assumption log 45). -/
def State.lastDone (s : State) (l : Lasting) : State :=
  let phys := s.lastPhys l
  let s := (s.dropLasting l).lasted phys ((s.contentOf l.gen).cellsAt l.pos)
  let core := posCore l.pos
  match l.why with
  | .site => s.withLst { s.lst with siteDone := s.lst.siteDone ++ [l.pos] }
  | .retire => s.setHealth core { s.health core with moveReady := true }
  | _ =>
    let s := s.withLst { s.lst with
      holds := SMap.put 0 s.lst.holds l.pos (l.gen + 1), siteDone := s.lst.siteDone.filter (· != l.pos) }
    let s := if l.remap && s.running then s.withLst { s.lst with remapWait := s.lst.remapWait ++ [l.pos] } else s.mapNow l.pos
    if l.why = .refresh then s.count LST_LEHR_REFRESH_CNT_COUNT else s

/-- The least time in ns that a lasting takes to its end (R220): its 512 rows with one iteration each and the verify read of them,
and before that a setup and 12 iterations for each row that did not converge.  To a restart or a move, only these. -/
def lastLeast (fails : Nat) (e : LastEnd) : Nat := 13300 * fails + if e = .done then 512 * 1200 + 512 * 370 else 0

/-- LASTING_COMPLETE (R219, R220, R222): a lasting has done its last row; `reads` are the cells that do not read at their targets. -/
def execLastingComplete (t p : Nat) (reads : List CellRead) (s : State) : Host.Outcome State Fault Refusal :=
  let s := s.advance t
  match s.lst.lastings.find? (·.pos == p) with
  | none => .next s
  | some l =>
    let phys := s.lastPhys l
    let fails := ((s.contentOf l.gen).cellsAt p).failing reads
    let l := { l with remap := l.remap || !fails.isEmpty }
    let e := s.lastRows phys fails
    if s.now < l.start + lastLeast fails.length e.2 then .next s
    else match e with
    | (s, .done) => .next (s.lastDone l)
    | (s, .restart) => .next ((s.wear phys).setLasting { l with start := s.now })
    | (s, .move) => .next (s.lastMove l)

/-- LASTING_WATCHDOG (R222): 8 ms have passed since a lasting started. DEDUCED (assumption log 45). -/
def execLastingWatchdog (t p : Nat) (s : State) : Host.Outcome State Fault Refusal :=
  let s := s.advance t
  match s.lst.lastings.find? (·.pos == p) with
  | none => .next s
  | some l =>
    if s.now < l.start + 8000000 then .next s
    else .next ((s.count LST_WATCHDOG_CNT_COUNT).lastMove l)

/-- The lehr pass stands still (R233): during a bind and a swap's Lasting phase. -/
def State.lehrHeld (s : State) : Bool :=
  match s.lst.swap with
  | some w => w.phase == .lasting
  | none => false

/-- The position the lehr round probes next (R231): the first bound one from `lehrNext` on, once its round has begun. -/
def State.lehrTarget (s : State) : Option Nat :=
  (s.lst.holds.find? fun e => decide (s.lst.lehrNext ≤ e.1) && e.2 != 0).map (·.1)

/-- ρ_x in 2^-16 from the predicted and the measured total (R231). DEDUCED (assumption log 47). -/
def rhoOf (p : Nat) (q : Int) : Nat :=
  if q ≤ 0 then 8192 else (clampI 0 8192 (divEven (((p : Int) - q) * 65536) q.toNat)).toNat

/-- The value S_wj of a crossbar's probe signature (R213). -/
def XbCells.signature (x : XbCells) (w j : Nat) : Nat := sumN ((List.range 64).map fun i => x.level (64 * w + i) j)

/-- What a window predicts for the reference and weight columns with ideal cells (R76, R231). -/
def XbCells.windowTotal (x : XbCells) (w : Nat) : Nat :=
  960 * 6 + sumN ((List.range 512).map fun j => 15 * x.signature w j)

/-- A probe window as it was converted (R76, R86): the weight and tally codes and the codes of the four reference columns, all at
LSB 16. -/
structure ProbeCodes where
  win : WinCodes
  refs : List Int
deriving DecidableEq, Repr

/-- A probe pass drives digit 15 on the 64 rows of one window (R76); `pass` is 0 for the probe, 1 for its repeat (R93). -/
def XbCells.probe (x : XbCells) (cs : List XbCharges) (row col pass w : Nat) : ProbeCodes where
  win := forwardWindow x cs row col pass w 16 (windowDigits (List.replicate 512 15) 8 w)
  refs := (List.range 4).map fun (l : Nat) => codeOf (256 * (960 * (l : Int)) + extraOf cs row col pass w (528 + l)) 16

/-- The first column group that saturates a probe window (R92, R93), and 0 where only a reference column does.
DESIGN CHOICE (assumption log 60). -/
def ProbeCodes.saturated (p : ProbeCodes) : Option Nat :=
  match (List.range 8).find? p.win.saturates with
  | some g => some g
  | none => if p.refs.any atRail then some 0 else none

/-- The measured total of a window's reference and weight columns in units (R231). -/
def ProbeCodes.total (p : ProbeCodes) : Int := 16 * (sumI p.win.codes + sumI p.refs)

/-- Condition 3 of R232 in one window: a weight column whose value lies outside its tolerance. -/
def ProbeCodes.columnOff (p : ProbeCodes) (x : XbCells) (tol rho : Nat) : Bool :=
  (List.range 512).any fun j =>
    decide (tol * 65536 < (16 * nth 0 p.win.codes j * 65536 - ((15 * x.signature p.win.window j * (65536 - rho) : Nat) : Int)).natAbs)

/-- A probe of a crossbar (R76, R93): for each window the codes that count, of its repeat where the first saturated, none where
both did; and each saturated pass with its group, first passes before repeats. -/
structure Probe where
  kept : List ProbeCodes
  sat : List (Nat × Nat)
  twice : List Nat
  repeats : Nat
deriving DecidableEq, Repr

/-- The eight windows of a probe. -/
def XbCells.probes (x : XbCells) (cs : List XbCharges) (row col : Nat) : Probe :=
  let all := (List.range 8).map fun w =>
    let a := x.probe cs row col 0 w
    match a.saturated with
    | none => (some a, ([] : List (Nat × Nat)))
    | some g =>
      let b := x.probe cs row col 1 w
      match b.saturated with
      | none => (some b, [(w, g)])
      | some h => (none, [(w, g), (w, h)])
  ⟨all.filterMap (·.1), (all.map (·.2)).flatten, (List.range 8).filter fun w => (nth (none, []) all w).1.isNone,
    (all.filter fun e => !e.2.isEmpty).length⟩

/-- A probe asks its cluster for its pass intervals of 64 ns (R61, R77, R80), counts its passes (R82), and logs its saturated windows
with PASS 3 at LSB 16 in an 8-window split (R93, R103). -/
def State.runProbe (s : State) (p phys : Nat) (r : Probe) : State :=
  let core := posCore p
  let cluster := posCluster p
  let n := 8 + r.repeats
  let s := s.setProbe core cluster ⟨phys, n, [], 0⟩
  let s := (s.goCluster core cluster clusterTurns).count AMF_PASS_CNT_COUNT n
  forEach r.sat s fun s e => s.satLog core cluster (posRow p) (posCol p) e.2 3 8 4

/-- The start of the next lehr round (R231): one period on, or that of the period that runs already. -/
def State.nextRound (s : State) : Nat :=
  let p := max 1 (s.rd LST_LEHR_CTRL_PERIOD) * 1000000000
  s.lst.lehrStart + p * max 1 ((s.now - s.lst.lehrStart) / p)

/-- The probe of a position is taken off the bind's list, or the lehr round goes on behind it (R218, R231). -/
def State.probeTaken (s : State) (p : Nat) (binding : Bool) : State :=
  if binding then s.withLst { s.lst with
    bind := s.lst.bind.map fun b => { b with probing := b.probing.filter (· != p) } }
  else
    let s := s.withLst { s.lst with lehrNext := p + 1 }
    if s.lehrTarget.isSome then s
    else s.withLst { s.lst with lehrNext := 0, lehrStart := s.nextRound }

/-- What a probe's values come to (R231, R232): ρ_x and its age, the refreshes asked for, and the reports to SMS.
DEDUCED (assumption log 47). -/
def State.probeResult (s : State) (p phys : Nat) (cells : XbCells) (r : Probe) : State :=
  let s := s.count LST_LEHR_PROBE_CNT_COUNT
  let c := s.corr phys
  let rho := if r.kept.isEmpty then c.rho
    else rhoOf (sumN (r.kept.map fun k => cells.windowTotal k.win.window)) (sumI (r.kept.map ProbeCodes.total))
  let age := if c.verified then 86400000000000 else s.xbAge c
  let s := s.setCorr phys { c with rho := rho, probeAge := age, verified := false
                                   lastedAt := if c.verified then (s.now : Int) - 86400000000000 else c.lastedAt }
  let s := (s.recomputeDrift phys).trackNow
  let bad2 := !r.twice.isEmpty
  let bad3 := r.kept.any fun k => k.columnOff cells (s.rd LST_LEHR_LIM_COL_TOL) rho
  let again := s.lst.refreshed.any fun e => e.1 == p && ((e.2 == 2 && bad2) || (e.2 == 3 && bad3))
  let s := s.withLst { s.lst with refreshed := s.lst.refreshed.filter (·.1 != p) }
  let failed := (if bad2 then [2] else []) ++ (if bad3 then [3] else [])
  let s := if bad2 || again then
      let s := s.logEvent { EventRec.blank 0x14 0 with
        core := some (posCore p), where_ := posWhere p, detail := [nth 0 r.twice 0, rho] }
      s.suspect (posCore p) 16 (.xb p)
    else s
  if bad2 then s.askRefresh p 2 rho failed
  else if bad3 then s.askRefresh p 3 rho failed
  else if s.rd LST_LEHR_CTRL_RHO ≤ rho then s.askRefresh p 4 rho failed else s

/-- LEHR_PROBE (R76, R231, R232): LST probes a crossbar, with what its lines held beyond the charge of ideal cells, once no probe is under
way on its cluster; its passes take the cluster's arbiter turn by turn with the vectors (R77). DEDUCED (assumption log 47). -/
def execLehrProbe (t p : Nat) (charges : List XbCharges) (s : State) : Host.Outcome State Fault Refusal :=
  let s := s.advance t
  let binding := match s.lst.bind with | some b => b.probing.contains p && b.left.isEmpty | none => false
  let turn := s.lst.bind.isNone && !s.lehrHeld && s.bit LST_CTRL_LEHR_EN && s.lehrTarget == some p
    && decide (s.lst.lehrStart ≤ s.now)
  if (!binding && !turn) || s.probing (posCore p) (posCluster p) then .next s
  else
    let s := s.probeTaken p binding
    if s.underLasting p then .next s
    else
      let phys := s.physPos p
      let cells := (s.contentOf (SMap.get 0 s.lst.holds p - 1)).cellsAt p
      let r := cells.probes charges (posRow p) (posCol p)
      .next ((s.runProbe p phys r).probeResult p phys cells r)

/-- The order of R232 between two queued refreshes. -/
def refreshBefore (a b : Refresh) : Bool :=
  decide (a.order < b.order) || (a.order == b.order && a.order == 4 && decide (b.rho < a.rho))

/-- The refresh served next (R232). -/
def State.nextRefresh (s : State) : Option Refresh := bestOf refreshBefore s.lst.refreshQ

/-- MAX_REFRESH as it applies. -/
def State.maxRefresh (s : State) : Nat := min 1024 (max 1 (s.rd LST_LEHR_LIM_MAX_REFRESH))

/-- LEHR_REFRESH (R232, R221): at the next boundary the first queued crossbar's refresh starts, where the limits allow it.
DEDUCED (assumption log 47). -/
def execLehrRefresh (t p : Nat) (s : State) : Host.Outcome State Fault Refusal :=
  let s := s.advance t
  match s.nextRefresh with
  | none => .next s
  | some r =>
    let hold := SMap.get 0 s.lst.holds p
    if r.pos ≠ p || hold = 0 || s.lst.bind.isSome || s.lehrHeld || s.lst.lastings.any (·.pos == p)
        || (r.order ≠ 1 && !s.bit LST_CTRL_LEHR_EN)
        || decide (s.maxRefresh ≤ (s.lst.lastings.filter (·.why == .refresh)).length)
        || decide (s.maxLastings ≤ s.lst.lastings.length)
        || (s.holdsBound p && decide (4 ≤ s.coreLastings (posCore p))) then .next s
    else
      let s := s.toBoundary
      let s := s.startLasting p (hold - 1) .refresh
      .next (s.withLst { s.lst with refreshed := s.lst.refreshed ++ r.failed.map fun o => (p, o) })

/-- CS takes a retired slice's place for good (R97): a visit of a column-side slice that is under way ends without an update. -/
def State.retireSlice (s : State) (phys k : Nat) : State :=
  let x := s.trk phys
  let visit := match x.visit with
    | some (n, b) => if n ≤ 16 then none else some (n, b)
    | none => none
  (s.setTrk phys { x with replaced := some k, visit := visit }).respare phys

/-- A move of R416 has what it needs: the lasting of the spare, of every crossbar for a site. -/
def State.moveIsReady (s : State) (core : Nat) : Bool :=
  match (s.health core).pending with
  | some (.site _) => s.siteReady core
  | _ => (s.health core).moveReady

/-- A move of R416 that is ready takes effect at a job start that uses the core: the slice's replacement by CS, the spare
crossbar, or the spare site; the core returns to level 0. DEDUCED (assumption log 51). -/
def State.applyMove (s : State) (core : Nat) : State :=
  let h := s.health core
  if !s.moveIsReady core then s
  else
    let s := s.setHealth core { h with
      pending := none, moveReady := false, level := 0, events := [], since4 := [], climbPending := 0 }
    match h.pending with
    | some (.slice p k) => s.retireSlice (s.physPos p) k
    | some (.xb p) => s.withLst { s.lst with onSpare := SMap.put false s.lst.onSpare p true }
    | some (.site n) =>
      let s := (s.setHealth core { s.health core with site := some n }).resetCore core
      s.withLst { s.lst with
        onSpare := s.lst.onSpare.filter (fun e => posCore e.1 != core)
        unserved := s.lst.unserved.filter (posCore · != core)
        holds := match s.lst.current with
          | some (_, g) => (s.lst.unserved.filter (posCore · == core)).foldl (fun m p => SMap.put 0 m p (g + 1)) s.lst.holds
          | none => s.lst.holds
        siteDone := s.lst.siteDone.filter (posCore · != core) }
    | _ => s

/-- A job start that finds a core-site move pending waits for it (R416). -/
def State.moveBlocks (s : State) (core : Nat) : Bool :=
  match (s.health core).pending with
  | some (.site _) => !s.siteReady core
  | _ => false

end Sys2Proof.Machine
end

