-- ==== Sys2Proof/Machine/Domain.lean ====
section
/-! DEFINITION. The reach of power-on and PERST_N (spec/19_bring_up_and_pins.md R456), the drop of the main rails
(R455) and the thermal trip (spec/16_power_thermal.md R397, R398). -/

namespace Sys2Proof.Machine

/-- A pending retirement is kept in the health record and applied at the next start (R420, R423).
DEDUCED (assumption log 10), DEDUCED (assumption log 51). -/
def Health.restart (h : Health) : Health :=
  let h := { h with running := none, overdue := false, due := 0, slice := 0, climbPending := 0,
                    downPending := false, pending := none, moveReady := false, rampTo := 0, level := min 6 (h.level + h.climbPending) }
  h

/-- The health record of a core after a start. -/
def Health.started (h : Health) : Health :=
  match h.pending with
  | none => h.restart
  | some (.site n) => { h.restart with site := some n, level := 0, events := [], since4 := [] }
  | some _ => { h.restart with level := 0, events := [], since4 := [] }

/-- Positions whose spare crossbar a pending retirement has taken. -/
def State.pendingXbs (s : State) : List Nat :=
  s.sms.health.filterMap fun e => match e.2.pending with | some (.xb p) => some p | _ => none

/-- Physical crossbars and the slice that a retirement has put CS in place of (R97, R416): in force or pending. -/
def State.spareSlices (s : State) : SMap XbTrk :=
  let t := SMap.mapVals XbTrk.init (fun _ (x : XbTrk) => { XbTrk.init with replaced := x.replaced }) s.fab.track
  s.sms.health.foldl (fun m e => match e.2.pending with
    | some (.slice p k) => SMap.put XbTrk.init m (s.physPos p) { XbTrk.init with replaced := some k }
    | _ => m) t

/-- PTM_TRIP_LOG shows the last shutdown record of the ledger (R398, R406). -/
def State.showTrip (s : State) : State :=
  let s := s.wr PTM_TRIP_LOG_TRIPS (min 2047 s.pwr.trips)
  match s.pwr.trip with
  | none => s
  | some r => ((s.wr PTM_TRIP_LOG_CAUSE r.cause).wr PTM_TRIP_LOG_WHERE r.place).wr PTM_TRIP_LOG_TEMP
      (toCode 8 (if r.cause = 1 then r.model else r.diode))

/-- The management controller's send blocks, which its standby set keeps at PERST_N: a message that was pending has ended with
ABORTED (R367, R456). DEDUCED (assumption log 33). -/
def State.mcBlocks (s : State) : SMap Mbx :=
  SMap.mapVals Mbx.init (fun k m => if k / 64 = 32 then
    { m with busy := false, aborted := m.aborted || m.msg.isSome, msg := none } else Mbx.init) s.ctl.mbx

/-- Power-on or PERST_N (R456): every part of the main side takes its reset state.  The ledger, the identity store, the
standby domain, and what the host and the links have already received stay; the health record is applied (R420); the
management port hears that a module fault has cleared (R435). DEDUCED (assumption log 10). -/
def State.mainReset (s : State) : State :=
  let kept := s.rd SMS_FW_REFUSED_CNT_COUNT
  let toSite (p : Nat) : Bool := match (s.health (posCore p)).pending with | some (.site _) => true | _ => false
  let on := s.pendingXbs.foldl (fun m p => SMap.put false m p true) (s.lst.onSpare.filter fun e => !toSite e.1)
  let r : State := { State.reset with
    pending := s.pending
    free := s.free
    hif := { HifSt.init with out := s.hif.out }
    lnk := { LnkSt.init with sent := s.lnk.sent }
    ctl := { State.reset.ctl with mbx := s.mcBlocks }
    lst := { LstSt.init with endurance := s.lst.endurance, onSpare := on }
    fab := { FabSt.init with track := s.spareSlices }
    sms := { s.sms with
      health := SMap.mapVals Health.init (fun _ h => h.started) s.sms.health
      restarts := [], iftBase := none, second := 0, inSecond := 0 }
    ptm := { PtmSt.init with convSpare := s.ptm.convSpare }
    pwr := s.pwr
    mgt := { s.mgt with app := false, measHeld := none } }
  let r := (r.wr SMS_FW_REFUSED_CNT_COUNT kept).showTrip
  r.when (s.bit SMS_STATUS_MODULE_FAULT) (·.mgtEvent 102 0)

/-- The main rails drop (R455): PWR_GOOD falls, the main domain loses everything, flash writes of an update stop (R445), and
the management controller returns to its standby set (R434). DEDUCED (assumption log 10). -/
def State.railsDown (s : State) : State :=
  let s := s.mainReset
  let s := (s.withPwr { s.pwr with rails := false, pwrGood := false }).withCtl State.reset.ctl
  s.withMgt { s.mgt with update := none, updateLost := s.mgt.update.isSome || s.mgt.updateLost }

/-- A thermal trip (R397, R398): THERMTRIP_N latches, the record of SMS and the shutdown record enter the ledger, the trip
record last, and every main regulator turns off. DEDUCED (assumption log 38). -/
def State.trip (s : State) (cause place : Nat) (model diode : Int) : State :=
  if s.pwr.tripLatch then s
  else
    let power := s.rd PTM_PWR_STATUS_INPUT_W
    let s := s.logEvent { EventRec.blank 0x18 3 with
      detail := [cause, place, toCode 32 model, toCode 32 diode, power] }
    let s := s.withPwr { s.pwr with
      tripLatch := true, trips := min 2047 (s.pwr.trips + 1)
      trip := some ⟨s.now, cause, place, model, diode, power⟩ }
    (s.mgtEvent 101 cause).railsDown

/-- The main domain runs: its rails are up and PERST_N is released. -/
def State.mainOn (s : State) : Bool := s.pwr.rails && s.pwr.pwrGood && !s.pwr.perst

end Sys2Proof.Machine
end

