-- ==== Sys2Proof/Machine/Ptm.lean ====
section
/-! DEFINITION. Power and temperature (spec/16_power_thermal.md): the monitor's sequences and windows, the thermal model,
throttling, the governor, the power states, and the meanings of their commands. -/

namespace Sys2Proof.Machine

/-- The latest value of a channel (R392). -/
def State.chan (s : State) (c : Nat) : Int := (SMap.get (0, 0) s.ptm.chans c).1

/-- A value lies outside its channel's window (R391). DEDUCED (assumption log 38). -/
def outside (c : Nat) (v : Int) : Bool := decide (v < (Config.windowLo c).toInt) || decide ((Config.windowHi c).toInt < v)

/-- The modelled temperature of a region or plate node in °C. -/
def State.temp (s : State) (i : Nat) : F32 := SMap.get 0#32 s.ptm.temps i

/-- A modelled temperature in whole °C. -/
def wholeDeg (t : F32) : Int := f32ToIntEven t 0

/-- The hottest of a list of regions. -/
def State.hottest (s : State) (l : List Nat) : F32 :=
  match l with
  | [] => 0#32
  | i :: t => t.foldl (fun m j => if f32Lt m (s.temp j) then s.temp j else m) (s.temp i)

/-- PTM_TEMP_MAX (R406): the highest modelled region temperature and its region. -/
def State.tempMax (s : State) : Int × Nat :=
  let m := s.hottest (List.range 536)
  (wholeDeg m, ((List.range 536).find? fun i => s.temp i == m).getD 0)

/-- PTM_DIODE_MAX (R406): the highest diode reading in 1/16 °C and its diode. DEDUCED (assumption log 37). -/
def State.diodeMax (s : State) : Int × Nat :=
  (List.range 80).foldl (fun m d => if m.1 < s.chan (520 + d) then (s.chan (520 + d), d) else m) (s.chan 520, 0)

/-- The regions a diode covers (R389, R394). -/
def covered (d : Nat) : List Nat := if d < 64 then natsFrom (8 * d) 8 else [448 + d]

/-- A diode's record. -/
def State.diode (s : State) (d : Nat) : DiodeSt := SMap.get DiodeSt.init s.ptm.diodes d
/-- A diode's record replaced. -/
def State.setDiode (s : State) (d : Nat) (x : DiodeSt) : State :=
  s.withPtm { s.ptm with diodes := SMap.put DiodeSt.init s.ptm.diodes d x }

/-- A throttle group. -/
def State.group (s : State) (g : Nat) : ThrottleGroup := SMap.get ThrottleGroup.init s.ptm.groups g
/-- A throttle group replaced. -/
def State.setGroup (s : State) (g : Nat) (x : ThrottleGroup) : State :=
  s.withPtm { s.ptm with groups := SMap.put ThrottleGroup.init s.ptm.groups g x }

/-- The group of a core (R399). -/
def throttleOf (core : Nat) : Nat := if core < 512 then core / 8 else core - 448

/-- The cores a group throttles (R399). -/
def groupCores (g : Nat) : List Nat :=
  if g < 64 then natsFrom (8 * g) 8 else if g < 72 then [448 + g] else if g = 72 then List.range 512 else natsFrom 512 8

/-- The highest temperature of a group (R399): its regions as modelled, for the packages their readouts.
DEDUCED (assumption log 38). -/
def State.groupTemp (s : State) (g : Nat) : F32 :=
  if g < 72 then s.hottest (groupCores g)
  else if g = 72 then s.hottest (natsFrom 520 8)
  else if g = 73 then s.hottest (natsFrom 528 8)
  else f32OfInt ((natsFrom 648 16).foldl (fun m c => max m (s.chan c)) (s.chan 648))

/-- A group's limit in °C, as PTM_THERM and PTM_MEM_THERM apply (R399, R406). -/
def State.groupLimit (s : State) (g : Nat) : Nat :=
  if g < 73 then min 105 (max 70 (s.rd PTM_THERM_THROTTLE))
  else min 100 (max 70 (if g = 73 then s.rd PTM_MEM_THERM_HBM else s.rd PTM_MEM_THERM_LP))

/-- A group enters throttling (R399): counted and raised; the management port hears of it (R435).
DEDUCED (assumption log 38). -/
def State.groupOn (s : State) (g n : Nat) : State :=
  let s := s.setGroup g { s.group g with n := n, count := 0 }
  let s := (s.count PTM_THROTTLE_CNT_COUNT).ptmEvent PTM_EVENT_THROTTLE_ON
  s.when s.mgt.app (·.mgtEvent 4 s.tempMax.1)

/-- A group leaves throttling (R399). -/
def State.groupOff (s : State) (g : Nat) : State :=
  let s := s.setGroup g { s.group g with n := 0, count := 0 }
  let s := s.ptmEvent PTM_EVENT_THROTTLE_OFF
  s.when s.mgt.app (·.mgtEvent 4 s.tempMax.1)

/-- One group's ladder at a slow round (R399). DEDUCED (assumption log 38). -/
def State.throttleStep (s : State) (g : Nat) : State :=
  let x := s.group g
  let t := s.groupTemp g
  let limit := s.groupLimit g
  let low := limit - max 1 (s.rd PTM_THERM_HYST)
  let s :=
    if f32Lt (f32OfNat limit) t then
      if x.n = 0 then (if s.bit PTM_CTRL_THROTTLE_EN then s.groupOn g 64 else s)
      else if f32Lt x.prev t then s.setGroup g { x with n := max 2 (x.n / 2), count := 0 }
      else s.setGroup g { x with count := 0 }
    else if x.n = 0 then s
    else if f32Lt t (f32OfNat low) then
      if x.count + 1 < max 1 (s.rd PTM_THERM_HOLD) then s.setGroup g { x with count := x.count + 1 }
      else if 64 < 2 * x.n then s.groupOff g
      else s.setGroup g { x with n := 2 * x.n, count := 0 }
    else s.setGroup g { x with count := 0 }
  s.setGroup g { s.group g with prev := t }

/-- The smallest N of the groups that throttle a core (R399), 0 for none. -/
def State.pauseN (s : State) (core : Nat) : Nat :=
  let l := ((throttleOf core :: (if core < 512 then [72] else [73, 74])).map fun g => (s.group g).n).filter (· != 0)
  match l with
  | [] => 0
  | a :: t => t.foldl min a

/-- What PTM hands over at a slot boundary (R26, R247, R399–R402): pause ratios, the fabric cap, the lasting budget and the
compensation of the delay lines. -/
def State.ptmBoundary (s : State) : State :=
  let s := { s with serve := { s.serve with throttle := SMap.ofFn 0 520 s.pauseN } }
  s.withPtm { s.ptm with
    capNow := s.rd PTM_PWR_STATUS_EFF_FABRIC_W
    halved := s.ptm.groups.any fun e => e.2.n != 0 && decide (e.2.n ≤ 8)
    lineAt := SMap.ofFn 0 520 fun i => wholeDeg (s.temp i) }

/-- With the wheel stopped no boundary is waited for (R244). -/
def State.ptmNow (s : State) : State := if s.running then s else s.ptmBoundary.trackNow

/-- T_x of a core (R402): a new whole degree is published when the model has moved more than 0.625 °C from the last. -/
def State.publish (s : State) (core : Nat) : State :=
  let t := s.temp core
  let last := (SMap.get none s.ptm.txNew core).getD (SMap.get 0 s.ptm.tx core)
  if f32Lt 0x3F200000#32 (f32Abs (f32Sub t (f32OfInt last))) then
    s.withPtm { s.ptm with txNew := SMap.put none s.ptm.txNew core (some (wholeDeg t)) }
  else s

/-- Every core's T_x is looked at. -/
def State.publishAll (s : State) : State := forEach (List.range 520) s State.publish

/-- A region that has reached 115 °C (R397 cause 1). -/
def State.modelTrip (s : State) : Option Nat := (List.range 536).find? fun i => f32Le 0x42E60000#32 (s.temp i)

/-- The diode that covers a region, and its reading in whole °C: the stacks have none. -/
def State.diodeAt (s : State) (region : Nat) : Int :=
  let d := if region < 512 then region / 8 else region - 448
  if 528 ≤ region then s.chan (112 + region) else s.chan (520 + d) / 16

/-- The trip check of the model (R397). DEDUCED (assumption log 37). -/
def State.checkModel (s : State) : State :=
  match s.modelTrip with
  | some i => s.trip 1 i (wholeDeg (s.temp i)) (s.diodeAt i)
  | none => s

/-- Results enter the queue (R392) while its readers take `taken` of the oldest: those that find it full are not queued.
DEDUCED (assumption log 38). -/
def State.enqueue (s : State) (taken : Nat) (l : List MonResult) : State :=
  let all := (s.ptm.results ++ l).drop taken
  let lost := all.length - 256
  let s := s.withPtm { s.ptm with results := all.take 256 }
  if lost = 0 then s else (s.count PTM_QUEUE_OVF_CNT_COUNT lost).ptmEvent PTM_EVENT_QUEUE_OVF

/-- A value of a memory readout that leaves its window is confirmed at once (R391): its group throttles.
DEDUCED (assumption log 38). -/
def State.memoryWindow (s : State) (c : Nat) : State :=
  let g := if c < 648 then 73 else 74
  let s := s.ptmEvent PTM_EVENT_WINDOW
  if (s.group g).n = 0 && s.bit PTM_CTRL_THROTTLE_EN then s.groupOn g 64 else s

/-- A converted value is latched and compared with its window (R391): a leaving is counted, and its injected sequence is due. -/
def State.convert (s : State) (kind : Nat) (c : Nat) (v : Int) : State :=
  let s := s.withPtm { s.ptm with chans := SMap.put (0, 0) s.ptm.chans c (v, kind) }
  if !outside c v then s
  else
    let s := s.count PTM_WINDOW_CNT_COUNT
    if 640 ≤ c then s.memoryWindow c
    else if 632 ≤ c || s.ptm.inject.any (·.1 == c) then s
    else s.withPtm { s.ptm with inject := s.ptm.inject ++ [(c, v)] }

/-- Values of a round are converted in channel order and queued. -/
def State.convertAll (s : State) (kind strobe taken : Nat) (l : List (Nat × Int)) : State :=
  (forEach l s fun s e => s.convert kind e.1 e.2).enqueue taken (l.map fun e => ⟨e.1, kind, strobe, e.2⟩)

/-- The core supply's rail (R389). -/
def railOf (core : Nat) : Nat := if core < 256 then 0 else if core < 512 then 1 else 2

/-- A core's supply in mV (R403): its die's rail and its voltage steps. -/
def State.coreMv (s : State) (core : Nat) : Int := s.chan (600 + railOf core) + 10 * levelVstep (s.health core).level

/-- The power of a rail in W. -/
def State.railPower (s : State) (r : Nat) : F32 := f32Mul (f32OfRat (s.chan (600 + r)) 1000) (f32OfRat (s.chan (616 + r)) 100)

/-- p_i of R395 in W. -/
def State.regionPower (s : State) (i : Nat) : F32 :=
  if i < 520 then f32Mul (f32OfRat (s.coreMv i) 1000) (f32OfRat (s.chan i) 1000)
  else (if 528 ≤ i then [6, 7] else List.range 11).foldl (fun a r => f32Add a (f32Mul (Config.railShare i r) (s.railPower r))) 0#32

/-- The plate node under a region (R394). -/
def plateOf (i : Nat) : Nat := if i < 256 then 536 else if i < 512 then 537 else 538

/-- The temperature of a region after a fast round (R395, R396 point 3), from the state before it.
DEDUCED (assumption log 37). -/
def State.regionNext (s : State) (i : Nat) : F32 :=
  let t := s.temp i
  let q0 := f32Mul (Config.plateConductance i) (f32Sub t (s.temp (plateOf i)))
  let q := (List.range 536).foldl (fun a j =>
    if j = i then a else f32Add a (f32Mul (Config.regionConductance i j) (f32Sub t (s.temp j)))) q0
  let dt := f32Mul (f32Div (f32OfRat 8 1000000) (Config.heatCapacity i)) (f32Sub (s.regionPower i) q)
  f32Add (f32Add t dt) (SMap.get 0#32 s.ptm.offsets i)

/-- The temperature of a plate node after a fast round (R395). -/
def State.plateNext (s : State) (coolant : F32) (n : Nat) : F32 :=
  let t := s.temp n
  let heat := ((List.range 536).filter (plateOf · == n)).foldl (fun a i =>
    f32Add a (f32Mul (Config.plateConductance i) (f32Sub (s.temp i) t))) 0#32
  let q := f32Mul (Config.plateConductance n) (f32Sub t coolant)
  f32Add t (f32Mul (f32Div (f32OfRat 8 1000000) (Config.heatCapacity n)) (f32Sub heat q))

/-- The model advances by one fast round (R395). DEDUCED (assumption log 37). -/
def State.advanceModel (s : State) : State :=
  let (n, s) := s.draw
  let c := Config.coolant n
  s.withPtm { s.ptm with
    temps := SMap.ofFn 0#32 539 fun i => if i < 536 then s.regionNext i else s.plateNext c i }

/-- The values of a fast round by channel (R390): the cores, the rails, the 54 V input's voltage, current and power. -/
def fastValues (cores rails : List Int) (v54 i54 w : Int) : List (Nat × Int) :=
  ((List.range 520).map fun c => (c, nth 0 cores c)) ++ ((List.range 16).map fun r => (616 + r, nth 0 rails r))
    ++ [(632, v54), (633, i54), (634, w)]

/-- The sums of a fast round: the input power and the cores' power since the last slow round. -/
def State.sumRound (s : State) (w : Nat) : State :=
  s.withPtm { s.ptm with
    powerSum := s.ptm.powerSum + w
    coreSum := SMap.ofFn 0 520 fun c => SMap.get 0 s.ptm.coreSum c + (s.coreMv c * s.chan c).toNat
    rounds := s.ptm.rounds + 1 }

/-- FAST_ROUND (R390, R395): the currents of the 520 cores and of the 16 rails, the input voltage and current, and how many
queued results were read meanwhile.  The strobe is the tick edge at or before the command's instant.
DEDUCED (assumption log 37). -/
def execFastRound (t : Nat) (cores rails : List Int) (v54 i54 : Int) (taken : Nat) (s : State) :
    Host.Outcome State Fault Refusal :=
  let s := s.advance t
  let strobe := s.now / 8000 * 8
  if !s.mainOn || s.rd PTM_PSTATE_STATE == 1 || decide (strobe < s.ptm.fastAt) then .next s
  else
    let w := divEven (v54 * i54) 10000
    let s := s.withPtm { s.ptm with fastAt := strobe + 1 }
    let s := (s.convertAll 0 strobe taken (fastValues cores rails v54 i54 w)).sumRound w.toNat
    .next (if s.ptm.started then s.advanceModel.publishAll.ptmNow.checkModel else s)

/-- A region is drawn to a measured temperature (R396): a quarter of the error at once, a 64th into its offset.
DEDUCED (assumption log 37). -/
def State.correct (s : State) (T : F32) (i : Nat) : State :=
  let e := f32Sub T (s.temp i)
  s.withPtm { s.ptm with
    temps := SMap.put 0#32 s.ptm.temps i (f32Add (s.temp i) (f32Scale e (-2)))
    offsets := SMap.put 0#32 s.ptm.offsets i (f32Add (SMap.get 0#32 s.ptm.offsets i) (f32Scale e (-6))) }

/-- A diode is marked failed (R396). -/
def State.diodeFail (s : State) (d : Nat) : State :=
  let s := (s.setDiode d ⟨true, 0⟩).count PTM_DIODE_FAIL_CNT_COUNT
  (s.ptmEvent PTM_EVENT_DIODE_FAIL).logEvent { EventRec.blank 0x16 0 with detail := [520 + d] }

/-- A diode's reading, in 1/16 °C, at a slow round or once confirmed (R396): judged, then used. -/
def State.useDiode (s : State) (d : Nat) (v : Int) : State :=
  let x := s.diode d
  if x.failed then s
  else if v < -640 || 2400 < v then s.diodeFail d
  else
    let T := f32OfRat v 16
    if !s.ptm.started then forEach (covered d) s fun s i => s.withPtm { s.ptm with temps := SMap.put 0#32 s.ptm.temps i T }
    else
      let far := f32Lt 0x41700000#32 (f32Abs (f32Sub T (s.hottest (covered d))))
      if far && 8 ≤ x.rounds + 1 then s.diodeFail d
      else forEach (covered d) (s.setDiode d ⟨false, if far then x.rounds + 1 else 0⟩) fun s i => s.correct T i

/-- A stack's readout corrects its region in the same way (R396). -/
def State.useStack (s : State) (k : Nat) (v : Int) : State :=
  if s.ptm.started then s.correct (f32OfInt v) (528 + k)
  else s.withPtm { s.ptm with temps := SMap.put 0#32 s.ptm.temps (528 + k) (f32OfInt v) }

/-- The model has its start after the first slow round (R405); where the plate nodes start no rule states.
DEDUCED (assumption log 37). -/
def State.startModel (s : State) : State :=
  if s.ptm.started then s
  else
    let s := forEach [536, 537, 538] s fun s n =>
      let (k, s) := s.draw
      s.withPtm { s.ptm with temps := SMap.put 0#32 s.ptm.temps n (Config.plateStart k) }
    s.withPtm { s.ptm with started := true }

/-- The governor at a slow round (R401). DEDUCED (assumption log 38). -/
def State.govern (s : State) : State :=
  let p := if s.ptm.rounds = 0 then s.rd PTM_PWR_STATUS_INPUT_W else divEvenN s.ptm.powerSum s.ptm.rounds
  let cap := min 1500 (max 600 (s.rd PTM_PWR_CAP_MODULE_W))
  let fw := s.fabricCap
  let f := min fw (s.rd PTM_PWR_STATUS_EFF_FABRIC_W)
  let f := if cap < p then max 100 (f - (p - cap) - 10) else if p + 20 < cap then min fw (f + 10) else f
  let low := decide (f < fw)
  let s := (s.wr PTM_PWR_STATUS_INPUT_W (min 2047 p)).wr PTM_PWR_STATUS_EFF_FABRIC_W f
  let s := if low then s.count PTM_CAP_CNT_COUNT else s
  let s := if low && !s.ptm.capped then s.ptmEvent PTM_EVENT_CAP_ACTIVE else s
  let n := s.ptm.rounds
  let s := if n = 0 then s
    else forEach (List.range 520) s fun s c => s.wr PTM_CORE_POWER_MW (min 65535 (divEvenN (SMap.get 0 s.ptm.coreSum c) (n * 1000))) c
  s.withPtm { s.ptm with capped := low, powerSum := 0, coreSum := [], rounds := 0 }

/-- The memory readouts' trip check (R397 cause 3): the first device at 105 °C or more, numbered as PTM_TRIP_LOG.WHERE. -/
def State.checkMemory (s : State) : State :=
  match (List.range 24).find? fun k => decide (105 ≤ s.chan (640 + k)) with
  | some k => s.trip 3 (528 + k) (if k < 8 then wholeDeg (s.temp (528 + k)) else s.chan (640 + k)) (s.chan (640 + k))
  | none => s

/-- The slow round's period in ms (R390, R393). -/
def State.slowPeriod (s : State) : Nat := if s.rd PTM_PSTATE_STATE = 1 then 10 else 1

/-- SLOW_ROUND (R390, R396, R397, R399, R401): the 80 diodes, the 16 rail voltages, the 8 stacks and the 16 packages. -/
def execSlowRound (t : Nat) (diodes volts hbm lp : List Int) (taken : Nat) (s : State) : Host.Outcome State Fault Refusal :=
  let s := s.advance t
  let at_ := s.now / 1000000
  if !s.mainOn || decide (at_ + 1 < s.ptm.slowAt + s.slowPeriod) then .next s
  else
    let vals := ((List.range 80).map fun d => (520 + d, nth 0 diodes d)) ++ ((List.range 16).map fun r => (600 + r, nth 0 volts r))
      ++ ((List.range 8).map fun k => (640 + k, nth 0 hbm k)) ++ ((List.range 16).map fun k => (648 + k, nth 0 lp k))
    let s := s.withPtm { s.ptm with slowAt := at_ + 1 }
    let s := s.convertAll 1 (s.now / 1000) taken vals
    let s := forEach (List.range 80) s fun s d => if outside (520 + d) (nth 0 diodes d) then s else s.useDiode d (nth 0 diodes d)
    let s := forEach (List.range 8) s fun s k => s.useStack k (nth 0 hbm k)
    let s := s.startModel
    let s := forEach (List.range 75) s State.throttleStep
    let s := s.govern
    let s := s.withPtm { s.ptm with oscAt := wholeDeg (s.temp 526) }
    .next s.publishAll.ptmNow.checkModel.checkMemory

/-- A confirmed rail window (R391): every job ends with JOB_FAULT at the end of its step, and the rail is logged; it waits for
the end of a firmware restart (R405). -/
def State.railFault (s : State) (c : Nat) (v : Int) : State :=
  if s.ctl.restarting then s.withPtm { s.ptm with railWait := s.ptm.railWait ++ [(c, v)] }
  else
    let r := if c < 616 then c - 600 else c - 616
    let ev : EventRec := { EventRec.blank 0x17 1 with detail := [r, toCode 32 v] }
    if s.serve.jobs.isEmpty then s.logEvent ev
    else forEach s.serve.jobs s fun s j =>
      let step := (s.serve.launches.find? fun l => l.inFlight && l.fn == j.fn && l.job == j.num).map (·.id)
      s.faultJob j.fn j.num step ev

/-- A confirmed core-current window (R391): the core is reported, and its group throttles at N = 2 at once. -/
def State.coreWindow (s : State) (core : Nat) : State :=
  let s := s.suspect core 16 .core
  let g := throttleOf core
  if (s.group g).n = 0 then (if s.bit PTM_CTRL_THROTTLE_EN then s.groupOn g 2 else s)
  else s.setGroup g { s.group g with n := 2, count := 0 }

/-- A confirmed diode (R391): its value is used, and the trip check of R397 is made at 120 °C. -/
def State.diodeWindow (s : State) (c : Nat) (v : Int) : State :=
  let d := c - 520
  if (s.diode d).failed then s
  else
    let r := (covered d).headD 0
    let s := s.useDiode d v
    if 1920 ≤ v then s.trip 2 r (wholeDeg (s.temp r)) (v / 16) else s.checkModel

/-- The other channels that the injected sequence of a channel reads (R391): for a core's current, the diode of its region and the
currents of the seven other cores of its group. DEDUCED (assumption log 38). -/
def injectsToo (c : Nat) : List Nat :=
  if c < 512 then (520 + c / 8) :: (natsFrom (8 * (c / 8)) 8).filter (· != c)
  else if c < 520 then (72 + c) :: (natsFrom 512 8).filter (· != c)
  else []

/-- INJECTED_SEQUENCE (R391): the repeated values of the channel that left its window, and the values of the other channels that
its class names. -/
def execInjectedSequence (t c : Nat) (values : List Int) (others : List (Nat × Int)) (taken : Nat) (s : State) :
    Host.Outcome State Fault Refusal :=
  let s := s.advance t
  match s.ptm.inject.find? (·.1 == c) with
  | none => .next s
  | some (_, v0) =>
    let s := s.withPtm { s.ptm with inject := s.ptm.inject.filter (·.1 != c) }
    let s := s.count PTM_INJECT_CNT_COUNT
    let n := if c < 520 then 1 else if c < 600 then 2 else 3
    let vs := (List.range n).map (nth 0 values ·)
    let last := nth 0 vs (n - 1)
    let s := s.withPtm { s.ptm with chans := SMap.put (0, 0) s.ptm.chans c (last, 2) }
    let s := s.convertAll 2 (s.now / 1000) 0 (others.filter fun e => (injectsToo c).contains e.1)
    let s := s.enqueue taken (vs.map fun v => ⟨c, 2, s.now / 1000, v⟩)
    let outs := vs.filter (outside c)
    let sure := if c < 600 && 520 ≤ c then decide (1 ≤ outs.length) else outs.length == n
    if !sure then .next s
    else
      let s := s.ptmEvent PTM_EVENT_WINDOW
      if c < 520 then .next (s.coreWindow c).ptmNow
      else if c < 600 then .next (s.diodeWindow c (outs.getLastD v0))
      else .next (s.railFault c last)

/-- The converters of a die: 8 working ones in an array die, 4 in the hub (R389). -/
def convCount (die : Nat) : Nat := if die < 2 then 8 else 4

/-- A tracking update of a monitor converter held at its limit (R393). DEDUCED (assumption log 39). -/
def monStep (first : Bool) (v num : Int) (den : Nat) (lim : Int) : Int × Bool :=
  let x := if first then divAway num den else v + divAway (num - v * den) (8 * den)
  (clampI (-lim) lim x, decide (x ≤ -lim) || decide (lim ≤ x))

/-- MONITOR_TRACK_VISIT (R393): the spare converter of a die visits the next working one every 100 ms; at a limit it replaces it
for good, and a second limit on the die is a monitor fault. DEDUCED (assumption log 39). -/
def execMonitorTrackVisit (t die : Nat) (l : Ladder) (s : State) : Host.Outcome State Fault Refusal :=
  let s := s.advance t
  let last := SMap.get 0 s.ptm.convAt die
  if 3 ≤ die || !s.mainOn || s.rd PTM_PSTATE_STATE == 1 || (last != 0 && decide (s.now + 1 < last + 100000000)) then .next s
  else
    let n := SMap.get 0 s.ptm.convNext die
    let x := SMap.get MonConv.init s.ptm.convs (16 * die + n)
    let o := monStep (!x.visited) x.offset l.zero 2 128
    let g := monStep (!x.visited) x.gain (l.plus - l.minus - 12288) 3 32
    let hit := o.2 || g.2
    let spare := SMap.get 0 s.ptm.convSpare die
    let s := s.withPtm { s.ptm with
      convs := SMap.put MonConv.init s.ptm.convs (16 * die + n) ⟨o.1, g.1, true, hit⟩
      convNext := SMap.put 0 s.ptm.convNext die ((n + 1) % convCount die)
      convAt := SMap.put 0 s.ptm.convAt die (s.now + 1) }
    if !hit || spare = n + 1 then .next s
    else if spare = 0 then
      let s := s.withPtm { s.ptm with convSpare := SMap.put 0 s.ptm.convSpare die (n + 1) }
      .next (s.logEvent { EventRec.blank 0x16 0 with detail := [16 * die + n] })
    else if x.atLimit then .next s
    else .next ((s.logEvent { EventRec.blank 0x16 3 with detail := [16 * die + n] }).moduleFault 5)

/-- No request is admitted and no step, chunk, lasting or page migration is in progress (R404). -/
def State.quiet (s : State) : Bool :=
  s.serve.launches.isEmpty && s.lst.lastings.isEmpty && decide (s.serve.copyUsed ≤ s.copyCap)
    && s.serve.sessions.all fun x => x.cloneOf.isNone && x.state != .pausing && x.state != .resuming
      && !x.queue.any (·.phase == .admitted)

/-- Lastings of a bind or a swap are still to come, so that MP1 is not entered (R233). -/
def State.lastingsAhead (s : State) : Bool :=
  (s.lst.bind.any fun b => !b.left.isEmpty) || s.lst.swap.any fun w => w.phase == .prepare || (w.phase == .lasting && !w.left.isEmpty)

/-- REQ = 1 is written (R404, R233). DEDUCED (assumption log 35). -/
def State.enterMp1 (s : State) : State :=
  let st := s.rd PTM_PSTATE_STATE
  if st = 1 || st = 2 then s.setBit PTM_PSTATE_REQ
  else if st = 0 && s.quiet && !s.lastingsAhead then (s.setBit PTM_PSTATE_REQ).wr PTM_PSTATE_STATE 2
  else (s.wr PTM_PSTATE_REQ 0).setBit PTM_PSTATE_CFG_ERR

/-- The return from MP1 begins (R404): a tracking round and a verify pass run before any vector.
DEDUCED (assumption log 35). -/
def State.returnMp0 (s : State) : State :=
  let s := (s.wr PTM_PSTATE_REQ 0).wr PTM_PSTATE_STATE 3
  let track := SMap.mapVals XbTrk.init (fun _ x => { x with next := 0, visit := none, round := false }) s.fab.track
  let s := s.withFab { s.fab with track := track }
  s.withPtm { s.ptm with roundDue := !s.trackedXbs.isEmpty, verifyDue := true }

/-- REQ = 0 is written, or a submission doorbell is accepted (R404). DEDUCED (assumption log 35). -/
def State.leaveMp1 (s : State) : State :=
  if s.rd PTM_PSTATE_STATE = 1 then s.returnMp0 else s.wr PTM_PSTATE_REQ 0

/-- PTM_PSTATE_ENTER_MP1 (R404): PTM_PSTATE is written with REQ = 1. -/
def execPtmPstateEnterMp1 (t fn : Nat) (s : State) : Host.Outcome State Fault Refusal :=
  let s := s.advance t
  .next (s.when (s.accepts fn) State.enterMp1)

/-- PTM_PSTATE_EXIT_MP1 (R404): PTM_PSTATE is written with REQ = 0. -/
def execPtmPstateExitMp1 (t fn : Nat) (s : State) : Host.Outcome State Fault Refusal :=
  let s := s.advance t
  .next (s.when (s.accepts fn) State.leaveMp1)

/-- MP1_ENTRY_COMPLETE (R404): STATE goes from 2 to 1; where REQ was written back to 0 meanwhile, the return begins at once.
DEDUCED (assumption log 35). -/
def execMp1EntryComplete (t : Nat) (s : State) : Host.Outcome State Fault Refusal :=
  let s := s.advance t
  if s.rd PTM_PSTATE_STATE ≠ 2 then .next s
  else
    let s := s.wr PTM_PSTATE_STATE 1
    .next (if s.bit PTM_PSTATE_REQ then s else s.returnMp0)

/-- The cells that a position holds. -/
def State.heldCells (s : State) (p : Nat) : XbCells := (s.contentOf (SMap.get 0 s.lst.holds p - 1)).cellsAt p

/-- MP0_RETURN_COMPLETE (R404, R224): the tracking round and the verify pass are done; the positions with a failing cell
are lasted before the module is in MP0 again. DEDUCED (assumption log 35). -/
def execMp0ReturnComplete (t : Nat) (verify : List VerifyRead) (s : State) : Host.Outcome State Fault Refusal :=
  let s := s.advance t
  if s.rd PTM_PSTATE_STATE ≠ 3 || s.ptm.roundDue then .next s
  else
    let bad := if s.ptm.verifyDue then s.verifyFails s.heldCells verify ((verify.map (·.pos)).filter s.positionUsed).eraseDups else []
    let s := (s.withPtm { s.ptm with verifyDue := false }).count LST_VERIFY_FAIL_CNT_COUNT bad.length
    let s := s.withLst { s.lst with verifyLeft := s.lst.verifyLeft ++ bad }
    if s.lst.verifyLeft.isEmpty && !s.lst.lastings.any (·.why == .verify) then .next (s.wr PTM_PSTATE_STATE 0) else .next s

/-- STANDBY_SAMPLE (R404): the management controller samples the standby input, in 10 mV and mA. -/
def execStandbySample (t v i : Nat) (s : State) : Host.Outcome State Fault Refusal :=
  let s := s.advance t
  .next (if s.pwr.up then s.withPwr { s.pwr with standbyV := v, standbyI := i } else s)

end Sys2Proof.Machine
end

