-- ==== Sys2Proof/Machine/Time.lean ====
section
/-! DEFINITION. External time: its sources, locking, holdover, steps and slews, and PTP
(spec/10_cadence_wheel.md R237–R241, R262, spec/13_links.md R349, R350), and the meanings of their commands. -/

namespace Sys2Proof.Machine

/-- A source supplies phase or time under TWS_DISC_CTRL.SRC (R238): PPS for 1 and 3, PTP for 2 and 3.
DEDUCED (assumption log 24). -/
def State.usesPps (s : State) : Bool := s.rd TWS_DISC_CTRL_SRC % 2 == 1
/-- PTP is a source. -/
def State.usesPtp (s : State) : Bool := decide (2 ≤ s.rd TWS_DISC_CTRL_SRC)

/-- UNLOCKED is looked at again (R262): the event on its rise. -/
def State.checkUnlock (s : State) : State :=
  let u := s.unlocked
  let s := s.when (u && !s.time.unlocked) (·.twsEvent TWS_EVENT_UNLOCK TWS_EVENT_EN_UNLOCK)
  s.withTime { s.time with unlocked := u }

/-- The error estimate takes a value (R238), growing by HOLD_RATE from now on or standing still. -/
def State.setErr (s : State) (v : Nat) (grows : Bool) : State :=
  (s.withTime { s.time with errBase := some v, errAt := if grows then some s.now else none }).checkUnlock

/-- QUALITY follows the locks (R238, R239): a locked source, else HOLDOVER from a locked state.
DEDUCED (assumption log 24). -/
def State.requality (s : State) : State :=
  let pps := s.bit TWS_STATUS_PPS_OK
  if s.bit TWS_STATUS_PTP_OK then
    let (n, s) := s.draw
    (s.setQuality 3).setErr (if pps then 50 else max 100 (Config.servoEstimate n)) false
  else if pps then (s.setQuality 2).setErr 50 false
  else if s.rd TWS_STATUS_QUALITY = 2 || s.rd TWS_STATUS_QUALITY = 3 then
    let e := s.errEst
    ((s.setQuality 4).setErr e true).count TWS_HOLDOVER_CNT_COUNT
  else s

/-- SLEW_PPM as it applies (R264). -/
def State.slewPpm (s : State) : Nat := min 200 (max 1 (s.rd TWS_DISC_CTRL_SLEW_PPM))

/-- The offset that is still to be slewed away (R240). -/
def State.slewRest (s : State) : Int :=
  let done : Int := ((s.now - s.time.slewAt) * s.slewPpm / 1000000 : Nat)
  if 0 ≤ s.time.slewLeft then max 0 (s.time.slewLeft - done) else min 0 (s.time.slewLeft + done)

/-- External time steps to a value while the wheel stands (R240); what is measured in it moves along, the error estimate stands, and the
security block's own timer runs on. DEDUCED (assumption log 23). -/
def State.stepTime (s : State) (v : Nat) : State :=
  let d : Int := (v : Int) - s.now
  let moved (a : Nat) : Nat := ((a : Int) + d).toNat
  let s := s.withTime { s.time with
    now := v, slewLeft := 0, slewAt := v
    ppsLast := s.time.ppsLast.map fun l => ((l : Int) + 2 * d).toNat
    ppsSeen := moved s.time.ppsSeen
    ptpSeen := if s.time.ptpSeen = 0 then 0 else max 1 (moved s.time.ptpSeen)
    ptpT2 := s.time.ptpT2 + 2 * d, ptpT3 := s.time.ptpT3.map (· + 2 * d), ptpLastOff := s.time.ptpLastOff - 2 * d
    ptpDelayAt := moved s.time.ptpDelayAt
    errBase := s.time.errBase.map fun _ => s.errEst, errAt := s.time.errAt.map fun _ => v }
  let s := s.withLst { s.lst with
    lehrStart := moved s.lst.lehrStart, lastings := s.lst.lastings.map fun l => { l with start := moved l.start } }
  let s := s.withFab { s.fab with
    driftAt := moved s.fab.driftAt, corr := SMap.mapVals XbCorr.init (fun _ c => { c with lastedAt := c.lastedAt + d }) s.fab.corr }
  (s.wr TWS_STATUS_STEP_WANTED 0).withMgt { s.mgt with
    bootAt := s.mgt.bootAt + d, readyAt := s.mgt.readyAt + d }

/-- An offset is taken as the target of a slew while the wheel runs (R240); above 1 s a step is wanted.
DEDUCED (assumption log 23). -/
def State.slewTo (s : State) (o : Int) : State :=
  let s := s.withTime { s.time with slewLeft := o, slewAt := s.now }
  if 1000000000 < o.natAbs then
    (if s.bit TWS_STATUS_STEP_WANTED then s
     else (s.setBit TWS_STATUS_STEP_WANTED).twsEvent TWS_EVENT_STEP_WANTED TWS_EVENT_EN_STEP_WANTED)
  else s.wr TWS_STATUS_STEP_WANTED 0

/-- TWS_OFFSET takes a measured offset, source less external time in ns (R264). -/
def State.measured (s : State) (o : Int) : State := s.wr TWS_OFFSET_NS (toCode 32 (clampI (-2147483647) 2147483647 o))

/-- What a source removes of external time's offset (R239–R241): by a step where the wheel stands, at its lock and over a time that was
set meanwhile, else by a slew. DEDUCED (assumption log 24). -/
def State.discipline (s : State) (move : Int) : State :=
  if s.running then s.slewTo move else if move = 0 then s else s.stepTime ((s.now : Int) + move).toNat

/-- The whole seconds of an offset. -/
def wholeSeconds (o : Int) : Int := divAway o 1000000000 * 1000000000

/-- What PTP removes of its offset (R239): all of it, or the seconds where PPS supplies the phase, whose slew goes on. -/
def State.ptpMove (s : State) (o : Int) : Int :=
  if s.bit TWS_STATUS_PPS_OK then wholeSeconds o + (s.slewRest - wholeSeconds s.slewRest) else o

/-- TWS_TIME_SET, or SET_TIME of the mailbox (R240, R241): a step while the wheel stands, a slew target while it runs.
DEDUCED (assumption log 23). -/
def State.setTime (s : State) (v : Nat) : State :=
  let locked := s.bit TWS_STATUS_PPS_OK || s.bit TWS_STATUS_PTP_OK
  let s := if s.running then s.slewTo ((v : Int) - s.now) else s.stepTime v
  let s := s.withTime { s.time with ppsRound := s.rd TWS_DISC_CTRL_SRC == 1 }
  if locked then s else (s.setQuality 1).setErr 0 true

/-- TWS_TIME_SET (R240): the upper half is written. -/
def execTwsTimeSet (t fn v : Nat) (s : State) : Host.Outcome State Fault Refusal :=
  let s := s.advance t
  .next (s.when (s.accepts fn) fun s => (s.withTime { s.time with setLo := v % 2 ^ 32 }).setTime (v % 2 ^ 64))

/-- The whole second nearest an instant, in half ns. -/
def nearestSecond (e : Nat) : Nat := (e + 1000000000) / 2000000000 * 2000000000

/-- The offset in ns of an edge from the second it marks, both in half ns (R239). -/
def edgeOffset (e : Nat) : Int := divAway ((nearestSecond e : Int) - e) 2

/-- How many seconds after the last edge an edge is nearest to, and how far it lies from there, in half ns (R238): the prediction goes on
over seconds without an edge. DEDUCED (assumption log 24). -/
def State.edgeError (s : State) (e : Nat) : Option (Nat × Nat) :=
  s.time.ppsLast.map fun l =>
    let n := max 1 ((((e : Int) - l + 1000000000) / 2000000000).toNat)
    (n, ((e : Int) - l - 2000000000 * n).natAbs)

/-- PPS_EDGE (R237–R239): a rising edge with its time stamp in half ns.  While PPS is locked, an edge away from its prediction leaves the
prediction alone. -/
def execPpsEdge (t stamp : Nat) (s : State) : Host.Outcome State Fault Refusal :=
  let s := s.advance t
  if !s.mainOn then .next s
  else
    let e := ((stamp : Int) - 2 * sext 16 (s.rd TWS_PPS_DELAY_DELAY)).toNat
    let err := s.edgeError e
    let good := match err with | some (n, d) => n == 1 && decide (d ≤ 200) | none => false
    let seen := match err with | some (_, d) => decide (d ≤ 20000) | none => true
    let n := if good then s.time.ppsGood + 1 else 0
    let locked := s.bit TWS_STATUS_PPS_OK
    let s := s.withTime { s.time with
      ppsLast := if locked && !seen then s.time.ppsLast else some e
      ppsGood := n, ppsSeen := if seen then s.now else s.time.ppsSeen }
    let s := if !locked && decide (8 ≤ n) && s.usesPps then (s.setBit TWS_STATUS_PPS_OK).requality else s
    let round := s.time.ppsRound
    let s := s.withTime { s.time with ppsRound := false }
    let s := if s.usesPps then s.measured (edgeOffset e) else s
    if round || (s.bit TWS_STATUS_PPS_OK && seen) then .next (s.discipline (wholeSeconds s.slewRest + edgeOffset e)) else .next s

/-- PPS_LOSS (R239): two seconds in a row without an edge within ±10 µs of its prediction.
DESIGN CHOICE (assumption log 3). -/
def execPpsLoss (t : Nat) (s : State) : Host.Outcome State Fault Refusal :=
  let s := s.advance t
  if !s.bit TWS_STATUS_PPS_OK || decide (s.now < s.time.ppsSeen + 2000010000) then .next s
  else
    let s := s.withTime { s.time with ppsGood := 0, ppsLast := none }
    .next (s.wr TWS_STATUS_PPS_OK 0).requality

/-- A storage port carries PTP (R350): PTP and the port are enabled, the port is up and LNK_PTP_CTRL.PORT allows it. -/
def State.ptpPort (s : State) (p : Nat) : Bool :=
  let only := s.rd LNK_PTP_CTRL_PORT
  s.bit LNK_PTP_CTRL_EN && decide (p < 2) && s.bit LNK_Ss_CTRL_EN p && s.bit LNK_Ss_STATUS_LINK_UP p
    && (only == 0 || only == 3 || only == p + 1)

/-- Messages of a domain and a transport on a port are those that Folza listens to (R349, R350). -/
def State.ptpListens (s : State) (port domain transport : Nat) : Bool :=
  let tr := s.rd LNK_PTP_CTRL_TRANSPORT
  s.ptpPort port && domain == s.rd LNK_PTP_CTRL_DOMAIN && transport == (if tr = 3 then 0 else tr)

/-- A message is one that Folza hears. -/
def State.ptpHears (s : State) (f : PtpFrom) : Bool := s.mainOn && s.ptpListens f.port f.domain f.transport

/-- The message comes from the chosen master. -/
def State.fromMaster (s : State) (f : PtpFrom) : Bool := s.ptpHears f && s.time.master == some (f.port, f.id)

/-- A PTP lock ends (R239, R350). -/
def State.ptpLost (s : State) : State :=
  let was := s.bit TWS_STATUS_PTP_OK
  let s := s.withTime { s.time with ptpGood := 0, ptpSeen := 0, ptpDelay := 0, ptpDelayAt := 0, ptpDelayMin := 0, ptpT3 := none }
  if was then (s.wr TWS_STATUS_PTP_OK 0).requality else s

/-- The comparison of R350 chooses the master; a new one has not yet locked.  With none left, a lock stands until Sync messages have been
missing for 4 s (R239, R351). DEDUCED (assumption log 24). -/
def State.chooseMaster (s : State) : State :=
  let l := s.time.masters.filter fun m => s.ptpListens m.port m.domain m.transport
  let best := (bestOf (fun (a b : Master) => rankLt (a.rank ++ [a.id, a.port]) (b.rank ++ [b.id, b.port])) l).map fun m => (m.port, m.id)
  if best = s.time.master then s
  else
    let s := if best.isSome then s.ptpLost else s
    let s := s.withTime { s.time with master := best }
    s.wr LNK_PTP_MASTER_ID ((best.map (·.2)).getD 0)

/-- PTP_ANNOUNCE (R350): an Announce message with the data set of its grandmaster in the order of comparison (priority 1, class,
accuracy, variance, priority 2, identity, steps removed) and its interval in ns. -/
def execPtpAnnounce (t : Nat) (f : PtpFrom) (rank : List Nat) (interval : Nat) (s : State) : Host.Outcome State Fault Refusal :=
  let s := s.advance t
  if !s.ptpHears f then .next s
  else
    let l := s.time.masters.filter fun m => !(m.port == f.port && m.id == f.id && m.domain == f.domain && m.transport == f.transport)
    let m : Master := ⟨f.port, f.id, rank, s.now, interval, f.domain, f.transport⟩
    .next (s.withTime { s.time with masters := l ++ [m] }).chooseMaster

/-- PTP_ANNOUNCE_TIMEOUT (R350): a master's Announce messages have stopped for 3 of its intervals. -/
def execPtpAnnounceTimeout (t port id : Nat) (s : State) : Host.Outcome State Fault Refusal :=
  let s := s.advance t
  .next (s.withTime { s.time with
    masters := s.time.masters.filter fun m => !(m.port == port && m.id == id && decide (m.last + 3 * m.interval ≤ s.now)) }).chooseMaster

/-- A time stamp of a PTP message in half ns, corrected by LNK_PTP_ASYM (R349). DEDUCED (assumption log 24). -/
def State.ptpStamp (s : State) (stamp : Nat) : Int := (stamp : Int) - 2 * sext 32 (s.rd LNK_PTP_ASYM_NS)

/-- PTP_SYNC (R349): a Sync message with the master's time and its corrections in ns, its interval in ns, and the time stamp of its
arrival in half ns.  Sixteen intervals in a row lock PTP (R238).  An offset is within ±1 µs of the one before it, since an offset that has
accumulated is removed only after the lock (R239). DEDUCED (assumption log 24). -/
def execPtpSync (t : Nat) (f : PtpFrom) (origin correction : Int) (interval stamp : Nat) (s : State) :
    Host.Outcome State Fault Refusal :=
  let s := s.advance t
  if !s.fromMaster f || decide (interval < 7812500) || decide (2000000000 < interval) then .next s
  else
    let t1 := 2 * (origin + correction)
    let t2 := s.ptpStamp stamp
    let half := t1 + s.time.ptpDelay - t2
    let fine := s.time.ptpSeen != 0 && decide ((half - s.time.ptpLastOff).natAbs ≤ 2000)
    let n := if fine then s.time.ptpGood + 1 else 0
    let s := s.withTime { s.time with ptpT1 := t1, ptpT2 := t2, ptpGood := n, ptpSeen := max 1 s.now, ptpLastOff := half }
    let s := s.count LNK_PTP_SYNC_CNT_COUNT
    let o := divAway half 2
    let s := if s.usesPtp then s.measured o else s
    let first := !s.bit TWS_STATUS_PTP_OK && decide (16 ≤ n) && s.usesPtp
    let s := if first then s.setBit TWS_STATUS_PTP_OK else s
    if s.bit TWS_STATUS_PTP_OK then .next (s.requality.discipline (s.ptpMove o)) else .next s

/-- PTP_DELAY_REQ (R349): Folza sends a Delay_Req to the chosen master, its time stamp in half ns, no sooner after the last than the master
asks for. -/
def execPtpDelayReq (t stamp : Nat) (s : State) : Host.Outcome State Fault Refusal :=
  let s := s.advance t
  match s.time.master with
  | none => .next s
  | some (p, _) =>
    if !s.ptpPort p || decide (s.now < s.time.ptpDelayAt + s.time.ptpDelayMin) then .next s
    else
      let s := s.withTime { s.time with ptpT3 := some (s.ptpStamp stamp), ptpDelayAt := s.now }
      .next (s.withLnk { s.lnk with delayReqs := s.lnk.delayReqs + 1 })

/-- PTP_DELAY_RESP (R349): the answer to the last Delay_Req with the master's time and correction in ns completes a measurement of the
path delay; `least` is its logMinDelayReqInterval, in ns. -/
def execPtpDelayResp (t : Nat) (f : PtpFrom) (t4 correction : Int) (least : Nat) (s : State) : Host.Outcome State Fault Refusal :=
  let s := s.advance t
  match s.time.ptpT3 with
  | none => .next s
  | some t3 =>
    if !s.fromMaster f || s.time.ptpSeen = 0 then .next s
    else .next (s.withTime { s.time with
      ptpT3 := none, ptpDelayMin := least
      ptpDelay := divAway ((s.time.ptpT2 - s.time.ptpT1) + (2 * (t4 - correction) - t3)) 2 })

/-- PTP_LOSS (R239): no Sync message has been accepted for 4 s. -/
def execPtpLoss (t : Nat) (s : State) : Host.Outcome State Fault Refusal :=
  let s := s.advance t
  if !s.bit TWS_STATUS_PTP_OK || decide (s.now < s.time.ptpSeen + 4000000000) then .next s else .next s.ptpLost

/-- TREF_LOSS (R237): TREF_IN is gone or outside ±100 ppm; the count goes on without a step. -/
def execTrefLoss (t : Nat) (s : State) : Host.Outcome State Fault Refusal :=
  let s := s.advance t
  .next (s.wr TWS_STATUS_TREF_OK 0)

/-- TREF_RETURN (R237). -/
def execTrefReturn (t : Nat) (s : State) : Host.Outcome State Fault Refusal :=
  let s := s.advance t
  .next (s.when s.mainOn (·.setBit TWS_STATUS_TREF_OK))

/-- ERROR_ESTIMATE_UNLOCK (R262): the growing estimate has passed LIMIT. -/
def execErrorEstimateUnlock (t : Nat) (s : State) : Host.Outcome State Fault Refusal :=
  .next (s.advance t).checkUnlock

/-- After TWS settings have changed (R238, R239): a source that SRC no longer names is not locked, and QUALITY follows. -/
def State.retime (s : State) : State :=
  let pps := s.bit TWS_STATUS_PPS_OK
  let ptp := s.bit TWS_STATUS_PTP_OK
  let s := if s.usesPps then s else s.wr TWS_STATUS_PPS_OK 0
  let s := if s.usesPtp then s else s.wr TWS_STATUS_PTP_OK 0
  (if s.bit TWS_STATUS_PPS_OK != pps || s.bit TWS_STATUS_PTP_OK != ptp then s.requality else s).checkUnlock

end Sys2Proof.Machine
end

