-- ==== Sys2Proof/Machine/Links.lean ====
section
/-! DEFINITION. Torus links and storage ports (spec/13_links.md R329–R348), and the meanings of their commands. -/

namespace Sys2Proof.Machine

/-- A torus port (R333). -/
def State.tport (s : State) (p : Nat) : TorusPort := SMap.get TorusPort.init s.lnk.ports p
/-- A torus port replaced. -/
def State.setTport (s : State) (p : Nat) (v : TorusPort) : State :=
  s.withLnk { s.lnk with ports := SMap.put TorusPort.init s.lnk.ports p v }

/-- The 252 bytes of a flit before its CRC (R334). -/
def Flit.body (f : Flit) : List Byte :=
  leBytes 4 (f.kind % 4 + 4 * (f.vc % 2) + 8 * b2n f.first + 16 * b2n f.last + 256 * (f.seq % 4096)
    + 1048576 * (f.ack % 4096)) ++ (f.payload ++ List.replicate 248 0#8).take 248

/-- The 256 bytes of a flit (R334). -/
def Flit.bytes (f : Flit) : List Byte := f.body ++ leBytes 4 (crc32c f.body)

/-- A flit as it was received: none where its CRC fails or its KIND is reserved (R334). -/
def flitOf (l : List Byte) : Option Flit :=
  let w := numAt l 0 4
  if l.length ≠ 256 || numAt l 252 4 ≠ crc32c (l.take 252) || w % 4 = 3 then none
  else some ⟨w % 4, bitsOf w 2 1, bitOf w 3, bitOf w 4, bitsOf w 8 12, bitsOf w 20 12, sliceOf l 4 248⟩

/-- A coordinate of a module number (R329): axis 0 is x, 1 is y, 2 is z. -/
def coordOf (n axis : Nat) : Nat := bitsOf n (8 - 4 * axis) 4

/-- The extent of the torus along an axis. -/
def State.torusDim (s : State) (axis : Nat) : Nat :=
  1 + s.rd (match axis with | 0 => LNK_TORUS_DIM_X | 1 => LNK_TORUS_DIM_Y | _ => LNK_TORUS_DIM_Z)

/-- The extent of the block along an axis (R330). -/
def State.blockExt (s : State) (axis : Nat) : Nat := 1 + bitsOf (s.rd LNK_PART_EXT) (4 * axis) 4

/-- A module's position in the block along an axis (R330). -/
def State.blockCoord (s : State) (n axis : Nat) : Nat :=
  (coordOf n axis + s.torusDim axis - coordOf (s.rd LNK_PART_ORIGIN) axis % s.torusDim axis) % s.torusDim axis

/-- This module's number. -/
def State.moduleNum (s : State) : Nat := s.rd LNK_MODULE_NUM

/-- The torus neighbour of a module through a port (R331): ports 0 to 5 are X+, X−, Y+, Y−, Z+, Z−. -/
def State.neighbourFrom (s : State) (n p : Nat) : Nat :=
  let c (axis : Nat) : Nat :=
    let d := s.torusDim axis
    if p / 2 = axis then (if p % 2 = 0 then (coordOf n axis + 1) % d else (coordOf n axis + d - 1) % d) else coordOf n axis
  256 * c 0 + 16 * c 1 + c 2

/-- The torus neighbour of this module through a port (R331). -/
def State.neighbourOf (s : State) (p : Nat) : Nat := s.neighbourFrom s.moduleNum p

/-- The block's routes use a port of this module (R338): it leads to another module of the block along its axis. -/
def State.routeUses (s : State) (p : Nat) : Bool :=
  let axis := p / 2
  let e := s.blockExt axis
  let x := s.blockCoord s.moduleNum axis
  if e = 1 then false
  else if e = s.torusDim axis then true
  else if p % 2 = 0 then decide (x + 1 < e) else decide (0 < x)

/-- LNK_PART_POS.ROUTES_UP (R339). -/
def State.setRoutesUp (s : State) : State :=
  s.wrBit LNK_PART_POS_ROUTES_UP
    (s.bit LNK_CTRL_EN && (List.range 6).all fun p => !s.routeUses p || s.rd LNK_Pp_STATUS_STATE p == 2)

/-- A flit is sent: DATA and CONTROL flits take the next SEQ and are kept until acknowledged (R334, R335). -/
def State.sendFlit (s : State) (p : Nat) (f : Flit) (at_ : Nat) : State :=
  let t := s.tport p
  let f := { f with seq := t.txNext, ack := (t.rxNext + 4095) % 4096 }
  let s := s.setTport p { t with txNext := (t.txNext + 1) % 4096, unacked := t.unacked ++ [⟨f, 0, at_⟩] }
  s.withLnk { s.lnk with sent := s.lnk.sent ++ [(p, f)] }

/-- An IDLE flit carries an acknowledgement (R334, R335): it takes no SEQ and is not kept. -/
def State.sendIdle (s : State) (p : Nat) : State :=
  let t := s.tport p
  s.withLnk { s.lnk with sent := s.lnk.sent ++
    [(p, ⟨0, 0, false, false, t.txNext, (t.rxNext + 4095) % 4096, List.replicate 248 0#8⟩)] }

/-- A CONTROL flit's payload (R334): OP, SEQ, the credit returns, and the module number and port name of a TRAIN record. -/
def controlPayload (op seq c0 c1 num port : Nat) : List Byte :=
  leBytes 2 op ++ leBytes 2 seq ++ leBytes 2 c0 ++ leBytes 2 c1 ++ leBytes 2 num ++ leBytes 1 port

/-- A CONTROL flit is sent before any DATA flit, or waits while the window is full (R335). DEDUCED (assumption log 48). -/
def State.sendControl (s : State) (p op seq c0 c1 : Nat) : State :=
  let t := s.tport p
  let f : Flit := ⟨2, 0, false, false, 0, 0, controlPayload op seq c0 c1 s.moduleNum p⟩
  if t.unacked.length < 2048 then s.sendFlit p f s.now else s.setTport p { t with ctl := t.ctl ++ [f] }

/-- CONTROL flits that waited leave as the window has room. -/
def State.pumpControl (s : State) (p : Nat) : Nat → State
  | 0 => s
  | k + 1 =>
    let t := s.tport p
    match t.ctl with
    | [] => s
    | f :: r => if 2048 ≤ t.unacked.length then s else ((s.setTport p { t with ctl := r }).sendFlit p f s.now).pumpControl p k

/-- Receive space of a port's channel is free again, and its credits go back (R336). -/
def State.giveCredit (s : State) (p vc n : Nat) : State :=
  if s.rd LNK_Pp_STATUS_STATE p ≠ 2 || n = 0 then s else s.sendControl p 2 0 (if vc = 0 then n else 0) (if vc = 0 then 0 else n)

/-- A flit may leave next on its channel (R336): it holds a credit, and it goes on with the message under way there, or begins one where none
is. -/
def TorusPort.maySend (t : TorusPort) (e : Sending) : Bool :=
  let (busy, credit) := if e.flit.vc = 0 then (t.busy0, t.credit0) else (t.busy1, t.credit1)
  decide (0 < credit) && (match busy with | some m => m == e.msg | none => e.flit.first)

/-- The first flit that each source may send, oldest first. -/
def headsFrom : List Sending → List Sending
  | [] => []
  | e :: t => e :: (headsFrom t).filter (·.who != e.who)

/-- A source's request at a port's link-injection arbiter (R257–R260): one flit. -/
def State.sendReq (s : State) (p : Nat) (e : Sending) : ArbReq := s.arbReq (arbLink p) e.who e.fn e.prio 1 0

/-- The port once a flit of its queue has left (R336). -/
def TorusPort.left (t : TorusPort) (e : Sending) : TorusPort :=
  let busy := if e.flit.last then none else some e.msg
  if e.flit.vc = 0 then { t with queue := t.queue.erase e, busy0 := busy, credit0 := t.credit0 - 1 }
  else { t with queue := t.queue.erase e, busy1 := busy, credit1 := t.credit1 - 1 }

/-- The DATA flits of a port that have left up to now (R257, R258, R333, R335, R336): each time the port is free, its arbiter grants one of the
sources whose next flit has a credit and room in the window, and a flit takes 1.275 ns; the receive space that a forwarded flit held is
free when it leaves. DEDUCED (assumption log 61). -/
def State.pumpPort (s : State) (p : Nat) : Nat → State
  | 0 => s
  | k + 1 =>
    let t := s.tport p
    let a := s.arb (arbLink p)
    let heads := headsFrom (t.queue.filter t.maySend)
    let rest : State := s.setArb (arbLink p) { a with grant := none, ends := max a.ends (arbTicks s.now) }
    if arbTicks s.now < a.ends then s
    else if 2048 ≤ t.unacked.length then rest
    else
      match a.next (heads.map (s.sendReq p)) with
      | none => rest
      | some r =>
        match heads.find? fun e => e.who == r.who with
        | none => rest
        | some e =>
          let s := s.setArb (arbLink p) (a.take r 1 (a.ends + arbBeat (arbLink p)))
          let s := (s.setTport p (t.left e)).sendFlit p e.flit (a.ends / 120)
          let s := match e.from_ with
            | some (q, vc) => s.giveCredit q vc 1
            | none => s
          s.pumpPort p k

/-- A port sends what it may. -/
def State.goPort (s : State) (p : Nat) : State :=
  let s := s.pumpControl p (s.tport p).ctl.length
  s.pumpPort p ((s.tport p).queue.length + 1)

/-- Flits join a port's queue (R257). -/
def State.queueFlits (s : State) (p : Nat) (l : List Sending) : State :=
  let s := s.goPort p
  let t := s.tport p
  (s.setTport p { t with queue := t.queue ++ l }).goPort p

/-- The flits of a message (R340): 248 bytes each, the last padded with zeros. -/
def messageFlits (vc : Nat) (l : List Byte) : List Flit :=
  let n := ceilDiv l.length 248
  (List.range n).map fun i =>
    ⟨1, vc, i == 0, i + 1 == n, 0, 0, (sliceOf l (248 * i) 248 ++ List.replicate 248 0#8).take 248⟩

/-- The next hop of a message from a module (R338): its port and whether the step crosses the dateline; none at its destination. -/
def State.hopFrom (s : State) (me dest : Nat) : Option (Nat × Bool) :=
  match (List.range 3).find? fun a => coordOf dest a ≠ coordOf me a with
  | none => none
  | some a =>
    let d := s.torusDim a
    let x := coordOf me a
    let up := (coordOf dest a + d - x) % d
    let plus := if s.blockExt a < d then decide (s.blockCoord me a < s.blockCoord dest a) else decide (up ≤ d - up)
    some (if plus then (2 * a, decide (x + 1 = d)) else (2 * a + 1, decide (x = 0)))

/-- The next hop of a message from this module (R338). -/
def State.hop (s : State) (dest : Nat) : Option (Nat × Bool) := s.hopFrom s.moduleNum dest

/-- The channel that a message takes through a port (R338): 1 from the dateline of its axis on, 0 after a turn. -/
def nextVc (inPort : Option Nat) (vc p : Nat) (cross : Bool) : Nat :=
  if cross then 1 else if inPort.map (· / 2) = some (p / 2) then vc else 0

/-- A message of this module leaves through its next port (R338), on channel 0 or over the dateline on channel 1; one for a port that is not
UP is discarded (R337). -/
def State.route (s : State) (dest who fn prio : Nat) (msg : List Byte) : State :=
  match s.hop dest with
  | none => s
  | some (p, cross) =>
    if s.rd LNK_Pp_STATUS_STATE p ≠ 2 then s
    else
      let n := s.lnk.nextMsg
      let s := s.withLnk { s.lnk with nextMsg := n + 1 }
      s.queueFlits p ((messageFlits (nextVc none 0 p cross) msg).map fun f => ⟨f, n, who, fn, prio, none⟩)

/-- The CRC of a message (R340): over the header with its CRC field as zero, then the payload. -/
def messageCrc (l : List Byte) : Nat := crc32c (l.take 28 ++ List.replicate 4 0#8 ++ l.drop 32)

/-- A message of this module (R340). -/
def State.messageOf (s : State) (dest type_ coll offset slot rank : Nat) (payload : List Byte) : List Byte :=
  let h := leBytes 2 (dest % 4096 + 4096 * type_) ++ leBytes 2 s.moduleNum ++ leBytes 2 (s.rd LNK_PART_ID_PART)
    ++ leBytes 2 coll ++ leBytes 4 offset ++ leBytes 4 payload.length ++ leBytes 4 slot ++ leBytes 4 (rank % 256)
    ++ leBytes 4 0
  let l := h ++ leBytes 4 0 ++ payload
  h ++ leBytes 4 (messageCrc l) ++ payload

/-- The most payload that a message holds (R340). -/
def messageMax : Nat := 65504

/-- A message is sent to another module (R338, R340); more payload than a message holds makes none.
DESIGN CHOICE (assumption log 48). -/
def State.sendMessage (s : State) (dest type_ coll offset slot rank who fn prio : Nat) (payload : List Byte) : State :=
  if messageMax < payload.length then s
  else (s.count LNK_MSG_TX_CNT_COUNT).route dest who fn prio (s.messageOf dest type_ coll offset slot rank payload)

/-- The function of a core's work and its PRIO (R259): background work of no function where no step runs. -/
def State.coreWork (s : State) (core : Nat) (serial : Option Nat) : Nat × Nat :=
  match s.workLaunch core serial with
  | some l => (l.fn, s.prioOf serial)
  | none => (32, 7)

/-- Bytes of CST that a core's work moves (R13, R257). -/
def State.coreCst (s : State) (core : Nat) (serial : Option Nat) (a n : Nat) : State :=
  let w := s.coreWork core serial
  s.useCst (whoCore core) w.1 w.2 a n

/-- A core's consumer takes a queue entry from CST (R15, R18). -/
def State.takeEntry (s : State) (core : Nat) (serial : Option Nat) (a : Nat) : State :=
  (s.coreCst core serial a (s.entry a).bytes.length).consume a

/-! The link latency (R261, R339). -/

/-- The position of a module in the block, as R209 packs it. -/
def State.posOfModule (s : State) (n : Nat) : Nat := s.blockCoord n 0 + 16 * s.blockCoord n 1 + 256 * s.blockCoord n 2

/-- The module at a position of the block (R330). -/
def State.moduleAt (s : State) (pos : Nat) : Nat :=
  let c (axis : Nat) : Nat := (coordOf (s.rd LNK_PART_ORIGIN) axis + bitsOf pos (4 * axis) 4) % s.torusDim axis
  256 * c 0 + 16 * c 1 + c 2

/-- The measured hop latency of a module's port in ns (R339): this module's own, or as the other reports it. -/
def State.hopLatency (s : State) (n p : Nat) : Nat :=
  if n = s.moduleNum then s.rd LNK_Pp_STATUS_LAT_NS p
  else match SMap.get none s.lnk.peers (s.posOfModule n) with
    | some r => nth 0 r.lat p
    | none => 0

/-- The latency of a route in ns (R339): every hop, and 150 ns at each module between. -/
def State.routeLatency (s : State) (me dest : Nat) : Nat → Nat
  | 0 => 0
  | k + 1 =>
    match s.hopFrom me dest with
    | none => 0
    | some (p, _) =>
      let next := s.neighbourFrom me p
      s.hopLatency me p + (if next = dest then 0 else 150 + s.routeLatency next dest k)

/-- The modules of the block. -/
def State.blockModules (s : State) : List Nat := (s.rd LNK_PART_POS_POS :: s.otherModules).map s.moduleAt

/-- The largest route latency in the block in ns (R339). -/
def State.blockLatency (s : State) : Nat :=
  let l := s.blockModules
  maxN ((l.map fun a => l.map fun b => s.routeLatency a b 48).flatten)

/-- The slots that a hand-off of a message of `n` payload bytes takes at least (R261, R339): ceil((link latency + 2 · LIMIT) / LEN), the
serialisation of its flits in the link latency. -/
def State.handoffSlots (s : State) (n : Nat) : Nat :=
  ceilDiv (1000 * s.blockLatency + 1275 * ceilDiv (32 + n) 248 + 2000 * s.rd TWS_LOCK_LIMIT_LIMIT) (1000000 * max 1 s.slotLen)

/-- The valid slot of a hand-off to another module (R261): the plan's, and no earlier than the link allows.
DEDUCED (assumption log 48). -/
def State.handoffSlot (s : State) (n slot : Nat) : Nat :=
  match s.time.slotNow with
  | none => slot
  | some k =>
    let least := (k + s.handoffSlots n) % 2 ^ 32
    if serialLater 32 slot least then least else slot

/-- A core's work sends bytes to a queue entry of a module (R257, R338, R340): its own at once, another's through a port; `coll` is the number
and rank of a collective (R343). DEDUCED (assumption log 61). -/
def State.sendBytes (s : State) (core : Nat) (serial : Option Nat) (dst offset slot : Nat) (coll : Option (Nat × Nat)) (l : List Byte) :
    State :=
  let w := s.coreWork core serial
  if dst = s.moduleNum then
    let j := match s.workLaunch core serial with | some l => l.job | none => 0
    (s.coreCst core serial offset l.length).putEntry offset slot w.1 j l
  else
    let slot := s.handoffSlot l.length slot
    let (type_, c, rank) := match coll with | none => (0, 0, 0) | some (c, rank) => (1, c, rank)
    s.sendMessage dst type_ c offset slot rank core w.1 w.2 l

/-- Every partition job ends with JOB_FAULT at the end of its current step (R337, R341). -/
def State.faultPartition (s : State) (rec : EventRec) : State :=
  if !s.bit LNK_CTRL_EN || s.rd LNK_PART_EXT = 0 then s
  else forEach s.serve.jobs s fun s j =>
    let step := (s.serve.launches.find? fun l => l.inFlight && l.fn == j.fn && l.job == j.num).map (·.id)
    s.faultJob j.fn j.num step rec

/-- What a port loses when another goes down (R337): the flits of messages that were still coming in through it; those that have come whole free
no space of it any more. -/
def TorusPort.lose (t : TorusPort) (p : Nat) (cut : List Nat) : TorusPort :=
  let keep (b : Option Nat) : Option Nat := match b with | some m => if cut.contains m then none else b | none => none
  let drop (r : Incoming) : Incoming := match r with | .forward q _ _ => if q = p then .discard else r | _ => r
  { t with
    queue := (t.queue.filter fun e => !cut.contains e.msg).map fun e =>
      if e.from_.map (·.1) = some p then { e with from_ := none } else e
    busy0 := keep t.busy0, busy1 := keep t.busy1, rx0 := drop t.rx0, rx1 := drop t.rx1 }

/-- The messages that a port is taking in to forward them. -/
def TorusPort.passing (t : TorusPort) : List Nat :=
  [t.rx0, t.rx1].filterMap fun r => match r with | .forward _ _ m => some m | _ => none

/-- A port discards what it holds (R337): the space of other ports that its flits held is free. -/
def State.clearPort (s : State) (p : Nat) : State :=
  let t := s.tport p
  let s := forEach ((List.range 6).filter (· != p)) s fun s q => s.setTport q ((s.tport q).lose p t.passing)
  let s := (s.setTport p TorusPort.init).setArb (arbLink p) Arbiter.init
  forEach t.queue s fun s e => match e.from_ with
    | some (q, vc) => if q = p then s else s.giveCredit q vc 1
    | none => s

/-- A port goes down (R337): it discards what it holds, the loss is counted and logged, and the jobs whose routes use the port
fault. -/
def State.portDown (s : State) (p : Nat) : State :=
  let st := s.rd LNK_Pp_STATUS_STATE p
  if st = 0 || st = 4 then s
  else
    let s := (s.wr LNK_Pp_STATUS_STATE 4 p).clearPort p
    let s := s.count LNK_Pp_DOWN_COUNT 1 p
    let s := s.setRoutesUp
    let rec_ := { EventRec.blank 0x08 1 with detail := [p, s.rd LNK_Pp_STATUS_NEIGHBOUR p] }
    if s.routeUses p then (s.logEvent { rec_ with class_ := 0 }).faultPartition rec_ else s.logEvent { rec_ with class_ := 0 }

/-- An acknowledgement (R335): every kept flit up to it is let go. -/
def ackTo (ack : Nat) : List Kept → List Kept
  | [] => []
  | k :: t => if (ack + 4096 - k.flit.seq) % 4096 < 2048 then ackTo ack t else k :: t

/-- A port's acknowledgement is taken. -/
def State.takeAck (s : State) (p ack : Nat) : State :=
  let t := s.tport p
  (s.setTport p { t with unacked := ackTo ack t.unacked }).goPort p

/-- The transmitter replays from its `k`-th kept flit on, in order (R335): 8 replays of one flit that failed take the port
down. -/
def State.replayFrom (s : State) (p k : Nat) : State :=
  let t := s.tport p
  match t.unacked.drop k with
  | [] => s
  | x :: _ =>
    if 8 ≤ x.replays then s.portDown p
    else
      let again := (t.unacked.drop k).map fun y => { y with replays := y.replays + 1, sentAt := s.now }
      let s := s.setTport p { t with unacked := t.unacked.take k ++ again }
      let s := s.count LNK_Pp_REPLAY_COUNT 1 p
      s.withLnk { s.lnk with sent := s.lnk.sent ++ again.map fun y => (p, y.flit) }

/-- A receiver asks for the SEQ it expects, and ignores flits until it comes (R335). -/
def State.sendNak (s : State) (p : Nat) : State :=
  let t := s.tport p
  if t.rxIgnore then s
  else (s.setTport p { t with rxIgnore := true }).sendControl p 1 t.rxNext 0 0

/-- A flit's SEQ is the one expected (R335): DATA and CONTROL flits move the expectation on. -/
def State.takeSeq (s : State) (p : Nat) (f : Flit) : Bool × State :=
  let t := s.tport p
  if f.seq ≠ t.rxNext then (false, s.sendNak p)
  else (true, s.setTport p { t with rxNext := (t.rxNext + 1) % 4096, rxIgnore := false })

/-- What becomes of the message that a first flit begins (R337, R338, R340): one for another module is forwarded flit by flit, or dropped where
the port is not UP. -/
def State.beginMessage (s : State) (p : Nat) (f : Flit) : Incoming × State :=
  let dest := numAt f.payload 0 2 % 4096
  if dest = s.moduleNum then (.gather [], s)
  else
    match s.hop dest with
    | none => (.discard, s)
    | some (q, cross) =>
      if s.rd LNK_Pp_STATUS_STATE q ≠ 2 then (.discard, s)
      else
        let n := s.lnk.nextMsg
        (.forward q (nextVc (some p) f.vc q cross) n, s.withLnk { s.lnk with nextMsg := n + 1 })

/-- The message that comes in on a channel. -/
def TorusPort.rx (t : TorusPort) (vc : Nat) : Incoming := if vc = 0 then t.rx0 else t.rx1
/-- It replaced. -/
def TorusPort.setRx (t : TorusPort) (vc : Nat) (r : Incoming) : TorusPort := if vc = 0 then { t with rx0 := r } else { t with rx1 := r }

/-- A message for this module has come whole (R340): it waits for its check.  One of a reserved TYPE is dropped, as no rule gives it an
effect: DEDUCED (assumption log 48). -/
def State.messageCame (s : State) (p vc : Nat) (l : List Byte) : State :=
  let n := l.length / 248
  let l := l.take (32 + numAt l 12 4 % 2 ^ 17)
  if 3 ≤ numAt l 0 2 / 4096 then s.giveCredit p vc n
  else s.withLnk { s.lnk with arrived := s.lnk.arrived ++ [⟨p, vc, n, l⟩] }

/-- The source number of flits that a port forwards, behind those of the cores (R257). -/
def whoPort (p : Nat) : Nat := 1000 + p
/-- The source number of the firmware's messages. -/
def whoFirmware : Nat := 2000

/-- A DATA flit received in order (R336, R338, R340): of a message for another module it goes on at once, cut through, and its space is free
when it leaves; of one for this module it is gathered, and its space is free once the message is checked.
DEDUCED (assumption log 48). -/
def State.dataFlit (s : State) (p : Nat) (f : Flit) : State :=
  let (r, s) := if f.first then s.beginMessage p f else ((s.tport p).rx f.vc, s)
  let set (s : State) (r : Incoming) : State := s.setTport p ((s.tport p).setRx f.vc (if f.last then .none else r))
  match r with
  | .gather l =>
    let l := l ++ f.payload
    let s := set s (.gather l)
    if f.last then s.messageCame p f.vc l else s
  | .forward q vc m =>
    (set s r).queueFlits q [⟨{ f with vc := vc }, m, whoPort p, 32, (Config.forwardPrio m).val, some (p, f.vc)⟩]
  | _ => (set s r).giveCredit p f.vc 1

/-- A flit reaches a port: none of a port that is DISABLED or DOWN; one whose CRC fails is discarded, counted and NAKed. -/
def State.recvFlit (s : State) (p : Nat) (l : List Byte) (act : State → Flit → State) : State :=
  let st := s.rd LNK_Pp_STATUS_STATE p
  if 6 ≤ p || st = 0 || st = 4 then s
  else
    match flitOf l with
    | none => (s.count LNK_Pp_CRC_ERR_COUNT 1 p).sendNak p
    | some f => act s f

/-- The OP of a CONTROL flit. -/
def Flit.op (f : Flit) : Nat := numAt f.payload 0 2 % 16

/-- A DATA or CONTROL flit received in order (R335): its ACK is taken, and an IDLE flit acknowledges it.  A flit that is ignored gives
nothing. -/
def State.inOrder (s : State) (p : Nat) (f : Flit) (act : State → State) : State :=
  match s.takeSeq p f with
  | (true, s) => (act (s.takeAck p f.ack)).sendIdle p
  | (false, s) => s

/-- A CONTROL flit of an OP, received in order. -/
def State.recvControl (s : State) (p op : Nat) (l : List Byte) (act : State → Flit → State) : State :=
  s.recvFlit p l fun s f => if f.kind ≠ 2 || f.op ≠ op then s else s.inOrder p f (act · f)

/-- A port starts to train (R331, R336): it sends its module number, its name and its 1,024 credits a channel.
DEDUCED (assumption log 48). -/
def State.trainPort (s : State) (p : Nat) : State :=
  ((s.wr LNK_Pp_STATUS_STATE 1 p).clearPort p).sendControl p 3 0 1024 1024

/-- DATA_FLIT (R334, R335). -/
def execDataFlit (t p : Nat) (l : List Byte) (s : State) : Host.Outcome State Fault Refusal :=
  .next ((s.advance t).recvFlit p l fun s f =>
    if f.kind ≠ 1 then s else s.inOrder p f fun s => if s.rd LNK_Pp_STATUS_STATE p = 2 then s.dataFlit p f else s)

/-- IDLE_FLIT (R334, R335): its ACK, and the SEQ that would come next. -/
def execIdleFlit (t p : Nat) (l : List Byte) (s : State) : Host.Outcome State Fault Refusal :=
  .next ((s.advance t).recvFlit p l fun s f =>
    if f.kind ≠ 0 then s else if f.seq = (s.tport p).rxNext then s.takeAck p f.ack else s.sendNak p)

/-- NAK (R335): replay from the SEQ it names; one outside the window takes the port down. -/
def execNak (t p : Nat) (l : List Byte) (s : State) : Host.Outcome State Fault Refusal :=
  .next ((s.advance t).recvControl p 1 l fun s f =>
    let want := numAt f.payload 2 2 % 4096
    let u := (s.tport p).unacked
    match u.findIdx? fun k => k.flit.seq == want with
    | none => s.portDown p
    | some k =>
      let s := s.setTport p { s.tport p with unacked := u.drop k }
      s.replayFrom p 0)

/-- CREDIT (R336). -/
def execCredit (t p : Nat) (l : List Byte) (s : State) : Host.Outcome State Fault Refusal :=
  .next ((s.advance t).recvControl p 2 l fun s f =>
    let x := s.tport p
    let x := { x with
      credit0 := min 1024 (x.credit0 + numAt f.payload 4 2), credit1 := min 1024 (x.credit1 + numAt f.payload 6 2) }
    (s.setTport p x).goPort p)

/-- TRAIN (R331): the wiring check, with the hop latency that LNK measures at training (R339). -/
def execTrain (t p lat : Nat) (l : List Byte) (s : State) : Host.Outcome State Fault Refusal :=
  .next ((s.advance t).recvControl p 3 l fun s f =>
    let st := s.rd LNK_Pp_STATUS_STATE p
    if st ≠ 1 && st ≠ 3 then s
    else
      let num := numAt f.payload 8 2 % 4096
      let port := numAt f.payload 10 1
      let s := (s.wr LNK_Pp_STATUS_NEIGHBOUR num p).wr LNK_Pp_STATUS_LAT_NS lat p
      let opposite := if p % 2 = 0 then p + 1 else p - 1
      if num = s.neighbourOf p && port = opposite then
        let x := s.tport p
        let s := s.setTport p { x with credit0 := min 1024 (numAt f.payload 4 2), credit1 := min 1024 (numAt f.payload 6 2) }
        (s.wr LNK_Pp_STATUS_STATE 2 p).setRoutesUp
      else
        let s := s.wr LNK_Pp_STATUS_STATE 3 p
        s.logEvent { EventRec.blank 0x08 0 with detail := [p, num] })

/-- REPLAY_TIMEOUT (R335): a kept flit has gone 2 µs without an acknowledgement. DESIGN CHOICE (assumption log 3). -/
def execReplayTimeout (t p : Nat) (s : State) : Host.Outcome State Fault Refusal :=
  let s := s.advance t
  match (s.tport p).unacked.findIdx? fun k => decide (k.sentAt + 2000 ≤ s.now) with
  | none => .next s
  | some k => .next (s.replayFrom p k)

/-- TORUS_PORT_DOWN (R337): alignment lost for 10 µs, or no flit for 10 µs. -/
def execTorusPortDown (t p : Nat) (s : State) : Host.Outcome State Fault Refusal :=
  let s := s.advance t
  .next (if 6 ≤ p then s else s.portDown p)

/-- TORUS_PORT_RETRAIN (R337). -/
def execTorusPortRetrain (t p : Nat) (s : State) : Host.Outcome State Fault Refusal :=
  let s := s.advance t
  .next (if p < 6 && s.rd LNK_Pp_STATUS_STATE p = 4 && s.bit LNK_CTRL_EN then s.trainPort p else s)

/-- The oldest message that waits for its check, where it is of a type (R340): taken out, its receive space free (R336). -/
def State.takeMessage (s : State) (type_ : Nat) : Option (List Byte × State) :=
  match s.lnk.arrived with
  | [] => none
  | a :: t =>
    if numAt a.bytes 0 2 / 4096 = type_ then some (a.bytes, (s.withLnk { s.lnk with arrived := t }).giveCredit a.port a.vc a.flits)
    else none

/-- A message is refused (R341): counted, and the partition's job faults. -/
def State.windowFault (s : State) : State :=
  (s.count LNK_WIN_FAULT_CNT_COUNT).faultPartition { EventRec.blank 0x0C 1 with detail := [3] }

/-- The checks of R341 that do not concern the written bit; none for a partition the module does not hold. -/
def State.messageFate (s : State) (l : List Byte) : Option Bool :=
  if !s.bit LNK_CTRL_EN || numAt l 4 2 ≠ s.rd LNK_PART_ID_PART then none
  else
    let n := numAt l 12 4 % 2 ^ 17
    some (decide (n ≤ messageMax) && decide (l.length = 32 + n) && numAt l 28 4 == messageCrc l)

/-- The window that holds a message's bytes (R341). -/
def State.windowOf (s : State) (off n : Nat) : Option Nat :=
  (s.lnk.windows.find? fun w => decide (w.2.1 ≤ off) && decide (off + n ≤ w.2.1 + w.2.2)).map (·.1)

/-- Delivery of a QUEUE_WRITE or COLLECTIVE message (R341): into its entry, under R16 and R18.
DEDUCED (assumption log 48). -/
def State.deliver (s : State) (l : List Byte) : State :=
  match s.messageFate l with
  | none => s.count LNK_MSG_DROP_CNT_COUNT
  | some ok =>
    let off := numAt l 8 4 % 2 ^ 30
    let slot := numAt l 16 4
    match s.windowOf off (numAt l 12 4 % 2 ^ 17) with
    | none => s.windowFault
    | some id =>
      if !ok then s.windowFault
      else
        let e := s.entry off
        let (f, j) := match s.launch id with | some x => (x.fn, x.job) | none => (0, 0)
        if e.written && !e.consumed then (s.count LNK_WIN_FAULT_CNT_COUNT).putEntry off slot f j (l.drop 32)
        else
          let s := s.count LNK_MSG_RX_CNT_COUNT
          (s.useCst whoLnk f 7 off (l.length - 32)).putEntry off slot f j (l.drop 32)

/-- QUEUE_WRITE (R341). -/
def execQueueWrite (t : Nat) (s : State) : Host.Outcome State Fault Refusal :=
  let s := s.advance t
  match s.takeMessage 0 with
  | none => .next s
  | some (l, s) => .next (s.deliver l)

/-- COLLECTIVE (R343): one contribution, at the offset the plan gave its rank. -/
def execCollective (t : Nat) (s : State) : Host.Outcome State Fault Refusal :=
  let s := s.advance t
  match s.takeMessage 1 with
  | none => .next s
  | some (l, s) => .next (s.deliver l)

/-- The firmware's own receive window (R340, R373): its first offset; it holds the longest message. -/
def fwWindow : Nat := 64 * Config.firmwareWindow.val

/-- A session that the home module carries stands here too (R268): opened, with its job, where it is new; its committed length, pending token
and admitted request follow the home module's.  Its requests have no ring here. DESIGN CHOICE (assumption log 65). -/
def State.carryIn (s : State) (c : Carried) : State :=
  let head := c.head.toList.map fun r => { r with queue := noRing, launch := 0 }
  match s.openSess c.fn c.handle with
  | some x =>
    let running := x.queue.filter (·.launch != 0)
    let new := head.filter fun r => !running.any fun q => q.serial == r.serial && q.done == r.done && q.produced == r.produced
    s.setSess { x with committed := c.committed, written := c.committed, pending := c.pending, queue := running ++ new }
  | none =>
    if s.sessionsFull c.fn then s
    else
      let (num, s) := s.takeNumber
      let s := if (s.job c.fn c.job).isSome then s
        else s.withServe { s.serve with
          jobs := s.serve.jobs ++ [⟨c.fn, c.job, c.policy, c.ref, c.kvFmt, true, [], false, none, false, 0⟩] }
      s.setSessions (s.serve.sessions ++
        [{ mkSession num c.handle c.fn c.job c.prio c.kvFmt (Config.dirOffset num).toNat with
          committed := c.committed, written := c.committed, evicted := c.committed, pending := c.pending, queue := head }])

/-- A firmware record acts (R227, R261, R268, R322, R412). DESIGN CHOICE (assumption log 65). -/
def State.firmwareRecord (s : State) : ControlRec → State
  | .session c => if s.isHome then s else s.carryIn c
  | .closed f h =>
    if s.isHome then s
    else match s.openSess f h with
      | some x => ((s.unplan fun l => l.entries.any (·.session == x.num)).setSess { x with queue := [], closing := some none }).finishClose x.num
      | none => s
  | .report pos r => s.withLnk { s.lnk with peers := SMap.put none s.lnk.peers pos (some r) }
  | .switchAt g k =>
    match s.lst.swap with
    | some w => if w.gen = g then s.withLst { s.lst with swap := some { w with announced := some k } } else s
    | none => s
  | .jobFault f j =>
    match s.job f j with
    | some x =>
      if x.faulted then s
      else
        let step := (s.serve.launches.find? fun l => l.inFlight && l.fn == f && l.job == j).map (·.id)
        s.jobDown x step
    | none => s

/-- CONTROL (R332, R340): a firmware record is written into the firmware's own receive window, and the firmware acts on it. -/
def execControl (t : Nat) (s : State) : Host.Outcome State Fault Refusal :=
  let s := s.advance t
  match s.takeMessage 2 with
  | none => .next s
  | some (l, s) =>
    match s.messageFate l with
    | none => .next (s.count LNK_MSG_DROP_CNT_COUNT)
    | some ok =>
      let off := numAt l 8 4 % 2 ^ 30
      let n := numAt l 12 4 % 2 ^ 17
      if !ok || off < fwWindow || fwWindow + messageMax < off + n then .next s.windowFault
      else
        let s := ((s.count LNK_MSG_RX_CNT_COUNT).useCst whoLnk 32 7 off n).writeBytes .cst off (l.drop 32)
        let s := s.withLnk { s.lnk with controls := s.lnk.controls ++ [l] }
        .next (match Config.controlRecord (l.drop 32) with
          | some r => s.firmwareRecord r
          | none => s)

/-! What a module of a partition tells the others (R227, R261, R268, R322, R412). -/

/-- A firmware record is sent to other modules (R340), as work of no function (R259). -/
def State.tell (s : State) (dests : List Nat) (r : ControlRec) : State :=
  forEach dests s fun s d => s.sendMessage d 2 0 fwWindow 0 0 whoFirmware 32 7 (Config.controlBytes r)

/-- This module's report of itself (R227, R261, R339). -/
def State.selfReport (s : State) : PeerReport where
  len := s.slotLen
  epoch := s.epoch
  run := s.running
  err := s.errEst
  routesUp := s.bit LNK_PART_POS_ROUTES_UP
  lat := (List.range 6).map fun p => s.rd LNK_Pp_STATUS_LAT_NS p
  lasted := if s.swapLasted then s.lst.swap.map (·.gen) else none

/-- What the others must be told anew of a report: anything but the error estimate, or that the estimate has passed LIMIT. -/
def State.reportNews (s : State) (r : PeerReport) : Bool :=
  match s.lnk.toldReport with
  | none => true
  | some o => { o with err := r.err } != r
    || decide (s.rd TWS_LOCK_LIMIT_LIMIT < o.err) != decide (s.rd TWS_LOCK_LIMIT_LIMIT < r.err)

/-- A session as it is carried (R268). -/
def State.carriedOf (s : State) (x : Session) : Carried where
  fn := x.fn
  handle := x.handle
  job := x.job
  policy := match s.job x.fn x.job with | some j => j.policy | none => 0
  ref := match s.job x.fn x.job with | some j => j.ref | none => false
  prio := x.prio
  kvFmt := x.kvFmt
  committed := x.committed
  pending := x.pending
  head := match x.queue with
    | r :: _ => if r.phase = .admitted && r.ended.isNone then some { r with launch := 0 } else none
    | [] => none

/-- The sessions that are carried now: those that are open. -/
def State.carriedNow (s : State) : List Carried :=
  (s.serve.sessions.filter fun x => x.closing.isNone && x.cloneOf.isNone).map s.carriedOf

/-- The job faults to tell. -/
def State.faultsNow (s : State) : List (Nat × Nat) := (s.serve.jobs.filter (·.faulted)).map fun j => (j.fn, j.num)

/-- At a boundary the firmware of a module of a partition tells the others what is new: its report, and the job faults that it has found,
which the home module passes on (R412); the home module also the sessions (R268, R322) and the boundary of a Switch (R227).
DESIGN CHOICE (assumption log 65). -/
def State.tellPeers (s : State) (k : Nat) : State :=
  if !s.inPartition then s
  else
    let others := s.otherModules.map s.moduleAt
    let rep := s.selfReport
    let s := if s.reportNews rep then
        let s := s.tell others (.report (s.rd LNK_PART_POS_POS) rep)
        s.withLnk { s.lnk with toldReport := some rep }
      else s
    let faults := s.faultsNow
    let s := forEach (faults.filter fun j => !s.lnk.toldFaults.contains j) s fun s j =>
      s.tell (if s.isHome then others else [s.moduleAt 0]) (.jobFault j.1 j.2)
    let s := s.withLnk { s.lnk with toldFaults := faults }
    if !s.isHome then s
    else
      let now := s.carriedNow
      let told := s.lnk.toldSessions
      let gone := told.filter fun c => !now.any fun d => d.fn == c.fn && d.handle == c.handle
      let s := forEach gone s fun s c => s.tell others (.closed c.fn c.handle)
      let s := forEach (now.filter fun c => !told.contains c) s fun s c => s.tell others (.session c)
      let s := s.withLnk { s.lnk with toldSessions := now }
      match s.lst.swap with
      | some w => if w.announced = some (k + 64) then s.tell others (.switchAt w.gen (k + 64)) else s
      | none => s

/-- A partition's Switch takes place at the boundary that was announced (R227). -/
def State.switchAtBoundary (s : State) (k : Nat) : State :=
  match s.lst.swap with
  | some w => if s.inPartition && w.announced == some k then s.switchNow else s
  | none => s

/-- The module and the block lie within the torus, and the module within the block (R352). DEDUCED (assumption log 55). -/
def State.linkCfgOk (s : State) : Bool :=
  (List.range 3).all fun a =>
    decide (coordOf s.moduleNum a < s.torusDim a) && decide (coordOf (s.rd LNK_PART_ORIGIN) a < s.torusDim a)
      && decide (s.blockExt a ≤ s.torusDim a) && decide (s.blockCoord s.moduleNum a < s.blockExt a)

/-- The torus ports are enabled (R331, R352): those of an axis of extent 1 stay disabled, the others train. -/
def State.linkOn (s : State) : State :=
  let pos := s.blockCoord s.moduleNum 0 + 16 * s.blockCoord s.moduleNum 1 + 256 * s.blockCoord s.moduleNum 2
  let s := ((s.setBit LNK_CTRL_EN).wr LNK_PART_POS_POS pos).wrBit LNK_PART_POS_HOME (pos == 0)
  (forEach (List.range 6) s fun s p => if s.torusDim (p / 2) = 1 then s else s.trainPort p).setRoutesUp

/-- The torus ports are disabled. -/
def State.linkOff (s : State) : State :=
  let s := ((s.wr LNK_CTRL_EN 0).wr LNK_PART_POS_POS 0).wr LNK_PART_POS_HOME 0
  let s := (forEach (List.range 6) s fun s p => (s.wr LNK_Pp_STATUS_STATE 0 p).clearPort p).setRoutesUp
  s.withLnk { s.lnk with peers := [], toldReport := none, toldSessions := [], toldFaults := [] }

/-- A partition job is admitted (R351). -/
def State.partitionBusy (s : State) : Bool :=
  s.rd LNK_PART_EXT != 0 && s.serve.sessions.any fun x => x.queue.any fun r => r.phase == .admitted

/-- LNK_CTRL_EN (R352, R353, R351): a write of LNK_CTRL.EN. -/
def execLnkCtrlEn (t fn : Nat) (on : Bool) (s : State) : Host.Outcome State Fault Refusal :=
  let s := s.advance t
  if !s.accepts fn then .next s
  else if on then
    if s.bit LNK_CTRL_EN then .next s
    else if s.linkCfgOk then .next s.linkOn else .next (s.setBit LNK_CTRL_CFG_ERR)
  else if !s.bit LNK_CTRL_EN then .next s
  else if s.partitionBusy then .next (s.setBit LNK_CTRL_CFG_ERR)
  else .next s.linkOff

/-- The ACK timeout of a queue pair in ns (R345): 4.096 µs × 2^TIMEOUT. -/
def State.qpTimeout (s : State) (port qp : Nat) : Nat := 4096 * 2 ^ s.rd LNK_Ss_QP_CTRL_TIMEOUT (qpBank port qp)

/-- A congestion notification packet (R348): at most one per queue pair per 50 µs. -/
def State.sendCnp (s : State) (port qp : Nat) : State :=
  let k := qpBank port qp
  let last := SMap.get 0 s.lnk.cnpAt k
  if last ≠ 0 && s.now < last - 1 + 50000 then s
  else (s.withLnk { s.lnk with cnpAt := SMap.put 0 s.lnk.cnpAt k (s.now + 1) }).count LNK_Ss_CNP_CNT_COUNT 1 port

/-- STORAGE_READ_RESPONSE (R345, R347, R348): one packet of a response, with its PSN and whether its invariant CRC passes; the payload of the
load in progress on the queue pair is taken in order, that of a load that was abandoned is discarded.
DEDUCED (assumption log 49). -/
def execStorageReadResponse (t port qp slot offset psn : Nat) (crcOk ce : Bool) (data : List Byte) (s : State) :
    Host.Outcome State Fault Refusal :=
  let s := (s.advance t).flushReads port
  let k := qpBank port qp
  if s.rd LNK_Ss_QP_CTRL_STATE k ≠ 1 || !s.bit LNK_Ss_STATUS_LINK_UP port || !crcOk then .next s
  else if psn ≠ SMap.get 0 s.lnk.psnWant k then .next s
  else
    let s := if ce then s.sendCnp port qp else s
    let s := s.withLnk { s.lnk with psnWant := SMap.put 0 s.lnk.psnWant k ((psn + 1) % 2 ^ 24) }
    match s.loadOn port qp with
    | none => .next s
    | some (n, l) =>
      match l.outstanding with
      | (a, m) :: _ =>
        if n ≠ slot || a ≠ offset || data.length ≠ min m (s.qpMtu port qp) then .next s
        else
          let s := s.count LNK_Ss_READ_BYTES_COUNT data.length port
          let s := s.withLnk { s.lnk with tries := SMap.put 0 s.lnk.tries k 0, progress := SMap.put 0 s.lnk.progress k s.now }
          .next (s.loadBytes n data)
      | [] => .next s

/-- STORAGE_NAK (R347): a remote access NAK, or a remote operation NAK. -/
def execStorageNak (t port qp : Nat) (access : Bool) (s : State) : Host.Outcome State Fault Refusal :=
  let s := s.advance t
  if s.rd LNK_Ss_QP_CTRL_STATE (qpBank port qp) ≠ 1 || (s.loadsOn port qp).isEmpty then .next s
  else .next (s.qpError port qp (if access then 1 else 2))

/-- RDMA_RETRY_TIMEOUT (R345): a READ has gone unanswered for the queue pair's timeout. DEDUCED (assumption log 49). -/
def execRdmaRetryTimeout (t port qp : Nat) (s : State) : Host.Outcome State Fault Refusal :=
  let s := (s.advance t).flushReads port
  let k := qpBank port qp
  if s.rd LNK_Ss_QP_CTRL_STATE k ≠ 1 || decide (s.now < SMap.get 0 s.lnk.progress k + s.qpTimeout port qp) then .next s
  else
    match s.loadOn port qp with
    | none => .next s
    | some (_, l) =>
      if l.outstanding.isEmpty then .next s
      else if s.rd LNK_Ss_QP_CTRL_RETRY k ≤ SMap.get 0 s.lnk.tries k then .next (s.qpError port qp 3)
      else
        let s := s.count LNK_Ss_RETRY_CNT_COUNT 1 port
        let (again, psn) := s.readReqs port l.ops (SMap.get 0 s.lnk.psnWant k) l.outstanding
        let s := (s.dropHeldReads port qp).sendReads port again
        .next (s.withLnk { s.lnk with
          tries := SMap.upd 0 s.lnk.tries k (· + 1)
          progress := SMap.put 0 s.lnk.progress k s.now
          psnNext := SMap.put 0 s.lnk.psnNext k psn })

/-- INBOUND_REQUEST_DISCARD (R345). -/
def execInboundRequestDiscard (t port : Nat) (s : State) : Host.Outcome State Fault Refusal :=
  .next ((s.advance t).count LNK_Ss_DISCARD_CNT_COUNT 1 port)

/-- A storage port goes down (R347): every queue pair with a load moves to ERROR with cause 4. -/
def State.storageDown (s : State) (port : Nat) : State :=
  let qps := ((s.lst.loads.filterMap fun n => (s.obj n).loading).filter (·.ops.port == port)).map (·.ops.qp)
  forEach qps.eraseDups s fun s q => s.qpError port q 4

/-- STORAGE_LINK_DOWN (R347). -/
def execStorageLinkDown (t port : Nat) (s : State) : Host.Outcome State Fault Refusal :=
  let s := s.advance t
  if !s.bit LNK_Ss_STATUS_LINK_UP port then .next s
  else .next ((s.wr LNK_Ss_STATUS_LINK_UP 0 port).storageDown port).chooseMaster

/-- STORAGE_LINK_UP (R347): the PCS aligns and FEC locks on an enabled port. -/
def execStorageLinkUp (t port : Nat) (s : State) : Host.Outcome State Fault Refusal :=
  let s := s.advance t
  if s.bit LNK_Ss_CTRL_EN port then .next ((s.setBit LNK_Ss_STATUS_LINK_UP port).flushReads port).chooseMaster else .next s

/-- STORAGE_PORT_DISABLE (R347): EN = 0 is accepted at any time, and takes the port down. -/
def execStoragePortDisable (t fn port : Nat) (s : State) : Host.Outcome State Fault Refusal :=
  let s := s.advance t
  if !s.accepts fn || !s.bit LNK_Ss_CTRL_EN port then .next s
  else .next (((s.wr LNK_Ss_CTRL_EN 0 port).wr LNK_Ss_STATUS_LINK_UP 0 port).storageDown port).chooseMaster

/-- QP_RESET (R347): the queue pair's loads fail, and its cause returns to 0. -/
def execQpReset (t fn port qp : Nat) (s : State) : Host.Outcome State Fault Refusal :=
  let s := s.advance t
  if !s.accepts fn then .next s
  else
    let k := qpBank port qp
    let s := ((s.wr LNK_Ss_QP_CTRL_STATE 0 k).wr LNK_Ss_QP_ERR_CAUSE 0 k).dropHeldReads port qp
    let s := s.withLnk { s.lnk with tries := SMap.put 0 s.lnk.tries k 0 }
    .next (forEach (s.loadsOn port qp) s fun s e => s.loadEmpty e.1 .badHandle)

/-- QP_RTS (R345–R347): from RESET, with a valid MTU; packets are numbered from the starting PSN. -/
def execQpRts (t fn port qp : Nat) (s : State) : Host.Outcome State Fault Refusal :=
  let s := s.advance t
  let k := qpBank port qp
  if !s.accepts fn || s.rd LNK_Ss_QP_CTRL_STATE k ≠ 0 || s.rd LNK_Ss_QP_CTRL_MTU k = 0 then .next s
  else
    let psn := s.rd LNK_Ss_QP_PSN_PSN k
    let s := s.wr LNK_Ss_QP_CTRL_STATE 1 k
    .next (s.withLnk { s.lnk with psnNext := SMap.put 0 s.lnk.psnNext k psn, psnWant := SMap.put 0 s.lnk.psnWant k psn })

/-- PFC_FRAME (R344): the class-enable vector and the pause times of a priority flow control frame, in quanta of 512 bit times
(1.28 ns at 400 Gb/s); only the priority set in LNK_Ss_CTRL is honoured, and only where it is enabled: the reads of the port wait until
the pause ends.
DEDUCED (assumption log 48). -/
def execPfcFrame (t port enable : Nat) (quanta : List Nat) (s : State) : Host.Outcome State Fault Refusal :=
  let s := s.advance t
  let p := s.rd LNK_Ss_CTRL_PFC_PRIO port
  if !s.bit LNK_Ss_CTRL_EN port || !s.bit LNK_Ss_CTRL_PFC_EN port || !bitOf enable p then .next s
  else
    let d := nth 0 quanta p * 128 / 100
    .next ((s.withLnk { s.lnk with pausedTo := SMap.put 0 s.lnk.pausedTo port (if d = 0 then 0 else s.now + d) }).flushReads port)

end Sys2Proof.Machine
end

