-- ==== Sys2Proof/Machine/Drain.lean ====
section
/-! DEFINITION. The welt's terms, the ordered and forced drains, export records, folding and cancel rescue
(spec/05_welt.md R107–R124, spec/06_accumulation_and_vector.md R144–R148). -/

namespace Sys2Proof.Machine

/-- The adapter factors of a request for a matrix (R229). -/
def State.adapterRank (s : State) (serial : Option Nat) (matrix : Nat) : Option LowRank :=
  match s.findReq serial with
  | none => none
  | some (x, r) =>
    if r.adapter = 0 then none
    else match s.lst.adapters.find? fun a => a.fn == x.fn && a.num == r.adapter with
      | none => none
      | some a => (SMap.get ObjSlot.init s.lst.slots a.slot).content.lowRank.find? (·.matrix == matrix)

/-- The inputs of a height (R118): `q · 2^k` for fabric inputs, the BF16 value for digital channels; index from FIRST_IN. -/
def Vector.inputAt (v : Vector) (r : ClusterRec) (i : Nat) : F32 :=
  match v.digital.find? (·.1 == r.firstIn + i) with
  | some (_, x) => bf16ToF32 x
  | none =>
    match nth none v.blocks (i / 512) with
    | some b => if b.zero || b.nan then 0#32 else f32Dyadic (nth 0 b.elems (i % 512)) (e8m0Exp b.scale)
    | none => 0#32

/-- A term of an element: absent where every contribution is skipped or zero (R108). -/
def sumTerm (products : List F32) (scale : F32) : Option F32 :=
  match products with
  | [] => none
  | a :: t => some (f32Mul (t.foldl f32Add a) scale)

/-- The outlier term O_h of output `out`, in ascending order of its inputs (R116). -/
def outlierTerm (c : ObjContent) (v : Vector) (r : ClusterRec) (out : Nat) (sc : F32) : Option F32 :=
  let es := sortBy (·.input) (c.outliers.filter fun e => e.matrix == r.matrix && e.output == out && decide (r.firstIn ≤ e.input)
    && decide (e.input < r.firstIn + 512 * r.xbRows))
  sumTerm ((es.map fun e => (v.inputAt r (e.input - r.firstIn), e.residual)).filterMap fun (x, w) =>
    if f32IsZero x then none else some (f32Mul (f32OfInt w) x)) sc

/-- The digital-channel term Dc_h of channel `p` of crossbar column `col`, in ascending order of its inputs (R117). -/
def digitalTerm (c : ObjContent) (v : Vector) (r : ClusterRec) (col p : Nat) (sc : F32) : Option F32 :=
  let chans := sortBy (·.2)
    (c.digital.filter fun d => d.1 == r.matrix && decide (r.firstIn ≤ d.2) && decide (d.2 < r.firstIn + 512 * r.xbRows))
  sumTerm (chans.filterMap fun d =>
    let i := d.2 - r.firstIn
    match v.digital.find? (·.1 == d.2) with
    | none => none
    | some (_, x) =>
      let x := bf16ToF32 x
      if f32IsZero x then none
      else some (f32Mul x (f32OfInt (tileWeight (c.cells r.core r.cluster (i / 512) col).body p (i % 512))))) sc

/-- The t_j of R118 for the factors of one record over a height's inputs. -/
def lowRankRow (f : LowRank) (m : MatrixRec) (v : Vector) (r : ClusterRec) (j : Nat) : F32 :=
  (List.range (min (512 * r.xbRows) (m.nIn - r.firstIn))).foldl (fun t i =>
    f32Fma (bf16ToF32 (nth 0#16 f.v (j * m.nIn + r.firstIn + i))) (v.inputAt r i) t) 0#32

/-- The low-rank products of all rows of a record: the t_j, formed once per height (R118). -/
def lowRankTs (f : LowRank) (m : MatrixRec) (v : Vector) (r : ClusterRec) : List F32 :=
  (List.range f.rank).map (lowRankRow f m v r)

/-- The low-rank term L_h of output `out` (R118, R229): the base's factors, then the adapter's. -/
def lowRankTerm (fs : List (LowRank × List F32)) (out : Nat) : F32 :=
  fs.foldl (fun l f => (List.range f.1.rank).foldl (fun l j =>
    f32Fma (bf16ToF32 (nth 0#16 f.1.u (out * f.1.rank + j))) (nth 0#32 f.2 j) l) l) 0#32

/-- Whether any input of the height is non-zero (R108). -/
def Vector.anyInput (v : Vector) (r : ClusterRec) : Bool :=
  v.digital.any (fun d => decide (r.firstIn ≤ d.1) && decide (d.1 < r.firstIn + 512 * r.xbRows) && !f32IsZero (bf16ToF32 d.2)) ||
    ((v.blocks.take r.xbRows).any fun b => match b with
      | some b => !b.zero && b.elems.any (· != 0)
      | none => false)

/-- What the value of one element is made of (R107, R109): the accumulator with its preload where a crossbar contributed,
else the exact value of R142; magnitudes; and the welt's terms that are not omitted. -/
structure Terms where
  acc : Option Int
  pre : Option F32
  mag : Nat
  preMag : Nat
  g : Option F32
  o : Option F32
  dc : Option F32
  l : Option F32
deriving DecidableEq, Repr

/-- An optional term added (R107, R108). -/
def addTerm (p : F32) : Option F32 → F32
  | none => p
  | some t => f32Add p t

/-- R107 and R109: the corrected partial and its magnitude sum, for accumulator sums in units of 2^k. -/
def Terms.value (t : Terms) (k : Int) (sc : F32) : F32 × F32 :=
  let scaled (x : Int) : F32 := f32Mul (f32Scale (f32OfInt x) k) sc
  let a := match t.acc with
    | some x => scaled x
    | none => t.pre.getD 0#32
  let m0 := match t.acc with
    | some _ => if t.preMag = 0 then scaled (t.mag : Int) else f32Add (scaled (t.preMag : Int)) (scaled (t.mag : Int))
    | none => f32Abs (t.pre.getD 0#32)
  (addTerm (addTerm (addTerm (addTerm a t.g) t.o) t.dc) t.l,
   addTerm (addTerm (addTerm (addTerm m0 (t.g.map f32Abs)) (t.o.map f32Abs)) (t.dc.map f32Abs)) (t.l.map f32Abs))

/-- The crossbars of a vector that contribute to a crossbar column. -/
def Vector.colXbs (v : Vector) (col : Nat) : List XbRun := v.xbs.filter (·.col == col)

/-- Cancel rescue is enabled for a matrix (R124). -/
def State.cancelOn (s : State) (m : MatrixRec) : Bool :=
  match s.rd WLT_CTRL_CANCEL_MODE with
  | 1 => false
  | 2 => true
  | _ => m.cancel

/-- The exact aligned sum of a channel over its crossbars (R124). -/
def Vector.exactSum (v : Vector) (c : ObjContent) (core cluster col p : Nat) : Int :=
  sumI ((v.colXbs col).map fun x =>
    alignPartial (v.rowExp x.row) (v.kRef.getD 0) (exactPartial (c.cells core cluster x.row col).body p (v.rowElems x.row)))

/-- A crossbar gave a column group, or in a transpose vector a range of rows, an analogue partial (R123): it was driven, and no
saturation rescue has replaced the group. -/
def Vector.gaveAnalogue (v : Vector) (x : XbRun) (g : Nat) : Bool := !x.standIn && !v.rescued.contains (x.row, x.col, g)

/-- An element without a value of its own: NaN from an input (R41), or no partial at all (R142). -/
def Part.nan (oob : Bool) : Part := ⟨f32NaN, f32NaN, oob, false, false, none, true⟩
def Part.none_ : Part := ⟨0#32, 0#32, false, true, false, none, false⟩

/-- One element of a drain (R107, R108, R142): `terms` says whether the welt terms other than G are formed. -/
def drainElem (v : Vector) (c : ObjContent) (r : ClusterRec) (m : MatrixRec)
    (low : List (LowRank × List F32)) (terms rescue : Bool) (e : Nat) : Part :=
  let a := r.accOf e
  let col := r.xbCol0 + e / r.channels
  let p := e % r.channels
  let out := r.firstOut + e
  let sc := c.scaleOf m out
  let xs := v.colXbs col
  let any := !xs.isEmpty
  let pre := (v.pre.find? (·.1 == a)).map (·.2)
  let exact := (v.preExact.find? (·.1 == a)).map (·.2)
  let nan := v.numeric.contains r.matrix || (exact.map f32IsNaN).getD false
    || (v.blocks.take r.xbRows).any fun b => match b with | some b => b.nan | none => false
  let k := v.kRef.getD 0
  let dsum := nth 0#32 v.deltas a
  let analogue := xs.any fun x => v.gaveAnalogue x (groupOf r.diff p)
  let g := if v.ref || !xs.any (!·.standIn) || f32IsZero dsum then none else some (f32Mul (f32Scale dsum k) sc)
  let o := if terms then outlierTerm c v r out sc else none
  let dc := if terms then digitalTerm c v r col p sc else none
  let l := if terms && !low.isEmpty && v.anyInput r then some (lowRankTerm low out) else none
  let sum : Int := nth 0 v.acc a + pre.getD 0
  let base : Terms := {
    acc := if any then some sum else none, pre := exact, mag := nth 0 v.mags a, preMag := (pre.getD 0).natAbs
    g := g, o := o, dc := dc, l := l }
  let w := base.value k sc
  let oob := decide (32768 < m.nIn) || (v.limited.contains a && !v.ref)
  if nan then Part.nan oob
  else
    let ex := if !rescue then none
      else if any then some ({ base with acc := some (v.exactSum c r.core r.cluster col p + pre.getD 0), g := none }.value k sc).1
      else some w.1
    ⟨w.1, w.2, oob, !any && exact.isNone && o.isNone && dc.isNone && l.isNone, analogue && !v.ref, ex, false⟩

/-- The low-rank products of a cluster record's matrix for a vector (R118, R229). -/
def State.lowOf (s : State) (v : Vector) (c : ObjContent) (r : ClusterRec) (m : MatrixRec) : List (LowRank × List F32) :=
  let fs := (c.lowRank.filter (·.matrix == r.matrix)) ++ (s.adapterRank v.serial r.matrix).toList
  (fs.filter (0 < ·.rank)).map fun f => (f, lowRankTs f m v r)

/-- How many outputs of its matrix a cluster record holds. -/
def ClusterRec.used (r : ClusterRec) (m : MatrixRec) : Nat := min r.outs (m.nOut - r.firstOut)

/-- The partial of one cluster record of a drained forward vector (R144, R147). -/
def State.drainRec (s : State) (v : Vector) (r : ClusterRec) (buf : Bool) : PartRec :=
  let c := s.image v.gen
  match c.matrix r.matrix with
  | none => ⟨0, false, r.firstIn, r.firstOut, v.gen, r.matrix, v.num, []⟩
  | some m =>
    let low := s.lowOf v c r m
    let n := r.used m
    let inRec (a : Nat) : Bool := decide (r.accOf 0 ≤ a) && decide (a < r.accOf n)
    ⟨0, v.pre.any (inRec ·.1) || v.preExact.any (inRec ·.1), r.firstIn, r.firstOut, v.gen, r.matrix, v.num,
      (List.range n).map (drainElem v c r m low true (buf && s.cancelOn m))⟩

/-- A vector consumes a block with NAN = 1 (R41). -/
def Vector.hasNan (v : Vector) : Bool := v.blocks.any fun b => match b with | some b => b.nan | none => false

/-- The exact aligned sum of a transpose accumulator over its crossbars (R124). -/
def Vector.exactRow (v : Vector) (c : ObjContent) (r : ClusterRec) (a : Nat) : Int :=
  sumI ((v.xbs.filter (·.row == a / 512)).map fun x =>
    let cells := c.cells r.core r.cluster x.row x.col
    let q := v.gradOf r x.col
    alignPartial q.2.1 (v.kRef.getD 0) (transposeExact cells.body cells.diff q.1 q.2.2 (a % 512)))

/-- One element of a transpose vector (R79, R107, R138): its accumulator holds logical row `a % 512` of crossbar row `a / 512`. -/
def transposeElem (v : Vector) (c : ObjContent) (r : ClusterRec) (nIn : Nat) (rescue : Bool) (a : Nat) : Part :=
  let k := v.kRef.getD 0
  let xs := v.xbs.filter (·.row == a / 512)
  let d := nth 0#32 v.deltas a
  let g := if f32IsZero d then none else some (f32Scale d k)
  let x := f32Scale (f32OfInt (nth 0 v.acc a)) k
  let m := f32Scale (f32OfInt (nth 0 v.mags a : Nat)) k
  let oob := decide (32768 < nIn) || (v.limited.contains a && !v.ref)
  if v.hasNan then Part.nan oob
  else ⟨addTerm x g, addTerm m (g.map f32Abs), oob, xs.isEmpty, !v.ref && xs.any (v.gaveAnalogue · (a % 512 / 64)),
    if rescue then some (f32Scale (f32OfInt (v.exactRow c r a)) k) else none, false⟩

/-- The transpose partials of a cluster record, at most 2,048 elements to a record (R79, R147). -/
def State.drainTranspose (s : State) (v : Vector) (r : ClusterRec) (buf : Bool) : List PartRec :=
  let c := s.image v.gen
  let (nIn, cancel) := match c.matrix r.matrix with
    | some m => (m.nIn, s.cancelOn m)
    | none => (0, false)
  (List.range (ceilDiv r.xbRows 4)).map fun h =>
    ⟨1, false, r.firstOut, r.firstIn + 2048 * h, v.gen, r.matrix, v.num,
      (List.range (min 2048 (512 * r.xbRows - 2048 * h))).map fun i => transposeElem v c r nIn (buf && cancel) (2048 * h + i)⟩

/-- Bits packed eight to a byte, the first at bit 0 (R147). -/
def packBits (l : List Bool) : List Byte :=
  (List.range (ceilDiv l.length 8)).map fun i =>
    BitVec.ofNat 8 (sumN ((List.range 8).map fun j => b2n (nth false l (8 * i + j)) * 2 ^ j))

/-- Zero bytes up to a multiple of `n`. -/
def padTo (n : Nat) (l : List Byte) : List Byte := l ++ List.replicate (ceilDiv l.length n * n - l.length) 0#8

/-- The bytes of an export record (R147). DEDUCED (assumption log 21). -/
def PartRec.bytes (r : PartRec) : List Byte :=
  padTo 64 (leBytes 4 (r.elems.length + 4096 * r.kind + 65536 * b2n r.preloaded) ++ leBytes 4 (r.firstIn % 2 ^ 24)
    ++ leBytes 4 (r.firstOut % 2 ^ 24) ++ leBytes 4 (r.gen % 65536 + 65536 * r.matrix)
    ++ (r.elems.map fun e => leBytes 4 e.val.toNat ++ leBytes 4 e.mag.toNat).flatten
    ++ packBits (r.elems.map (·.oob)) ++ packBits (r.elems.map (·.empty)))

/-- A little-endian field of `n` bytes at an offset. -/
def field (l : List Byte) (off n : Nat) : Nat := ofLeBytes ((l.drop off).take n)

/-- An export record read back (R147, R148).  Whether a driven crossbar took part in an element is not in the record: `driven` tells it
where the record was made on this module; else it is taken as so where the reader is not in reference mode.
DEDUCED (assumption log 21). -/
def readRecord (ref : Bool) (driven : List Bool) (l : List Byte) : PartRec :=
  let w0 := field l 0 4
  let n := w0 % 4096
  let oobAt := 16 + 8 * n
  let emptyAt := oobAt + ceilDiv n 8
  ⟨bitsOf w0 12 4, bitOf w0 16, field l 4 3, field l 8 3, field l 12 2, field l 14 2, 0,
    (List.range n).map fun e =>
      let v : F32 := BitVec.ofNat 32 (field l (16 + 8 * e) 4)
      ⟨v, BitVec.ofNat 32 (field l (20 + 8 * e) 4), bitOf (nth 0#8 l (oobAt + e / 8)).toNat (e % 8),
        bitOf (nth 0#8 l (emptyAt + e / 8)).toNat (e % 8), !ref && nth true driven e, none, f32IsNaN v⟩⟩

/-- The padded length of a record of `n` elements (R147). -/
def recordLen (n : Nat) : Nat := ceilDiv (16 + 8 * n + 2 * ceilDiv n 8) 64 * 64

/-- The records that lie one after the other in an entry. -/
def readRecords (ref : Bool) : Nat → List Bool → List Byte → List PartRec
  | 0, _, _ => []
  | fuel + 1, driven, l =>
    let n := field l 0 4 % 4096
    if l.isEmpty then [] else readRecord ref driven l :: readRecords ref fuel (driven.drop n) (l.drop (recordLen n))

/-- NUMERIC at points 5 to 7 (R46, R47): a result is not finite though no NaN came in. -/
def PartRec.overflows (r : PartRec) : Bool := r.elems.any fun e => !e.nanIn && f32NonFinite e.val

/-- A NUMERIC event makes every element NaN (R41). -/
def PartRec.allNan (r : PartRec) : PartRec := { r with elems := r.elems.map fun e => Part.nan e.oob }

/-- The function and job of the work of a request on a core, 0 and 0 where there is none. -/
def State.workOn (s : State) (core : Nat) (serial : Option Nat) : Nat × Nat :=
  match s.ownerOn core serial with
  | some (f, j, _) => (f, j)
  | none => (0, 0)

/-- Partials go to a place (R144, R147): a buffer of the core's VEC, beside those it holds of this drain, a queue entry for the folding
core, or the window of the module that holds it. -/
def State.putParts (s : State) (core : Nat) (serial : Option Nat) (fresh : Bool) (place : DrainPlace) (recs : List PartRec) : State :=
  match place with
  | .here (.buf n) =>
    let old := if fresh then [] else match s.buf core n with | .parts _ l => l | _ => []
    s.setBuf core n (.parts serial (old ++ recs))
  | .here (.entry a slot) =>
    let (f, j) := s.workOn core serial
    let l := (recs.map PartRec.bytes).flatten
    ((s.coreCst core serial a l.length).putEntry a slot f j l ((recs.map fun r => r.elems.map (·.analogue)).flatten)).count VEC_EXPORT_CNT_COUNT recs.length
  | .torus dst offset slot =>
    (s.sendBytes core serial dst offset slot none (recs.map PartRec.bytes).flatten).count VEC_EXPORT_CNT_COUNT recs.length

/-- A bank's drain begins (R143, R144), at 64 elements to a cycle of 1.6 GHz: 20 ns for a bank, 40 ns for both banks of a transpose vector
(R138).  It then returns to FREE; loads that wait go on. DEDUCED (assumption log 41). -/
def State.freeBank (s : State) (core cluster b : Nat) : State :=
  let tr := (s.bank core cluster b).transpose
  let empty : Vector := { Vector.init with drainTo := s.now + if tr then 40 else 20 }
  let s := s.setBank core cluster b empty
  let s := if tr then s.setBank core cluster (1 - b) empty else s
  s.goWaiting core cluster

/-- The records of a matrix, each with the place it goes to: the k-th place takes the k-th record, the last one the rest. -/
def placeRecs : List DrainPlace → List PartRec → List (DrainPlace × List PartRec)
  | [], _ => []
  | [p], rs => [(p, rs)]
  | p :: q :: t, r :: rs => (p, [r]) :: placeRecs (q :: t) rs
  | _ :: _ :: _, [] => []

/-- The records of one matrix of a drained vector; a record in which NUMERIC arises is NaN throughout (R41, R46). -/
def State.matrixRecs (s : State) (v : Vector) (rs : List ClusterRec) (m : Nat) (buf : Bool) : List PartRec :=
  ((rs.filter (·.matrix == m)).map fun r => if v.transpose then s.drainTranspose v r buf else [s.drainRec v r buf]).flatten

/-- A matrix of a drained vector is handed on (R144, R147): the places that the plan gives it. -/
def State.drainMatrix (s : State) (core : Nat) (v : Vector) (rs : List ClusterRec) (m : Nat) (places : List DrainPlace) : State :=
  let buf := places.any fun p => match p with | .here (.buf _) => true | _ => false
  let recs := s.matrixRecs v rs m buf
  let s := if recs.any PartRec.overflows then s.markNumeric v.serial else s
  let recs := recs.map fun r => if r.overflows then r.allNan else r
  forEach (placeRecs places recs).zipIdx s fun s e =>
    let seen := (places.take e.2).contains e.1.1
    s.putParts core v.serial (!seen) e.1.1 e.1.2

/-- DRAIN (R144): an ordered drain of a COMPLETE bank, with the places of each matrix's partials; a FREE bank completes at once; any
other waits. -/
def execDrain (t core cluster b : Nat) (places : List (Nat × DrainPlace)) (check : UnitCheck) (s : State) :
    Host.Outcome State Fault Refusal :=
  let s := s.advance t
  let b := s.dataBank core cluster b
  let v := s.bank core cluster b
  if v.stateAt s.now ≠ .complete then .next s
  else
    let rs := (s.image v.gen).clustersAt core cluster
    let s := forEach (places.map (·.1)).eraseDups s fun s m =>
      s.drainMatrix core v rs m ((places.filter (·.1 == m)).map (·.2))
    .next (((s.count ACR_DRAIN_CNT_COUNT).freeBank core cluster b).unitCheck core 1 check)

/-- The debug area of CST (R373, R374), and the size of a full record (R147). DEDUCED (assumption log 44). -/
def debugFits (a : Nat) : Bool := decide (0x07F00000 ≤ a) && decide (a + 16960 ≤ 0x08000000)

/-- The element of one accumulator of a forced drain (R145): with the welt terms that have been formed, and nothing where the bank
has no output. -/
def snapshotElem (v : Vector) (c : ObjContent) (rs : List (ClusterRec × MatrixRec × List (LowRank × List F32)))
    (a : Nat) : Part :=
  match rs.find? fun x => decide (x.1.accOf 0 ≤ a) && decide (a < x.1.accOf (x.1.used x.2.1)) with
  | some (r, m, low) => drainElem v c r m low v.termsDone false (a - r.accOf 0)
  | none => Part.none_

/-- The record of a forced drain of a bank (R145): KIND 2, every accumulator of the bank in order under the numbers of its first
matrix.  A sum that has not arrived is not in it. DESIGN CHOICE (assumption log 44). -/
def State.snapshotRec (s : State) (v : Vector) (core cluster b : Nat) : PartRec :=
  let c := s.image v.gen
  let v := if v.hasArrived s.now then v else { v with acc := [], mags := [], deltas := [] }
  match c.clustersAt core cluster with
  | [] => ⟨2, false, 0, 0, v.gen, 0, 0, []⟩
  | r :: t =>
    if v.transpose then
      let r := match v.xbs with
        | x :: _ => (c.recordOf core cluster x.row x.col).getD r
        | [] => r
      let nIn := match c.matrix r.matrix with | some m => m.nIn | none => 0
      ⟨2, false, r.firstOut, r.firstIn + 2048 * b, v.gen, r.matrix, 0,
        (List.range 2048).map fun i => transposeElem v c r nIn false (2048 * b + i)⟩
    else
      let rs := (r :: t).filterMap fun r => (c.matrix r.matrix).map fun m => (r, m, s.lowOf v c r m)
      ⟨2, !v.pre.isEmpty || !v.preExact.isEmpty, r.firstIn, r.firstOut, v.gen, r.matrix, 0,
        (List.range (if r.diff then 1024 else 2048)).map (snapshotElem v c rs)⟩

/-- The passes of a vector that have not retired (R62, R79, R145): all of them until its sum has arrived, none where it drives no
crossbar. -/
def Vector.outstanding (v : Vector) (now : Nat) : Nat :=
  if v.hasArrived now || v.xbs.all (·.standIn) then 0 else (if v.transpose then 4 else 2) * v.n

/-- A forced drain (R145): refused for an address outside the debug area (R160), the bank unchanged.  Its record counts as no export
(R147): the spec does not say whether it does. DESIGN CHOICE (assumption log 44). -/
def State.forcedDrain (s : State) (core cluster b : Nat) : State :=
  let a := s.rd ACR_DBG_ADDR_ADDR core / 64 * 64
  if !s.bit ACR_CTRL_DBG_DRAIN_EN || !debugFits a then s
  else
    let v := s.bank core cluster (s.dataBank core cluster b)
    let free := v.state == .free
    let rec_ : PartRec := if free then ⟨2, false, 0, 0, 0, 0, 0, []⟩ else s.snapshotRec v core cluster b
    let pending := if free then 0 else min 31 (v.outstanding s.now)
    let open_ := !free && (!v.hasArrived s.now || !v.termsDone || !v.flags.isEmpty)
    let s := s.writeBytes .cst a rec_.bytes
    let s := s.count ACR_DBG_DRAIN_CNT_COUNT
    let s := (s.setBit ACR_DBG_STATUS_DONE core).wrBit ACR_DBG_STATUS_INCOMPLETE open_ core
    let s := s.wr ACR_DBG_STATUS_PENDING pending core
    s.logEvent { EventRec.blank 0x1B 0 with
      core := some core, status := if open_ then Status.code .drainIncomplete else 0, detail := [0, cluster, b, pending] }

/-- ACR_DBG_DRAIN (R145): only the physical function may force a drain. -/
def execAcrDbgDrain (t fn core cluster b : Nat) (s : State) : Host.Outcome State Fault Refusal :=
  let s := s.advance t
  if !s.accepts fn || 512 ≤ core then .next s else .next (s.forcedDrain core cluster b)

/-- The sources of a fold that a core reads: its buffers' partials and its entries' records. DEDUCED (assumption log 21). -/
def State.foldRecs (s : State) (core : Nat) (ref : Bool) : List PartPlace → List (PartRec × Bool)
  | [] => []
  | .buf n :: t => (match s.buf core n with
      | .parts _ recs => recs.map fun r => (r, true)
      | _ => []) ++ State.foldRecs s core ref t
  | .entry a _ :: t =>
    let e := s.entry a
    let l := e.bytes
    ((readRecords ref (l.length / 64 + 1) e.driven l).map fun r => (r, false)) ++ State.foldRecs s core ref t

/-- One folded element (R48, R148): `nanIn` where a partial was NaN already. -/
structure Folded where
  val : F32
  mag : F32
  oob : Bool
  analogue : Bool
  exact : Option F32
  here : Bool
  nanIn : Bool
deriving DecidableEq, Repr

/-- Two values combined where both are there. -/
def bothOf {α : Type} (f : α → α → α) : Option α → Option α → Option α
  | some a, some b => some (f a b)
  | _, _ => none

/-- The fold of one element over records in ascending first input (R48, R148); +0 where no record has a partial (R142).
DEDUCED (assumption log 21). -/
def foldElem (recs : List (PartRec × Bool)) (out : Nat) : Folded :=
  let ps := recs.filterMap fun (r, here) =>
    if r.firstOut ≤ out then
      match r.elems[out - r.firstOut]? with
      | some e => if e.empty then none else some (⟨e.val, e.mag, e.oob, e.analogue, e.exact, here, e.nanIn || f32IsNaN e.val⟩ : Folded)
      | none => none
    else none
  match ps with
  | [] => ⟨0#32, 0#32, false, false, none, false, false⟩
  | e :: t => t.foldl (fun a f =>
      ⟨f32Add a.val f.val, f32Add a.mag f.mag, a.oob || f.oob, a.analogue || f.analogue, bothOf f32Add a.exact f.exact, a.here && f.here,
        a.nanIn || f.nanIn⟩) e

/-- Records in ascending first input (R48). -/
def sortRecs (l : List (PartRec × Bool)) : List (PartRec × Bool) := sortBy (·.1.firstIn) l

/-- R123: a folded element is cancellation-dominated. -/
def Folded.cancelled (e : Folded) : Bool := e.analogue && f32Lt (f32Abs e.val) (f32Scale e.mag (-10))

/-- The record that gives an element its matrix and vector: the first that holds it. -/
def recordFor (recs : List (PartRec × Bool)) (out : Nat) : Option PartRec :=
  (recs.find? fun r => decide (r.1.firstOut ≤ out) && decide (out < r.1.firstOut + r.1.elems.length)).map (·.1)

/-- The key of the rescues of a matrix and vector on a core (R124). -/
def rescueKey (core : Nat) (r : PartRec) : Nat := 65536 * (1024 * r.vector + core) + r.matrix

/-- One flagged element of a fold (R124): rescue is due where its matrix allowed one at its drain, every height lies in this core and fewer
than 256 elements of its matrix, vector and core have been taken; its exact value then, and the state with the element counted. -/
def State.takeRescue (s : State) (core : Nat) (recs : List (PartRec × Bool)) (out : Nat) (e : Folded) : Option F32 × State :=
  match recordFor recs out, e.exact with
  | some r, some x =>
    let k := rescueKey core r
    if e.here && decide (SMap.get 0 s.fab.rescues k < 256) then
      (some x, s.withFab { s.fab with rescues := SMap.upd 0 s.fab.rescues k (· + 1) })
    else (none, s)
  | _, _ => (none, s)

/-- The flagged elements of a fold that a rescue takes, in ascending output order (R124). -/
def State.takeRescues (s : State) (core first : Nat) (recs : List (PartRec × Bool)) : List (Folded × Nat) → List (Nat × F32) × State
  | [] => ([], s)
  | (e, i) :: t =>
    let x := s.takeRescue core recs (first + i) e
    let y := x.2.takeRescues core first recs t
    (match x.1 with | some v => (i, v) :: y.1 | none => y.1, y.2)

/-- The fold of `n` elements from `first` on with its marks, counts and due rescues (R122–R124, R148); every element is NaN where one
overflows (R41, R46). -/
def State.foldInto (s : State) (core first n dst : Nat) (serial : Option Nat) (recs : List (PartRec × Bool)) : State :=
  let es := (List.range n).map fun i => foldElem recs (first + i)
  let flagged := (es.zipIdx.filter (·.1.cancelled))
  let (able, s) := s.takeRescues core first recs flagged
  let oob := es.zipIdx.map fun (e, i) => e.oob || (flagged.any (·.2 == i) && !able.any (·.1 == i))
  let marks := (oob.filter id).length
  let event := es.any fun e => !e.nanIn && f32NonFinite e.val
  let vals := es.map fun e => if event then f32NaN else e.val
  let s := s.count WLT_CANCEL_FLAG_CNT_COUNT flagged.length
  let s := s.count WLT_OOB_CNT_COUNT marks
  let s := if marks = 0 then s else s.markOob serial
  let s := if event then s.markNumeric serial else s
  s.setBuf core dst (.vec serial first vals oob (if event then [] else able))

/-- The entries of a list of places, each with its valid slot. -/
def entriesOf (srcs : List PartPlace) : List (Nat × Nat) :=
  srcs.filterMap fun p => match p with | .entry a slot => some (a, slot) | .buf _ => none

/-- The first of a list of entries that a consumer does not see yet (R16–R18). -/
def State.missing (s : State) (l : List (Nat × Nat)) : Option (Nat × Nat) :=
  l.find? fun a => let e := s.entry a.1; !(e.written && e.visible && !e.consumed)

/-- FOLD (R148): a record that is not there stalls the sequencer from its valid slot on (R17); a record of another generation than the
step's faults the job (R22, R159). -/
def execFold (t core first n : Nat) (srcs : List PartPlace) (dst : Nat) (serial : Option Nat) (s : State) :
    Host.Outcome State Fault Refusal :=
  let s := s.advance t
  let es := entriesOf srcs
  match s.missing es with
  | some (a, slot) => .next (s.reach core a slot (fold := true)).2
  | none =>
    let gen := s.genOf core serial
    let recs := sortRecs (s.foldRecs core (s.refOn core serial) srcs)
    let s := forEach es s fun s a => s.takeEntry core serial a.1
    if recs.any fun r => r.1.gen ≠ gen then .next (s.coreJobFault core 0x0C [3] (serial := serial))
    else .next (s.foldInto core first n dst serial recs)

/-- CANCEL_RESCUE (R124): one element takes its exact value; a value that is not finite is an overflow at points 5 to 7, which raises
NUMERIC and makes every element NaN (R41, R46). -/
def execCancelRescue (t core n i : Nat) (s : State) : Host.Outcome State Fault Refusal :=
  let s := s.advance t
  match s.buf core n with
  | .vec serial first vals oob rescue =>
    match rescue.find? (·.1 == i) with
    | some (_, x) =>
      let bad := f32NonFinite x
      let s := if bad then s.markNumeric serial else s
      let vals := if bad then vals.map fun _ => f32NaN else setNth 0#32 vals i x
      .next ((s.setBuf core n (.vec serial first vals oob (if bad then [] else rescue.filter (·.1 != i)))).count
        WLT_CANCEL_RESCUE_CNT_COUNT)
    | none => .next s
  | _ => .next s

end Sys2Proof.Machine
end

