-- ==== Sys2Proof/Machine/Vec.lean ====
section
/-! DEFINITION. The vector engine and the top-k unit: top-k lists, normalisation, gates, rotary position, quantisation,
sampling, expert combination and Q records (spec/06_accumulation_and_vector.md R149–R158, spec/07_attention.md R169). -/

namespace Sys2Proof.Machine

/-- A vector result of a VEC operation in a buffer; a non-finite intermediate or result that no NaN input explains raises NUMERIC and
makes every element NaN (R41, R46 point 7, R47, R151). R151 speaks of results: that the intermediates of an operation count too is a
reading. DEDUCED (assumption log 44). -/
def State.putVec (s : State) (core dst : Nat) (serial : Option Nat) (first : Nat) (ins sums outs : List F32) : State :=
  let event := !ins.any f32IsNaN && (sums ++ outs).any f32NonFinite
  let s := if event then s.markNumeric serial else s
  s.setBuf core dst (.vec serial first (if event then outs.map fun _ => f32NaN else outs) (outs.map fun _ => false) [])

/-- The sampling block of a request that samples (R273, R274). -/
def Request.sampling (r : Request) : Option SampleBlock :=
  match r.ops with
  | .prompt _ o => some o.sample
  | .generate o => some o.sample
  | _ => none

/-- The temperature that a top-k sum or EXP_SUM scales by (R149, R156): the request's, or 1 for a router; none where no sum is asked
for, or none can be formed because T is 0 (R154). -/
def State.scaleTemp (s : State) (serial : Option Nat) (sums : TopSum) : Option F32 :=
  match sums with
  | .none => none
  | .router => some 0x3F800000#32
  | .sampling => match s.findReq serial with
    | some (_, r) => match r.sampling with
      | some b => if f32IsZero (bf16ToF32 b.temp) then none else some (bf16ToF32 b.temp)
      | none => none
    | none => none

/-- The order of top-k (R149): a greater value first, equal values by the lower index. -/
def topkBefore (a b : Nat × F32) : Bool :=
  f32Lt b.2 a.2 || (!f32Lt a.2 b.2 && decide (a.1 < b.1))

/-- An item put in its place in a list of at most `k`. -/
def topkInsert (k : Nat) (x : Nat × F32) (l : List (Nat × F32)) : List (Nat × F32) :=
  ((l.takeWhile fun y => topkBefore y x) ++ x :: (l.dropWhile fun y => topkBefore y x)).take k

/-- The k first of a list in the order of R149, NaN left out. -/
def topkOf (k : Nat) (l : List (Nat × F32)) : List (Nat × F32) :=
  l.foldl (fun acc x => if f32IsNaN x.2 then acc else topkInsert k x acc) []

/-- An unused entry of a top-k list (R149): index 0xFFFF_FFFF and value −0. -/
def topkUnused : Nat × F32 := (0xFFFFFFFF, 0x80000000#32)

/-- The local maximum of values that are not NaN (R149). -/
def maxOfVals (l : List F32) : Option F32 :=
  l.foldl (fun acc x => if f32IsNaN x then acc else match acc with
    | none => some x
    | some m => some (if f32Lt m x then x else m)) none

/-- The local sum S_k (R149): each NaN element is taken as +0. -/
def expSum (vals : List F32) (m temp : F32) : F32 :=
  vecSum (vals.map fun z => if f32IsNaN z then 0#32 else expScaled z m temp)

/-- Some value of a buffer is marked outside the bound (R134, R278). -/
def VecBuf.marked : VecBuf → Bool
  | .vec _ _ _ oob _ => oob.any id
  | _ => false

/-- TOPK (R149): the `k` largest of a buffer's values with their output indexes, the local maximum, and where the step program asks
for it the local sum.  A NaN among a router's outputs raises NUMERIC (R156), and so does a sum that is not finite (R151). -/
def execTopk (t core src k : Nat) (sums : TopSum) (dst : Nat) (s : State) : Host.Outcome State Fault Refusal :=
  let s := s.advance t
  match s.readVec core src with
  | none => .next s
  | some (serial, first, vals) =>
    let oob := (s.buf core src).marked
    let k := min 64 (max 1 k)
    let items := topkOf k (vals.zipIdx.map fun (v, i) => (first + i, v))
    let items := items ++ List.replicate (k - items.length) topkUnused
    let m := maxOfVals vals
    let (sum, event) := match m, s.scaleTemp serial sums with
      | some m, some temp => (expSum vals m temp, vals.any fun z => !f32IsNaN z && expOverflows temp m z)
      | _, _ => (0#32, false)
    let s := if (sums == .router && vals.any f32IsNaN) || event || f32NonFinite sum then s.markNumeric serial else s
    .next ((s.setBuf core dst (.topk serial first items m sum oob)).count VEC_TOPK_CNT_COUNT)

/-- Merges two candidate lists under the order of R149 (R150). -/
def mergeTopk (k : Nat) (a b : List (Nat × F32)) : List (Nat × F32) := b.foldl (fun acc x => topkInsert k x acc) a

/-- The sampling generator of R155: the draw u as a count of 2^-24. -/
def sampleDraw (seed p draw : Nat) : Nat :=
  let w := 2 ^ 32
  let x := Nat.xor (Nat.xor (seed % w) (p * 0x9E3779B9 % w)) (draw * 0x85EBCA6B % w)
  let x := Nat.xor x (x / 65536) * 0x7FEB352D % w
  let x := Nat.xor x (x / 32768) * 0x846CA68B % w
  let x := Nat.xor x (x / 65536)
  x / 256

/-- The kept prefix under top-p (R154 step 2): items whose running sum of p has not yet reached P before them. -/
def topPrefix (p : F32) : F32 → List (Nat × F32 × F32) → List (Nat × F32 × F32)
  | _, [] => []
  | acc, x :: t =>
    let acc := f32Add acc x.2.2
    if f32Le p acc then [x] else x :: topPrefix p acc t

/-- The choice among kept candidates (R154 step 6): the first whose cumulative weight exceeds u · W, else the last. -/
def chooseToken (target : F32) : F32 → List (Nat × F32 × F32) → Option Nat
  | _, [] => none
  | _, [x] => some x.1
  | acc, x :: t =>
    let acc := f32Add acc x.2.1
    if f32Lt target acc then some x.1 else chooseToken target acc t

/-- R154: the token sampled from merged candidates with their maximum and denominator. -/
def sampleToken (o : SampleOps) (cands : List (Nat × F32)) (m z : F32) : Option Nat :=
  let T := bf16ToF32 o.temp
  if f32IsZero T then cands.head?.map (·.1)
  else
    let kept := cands.map fun c =>
      let e := expScaled c.2 m T
      (c.1, e, f32Div e z)
    let kept := if f32Le 0x3F800000#32 (bf16ToF32 o.topP) then kept else topPrefix (bf16ToF32 o.topP) 0#32 kept
    match kept with
    | [] => none
    | c0 :: rest =>
      let floor := f32Mul (bf16ToF32 o.minP) c0.2.2
      let kept := c0 :: rest.filter fun c => !f32Lt c.2.2 floor
      let total := match kept.map (·.2.1) with
        | [] => 0#32
        | a :: t => t.foldl f32Add a
      let u := f32Dyadic (sampleDraw o.seed o.position o.draw : Nat) (-24)
      chooseToken (f32Mul u total) 0#32 kept

/-- A top-k list as it lies in a queue entry: first output index, number of items with the outside-bound mark in bit 8, maximum (NaN
where there is none), sum, then each item's index and value, four bytes each. DESIGN CHOICE (assumption log 44). -/
def topkBytes (first : Nat) (items : List (Nat × F32)) (m : Option F32) (sum : F32) (oob : Bool) : List Byte :=
  leBytes 4 first ++ leBytes 4 (items.length % 256 + 256 * b2n oob) ++ leBytes 4 (m.getD f32NaN).toNat ++ leBytes 4 sum.toNat
    ++ (items.map fun x => leBytes 4 x.1 ++ leBytes 4 x.2.toNat).flatten

/-- A candidate list as the sampling VEC takes it: first output index, items, maximum, sum and outside-bound mark. -/
structure TopList where
  first : Nat
  items : List (Nat × F32)
  max : F32
  sum : F32
  oob : Bool
deriving DecidableEq, Repr

/-- The list that an entry's bytes hold, and none where all its elements were NaN (R149). -/
def topkOfBytes (l : List Byte) : Option TopList :=
  let m : F32 := BitVec.ofNat 32 (field l 8 4)
  if f32IsNaN m then none
  else some ⟨field l 0 4, (List.range (field l 4 1)).map fun i => (field l (16 + 8 * i) 4, BitVec.ofNat 32 (field l (20 + 8 * i) 4)), m,
    BitVec.ofNat 32 (field l 12 4), bitOf (field l 5 1) 0⟩

/-- The candidate lists a sampling VEC merges, in ascending order of first output index, without those that are all unused
(R149, R150): from its own buffers and from the queue entries of other cores (R15). -/
def State.candidateLists (s : State) (core : Nat) (srcs : List PartPlace) : List TopList :=
  let used (l : TopList) : TopList := { l with items := l.items.filter (·.1 != 0xFFFFFFFF) }
  sortBy (·.first) ((srcs.filterMap fun p => match p with
    | .buf n => (match s.buf core n with
      | .topk _ first items (some m) sum oob => some ⟨first, items, m, sum, oob⟩
      | _ => none)
    | .entry a _ => topkOfBytes (s.entry a).bytes).map used)

/-- The absolute position of the token that a request's `j`-th sample generates (R155, R282, R286, R288). -/
def Session.samplePosition (x : Session) (r : Request) (j : Nat) : Nat :=
  match r.ops with
  | .prompt _ o => r.c0 + b2n r.pend0.isSome + o.count
  | _ => x.committed + j + 1

/-- What a request supplies to VEC for a position (R154, R155, R286). -/
def sampleOps (b : SampleBlock) (position : Nat) : SampleOps := ⟨b.temp, b.k, b.topP, b.minP, b.seed, position, b.draw⟩

/-- The denominator Z of merged lists under a maximum (R150). -/
def denominator (ls : List TopList) (m temp : F32) : F32 :=
  match ls.map fun l => f32Mul (expScaled l.max m temp) l.sum with
  | [] => 0#32
  | a :: r => r.foldl f32Add a

/-- A token sampled for a request's `j`-th sample of its present step, with whether its logits include a marked element (R154, R278). -/
def State.addSample (s : State) (x : Sample) : State :=
  s.withFab { s.fab with samples := (s.fab.samples.filter fun y => !(y.serial == x.serial && y.j == x.j)) ++ [x] }

/-- A token is sampled from lists into a buffer (R150, R154); a result that is not finite raises NUMERIC (R151). -/
def State.sampleFrom (s : State) (core dst serial j : Nat) (o : SampleOps) (ls : List TopList) : State :=
  let cands := ls.foldl (fun acc l => mergeTopk 64 acc l.items) []
  match cands with
  | [] => s
  | c0 :: _ =>
    let temp := bf16ToF32 o.temp
    let z := denominator ls c0.2 temp
    let cands := cands.take (if o.k = 0 then 64 else min 64 o.k)
    let event := f32NonFinite z || (ls.map (·.max) ++ cands.map (·.2)).any (expOverflows temp c0.2)
    let s := if !f32IsZero temp && event then s.markNumeric (some serial) else s
    match sampleToken o cands c0.2 z with
    | none => s
    | some tok =>
      let s := s.addSample ⟨serial, j, tok, ls.any (·.oob)⟩
      (s.setBuf core dst (.token (some serial) tok)).count VEC_SAMPLE_CNT_COUNT

/-- The parts of a position's logits from which the targets of a tune take theirs, in ascending order of output: a buffer's values, or
the FP32 words of a queue entry. DESIGN CHOICE (assumption log 44). -/
def State.logitParts (s : State) (core : Nat) (srcs : List PartPlace) : List (List F32) :=
  srcs.map fun p => match p with
    | .buf n => (match s.readVec core n with | some (_, _, v) => v | none => [])
    | .entry a _ =>
      let l := (s.entry a).bytes
      (List.range (l.length / 4)).map fun i => BitVec.ofNat 32 (field l (4 * i) 4)

/-- Element `i` of the logit gradient of a target token (R296): (exp(z − m) / Z − [i = target]) / n, each operation rounded once. -/
def logitGrad (m z : F32) (target n : Nat) (v : F32) (i : Nat) : F32 :=
  f32Div (f32Sub (f32Div (expScaled v m 0x3F800000#32) z) (if i = target then 0x3F800000#32 else 0#32)) (f32OfNat n)

/-- SAMPLE at a position of a tune whose next entry, the `i`-th, is a target (R296): m_t and Z_t of R150 at T = 1 and the target's logit are
kept for the loss, and the logit gradient goes into a buffer; a result that is not finite raises NUMERIC (R151).
DEDUCED (assumption log 44). -/
def State.tuneTarget (s : State) (core dst : Nat) (r : Request) (i : Nat) (parts : List (List F32)) : State :=
  let one : F32 := 0x3F800000#32
  let vals := parts.flatten
  let target := nth 0 r.buffer i % 2 ^ 24
  match maxOfVals vals with
  | none => s
  | some m =>
    let ls := parts.filterMap fun l => (maxOfVals l).map fun mk => (⟨0, [], mk, expSum l mk one, false⟩ : TopList)
    let z := denominator ls m one
    let grads := vals.zipIdx.map fun (v, k) => logitGrad m z target (targetIndexes r.buffer).length v k
    let s := s.withFab { s.fab with
      targets := (s.fab.targets.filter fun y => !(y.serial == r.serial && y.index == i))
        ++ [⟨r.serial, i, m, z, nth 0#32 vals target⟩] }
    s.putVec core dst (some r.serial) 0 vals (z :: vals.map (f32Sub · m)) grads

/-- SAMPLE (R150, R154, R296): the lists of a request's `j`-th query position are merged under its sampling block and a token is sampled
into a buffer; of a tune, the `j`-th entry of its example is the target whose loss and gradient are formed.  A source that is not there
stalls the sequencer (R17). -/
def execSample (t core : Nat) (srcs : List PartPlace) (serial j dst : Nat) (s : State) : Host.Outcome State Fault Refusal :=
  let s := s.advance t
  match s.findReq (some serial), s.missing (entriesOf srcs) with
  | none, _ => .next s
  | some _, some (a, slot) => .next (s.reach core a slot).2
  | some (x, r), none =>
    let ls := s.candidateLists core srcs
    let parts := s.logitParts core srcs
    let s := forEach (entriesOf srcs) s fun s a => s.takeEntry core (some serial) a.1
    match r.sampling with
    | some b => .next (s.sampleFrom core dst serial j (sampleOps b (x.samplePosition r j)) ls)
    | none => if (targetIndexes r.buffer).contains j then .next (s.tuneTarget core dst r j parts) else .next s

/-- ε and n of a normalisation (R152, R214 kind 4). -/
def ObjContent.norm (c : ObjContent) (idx : Nat) : F32 × F32 := (nth 0#32 (c.table 4 idx) 0, nth 0#32 (c.table 4 idx) 1)

/-- RMSNORM (R152). -/
def execRmsnorm (t core src idx dst : Nat) (s : State) : Host.Outcome State Fault Refusal :=
  let s := s.advance t
  match s.readVec core src with
  | none => .next s
  | some (serial, first, xs) =>
    let c := s.image (s.genOf core serial)
    let (eps, n) := c.norm idx
    let g := c.table 2 idx
    let sum := vecSum (xs.map fun x => f32Mul x x)
    let ms := f32Div sum n
    let r := f32Rsqrt (f32Add ms eps)
    .next (s.putVec core dst serial first xs [sum, ms, r] (xs.zipIdx.map fun (x, i) => f32Mul (f32Mul x r) (nth 0#32 g i)))

/-- LAYERNORM (R152). -/
def execLayernorm (t core src idx dst : Nat) (s : State) : Host.Outcome State Fault Refusal :=
  let s := s.advance t
  match s.readVec core src with
  | none => .next s
  | some (serial, first, xs) =>
    let c := s.image (s.genOf core serial)
    let (eps, n) := c.norm idx
    let sum := vecSum xs
    let mu := f32Div sum n
    let sq := vecSum (xs.map fun x => let d := f32Sub x mu; f32Mul d d)
    let r := f32Rsqrt (f32Add (f32Div sq n) eps)
    .next (s.putVec core dst serial first xs [sum, mu, sq, r] (xs.zipIdx.map fun (x, i) =>
      f32Fma (f32Mul (f32Sub x mu) r) (nth 0#32 (c.table 2 idx) i) (nth 0#32 (c.table 3 idx) i)))

/-- The results that SILU_GATE of one pair forms, in order (R152). -/
def siluGate (a b : F32) : List F32 :=
  let e := f32Exp (f32Neg a)
  let d := f32Add 0x3F800000#32 e
  let g := f32Mul a (f32Div 0x3F800000#32 d)
  [e, d, g, f32Mul g b]

/-- The results that GELU_GATE of one pair forms, in order (R152): the constants are the nearest FP32 values of 0.7978846 and
0.044715. -/
def geluGate (a b : F32) : List F32 :=
  let square := f32Mul a a
  let cube := f32Mul square a
  let scaled := f32Mul 0x3D372713#32 cube
  let inner := f32Add a scaled
  let outer := f32Mul 0x3F4C422A#32 inner
  let half := f32Mul (f32Mul 0x3F000000#32 a) (f32Add 0x3F800000#32 (f32Tanh outer))
  [square, cube, scaled, inner, outer, half, f32Mul half b]

/-- A gated activation of two buffers, element by element, from the results that each pair forms; the last is the element.
DEDUCED (assumption log 44). -/
def State.gate (s : State) (core a b dst : Nat) (f : F32 → F32 → List F32) : State :=
  match s.readVec core a, s.readVec core b with
  | some (serial, first, xs), some (_, _, ys) =>
    let rs := xs.zipIdx.map fun (x, i) => f x (nth 0#32 ys i)
    s.putVec core dst serial first (xs ++ ys) rs.flatten (rs.map fun l => l.getLastD 0#32)
  | _, _ => s

/-- SILU_GATE (R152): `a` is the gate, `b` the up output. -/
def execSiluGate (t core a b dst : Nat) (s : State) : Host.Outcome State Fault Refusal :=
  .next ((s.advance t).gate core a b dst siluGate)

/-- GELU_GATE (R152). -/
def execGeluGate (t core a b dst : Nat) (s : State) : Host.Outcome State Fault Refusal :=
  .next ((s.advance t).gate core a b dst geluGate)

/-- One head of 128 elements rotated (R153): HALF pairs j with j + 64, INTERLEAVED 2j with 2j + 1. -/
def rotateHead (inter : Bool) (cs ss : List F32) (h : List F32) : List F32 :=
  (List.range 128).map fun e =>
    let j := if inter then e / 2 else e % 64
    let (ia, ib) := if inter then (2 * j, 2 * j + 1) else (j, j + 64)
    let a := nth 0#32 h ia
    let b := nth 0#32 h ib
    let c := nth 0#32 cs j
    let sn := nth 0#32 ss j
    if e = ia then f32Fma a c (f32Neg (f32Mul b sn)) else f32Fma a sn (f32Mul b c)

/-- ROTARY (R153): the heads of a buffer, each of 128 elements, at one position. -/
def execRotary (t core src idx position dst : Nat) (s : State) : Host.Outcome State Fault Refusal :=
  let s := s.advance t
  match s.readVec core src with
  | none => .next s
  | some (serial, first, xs) =>
    let tab := (s.image (s.genOf core serial)).table 5 idx
    let inter := nth 0#32 tab 64 == 0x3F800000#32
    let angles := (List.range 64).map fun j => f32Mul (f32OfNat position) (nth 0#32 tab j)
    let cs := angles.map f32Cos
    let ss := angles.map f32Sin
    .next (s.putVec core dst serial first xs [] ((blocksOf 0#32 128 xs).map (rotateHead inter cs ss)).flatten)

/-- EXP_SUM (R152): the exponentials of a buffer against the maximum of a list, and their sum, each into a buffer. -/
def execExpSum (t core src list : Nat) (sums : TopSum) (dst sumDst : Nat) (s : State) : Host.Outcome State Fault Refusal :=
  let s := s.advance t
  match s.readVec core src, s.buf core list with
  | some (serial, first, zs), .topk _ _ _ (some m) _ _ =>
    let temp := (s.scaleTemp serial sums).getD 0x3F800000#32
    let es := zs.map fun z => expScaled z m temp
    let steps := zs.map fun z => f32Div (f32Sub z m) temp
    .next ((s.putVec core dst serial first zs steps es).putVec core sumDst serial 0 zs [] [vecSum es])
  | _, _ => .next s

/-- A value handed to the welt as a digital channel raises NUMERIC (R46 points 1 and 8, R117): it is not finite, or beyond BF16. -/
def badChannel (x : F32) : Bool := f32NonFinite x || bf16Overflows x

/-- QUANT_A8 (R32, R117): the digital input channels of the matrix, which the bound image's placement names, are taken as +0 and
handed over in BF16. -/
def execQuantA8 (t core src matrix dst : Nat) (s : State) : Host.Outcome State Fault Refusal :=
  let s := s.advance t
  match s.readVec core src with
  | none => .next s
  | some (serial, first, xs) =>
    let marked := ((s.image (s.genOf core serial)).digital.filter (·.1 == matrix)).map (·.2)
    let dig := marked.filterMap fun i => if first ≤ i ∧ i < first + xs.length then some (i, nth 0#32 xs (i - first)) else none
    let cut := xs.zipIdx.map fun (x, i) => if dig.any (·.1 == first + i) then 0#32 else x
    let bad (b : Nat) : Bool := dig.any fun d => (d.1 - first) / 512 == b && badChannel d.2
    let bs := (blocksOf 0#32 512 cut).zipIdx.map fun (l, b) =>
      if bad b then ((⟨0, false, true, List.replicate 512 0⟩ : A8Block), true) else a8Block l
    let s := if bs.any (·.2) then s.markNumeric serial else s
    .next (s.nextVector.setBuf core dst (.a8 serial (s.fab.vectors + 1) (bs.map (·.1)) (dig.map fun d => (d.1, f32ToBf16 d.2))))

/-- A clamp of keys or values of a request (R35, R36): the function's counter and the request's flag. -/
def State.addClamps (s : State) (serial : Option Nat) (n : Nat) : State :=
  if n = 0 then s
  else
    let s := match s.findReq serial with
      | some (x, _) => s.withFab { s.fab with clamps := SMap.upd 0 s.fab.clamps x.fn (· + n) }
      | none => s
    match serial with
    | some q => if s.fab.clampMarks.contains q then s else s.withFab { s.fab with clampMarks := s.fab.clampMarks ++ [q] }
    | none => s

/-- BF16 values converted to FP8 keys or values (R35, point 9 of R46): codes, clamps, and whether a value was not finite. -/
def toFp8Page (l : List BF16) : List Byte × Nat × Bool :=
  let cs := l.map fun x => f32ToFp8 (bf16ToF32 x)
  if l.any bf16NonFinite then (l.map fun _ => fp8NaN, 0, true)
  else (cs.map (·.1), (cs.filter (·.2)).length, false)

/-- BF16 values converted to K4 blocks of 16 bytes and a scale byte (R36, point 10 of R46); K4 has no NaN, and a block that raises
NUMERIC is written as the zero block. DESIGN CHOICE (assumption log 59). -/
def toK4Page (l : List BF16) : List Byte × Nat × Bool :=
  let bs := (blocksOf 0#16 32 l).map fun b =>
    match quantK4 (b.map bf16ToF32) with
    | (.numeric, _) => (List.replicate 16 0#8 ++ [0xFF#8], 0, true)
    | (.zero, n) => (List.replicate 16 0#8 ++ [0xFF#8], n, false)
    | (.block sc q, n) =>
      ((List.range 16).map (fun j => BitVec.ofNat 8 ((nth 0 q (2 * j)).toNat + 16 * (nth 0 q (2 * j + 1)).toNat))
        ++ [BitVec.ofNat 8 sc], n, false)
  ((bs.map (·.1)).flatten, sumN (bs.map (·.2.1)), bs.any (·.2.2))

/-- TO_BF16 (R46 point 8, R152): a buffer rounded to BF16 hand-offs; with `page` 1 or 2 the hand-off goes on to FP8 or K4
keys and values (points 9 and 10).  A finite value beyond the BF16 range raises NUMERIC. DEDUCED (assumption log 44). -/
def execToBf16 (t core src page dst : Nat) (s : State) : Host.Outcome State Fault Refusal :=
  let s := s.advance t
  match s.readVec core src with
  | none => .next s
  | some (serial, _, xs) =>
    let big := xs.any bf16Overflows
    let bs := if big then xs.map fun _ => bf16NaN else xs.map f32ToBf16
    let s := if big then s.markNumeric serial else s
    if page = 0 then .next (s.setBuf core dst (.bf16 serial bs))
    else
      let (bytes, n, bad) := if page = 1 then toFp8Page bs else toK4Page bs
      let s := if bad then s.markNumeric serial else s
      .next ((s.addClamps serial n).setBuf core dst (.kv serial bytes))

/-- One Q record of a head's 128 values (R169): FP8 elements, scale code, seven zero bytes; and whether it raised NUMERIC, where the
scale code is 127. DESIGN CHOICE (assumption log 59). -/
def qRecord (h : List F32) : List Byte × Bool :=
  let close (els : List Byte) (sc : Nat) : List Byte := els ++ [BitVec.ofNat 8 sc] ++ List.replicate 7 0#8
  match quantG8 none h with
  | .numeric => (close (List.replicate 128 fp8NaN) 127, true)
  | .zero => (close (List.replicate 128 0#8) 255, false)
  | .block sc q => (close (q.map fun c => BitVec.ofNat 8 c.toNat) sc, false)

/-- Q_RECORD_WRITE (R169): the query heads of a buffer, in order. -/
def execQRecordWrite (t core src dst : Nat) (s : State) : Host.Outcome State Fault Refusal :=
  let s := s.advance t
  match s.readVec core src with
  | none => .next s
  | some (serial, _, xs) =>
    let rs := (blocksOf 0#32 128 xs).map qRecord
    let s := if rs.any (·.2) then s.markNumeric serial else s
    .next (s.setBuf core dst (.qrecs serial (rs.map (·.1))))

/-- The weights of the selected experts (R156): SELECTED or FULL, in the list's order. -/
def expertWeights (full : Bool) (items : List (Nat × F32)) (m z : F32) : List (Nat × F32) :=
  match items with
  | [] => []
  | c0 :: _ =>
    if full then items.map fun c => (c.1, f32Div (f32Exp (f32Sub c.2 m)) z)
    else
      let es := (sortBy (·.1) items).map fun c => f32Exp (f32Sub c.2 c0.2)
      let total := match es with
        | [] => 0#32
        | a :: t => t.foldl f32Add a
      items.map fun c => (c.1, f32Div (f32Exp (f32Sub c.2 c0.2)) total)

/-- Items of a list in ascending order of their number. -/
def byNumber {α : Type} (l : List (Nat × α)) : List (Nat × α) := sortBy (·.1) l

/-- The outputs of the selected experts in ascending expert number, each with its weight; none where one is not there yet. -/
def State.expertOuts (s : State) (core : Nat) (outs : List (Nat × Nat)) : List (Nat × F32) → Option (List (F32 × List F32))
  | [] => some []
  | (e, w) :: t =>
    match outs.find? (·.1 == e), s.expertOuts core outs t with
    | some (_, b), some ys => (s.readVec core b).map fun v => (w, v.2.2) :: ys
    | _, _ => none

/-- EXPERT_COMBINE (R158): the residual, then each selected expert's weighted output in ascending expert number, rounded to
BF16.  `outs` gives each expert's buffer; an overflow raises NUMERIC and makes every element NaN (R41, R46). -/
def execExpertCombine (t core residual router layer : Nat) (outs : List (Nat × Nat)) (dst : Nat) (s : State) :
    Host.Outcome State Fault Refusal :=
  let s := s.advance t
  match s.readVec core residual, s.buf core router with
  | some (serial, _, res), .topk _ _ items m z _ =>
    let items := items.filter (·.1 != 0xFFFFFFFF)
    let full := nth 0#32 ((s.image (s.genOf core serial)).table 7 layer) 0 == 0x3F800000#32
    match s.expertOuts core outs (byNumber (expertWeights full items (m.getD 0#32) z)) with
    | none => .next s
    | some ys =>
      let out := res.zipIdx.map fun (x, i) => ys.foldl (fun acc (w, y) => f32Add acc (f32Mul w (nth 0#32 y i))) x
      let peak := if full then m.getD 0#32 else (items.head?.map (·.2)).getD 0#32
      let far := items.any fun c => expOverflows 0x3F800000#32 peak c.2
      let event := (far || out.any fun x => f32NonFinite x || bf16Overflows x) && !(res ++ (ys.map (·.2)).flatten).any f32IsNaN
      let s := if event then s.markNumeric serial else s
      .next (s.setBuf core dst (.bf16 serial (out.map fun x => if event then bf16NaN else f32ToBf16 x)))
  | _, _ => .next s

end Sys2Proof.Machine
end

