-- ==== Sys2Proof/Machine/Attention.lean ====
section
/-! DEFINITION. The attention engines: length-table entries, masks, scores, chunk and segment folds, segment merge and the
backward pass (spec/07_attention.md). -/

namespace Sys2Proof.Machine

/-- A length-table entry (R165). -/
structure LenEntry where
  qpos : Nat
  qcnt : Nat
  kvLen : Nat
  pt : Nat
  window : Nat
  floor : Nat
  k4 : Bool
  stats : Option Nat
deriving DecidableEq, Repr

/-- The fields of the eight words of an entry (R165). -/
def lenEntry (w : List Nat) : LenEntry where
  qpos := nth 0 w 0 % 2 ^ 21
  qcnt := nth 0 w 1 % 2 ^ 21
  kvLen := nth 0 w 2 % 2 ^ 21
  pt := nth 0 w 3 % 2 ^ 24
  window := nth 0 w 4 % 2 ^ 21
  floor := nth 0 w 5 % 2 ^ 21
  k4 := bitOf (nth 0 w 6) 0
  stats := if bitOf (nth 0 w 6) 1 then some (nth 0 w 7) else none

/-- The entry at a CST address, as a unit reads it (R165). -/
def State.lenAt (s : State) (a : Nat) : LenEntry :=
  lenEntry ((List.range 8).map fun k => ofLeBytes (s.readBytes .cst (a + 4 * k) 4))

/-- The limits of an entry (R166). -/
def LenEntry.ok (e : LenEntry) : Bool :=
  e.qpos == e.kvLen && decide (e.qpos + e.qcnt ≤ 1048576) && decide (e.window ≤ 1048576)

/-- One past the last query position. -/
def LenEntry.top (e : LenEntry) : Nat := e.qpos + e.qcnt

/-- The key at `p` is visible to the query at `q` (R167). -/
def LenEntry.visible (e : LenEntry) (q p : Nat) : Bool :=
  decide (p ≤ q) && decide (e.floor ≤ p) && (e.window == 0 || decide (q < p + e.window))

/-- Some query of the sequence sees the key at `p`: the first that is not before it. -/
def LenEntry.seen (e : LenEntry) (p : Nat) : Bool :=
  let q := max p e.qpos
  decide (q < e.top) && e.visible q p

/-- The chunks of segments that are read (R179): those in which some query sees a key. -/
def LenEntry.chunks (e : LenEntry) (segs : List Nat) : List Nat :=
  (segs.map fun g => ((List.range 64).map fun c => 64 * g + c).filter fun c =>
    decide (64 * c < e.top) && (List.range 64).any fun i => e.seen (64 * c + i)).flatten

/-- A run of records of `n` bytes. -/
def chunksOf (n : Nat) (l : List Byte) : List (List Byte) := (List.range (l.length / n)).map fun i => sliceOf l (n * i) n

/-! The keys and values of a sequence (R169, R178, R186, R203). -/

/-- The 128 elements of a key or value with their scales applied (R169): FP8 bytes, or K4 bytes with four scale bytes.
DEDUCED (assumption log 43). -/
def kvElems (k4 : Bool) (bytes scales : List Byte) : List F32 :=
  (List.range 128).map fun d =>
    if k4 then
      let c := bitsOf (nth 0#8 bytes (d / 2)).toNat (4 * (d % 2)) 4
      let sc := (nth 0#8 scales (d / 32)).toNat
      if sc = 255 then 0#32 else f32Dyadic (k4Value c) (e8m0Exp sc - 1)
    else fp8ToF32 (nth 0#8 bytes d)

/-- The page column of a position, in the session's format or in that of a length-table entry (R165, R187). -/
def Session.columnAt (x : Session) (pos : Nat) (kvFmt : Nat := x.kvFmt) : Option Column :=
  x.columns.find? (·.index == pos / colSpan kvFmt)

/-- Where the key or value of a position lies in its column (R186, R189), for entry `e` of the column block: its elements, and for K4
its scale bytes. -/
def Column.kvAt (c : Column) (kvFmt e pos : Nat) (value : Bool) : Nat × Nat :=
  let i := pos % colSpan kvFmt
  let page := 65536 * nth 0 c.pages e + (if value then 32768 else 0)
  if kvFmt = 0 then (page + 128 * i, 0)
  else (page + 64 * i, 65536 * nth 0 c.pages (c.lh + e / 16) + 4096 * (e % 16) + 8 * i + (if value then 4 else 0))

/-- The space of a column's pages. -/
def Column.space (c : Column) : Space := if c.tierB then .tierB else .tierA

/-- The format that an entry's KV_FMT names (R165). -/
def LenEntry.fmt (e : LenEntry) : Nat := b2n e.k4

/-- The key or value of a position as a unit reads it from its page, in the format of its length-table entry (R165, R169, R186). -/
def State.kvRead (s : State) (x : Session) (fmt e pos : Nat) (value : Bool) : List F32 :=
  match x.columnAt pos fmt with
  | none => []
  | some c =>
    let at_ := c.kvAt fmt e pos value
    if fmt = 0 then kvElems false (s.readBytes c.space at_.1 128) []
    else kvElems true (s.readBytes c.space at_.1 64) (s.readBytes c.space at_.2 4)

/-- The keys or values that the sequence's queries see, by position (R167): no other is read. -/
def State.kvTable (s : State) (x : Session) (en : LenEntry) (e : Nat) (value : Bool) : List (List F32) :=
  (List.range en.top).map fun p => if en.seen p then s.kvRead x en.fmt e p value else []

/-- An entry of the page table that a unit meets names no page, or one of another generation than the step's (R178, R203). -/
def pteBad (x : Session) (en : LenEntry) (gen : Nat) (segs : List Nat) : Bool :=
  (en.chunks segs).any fun c => match x.columnAt (64 * c) en.fmt with
    | none => true
    | some d => d.gen != gen

/-! Scores, chunks and folds. -/

/-- The 128 elements of a Q record with its scale applied (R169, R170); none for a zero head. -/
def queryElems (l : List Byte) : Option (List F32) :=
  let sc := (nth 0#8 l 128).toNat
  if sc = 255 then none else some ((List.range 128).map fun d => f32Scale (fp8ToF32 (nth 0#8 l d)) (e8m0Exp sc))

/-- A tree sum over `2^k` elements, halving (R170). -/
def treeSum (k : Nat) (l : List F32) : F32 := pairSum k l

/-- The dot product of 128 elements (R170). -/
def dot128 (a b : List F32) : F32 := treeSum 7 ((List.range 128).map fun d => f32Mul (nth 0#32 a d) (nth 0#32 b d))

/-- The score of a query row against a key (R170); all scores of a zero head are +0 (R169). -/
def score (sigma : F32) (q : Option (List F32)) (k : List F32) : F32 :=
  match q with
  | none => 0#32
  | some q => f32Mul (dot128 q k) sigma

/-- p of R171: an exponential rounded to FP8. -/
def weight8 (x : F32) : F32 := fp8ToF32 (f32ToFp8 (f32Exp x)).1

/-- A row state with a maximum, a sum and weighted values. -/
structure Acc where
  m : F32
  l : F32
  o : List F32
deriving DecidableEq, Repr

/-- The state of a row in which NUMERIC arose or a NaN came in (R41, R182). -/
def nanAcc : Acc := ⟨f32NaN, f32NaN, List.replicate 128 f32NaN⟩

/-- The maximum and the sum of a state are finite, so that the row has a statistic (R175). -/
def Acc.stated (a : Acc) : Bool := !(f32NonFinite a.m || f32NonFinite a.l)

/-- Every figure of a state is finite. -/
def Acc.fine (a : Acc) : Bool := a.stated && !a.o.any f32NonFinite

/-- A state after an operation, and whether NUMERIC arose in it (R41, R47, R170): it did where the operands held no NaN.  Weighted values that
are not finite leave the maximum and the sum as they are (R175). -/
def Acc.settle (a : Acc) (nanIn : Bool) : Acc × Bool :=
  if a.fine then (a, false) else (if a.stated then { a with o := nanAcc.o } else nanAcc, !nanIn)

/-- The statistics of a chunk for a row (R171), and whether NUMERIC arose: none where no key of the chunk is visible.  Of greatest scores
that are zeros of both signs the first in key order is the maximum, which the spec leaves open. DESIGN CHOICE (assumption log 43). -/
def chunkStats (e : LenEntry) (sigma : F32) (q : Nat) (qe : Option (List F32)) (keys values : List (List F32)) (c : Nat) :
    Option (Acc × Bool) :=
  let vis := (List.range 64).map fun i => e.visible q (64 * c + i)
  let ss := (List.range 64).map fun i => if nth false vis i then score sigma qe (nth [] keys (64 * c + i)) else 0#32
  match (List.range 64).filter (nth false vis ·) with
  | [] => none
  | i0 :: t =>
    let nanIn := (qe.getD []).any f32IsNaN
      || (i0 :: t).any fun i => (nth [] keys (64 * c + i) ++ nth [] values (64 * c + i)).any f32IsNaN
    if ss.any f32NonFinite then some (nanAcc, !nanIn)
    else
      let m := t.foldl (fun a i => f32Max a (nth 0#32 ss i)) (nth 0#32 ss i0)
      let ps := (List.range 64).map fun i => if nth false vis i then weight8 (f32Sub (nth 0#32 ss i) m) else 0#32
      let o := (List.range 128).map fun d => treeSum 6 ((List.range 64).map fun i =>
        if nth false vis i then f32Mul (nth 0#32 ps i) (nth 0#32 (nth [] values (64 * c + i)) d) else 0#32)
      some (Acc.settle ⟨m, treeSum 6 ps, o⟩ nanIn)

/-- The fold of two row states (R172), and whether NUMERIC arose. -/
def foldAcc (s c : Acc) : Acc × Bool :=
  if !s.stated || !c.stated then (nanAcc, false)
  else
    let m2 := f32Max s.m c.m
    let a := f32Exp (f32Sub s.m m2)
    let b := f32Exp (f32Sub c.m m2)
    Acc.settle ⟨m2, f32Add (f32Mul s.l a) (f32Mul c.l b),
      (List.range 128).map fun d => f32Add (f32Mul (nth 0#32 s.o d) a) (f32Mul (nth 0#32 c.o d) b)⟩ (!s.fine || !c.fine)

/-- A left fold of the states that are there, and whether NUMERIC arose in one or in the fold. -/
def foldAccs : List (Option (Acc × Bool)) → Option (Acc × Bool)
  | [] => none
  | none :: t => foldAccs t
  | some a :: t => some (t.foldl (fun s x => match x with
    | some c => let r := foldAcc s.1 c.1; (r.1, s.2 || c.2 || r.2)
    | none => s) a)

/-- The chunk fold of a segment for a row (R172). -/
def segmentFold (e : LenEntry) (sigma : F32) (q : Nat) (qe : Option (List F32)) (keys values : List (List F32)) (seg : Nat) :
    Option (Acc × Bool) :=
  foldAccs (((List.range 64).map fun c => 64 * seg + c).map fun c =>
    if 64 * c < e.top then chunkStats e sigma q qe keys values c else none)

/-- The output of a folded row (R173): out = o / l in BF16; none for a row of NaN or one beyond BF16. -/
def rowOutput (a : Acc) : Option (List BF16) :=
  let xs := a.o.map fun x => f32Div x a.l
  if a.fine && !xs.any bf16Overflows then some (xs.map f32ToBf16) else none

/-- The empty encoding of a row statistic (R175). -/
def emptyStat : F32 := 0xFF800000#32

/-- The pairs of a row group and a chunk that are processed, with their visible groups of four keys (R164). -/
def chunkWork (e : LenEntry) (heads nrows : Nat) (segs : List Nat) : List Nat :=
  let groups := ceilDiv nrows 8
  ((List.range groups).map fun g =>
    let qs := ((List.range 8).filterMap fun i => if 8 * g + i < nrows then some (e.qpos + (8 * g + i) / max heads 1) else none)
    (segs.map fun s => (List.range 64).filterMap fun c =>
      let n := ((List.range 16).filter fun k => (List.range 4).any fun j =>
        qs.any fun q => e.visible q (4096 * s + 64 * c + 4 * k + j)).length
      if n = 0 then none else some n).flatten).flatten

/-- The bytes a unit streams for a chunk (R179): as far as positions are written. -/
def LenEntry.chunkBytes (e : LenEntry) (c : Nat) : Nat := min 64 (e.top - 64 * c) * (if e.k4 then 136 else 256)

/-- The bytes a unit streams (R179): whole chunks in which some row sees a key. -/
def streamed (e : LenEntry) (segs : List Nat) : Nat := sumN ((e.chunks segs).map e.chunkBytes)

/-- A segment record of a row (R174). -/
def segRecord (qpos head seg : Nat) (a : Option Acc) : List Byte :=
  leBytes 4 (qpos % 2 ^ 21 + head % 128 * 2 ^ 21 + b2n a.isNone * 2 ^ 31)
    ++ leBytes 4 ((a.map (·.m.toNat)).getD 0) ++ leBytes 4 ((a.map (·.l.toNat)).getD 0) ++ leBytes 4 (seg % 256)
    ++ (match a with
      | some a => (a.o.map fun x => leBytes 4 x.toNat).flatten
      | none => List.replicate 512 0#8)
    ++ List.replicate 528 0#8

/-- A row's state in a segment, from an accumulator. -/
def rowStateOf (row seg : Nat) (a : Option Acc) : RowState :=
  match a with
  | some a => ⟨row, seg, true, a.m, a.l, a.o⟩
  | none => ⟨row, seg, false, 0#32, 0#32, []⟩

/-- The states of a row in ascending segment order. -/
def rowAccs (states : List RowState) (nseg row : Nat) : List (Option (Acc × Bool)) :=
  (List.range nseg).map fun g =>
    match states.find? fun x => x.row == row && x.segment == g with
    | some x => if x.held then some (⟨x.m, x.l, x.o⟩, false) else none
    | none => none

/-- What a row's fold gives (R168, R173, R175): its output, its statistic m + ln l where it writes one, and whether NUMERIC arose; a row
with a NaN maximum, as of a NaN Q record, writes none (R182). -/
def attnRow (a : Option (Acc × Bool)) : List BF16 × Option F32 × Bool :=
  match a with
  | none => (List.replicate 128 0#16, some emptyStat, false)
  | some (a, ev) =>
    let lse := if a.stated then some (f32Add a.m (f32Ln a.l)) else none
    match rowOutput a with
    | some o => (o, lse, ev)
    | none => (List.replicate 128 bf16NaN, lse, ev || a.fine)

/-- Once every segment of every row is there, the rows' outputs and statistics (R168, R173, R175). -/
def State.finishRows (s : State) (core n : Nat) : State :=
  match s.buf core n with
  | .rows serial _ _ nrows nseg stats states =>
    if !(List.range nrows).all fun r => (List.range nseg).all fun g => states.any fun x => x.row == r && x.segment == g then s
    else
      let accs := (List.range nrows).map fun r => foldAccs (rowAccs states nseg r)
      let res := accs.map attnRow
      let s := s.count ATN_EMPTY_ROW_CNT_COUNT (accs.filter (·.isNone)).length
      let s := if res.any (·.2.2) then s.markNumeric serial else s
      let s := match stats with
        | none => s
        | some a => forEach res.zipIdx s fun s e => match e.1.2.1 with
          | some x => s.writeBytes .cst (a + 4 * e.2) (leBytes 4 x.toNat)
          | none => s
      s.setBuf core n (.heads serial (res.map (·.1)))
  | _ => s

/-- What a unit works on: its step, and the session of its length-table entry with its request (R162, R165). -/
structure AttnWork where
  launch : Launch
  session : Session
  serial : Option Nat

/-- The work of a unit: the session that the entry names, with the step in flight on its core that holds it, else the core's. -/
def State.attnWork (s : State) (o : AttnOps) (e : LenEntry) : Option AttnWork :=
  match s.sess e.pt with
  | none => none
  | some x =>
    let mine (l : Launch) : Bool := l.inFlight && l.cores.contains o.core && l.entries.any (·.session == x.num)
    match (s.serve.launches.find? mine).orElse fun _ => s.launchOn o.core with
    | some l => some ⟨l, x, (l.entries.find? (·.session == x.num)).map (·.serial)⟩
    | none => none

/-- The Q records that a buffer holds: those that VEC has written on the core, or the bytes of records brought through CST (R15, R169). -/
def VecBuf.qRecords : VecBuf → List (List Byte)
  | .qrecs _ l => l
  | .bytes l => chunksOf 136 l
  | _ => []

/-- The outputs by row that a buffer holds: a unit's own, or saved ones brought back as BF16 values or bytes (R180). -/
def VecBuf.headRows : VecBuf → List (List BF16)
  | .heads _ l => l
  | .bf16 _ l => blocksOf 0#16 128 l
  | .bytes l => (chunksOf 256 l).map fun b => (chunksOf 2 b).map fun w => BitVec.ofNat 16 (ofLeBytes w)
  | _ => []

/-- The Q records of the sequence's rows (R164, R165): token by token, within a token by head. -/
def State.queries (s : State) (o : AttnOps) (e : LenEntry) : List (List Byte) :=
  let nh := max o.heads.length 1
  let recs := (s.buf o.core o.src).qRecords
  (List.range (e.qcnt * o.heads.length)).map fun r => nth [] recs (o.first + r / nh * o.perToken + nth 0 o.heads (r % nh))

/-- The σ of a layer (R170, R213). -/
def State.sigma (s : State) (gen layer : Nat) : F32 := nth 0#32 ((s.image gen).table 6 layer) 0

/-- The attention of one sequence and key-value head on one unit (R164–R175). -/
def State.attend (s : State) (o : AttnOps) (e : LenEntry) (w : AttnWork) (segments : List Nat) (dst : PartPlace) : State :=
  let sigma := s.sigma w.launch.gen o.layer
  let nh := max o.heads.length 1
  let qs := (s.queries o e).map queryElems
  let nrows := qs.length
  let pte := o.layer * o.kvHeads + o.kvHead
  let keys := s.kvTable w.session e pte false
  let values := s.kvTable w.session e pte true
  let nseg := ceilDiv e.top 4096
  let accs := ((List.range nrows).map fun r => segments.map fun g =>
    (r, g, segmentFold e sigma (e.qpos + r / nh) (nth none qs r) keys values g)).flatten
  let s := if accs.any fun x => (x.2.2.map (·.2)).getD false then s.markNumeric w.serial else s
  let work := chunkWork e o.heads.length nrows segments
  let s := if 512 ≤ o.core then
      (s.count ATN_DEC_CHUNK_CNT_COUNT work.length).count ATN_HUB_BYTES_COUNT (streamed e segments) o.core
    else (s.count ATN_PRE_CHUNK_CNT_COUNT work.length).count ATN_PRE_CYCLES_COUNT (2 * sumN work) o.core
  match dst with
  | .buf n =>
    let states := accs.map fun (r, g, a) => rowStateOf r g (a.map (·.1))
    (s.setBuf o.core n (.rows w.serial e.qpos o.heads nrows nseg (e.stats.map fun i => o.statsAt + 4 * i) states)).finishRows o.core n
  | .entry a slot =>
    let bytes := (accs.map fun (r, g, x) => segRecord (e.qpos + r / nh) (nth 0 o.heads (r % nh)) g (x.map (·.1))).flatten
    (s.coreCst o.core w.serial a bytes.length).putEntry a slot w.launch.fn w.launch.job bytes

/-- The bytes of keys and values that a unit streams are charged to the function, cross their channels and pass through CST (R13, R257, R375,
R384).
DEDUCED (assumption log 43). -/
def State.chargeKv (s : State) (o : AttnOps) (e : LenEntry) (w : AttnWork) (segments : List Nat) : State :=
  let pte := o.layer * o.kvHeads + o.kvHead
  forEach (e.chunks segments) s fun s c =>
    match w.session.columnAt (64 * c) e.fmt with
    | none => s
    | some d =>
      let n := e.chunkBytes c
      let at_ := (d.kvAt e.fmt pte (64 * c) false).1
      let prio := s.prioOf w.serial
      ((s.useTier d.tierB w.launch.fn prio at_ n).stage whoMem w.launch.fn prio n).chargeTier w.launch.fn d.tierB n

/-- A unit has waited for key or value bytes (R179, R183): counted by 1,024 cycles, and shown until the wait is over.
DEDUCED (assumption log 43). -/
def State.feedWait (s : State) (o : AttnOps) : State :=
  let all := s.fab.feedRest + o.waits
  let ns := ceilDiv (if 512 ≤ o.core then 2 * o.waits else 15 * o.waits / 8) 3
  let s := s.withFab { s.fab with feedRest := all % 1024, feeds := SMap.put 0 s.fab.feeds (8 * o.core + o.unit) (s.now + ns) }
  s.count ATN_FEED_WAIT_CNT_COUNT (all / 1024)

/-- The start of a unit's work: the entry is read from the length table; one outside R166 faults the job before its Q_CNT is looked
at, and so does a page-table entry that the unit may not use (R203); an uncorrectable error in what it read stops the read and faults
the job (R382).  The work, where there is any to do. DESIGN CHOICE (assumption log 43). -/
def State.attnStart (s : State) (o : AttnOps) (segments : List Nat) (errs : List MemErr) : Option (LenEntry × AttnWork) × State :=
  let e := s.lenAt o.table
  match s.launchOn o.core with
  | none => (none, s)
  | some _ =>
    if !e.ok then (none, s.coreJobFault o.core 0x0C [4])
    else if e.qcnt = 0 then (none, s)
    else match s.attnWork o e with
      | none => (none, s.coreJobFault o.core 0x0C [4])
      | some w =>
        if pteBad w.session e w.launch.gen segments then (none, s.coreJobFault o.core 0x0C [4] (serial := w.serial))
        else
          let (ok, s) := ((s.chargeKv o e w segments).feedWait o).coreErrors o.core errs
          (if ok then some (e, w) else none, s)

/-- ATTENTION_FORWARD (R162–R175): a unit of a hub core takes sequences of at most HUB_MAX_TOKENS query tokens, one of an array core
the others; a residue mismatch or parity error faults the job, and its outputs go nowhere (R182). -/
def execAttentionForward (t : Nat) (o : AttnOps) (segments : List Nat) (dst : PartPlace) (check : UnitCheck) (errs : List MemErr)
    (s : State) : Host.Outcome State Fault Refusal :=
  let s := s.advance t
  let q := (s.lenAt o.table).qcnt
  if (s.lenAt o.table).ok && decide (q ≤ s.hubMax) != decide (512 ≤ o.core) then .next s
  else
    match s.attnStart o segments errs with
    | (none, s) => .next s
    | (some (e, w), s) => .next (if check != .good then s.unitCheck o.core 2 check else s.attend o e w segments dst)

/-- A segment record read back (R174): row, and its state. -/
def readSeg (qpos : Nat) (heads : List Nat) (l : List Byte) : RowState :=
  let w := field l 0 4
  let h := bitsOf w 21 7
  let i := (heads.zipIdx.find? (·.1 == h)).map (·.2)
  ⟨(w % 2 ^ 21 - qpos) * heads.length + i.getD 0, field l 12 1, !bitOf w 31, BitVec.ofNat 32 (field l 4 4),
    BitVec.ofNat 32 (field l 8 4), (List.range 128).map fun d => BitVec.ofNat 32 (field l (16 + 4 * d) 4)⟩

/-- SEGMENT_MERGE (R174): the folding unit takes another unit's segment records from a queue entry, or waits and from the valid slot on
stalls until they are written; the row fold of R172 is made once every segment is there. -/
def execSegmentMerge (t core n addr slot : Nat) (s : State) : Host.Outcome State Fault Refusal :=
  let s := s.advance t
  match s.buf core n with
  | .rows serial qpos heads nrows nseg stats states =>
    match s.reach core addr slot with
    | (false, s) => .next s
    | (true, s) =>
      let l := (s.entry addr).bytes
      let recs := (List.range (l.length / 1056)).map fun i => readSeg qpos heads ((l.drop (1056 * i)).take 1056)
      let s := (s.takeEntry core serial addr).count ATN_SEG_MERGE_CNT_COUNT recs.length
      .next ((s.setBuf core n (.rows serial qpos heads nrows nseg stats (states ++ recs))).finishRows core n)
  | _ => .next s

/-- A tree over the 64 members of each chunk, chunks folded in ascending order (R180). -/
def chunkedSum (f : Nat → F32) (chunks : List Nat) : F32 :=
  match chunks.map fun c => treeSum 6 ((List.range 64).map fun i => f (64 * c + i)) with
  | [] => 0#32
  | a :: t => t.foldl f32Add a

/-- The fold of chunks within segments and of segments, both ascending (R180 step 8). -/
def segmentedSum (f : Nat → F32) (top : Nat) : F32 :=
  let segs := (List.range (ceilDiv top 4096)).map fun g =>
    chunkedSum f ((List.range 64).filterMap fun c => if 4096 * g + 64 * c < top then some (64 * g + c) else none)
  match segs with
  | [] => 0#32
  | a :: t => t.foldl f32Add a

/-- What the backward pass forms for a row (R180 steps 1 to 5): its position, p_ij and ds_ij by key, and whether a block of ds_ij
raised NUMERIC. -/
structure BackRow where
  q : Nat
  p : List F32
  ds : List F32
  event : Bool

/-- The p_ij and ds_ij of a row (R180 steps 1 to 5): none for a row whose statistic is the empty encoding (R181). -/
def backRow (e : LenEntry) (sigma : F32) (q : Nat) (qe : Option (List F32)) (keys values : List (List F32)) (out : List BF16)
    (lse : F32) (dout : List F32) : Option BackRow :=
  if lse == emptyStat then none
  else
    let dr := treeSum 7 ((List.range 128).map fun d => f32Mul (nth 0#32 dout d) (bf16ToF32 (nth 0#16 out d)))
    let n := keys.length
    let ps := (List.range n).map fun j =>
      if e.visible q j then
        let x := f32Sub (score sigma qe (nth [] keys j)) lse
        weight8 (if f32Lt 0#32 x then 0#32 else x)
      else 0#32
    let ds := (List.range n).map fun j =>
      if e.visible q j then f32Mul (nth 0#32 ps j) (f32Sub (dot128 dout (nth [] values j)) dr) else 0#32
    let nan := ((qe.getD []) :: dout :: (keys ++ values)).any anyNaN || out.any bf16NonFinite
    let g := g8Run none 0 (List.replicate n nan) ds
    some ⟨q, ps, (List.range n).map (g8At g.1), g.2⟩

/-- The sum over the rows of one query head for a key's gradient (R180 steps 6 and 7): a tree over each 64 positions; a row that does
not see the key, or an empty one, adds +0 (R181). -/
def headSum (e : LenEntry) (rows : List (Option BackRow × List F32)) (sel : BackRow → List F32) (j d : Nat) : F32 :=
  chunkedSum (fun q =>
    match (if e.qpos ≤ q then rows[q - e.qpos]? else none) with
    | some (some w, x) => if e.visible q j then f32Mul (nth 0#32 (sel w) j) (nth 0#32 x d) else 0#32
    | _ => 0#32) (natsFrom (e.qpos / 64) ((e.top - 1) / 64 + 1 - e.qpos / 64))

/-- The draws of a request that uses stochastic rounding (R37, R180). -/
def State.tuneSeed (s : State) (serial : Option Nat) : Option Nat :=
  match s.findReq serial with
  | some (_, r) => (match r.ops with
    | .tune o => if bitOf r.flags 0 then some o.seed else none
    | _ => none)
  | none => none

/-- dQ, dK and dV of one sequence and key-value head, in row and key order (R180 steps 6 to 8): from the rows, the heads, the queries,
the keys and the output gradients. -/
def gradients (e : LenEntry) (nh : Nat) (sigma : F32) (rows : List (Option BackRow)) (qes : List (Option (List F32)))
    (keys douts : List (List F32)) : List (List F32) :=
  let dims := List.range 128
  let dq := rows.map fun w => dims.map fun d => match w with
    | none => 0#32
    | some w => f32Mul sigma (segmentedSum (fun j =>
        if e.visible w.q j then f32Mul (nth 0#32 w.ds j) (nth 0#32 (nth [] keys j) d) else 0#32) e.top)
  let ofHead (xs : List (List F32)) (h : Nat) : List (Option BackRow × List F32) :=
    (List.range e.qcnt).map fun i => (nth none rows (i * nh + h), nth [] xs (i * nh + h))
  let allHeads (sel : BackRow → List F32) (xs : List (List F32)) (j d : Nat) : F32 :=
    match (List.range nh).map fun h => headSum e (ofHead xs h) sel j d with
    | [] => 0#32
    | a :: r => r.foldl f32Add a
  let qs := qes.map fun q => q.getD (List.replicate 128 0#32)
  let dk := (List.range e.top).map fun j => dims.map fun d => f32Mul sigma (allHeads (·.ds) qs j d)
  let dv := (List.range e.top).map fun j => dims.map (allHeads (·.p) douts j)
  dq ++ dk ++ dv

/-- The backward pass of one sequence and key-value head (R180, R181): the gradients as G8 records in row and key order. -/
def State.attendBack (s : State) (o : AttnOps) (b : BackwardOps) (e : LenEntry) (w : AttnWork) : State :=
  let sigma := s.sigma w.launch.gen o.layer
  let nh := max o.heads.length 1
  let qes := (s.queries o e).map queryElems
  let pte := o.layer * o.kvHeads + o.kvHead
  let keys := s.kvTable w.session e pte false
  let values := s.kvTable w.session e pte true
  let outs := (s.buf o.core b.outs).headRows
  let g8 := match s.buf o.core b.dout with
    | .grads _ l => l.flatten
    | .bytes l => l
    | _ => []
  let douts := (List.range qes.length).map fun r => (List.range 128).map fun d => g8At g8 (128 * r + d)
  let lse (r : Nat) : F32 :=
    BitVec.ofNat 32 (ofLeBytes (s.readBytes .cst (o.statsAt + 4 * (e.stats.getD 0 + r)) 4))
  let rows := (List.range qes.length).map fun r =>
    backRow e sigma (e.qpos + r / nh) (nth none qes r) keys values (nth [] outs r) (lse r) (nth [] douts r)
  let all := gradients e nh sigma rows qes keys douts
  let seed := s.tuneSeed w.serial
  let nanIn := (keys ++ values ++ douts ++ qes.map (·.getD [])).any anyNaN || outs.any (·.any bf16NonFinite)
  let recs := all.zipIdx.map fun (l, i) => g8Run seed (128 * i) (List.replicate 128 nanIn) l
  let work := chunkWork e nh qes.length (List.range (ceilDiv e.top 4096))
  let s := (s.count ATN_BWD_CHUNK_CNT_COUNT work.length).count ATN_PRE_CYCLES_COUNT (5 * sumN work) o.core
  let event := rows.any (fun w => (w.map (·.event)).getD false) || recs.any (·.2)
  let s := if event then s.markNumeric w.serial else s
  s.setBuf o.core b.dst (.grads w.serial (recs.map (·.1)))

/-- ATTENTION_BACKWARD (R180, R181): always on the prefill unit of an array core (R162); KVM writes nothing. -/
def execAttentionBackward (t : Nat) (o : AttnOps) (b : BackwardOps) (check : UnitCheck) (errs : List MemErr) (s : State) :
    Host.Outcome State Fault Refusal :=
  let s := s.advance t
  if 512 ≤ o.core then .next s
  else
    match s.attnStart o (List.range (ceilDiv (s.lenAt o.table).top 4096)) errs with
    | (none, s) => .next s
    | (some (e, w), s) => .next (if check != .good then s.unitCheck o.core 2 check else s.attendBack o b e w)

end Sys2Proof.Machine
end

