-- ==== Sys2Proof/Machine/Ident.lean ====
section
/-! DEFINITION. Identity, measurements, sensors and firmware slots as the security block and the management controller report
them (spec/18_security_and_management.md R426–R436, R446). -/

namespace Sys2Proof.Machine

/-- The identity public key (R426). -/
def identityKey : List Byte := (List.range 32).map Config.identityKey

/-- The certificate chain (R426). -/
def certChain : List Byte := (List.range Config.certLength.val).map Config.certByte

/-- The SHA-512 digest of the identity public key. -/
def identityDigest : List Byte := sha512 identityKey

/-- The identity registers of a function's configuration space (R303): the Vendor ID, which is printed on the module and 0xFFFF of a virtual
function, the Device ID and the class code. -/
def pciVendorId (f : Nat) : Nat := if f = 0 then Config.vendorId.toNat else 0xFFFF
def pciDeviceId (f : Nat) : Nat := if f = 0 then 0x0416 else 0x0417
def pciClassCode : Nat := 0x120000

/-- The SR-IOV capability (R302): TotalVFs, First VF Offset, VF Stride and the supported page size. -/
def totalVfs : Nat := 31
def firstVfOffset : Nat := 1
def vfStride : Nat := 1
def vfPageSize : Nat := 4096

/-- The routing ID of a function (R302, R303): the physical function's, which the host gives it, and from there by First VF Offset and VF
Stride. -/
def routingId (f : Nat) : Nat :=
  if f = 0 then Config.pfRoutingId.toNat else (Config.pfRoutingId.toNat + firstVfOffset + vfStride * (f - 1)) % 2 ^ 16

/-- What a function's configuration space says of the link and of its requests (R302), in the encodings of the base specification: the largest
payload and read request in bytes, Interrupt Pin, ASPM support (L1 only), the completion timeout ranges A to D with their default, whether the timeout may be
disabled, that ACS lets no function reach another, the MSI-X table size, and tags of 10 bits but not of 14. -/
structure PciCaps where
  maxPayload : Nat
  maxRead : Nat
  interruptPin : Nat
  aspm : Nat
  timeoutRanges : Nat
  timeoutDefault : Nat
  timeoutDisable : Bool
  acs : Bool
  msixSize : Nat
  tags10 : Bool
  tags14 : Bool
deriving DecidableEq, Repr

/-- R302's values. -/
def pciCaps : PciCaps where
  maxPayload := 512
  maxRead := 4096
  interruptPin := 0
  aspm := 2
  timeoutRanges := 0xF
  timeoutDefault := 0
  timeoutDisable := true
  acs := true
  msixSize := 64
  tags10 := true
  tags14 := false

/-- A BAR (R304): its address bits, whether it is prefetchable, and its size in bytes. -/
structure BarForm where
  bits : Nat
  prefetchable : Bool
  size : Nat
deriving DecidableEq, Repr

/-- The BARs of a function (R304); for a virtual function the sizes are those of the SR-IOV capability. -/
def barForm (f bar : Nat) : Option BarForm :=
  match bar with
  | 0 => some ⟨64, false, if f = 0 then 2 ^ 26 else 2 ^ 16⟩
  | 2 => some ⟨64, false, if f = 0 then 2 ^ 20 else 2 ^ 16⟩
  | 4 => some ⟨64, false, if f = 0 then 2 ^ 18 else 2 ^ 13⟩
  | _ => none

/-- The Device Serial Number (R302, R427). -/
def deviceSerial : List Byte := identityDigest.take 8

/-- The MCTP endpoint UUID (R433). -/
def endpointUuid : List Byte := identityDigest.take 16

/-- A firmware slot. -/
def State.slot (s : State) (n : Nat) : FwSlot := if n = 0 then s.mgt.slot0 else s.mgt.slot1

/-- A firmware slot's record replaced (R437). -/
def State.setSlot (s : State) (n : Nat) (v : FwSlot) : State :=
  s.withMgt (if n = 0 then { s.mgt with slot0 := v } else { s.mgt with slot1 := v })

/-- The code of a slot's state (R440). -/
def SlotState.code : SlotState → Nat
  | .empty => 0
  | .candidate => 1
  | .trial => 2
  | .confirmed => 3
  | .failed => 4

/-- SMS_FW_SLOT of a slot (R446). -/
def FwSlot.word (v : FwSlot) : Nat := v.state.code + 8 * (v.boots % 4) + 65536 * (v.svn % 65536)

/-- The header of a slot's image (R438). -/
def FwSlot.headerBytes (v : FwSlot) : List Byte :=
  if v.header.isEmpty then (List.range 512).map Config.factoryHeader else v.header

/-- The main side is up and its firmware READY (R429). -/
def State.mainReady (s : State) : Bool := s.mainOn && s.rd CPX_FW_STATUS_STAGE == 3

/-- A 64-byte value of zeros (R429). -/
def zeros64 : List Byte := List.replicate 64 0#8

/-- Bits of measurement index 9 (R429). -/
def State.modeBits (s : State) : Nat :=
  s.rd CPX_CTRL_DBG_EN + 2 * s.rd ACR_CTRL_DBG_DRAIN_EN + 4 * s.rd AMF_CTRL_TALLY_MODE + 8 * s.rd WLT_CTRL_SHADOW_MODE
    + 16 * s.rd CPX_CTRL_HANG_MODE + 32 * b2n (s.rd WLT_REF_FN_FN != 0) + 64 * s.rd SMS_STATUS_MODULE_FAULT
    + 128 * b2n ((s.slot s.mgt.running).state == .trial)

/-- A register's 32-bit word put together from its fields in force. -/
def State.wordOf (s : State) (l : List Fld) (bank : Nat := 0) : Nat := sumN (l.map fun f => s.rd f bank * 2 ^ f.lsb)

/-- The link configuration registers of measurement index 8, 4 bytes each (R429). -/
def State.linkWords (s : State) : List Byte :=
  let at_ (a : Nat) : List Fld := regTable.filter fun f => f.addr == a
  ([LNK_TORUS_DIM_X.addr, LNK_MODULE_NUM.addr, LNK_PART_ORIGIN.addr, LNK_PART_ID_PART.addr].map fun a =>
    leBytes 4 (s.wordOf (at_ a))).flatten

/-- The DMTF value type and the value of a measurement index in force (R429); none for an index outside 1 to 9. -/
def State.measure (s : State) (i : Nat) : Option (Nat × List Byte) :=
  let img := s.slot s.mgt.running
  let main (v : List Byte) : List Byte := if s.mainReady then v else zeros64
  match i with
  | 1 => some (0, (List.range 64).map Config.bootRomDigest)
  | 2 => some (1, sha512 (img.headerBytes.take 512))
  | 3 => some (6, leBytes 8 img.version)
  | 4 => some (7, leBytes 4 img.svn ++ leBytes 4 s.mgt.floor)
  | 5 => some (1, if s.mgt.app then (List.range 64).map (Config.appDigest img.header) else zeros64)
  | 6 => some (3, main (sha512 (((List.range 4).map s.trustKey).flatten ++ leBytes 1 (s.rd LST_TRUST_LOCK_LOCK))))
  | 7 => some (4, main (match s.lst.current with
      | some (n, g) => sha512 ((s.obj n).content.raw.take 4096 ++ leBytes 2 g)
      | none => zeros64))
  | 8 => some (2, main (sha512 s.linkWords))
  | 9 => some (5, if s.mainReady then leBytes 4 s.modeBits else leBytes 4 0)
  | _ => none

/-- The value that SMS_MEAS_DATA shows (R447): the one fixed at the read of word 0. -/
def State.measData (s : State) : Nat :=
  let i := s.rd SMS_MEAS_SEL_INDEX
  let now : List Byte := match s.measure i with | some (_, l) => l | none => []
  let v := match s.mgt.measHeld with
    | some (j, l) => if i = j then l else now
    | none => now
  ofLeBytes ((v.drop (4 * s.rd SMS_MEAS_SEL_WORD)).take 4)

/-- A read of SMS_MEAS_DATA at word 0 fixes the value (R447). -/
def State.measHold (s : State) : State :=
  let i := s.rd SMS_MEAS_SEL_INDEX
  if s.rd SMS_MEAS_SEL_WORD ≠ 0 then s
  else s.withMgt { s.mgt with measHeld := (s.measure i).map fun m => (i, m.2) }

/-- Seconds left on the 600 s timer during a trial boot (R442, R446). -/
def State.confirmLeft (s : State) : Nat :=
  if !s.mgt.trial then 0 else ((s.mgt.bootAt + 600000000000 - s.now) / 1000000000).toNat

/-- The power state as sensor 100 gives it (R404, R435). DEDUCED (assumption log 16). -/
def State.powerState (s : State) : Nat :=
  if !s.pwr.rails then 2 else if s.rd PTM_PSTATE_STATE % 2 = 1 then 1 else 0

/-- The sensors of R435, in order. -/
def sensorIds : List Nat := natsFrom 1 16 ++ natsFrom 100 4

/-- A sensor's value (R435): none where the sensor is not available, or there is no such sensor. -/
def State.sensor (s : State) (n : Nat) : Option Int :=
  let main (v : Int) : Option Int := if s.mgt.app && s.mainOn then some v else none
  if n = 15 then some (s.pwr.standbyV : Int)
  else if n = 16 then some (s.pwr.standbyI : Int)
  else if n = 100 then some (s.powerState : Int)
  else if n = 101 then some (if s.pwr.tripLatch then ((s.pwr.trip.map (·.cause)).getD 0 : Nat) else 0)
  else if n = 102 then some (s.rd SMS_STATUS_MODULE_FAULT : Int)
  else if n = 103 then some (s.rd CPX_FW_STATUS_STAGE : Int)
  else if n = 1 then main (s.chan 634)
  else if n = 2 then main (s.chan 632)
  else if n = 3 then main (s.chan 633)
  else if n = 4 then main s.tempMax.1
  else if n = 5 then main s.diodeMax.1
  else if n = 6 then main (s.ptm.capNow : Int)
  else if 7 ≤ n && n ≤ 14 then main (s.chan (633 + n))
  else none

end Sys2Proof.Machine
end

