-- ==== Sys2Proof/Machine/Boot.lean ====
section
/-! DEFINITION. Supplies, pins, resets and the firmware's start (spec/19_bring_up_and_pins.md R448–R459,
spec/14_control_and_sync.md R356, spec/18_security_and_management.md R440–R442, spec/17_reliability.md R420), and the meanings
of their commands. -/

namespace Sys2Proof.Machine

/-- The link's training result (R302, R327): a combination that the module does not support leaves the link down. -/
def State.trainLink (s : State) (l : Option (Nat × Nat × Bool)) : State :=
  match l with
  | none => s
  | some (speed, lanes, flit) =>
    if 1 ≤ speed && speed ≤ 6 && [1, 4, 8, 16].contains lanes && (flit || speed ≠ 6) then
      ((s.wr HIF_LINK_SPEED speed).wr HIF_LINK_WIDTH lanes).wrBit HIF_LINK_FLIT flit
    else s

/-! The boot ROM's choice (R441). -/

/-- An image passes R439 at boot: its SVN against the floor, and the rest as the flash gives it. -/
def State.imageOk (s : State) (bad : List Nat) (i : Nat) : Bool := decide (s.mgt.floor ≤ (s.slot i).svn) && !bad.contains i

/-- A slot is booted (R356 steps 2 and 3): CC0 is released, the 600 s timer starts, and the main firmware starts on all four
cores. -/
def State.runSlot (s : State) (i : Nat) (trial : Bool) : State :=
  let s := s.withMgt { s.mgt with running := i, trial := trial, bootAt := s.now }
  ((s.wr CPX_FW_STATUS_STAGE 2).wr CPX_FW_STATUS_SLOT i).wr CPX_FW_STATUS_CORES_UP 15

/-- No slot can be booted (R441 step 5): STAGE = 4. -/
def State.noSlot (s : State) : State := ((s.wr CPX_FW_STATUS_STAGE 4).wr CPX_FW_STATUS_CORES_UP 0).mgtEvent 103 4

/-- A slot fails R439 at boot (R441 step 4): FAILED, logged as a firmware restart with cause 4. -/
def State.slotFailed (s : State) (i : Nat) : State :=
  let s := s.setSlot i { s.slot i with state := .failed }
  let s := s.logEvent { EventRec.blank 0x0D 2 with detail := [4, s.rd CPX_FW_STATUS_RESTARTS] }
  s.withMgt { s.mgt with fellBack := true }

/-- A CONFIRMED slot is booted, or fails (R441 step 4, R442). -/
def State.runConfirmed (s : State) (bad : List Nat) (i : Nat) : State :=
  if (s.slot i).state ≠ .confirmed then s.noSlot
  else if s.imageOk bad i then s.runSlot i false
  else (s.slotFailed i).noSlot

/-- The boot ROM tries a slot and, where it fails, the other one (R441 step 4). -/
def State.trySlot (s : State) (bad : List Nat) (i : Nat) (trial : Bool) : State :=
  if s.imageOk bad i then s.runSlot i trial else (s.slotFailed i).runConfirmed bad (1 - i)

/-- Step 3 of R441: the CONFIRMED slot of the higher VERSION, slot 0 where they are equal. -/
def State.chooseConfirmed (s : State) (bad : List Nat) : State :=
  let c0 := (s.slot 0).state == .confirmed
  let c1 := (s.slot 1).state == .confirmed
  if c0 && (!c1 || decide ((s.slot 1).version ≤ (s.slot 0).version)) then s.trySlot bad 0 false
  else if c1 then s.trySlot bad 1 false
  else s.noSlot

/-- The slot that is in TRIAL; at most one is (R440). -/
def State.trialSlot (s : State) : Option Nat :=
  if (s.slot 0).state == .trial then some 0 else if (s.slot 1).state == .trial then some 1 else none

/-- R441: the choice at power-on and PERST_N; a fall-back is an event of sensor 103 (R435). DEDUCED (assumption log 34). -/
def State.bootChoice (s : State) (bad : List Nat) : State :=
  let s := s.withMgt { s.mgt with trial := false, fellBack := false }
  let s := match s.trialSlot with
    | none => s.chooseConfirmed bad
    | some i =>
      let v := s.slot i
      if v.boots < 3 then (s.setSlot i { v with boots := v.boots + 1 }).trySlot bad i true
      else
        let s := s.setSlot i { v with state := .failed }
        (s.withMgt { s.mgt with fellBack := true }).chooseConfirmed bad
  s.when s.mgt.fellBack (·.mgtEvent 103 (s.rd CPX_FW_STATUS_STAGE))

/-! The ledger at a start (R420). -/

/-- A ledger record is restored or lost: the region in the order of R419, and the record. -/
def State.ledgerEvent (s : State) (region record : Nat) : State :=
  s.logEvent { EventRec.blank 0x1C 0 with detail := [region, record] }

/-- The calibration copies (R420): one is restored from the other; with both bad, a module fault. -/
def State.readCalibration (s : State) (bad0 bad1 : Bool) : State :=
  if bad0 && bad1 then ((s.ledgerEvent 0 0).ledgerEvent 1 0).moduleFault 6
  else if bad0 || bad1 then (s.ledgerEvent (if bad0 then 0 else 1) 0).smsEvent SMS_EVENT_CAL_RESTORE
  else s

/-- A core's health record is lost (R420): level 0, no retirements. -/
def State.healthLost (s : State) (core : Nat) : State :=
  let s := match (s.health core).site with
    | none => s
    | some n =>
      if core < 256 then { s with sms := { s.sms with sitesW := s.sms.sitesW.filter (· != n) } }
      else { s with sms := { s.sms with sitesE := s.sms.sitesE.filter (· != n) } }
  let mine (p : Nat) : Bool := posCore p == core
  let s := { s with sms := { s.sms with
    slicesUsed := s.sms.slicesUsed.filter (!mine ·.1), xbsUsed := s.sms.xbsUsed.filter (!mine ·) } }
  let s := s.withLst { s.lst with onSpare := SMap.dropIf (fun p _ => mine p) s.lst.onSpare }
  let s := s.withFab { s.fab with track := SMap.dropIf (fun p _ => mine p) s.fab.track }
  (s.setHealth core Health.init).ledgerEvent 3 core

/-- The physical crossbar of an endurance counter: the array cores' own sites first, then the west and the east spare sites. -/
def State.counterXb (s : State) (i : Nat) : Option Nat :=
  if i < 294912 then some i
  else
    let site := (i - 294912) / 576
    let n := site % 16
    let west := decide (site < 16)
    ((List.range 512).find? fun c => (decide (c < 256) == west) && (s.health c).site == some n).map fun c =>
      589824 * (n + 1) + 576 * c + (i - 294912) % 576

/-- An endurance record is lost (R420): every counter in it is taken as 200,000. -/
def State.enduranceLost (s : State) (record : Nat) : State :=
  let s := forEach ((natsFrom (256 * record) 256).filterMap s.counterXb) s fun s p =>
    s.withLst { s.lst with endurance := SMap.put 0 s.lst.endurance p (200000 - (Config.factoryEndurance p).val) }
  s.ledgerEvent 2 record

/-- The newest of a region's records whose version the firmware knows (R444). -/
def newestKnown {α : Type} (f : Nat) (l : List (Nat × α)) : Option (Nat × α) :=
  bestOf (fun (a b : Nat × α) => decide (b.1 < a.1)) (l.filter fun e => decide (e.1 ≤ f))

/-- The records of a region at a firmware's first start (R444), `f` being the version that the image writes: what it takes in force,
none where every record is newer than it knows.  A record of an older version is written anew and kept beside it while the image
is on trial; a newer one is left untouched. -/
def Ledgered.begin {α : Type} (l : Ledgered α) (live : α) (f : Nat) (trial : Bool) : Ledgered α × Option α :=
  let all := (l.version, live) :: l.others
  let newer := all.filter fun e => decide (f < e.1)
  let older := if trial then all.filter fun e => decide (e.1 < f) else []
  (⟨f, newer ++ older⟩, (newestKnown f all).map (·.2))

/-- Another image takes over at a fall-back (R442, R444): the records of the image that has failed, newer than it knows, are left
untouched, and it goes on from its own with what stands. DESIGN CHOICE (assumption log 34). -/
def Ledgered.fallTo {α : Type} (l : Ledgered α) (live : α) (f : Nat) : Ledgered α :=
  ⟨f, ((l.version, live) :: l.others).filter fun e => decide (f < e.1)⟩

/-- The image is confirmed: what it migrated releases its predecessors (R442, R444). -/
def Ledgered.release {α : Type} (l : Ledgered α) : Ledgered α := { l with others := l.others.filter fun e => decide (l.version < e.1) }

/-- The health region as it stands. -/
def State.healthPart (s : State) : HealthPart where
  health := s.sms.health
  slicesUsed := s.sms.slicesUsed
  xbsUsed := s.sms.xbsUsed
  sitesW := s.sms.sitesW
  sitesE := s.sms.sitesE
  onSpare := s.lst.onSpare
  track := s.fab.track

/-- A health region taken in force (R420, R444). -/
def State.useHealth (s : State) (h : HealthPart) : State :=
  let s := { s with sms := { s.sms with
    health := h.health, slicesUsed := h.slicesUsed, xbsUsed := h.xbsUsed, sitesW := h.sitesW, sitesE := h.sitesE } }
  (s.withLst { s.lst with onSpare := h.onSpare }).withFab { s.fab with track := h.track }

/-- The ledger's records are handled by version (R444): health, endurance and firmware-owned records are migrated, those too new give
way to the predecessor kept or are lost (R420); a calibration record too new is a module fault.
DEDUCED (assumption log 34). -/
def State.migrateLedger (s : State) : State :=
  let f := (s.slot s.mgt.running).formats
  let h := s.sms.healthLedger.begin s.healthPart f.health s.mgt.trial
  let w := s.sms.wearLedger.begin s.lst.endurance f.endurance s.mgt.trial
  let o := s.sms.ownLedger.begin () f.own s.mgt.trial
  let s := { s with sms := { s.sms with healthLedger := h.1, wearLedger := w.1, ownLedger := o.1 } }
  let s := match h.2 with
    | some p => s.useHealth p
    | none => forEach (List.range 520) s State.healthLost
  let s := match w.2 with
    | some e => s.withLst { s.lst with endurance := e }
    | none => forEach (List.range 1224) s State.enduranceLost
  s.when (decide (f.calibration < s.sms.calVersion)) (·.moduleFault 6)

/-- The ledger as a start's firmware reads it (R420, R444). DEDUCED (assumption log 34). -/
def State.readLedger (s : State) (o : StartOps) : State :=
  if s.rd CPX_FW_STATUS_STAGE ≠ 2 then s
  else
    let s := forEach o.healthLost s State.healthLost
    let s := forEach o.enduranceLost s State.enduranceLost
    (s.readCalibration o.cal0 o.cal1).migrateLedger

/-- The main domain leaves reset (R453 steps 5 and 6, R356 step 1): from its reset state, the link trains and CC0 runs the boot ROM, while
CC1 to CC3 are held. DESIGN CHOICE (assumption log 36), DEDUCED (assumption log 34). -/
def State.start (s : State) (o : StartOps) : State :=
  let s := s.mainReset
  let s := s.withPwr { s.pwr with refclk := o.refclk }
  let s := (((s.trainLink o.link).wr CPX_FW_STATUS_STAGE 1).wr CPX_FW_STATUS_CORES_UP 1)
  (s.withMgt { s.mgt with trial := false, fellBack := false }).withCtl { s.ctl with boot := some o }

/-- The boot ROM ends (R356 steps 2 and 3): it has chosen a slot, and the main firmware starts and reads the ledger.
DESIGN CHOICE (assumption log 2). -/
def State.bootRom (s : State) : State :=
  match s.ctl.boot with
  | some o => ((s.withCtl { s.ctl with boot := none }).bootChoice o.bad).readLedger o
  | none => s

/-! Supplies and pins. -/

/-- The main rails start (R453 step 3): with PWR_EN high, the 54 V input applied and no latched trip.
DESIGN CHOICE (assumption log 36). -/
def State.railsUp (s : State) : State :=
  if s.pwr.up && s.pwr.pwrEn && s.pwr.main54 && !s.pwr.tripLatch && !s.pwr.rails then
    s.withPwr { s.pwr with rails := true, pwrGood := false }
  else s

/-- STANDBY_APPLY (R453, R456): the standby input enters its range after it was off for a time in ns; the standby domain starts,
the trip latch is clear after 100 ms or more, and a PWR_EN already high is acted on (R459). -/
def execStandbyApply (t offFor : Nat) (s : State) : Host.Outcome State Fault Refusal :=
  let s := s.advance t
  if s.pwr.standby then .next s
  else
    let s := s.withPwr { s.pwr with
      standby := true, up := true, tripLatch := s.pwr.tripLatch && decide (offFor < 100000000), standbyV := 0, standbyI := 0 }
    let s := s.withMgt { s.mgt with
      mode := 0, app := false, eid := 0, dynAddr := 0, tid := 0, receiver := none, events := [], spdm := .none
      update := none, updateLost := false, measHeld := none }
    .next ((s.wr SMS_FW_REFUSED_CNT_COUNT 0).railsUp)

/-- STANDBY_REMOVE (R404, R455): the main rails drop and the module is in MP3. -/
def execStandbyRemove (t : Nat) (s : State) : Host.Outcome State Fault Refusal :=
  let s := s.advance t
  if !s.pwr.standby then .next s
  else
    let s := s.when s.pwr.rails State.railsDown
    .next (s.withPwr { s.pwr with standby := false, up := false })

/-- PWR_EN_RISE (R453): PWR_EN is high; the operand tells whether the 54 V input is applied. -/
def execPwrEnRise (t : Nat) (main54 : Bool) (s : State) : Host.Outcome State Fault Refusal :=
  let s := s.advance t
  .next (s.withPwr { s.pwr with pwrEn := true, main54 := main54 }).railsUp

/-- PWR_GOOD_RISE (R453 step 4): every rail lies within its window; with PERST_N already released the main domain starts
(R459). -/
def execPwrGoodRise (t : Nat) (o : StartOps) (s : State) : Host.Outcome State Fault Refusal :=
  let s := s.advance t
  if !s.pwr.rails || s.pwr.pwrGood then .next s
  else
    let s := s.withPwr { s.pwr with pwrGood := true }
    .next (if s.pwr.perst then s else s.start o)

/-- PWR_EN_FALL (R455): PWR_EN falls, or the 54 V input is lost. -/
def execPwrEnFall (t : Nat) (lost54 : Bool) (s : State) : Host.Outcome State Fault Refusal :=
  let s := s.advance t
  let s := s.withPwr (if lost54 then { s.pwr with main54 := false } else { s.pwr with pwrEn := false })
  .next (s.when s.pwr.rails State.railsDown)

/-- PERST_N_ASSERT (R456): PERST_N, or a hot reset or link-down, which act as PERST_N. DESIGN CHOICE (assumption log 36). -/
def execPerstNAssert (t : Nat) (k : ResetKind) (s : State) : Host.Outcome State Fault Refusal :=
  let s := s.advance t
  match k with
  | .pin => .next (if s.pwr.perst then s else (s.withPwr { s.pwr with perst := true }).mainReset)
  | .inBand o => .next (if s.mainOn then s.mainReset.start o else s)

/-- PERST_N_RELEASE (R453 steps 5 to 7, R459). -/
def execPerstNRelease (t : Nat) (o : StartOps) (s : State) : Host.Outcome State Fault Refusal :=
  let s := s.advance t
  if !s.pwr.perst then .next s
  else
    let s := s.withPwr { s.pwr with perst := false }
    .next (if s.pwr.rails && s.pwr.pwrGood then s.start o else s)

/-- PE_REFCLK_LOSS (R459): the link that runs on it goes down, which acts as PERST_N. DESIGN CHOICE (assumption log 36). -/
def execPeRefclkLoss (t : Nat) (o : StartOps) (s : State) : Host.Outcome State Fault Refusal :=
  let s := s.advance t
  if !s.pwr.refclk then .next s
  else
    let down := s.mainOn && s.rd HIF_LINK_SPEED != 0
    let s := s.withPwr { s.pwr with refclk := false }
    .next (if down then s.mainReset.start { o with refclk := false } else s)

/-! The firmware's start, trial and fall-back. -/

/-- A core whose program store failed twice retires as R416 says (R356 step 4). -/
def State.storeFailed (s : State) (core : Nat) : State := (s.setHealth core { s.health core with since4 := [.core] }).markRetire core

/-- What waited for READY: module faults (R423), cores without a site (R417), rail faults (R405). -/
def State.readyFaults (s : State) : State :=
  let w := s.ctl.faultWait
  let s := forEach w (s.withCtl { s.ctl with faultWait := [] }) State.moduleFault
  let s := s.when (s.sms.health.any (·.2.unplaceable)) (·.moduleFault 1)
  let r := s.ptm.railWait
  forEach r (s.withPtm { s.ptm with railWait := [] }) fun s e => s.railFault e.1 e.2

/-- The program stores at READY (R355, R356 step 4): loaded from the image, where a second failure retires the core; or kept, and read
back where no step runs on the core. DEDUCED (assumption log 34). -/
def State.loadStores (s : State) (bad : List Nat) : State :=
  if s.ctl.stores.loaded then s.checkStores
  else
    let busy := (s.serve.launches.filter (·.inFlight)).flatMap (·.cores)
    forEach bad (s.withCtl { s.ctl with stores := ⟨true, busy, bad⟩ }) State.storeFailed

/-- STAGE becomes 3 (R356, R454): after a power-on or PERST_N with memory trained and the management controller's application
loaded, and at a fall-back with the application of the other slot (R434); the completions that waited for the end of a restart are
written (R355). DEDUCED (assumption log 34). -/
def State.becomeReady (s : State) (stores : List Nat) : State :=
  let first := !s.ctl.ready
  let s := s.wr CPX_FW_STATUS_STAGE 3
  let s := s.withCtl { s.ctl with ready := true, restarting := false }
  let s := s.withMgt { s.mgt with readyAt := s.now, app := s.mgt.app || first || s.mgt.fellBack }
  let s := s.when first fun s => (s.wr MEM_STATUS_A_UP 0xFF).wr MEM_STATUS_B_UP 0xFFFF
  let s := s.loadStores stores
  (forEach (s.hif.queues.map (·.1)) s fun s q => s.drainWaiting q).readyFaults

/-- FIRMWARE_READY (R356): a start, with its boot ROM, or a restart ends. -/
def execFirmwareReady (t : Nat) (o : ReadyOps) (s : State) : Host.Outcome State Fault Refusal :=
  let s := (s.advance t).bootRom
  if !s.mainOn || s.rd CPX_FW_STATUS_STAGE ≠ 2 then .next s
  else if o.failed then
    let s := match o.device with
      | some d => s.logEvent { EventRec.blank 0x0C 3 with detail := [d] }
      | none => s
    .next s.noSlot
  else .next (s.becomeReady o.stores)

/-- The predecessors that the running image's migration kept are released (R442, R444). -/
def State.releaseLedger (s : State) : State :=
  { s with sms := { s.sms with
      healthLedger := s.sms.healthLedger.release, wearLedger := s.sms.wearLedger.release
      ownLedger := s.sms.ownLedger.release } }

/-- TRIAL_CONFIRM (R442): READY for 60 s, within 600 s of CC0's release, without a module fault. -/
def execTrialConfirm (t : Nat) (s : State) : Host.Outcome State Fault Refusal :=
  let s := s.advance t
  let now : Int := s.now
  if !s.mgt.trial || !s.mainReady || s.bit SMS_STATUS_MODULE_FAULT || now < s.mgt.readyAt + 60000000000
      || s.mgt.bootAt + 600000000000 < now then .next s
  else
    let v := s.slot s.mgt.running
    let s := (s.setSlot s.mgt.running { v with state := .confirmed }).releaseLedger
    .next (s.withMgt { s.mgt with floor := max s.mgt.floor v.svnFloor, trial := false })

/-- The ledger at a fall-back (R444). -/
def State.fallLedger (s : State) : State :=
  let f := (s.slot s.mgt.running).formats
  if s.rd CPX_FW_STATUS_STAGE ≠ 2 then s
  else { s with sms := { s.sms with
    healthLedger := s.sms.healthLedger.fallTo s.healthPart f.health
    wearLedger := s.sms.wearLedger.fallTo s.lst.endurance f.endurance
    ownLedger := s.sms.ownLedger.fallTo () f.own } }

/-- FALLBACK (R442): the 600 s have passed; the trial slot has failed and the other slot's firmware takes over, as a firmware
restart with cause 4.  The operand names slots whose image fails R439. DEDUCED (assumption log 34). -/
def execFallback (t : Nat) (bad : List Nat) (s : State) : Host.Outcome State Fault Refusal :=
  let s := s.advance t
  if !s.mgt.trial || !s.mainOn || (s.now : Int) < s.mgt.bootAt + 600000000000 then .next s
  else
    let i := s.mgt.running
    let s := s.setSlot i { s.slot i with state := .failed }
    let s := s.withMgt { s.mgt with trial := false, fellBack := true }
    let s := s.restartNow 4
    let s := s.withCtl { s.ctl with stores := StoreSt.init }
    let s := (s.runConfirmed bad (1 - i)).fallLedger
    .next (s.mgtEvent 103 (s.rd CPX_FW_STATUS_STAGE))

/-- MC_WATCHDOG (R434, R367): the management controller is reset and returns to its standby set. -/
def execMcWatchdog (t : Nat) (s : State) : Host.Outcome State Fault Refusal :=
  let s := s.advance t
  if !s.pwr.up then .next s else .next ((s.withMgt { s.mgt with app := false }).mbxReset idMc)

end Sys2Proof.Machine
end

