-- ==== Sys2Proof/Machine/Dma.lean ====
section
/-! DEFINITION. The DMA engines (spec/14_control_and_sync.md R358, spec/01_architecture.md R16–R18), the dispatch of activations to
experts (spec/06_accumulation_and_vector.md R157) and the die-to-die bridges (spec/01_architecture.md R14), and the meanings of
their commands. -/

namespace Sys2Proof.Machine

/-- An A8 block as it lies in CST (R31): 528 bytes. -/
def A8Block.bytes (b : A8Block) : List Byte :=
  leBytes 2 (b.scale % 256 + 256 * b2n b.zero + 512 * b2n b.nan) ++ List.replicate 14 0#8
    ++ ((List.range 512).map fun i => BitVec.ofInt 8 (nth 0 b.elems i))

/-- The A8 block of 528 bytes (R31). -/
def a8OfBytes (l : List Byte) : A8Block :=
  let w := numAt l 0 2
  let zero := bitOf w 8
  ⟨w % 256, zero, bitOf w 9, (List.range 512).map fun i => if zero then 0 else sext 8 (nth 0#8 l (16 + i)).toNat⟩

/-- A digital channel as it is handed on with A8 blocks (R117): its input index and its BF16 value.
DESIGN CHOICE (assumption log 56). -/
def channelBytes (d : Nat × BF16) : List Byte := leBytes 4 d.1 ++ leBytes 2 d.2.toNat

/-- A buffer of VEC as the bytes that a DMA engine moves. DESIGN CHOICE (assumption log 56). -/
def VecBuf.stored : VecBuf → List Byte
  | .empty => []
  | .parts _ recs => (recs.map PartRec.bytes).flatten
  | .vec _ _ vals _ _ => (vals.map fun x => leBytes 4 x.toNat).flatten
  | .bf16 _ vals => (vals.map fun x => leBytes 2 x.toNat).flatten
  | .a8 _ _ bs dig => (bs.map A8Block.bytes).flatten ++ (dig.map channelBytes).flatten
  | .kv _ l => l
  | .topk _ first items m sum oob => topkBytes first items m sum oob
  | .token _ t => leBytes 4 t
  | .qrecs _ l => l.flatten
  | .rows _ _ _ _ _ _ _ => []
  | .heads _ outs => (outs.flatten.map fun x => leBytes 2 x.toNat).flatten
  | .grads _ l => l.flatten
  | .bytes l => l

/-- Bytes as a buffer of VEC; A8 blocks become an activation with the next number (R124). -/
def State.loadBuf (s : State) (core dst : Nat) (serial : Option Nat) (kind : DmaKind) (l : List Byte) : State :=
  match kind with
  | .raw => s.setBuf core dst (.bytes l)
  | .f32 => s.setBuf core dst (.vec serial 0 ((chunksOf 4 l).map fun w => BitVec.ofNat 32 (ofLeBytes w)) [] [])
  | .bf16 => s.setBuf core dst (.bf16 serial ((chunksOf 2 l).map fun w => BitVec.ofNat 16 (ofLeBytes w)))
  | .a8 n =>
    let dig := (chunksOf 6 (l.drop (528 * n))).map fun w => (numAt w 0 4, (BitVec.ofNat 16 (numAt w 4 2) : BF16))
    s.nextVector.setBuf core dst (.a8 serial (s.fab.vectors + 1) ((chunksOf 528 (l.take (528 * n))).map a8OfBytes) dig)

/-- A buffer's content goes to a place (R15, R157): another buffer of the core, a queue entry, or another module's. -/
def State.putPlace (s : State) (core : Nat) (serial : Option Nat) (place : DrainPlace) (b : VecBuf) : State :=
  match place with
  | .here (.buf n) => s.setBuf core n b
  | .here (.entry a slot) =>
    let (f, j) := s.workOn core serial
    (s.coreCst core serial a b.stored.length).putEntry a slot f j b.stored
  | .torus dst offset slot => s.sendBytes core serial dst offset slot none b.stored

/-- This module's rank in a collective (R343): its position in the block in x, then y, then z order. -/
def State.rank (s : State) : Nat :=
  let at_ (axis : Nat) : Nat := s.blockCoord s.moduleNum axis
  at_ 0 + s.blockExt 0 * (at_ 1 + s.blockExt 1 * at_ 2)

/-- A row of the embedding region is read from tier A into a queue entry for a core (R13, R214): that of the step's generation. -/
def State.embeddingRow (s : State) (core : Nat) (serial : Option Nat) (row len addr slot : Nat) : State :=
  let half := if s.lst.current.map (·.2) = some (s.genOf core serial) then s.lst.embHalf else 1 - s.lst.embHalf
  let a := s.embBase half + row * len
  let w := s.coreWork core serial
  let l := s.readBytes .tierA a len
  let (f, j) := s.workOn core serial
  let s := ((s.useTier false w.1 w.2 a len).chargeTier f false len).useCst whoMem w.1 w.2 addr len
  s.putEntry addr slot f j l

/-- The keys or values of one head and position are written to their page (R186): 128 FP8 bytes, or four K4 blocks of 16 bytes, each
with its scale byte. -/
def State.writeHead (s : State) (kvFmt : Nat) (c : Column) (e pos : Nat) (value : Bool) (l : List Byte) : State :=
  let at_ := c.kvAt kvFmt e pos value
  if kvFmt = 0 then s.writeBytes c.space at_.1 (l.take 128)
  else
    let blocks := chunksOf 17 l
    let s := s.writeBytes c.space at_.1 (blocks.map (·.take 16)).flatten
    s.writeBytes c.space at_.2 (blocks.map fun b => nth 0#8 b 16)

/-- KVM writes the keys or values of a position of a sequence into its pages (R20, R186, R191): of a position that the sequence's step
writes, one head after the other. -/
def State.writeKv (s : State) (core src pt layer kvHeads kvHead pos : Nat) (value : Bool) : State :=
  match s.buf core src, s.sess pt with
  | .kv serial l, some x =>
    match s.workLaunch core serial, x.columnAt pos with
    | some w, some c =>
      if !(w.entries.any fun e => e.session == x.num && x.queue.any fun r => r.serial == e.serial && stepWrites x r e pos) then s
      else
        let heads := chunksOf (if x.kvFmt = 0 then 128 else 68) l
        let e := layer * kvHeads + kvHead
        let s := forEach heads.zipIdx s fun s h => s.writeHead x.kvFmt c (e + h.2) pos value h.1
        let prio := s.prioOf serial
        let s := forEach heads.zipIdx s fun s h => s.useTier c.tierB w.fn prio (c.kvAt x.kvFmt (e + h.2) pos value).1 h.1.length
        (s.stage whoMem w.fn prio l.length).chargeTier w.fn c.tierB l.length
    | _, _ => s
  | _, _ => s

/-- A DMA entry's move (R358). -/
def State.dma (s : State) (core : Nat) (serial : Option Nat) (o : DmaOp) : State :=
  match o with
  | .load addr len dst kind => (s.coreCst core serial addr len).loadBuf core dst serial kind (s.readBytes .cst addr len)
  | .store src addr =>
    let l := (s.buf core src).stored
    (s.coreCst core serial addr l.length).writeBytes .cst addr l
  | .readEntry addr slot dst kind =>
    match s.reach core addr slot with
    | (false, s) => s
    | (true, s) =>
      (s.takeEntry core serial addr).loadBuf core dst serial kind (s.entry addr).bytes
  | .writeEntry src place => s.putPlace core serial place (s.buf core src)
  | .collective src dst coll offset slot => s.sendBytes core serial dst offset slot (some (coll, s.rank)) (s.buf core src).stored
  | .embedding row len addr slot => s.embeddingRow core serial row len addr slot
  | .writeKv src pt layer kvHeads kvHead pos value => s.writeKv core src pt layer kvHeads kvHead pos value

/-- DMA (R358, R375, R382): an uncorrectable error in what it reads stops the move and faults the job. -/
def execDma (t core : Nat) (serial : Option Nat) (o : DmaOp) (errs : List MemErr) (s : State) : Host.Outcome State Fault Refusal :=
  let (ok, s) := (s.advance t).coreErrors core errs
  .next (if ok then s.dma core serial o else s)

/-- EXPERT_DISPATCH (R15, R157): the token's activation, quantised once, goes with its digital channels to the place of each expert
that the router's list selects, and to no other. DEDUCED (assumption log 41). -/
def execExpertDispatch (t core src router : Nat) (places : List (Nat × DrainPlace)) (s : State) :
    Host.Outcome State Fault Refusal :=
  let s := s.advance t
  match s.buf core src, s.buf core router with
  | .a8 serial num bs dig, .topk _ _ items _ _ _ =>
    let sel := (sortBy (·.1) places).filter fun p => p.1 != 0xFFFFFFFF && items.any (·.1 == p.1)
    .next (forEach sel s fun s p => s.putPlace core serial p.2 (.a8 serial num bs dig))
  | _, _ => .next s

/-- Every job with a core on a die faults (R14, R462): each ends at the end of its step. -/
def State.faultDie (s : State) (die replays : Nat) : State :=
  let rec_ := { EventRec.blank 0x07 1 with detail := [die, replays] }
  let on (c : Nat) : Bool := decide (c < 512) && c / 256 == die
  let hit := s.serve.jobs.filter fun j => (s.jobCores j).any on
    || s.serve.launches.any fun l => l.fn == j.fn && l.job == j.num && l.cores.any on
  let s := s.logEvent { rec_ with class_ := 0 }
  forEach hit s fun s j =>
    let step := (s.serve.launches.find? fun l => l.inFlight && l.fn == j.fn && l.job == j.num).map (·.id)
    s.faultJob j.fn j.num step rec_

/-- BRIDGE_FLIT_RECEIVE (R14): a flit that fails its CRC is replayed; the eighth replay of one flit that fails takes the bridge down.  `up` is the
direction, towards the array die or from it: each has a flit of its own in transit. -/
def execBridgeFlitReceive (t die : Nat) (up bad : Bool) (s : State) : Host.Outcome State Fault Refusal :=
  let s := s.advance t
  if 2 ≤ die || SMap.get false s.lnk.bridgeDown die then .next s
  else
    let k := 2 * die + b2n up
    let n := SMap.get 0 s.lnk.bridgeReplays k
    if !bad then .next (s.withLnk { s.lnk with bridgeReplays := SMap.put 0 s.lnk.bridgeReplays k 0 })
    else if n < 8 then .next (s.withLnk { s.lnk with bridgeReplays := SMap.put 0 s.lnk.bridgeReplays k (n + 1) })
    else
      let s := s.withLnk { s.lnk with
        bridgeReplays := SMap.put 0 (SMap.put 0 s.lnk.bridgeReplays (2 * die) 0) (2 * die + 1) 0
        bridgeDown := SMap.put false s.lnk.bridgeDown die true }
      .next (s.faultDie die 8)

/-- BRIDGE_RETRAIN (R14): the bridge works again; its die takes work from the next job start. -/
def execBridgeRetrain (t die : Nat) (s : State) : Host.Outcome State Fault Refusal :=
  let s := s.advance t
  if 2 ≤ die then .next s
  else .next (s.withLnk { s.lnk with bridgeDown := SMap.put false s.lnk.bridgeDown die false })

end Sys2Proof.Machine
end

