-- ==== Sys2Proof/Machine/Host.lean ====
section
/-! DEFINITION. Queues, doorbells, MSI-X masks, virtual functions and function-level resets
(spec/12_host_interface.md R302–R328), and the meanings of their commands. -/

namespace Sys2Proof.Machine

/-- The queue belongs to a function that may write it now (R309, R326, R328, R454). -/
def State.ownsQueue (s : State) (fn q : Nat) : Bool :=
  decide (q < 256) && s.ctl.ready && s.bit HIF_Q_STATUS_ASSIGNED q && s.owner q == fn && !s.resetting fn

/-- A function that is there and whose accesses act (R303, R326, R454). DEDUCED (assumption log 20). -/
def State.fnWrites (s : State) (fn : Nat) : Bool := s.ctl.ready && s.fnExists fn && !s.resetting fn

/-- The main domain answers configuration accesses (R453). -/
def State.configOn (s : State) : Bool := s.pwr.rails && s.pwr.pwrGood && !s.pwr.perst

/-! Doorbells (R312). -/

/-- The three doorbells of a page (R312). -/
inductive Bell where
  | sqTail | cqHead | tqHead
deriving DecidableEq, Repr

/-- The index a doorbell moves. -/
def QueueSt.bell (Q : QueueSt) : Bell → Nat
  | .sqTail => Q.sqTail
  | .cqHead => Q.cqHead
  | .tqHead => Q.tqHead

/-- A queue whose doorbell index has moved. -/
def QueueSt.ring (Q : QueueSt) (b : Bell) (x : Nat) : QueueSt :=
  match b with
  | .sqTail => { Q with sqTail := x }
  | .cqHead => { Q with cqHead := x }
  | .tqHead => { Q with tqHead := x }

/-- The two conditions of R312 on a doorbell value. DEDUCED (assumption log 31). -/
def State.bellOk (s : State) (q : Nat) (b : Bell) (x : Nat) : Bool :=
  let Q := s.queue q
  let head (tail size : Nat) : Bool :=
    decide (occupancy tail x ≤ 2 ^ size) && decide (occupancy x (Q.bell b) ≤ occupancy tail (Q.bell b))
  decide (occupancy x (Q.bell b) < 2 ^ 31) &&
    match b with
    | .sqTail => decide (occupancy x Q.sqHead ≤ 2 ^ s.rd HIF_Q_SIZE_SQ_LOG2 q)
    | .cqHead => head Q.cqTail (s.rd HIF_Q_SIZE_CQ_LOG2 q)
    | .tqHead => head Q.tqTail (s.rd HIF_Q_SIZE_TQ_LOG2 q)

/-- A doorbell that R312 refuses. -/
def State.bellRefused (s : State) (q : Nat) : State :=
  ((s.setBit HIF_Q_STATUS_DB_ERR q).count HIF_DB_ERR_CNT_COUNT).hifEvent (s.owner q)

/-- A doorbell is written by a function (R312): ignored for a queue of another function, in DISABLED or ERROR, while the
function is reset, and while the firmware is not READY (R454); a repeated value does nothing; an accepted tail brings the module back from MP1 (R404), and an accepted token head
makes room (R315). DEDUCED (assumption log 31). -/
def State.doorbell (s : State) (fn q : Nat) (b : Bell) (x : Nat) : State :=
  let st := s.rd HIF_Q_STATUS_STATE q
  let x := x % 2 ^ 32
  if !s.ownsQueue fn q || !(st == 1 || st == 2) || s.rd CPX_FW_STATUS_STAGE ≠ 3 then s
  else if !s.bellOk q b x then s.bellRefused q
  else if x = (s.queue q).bell b then s
  else
    let s := s.setQueue q ((s.queue q).ring b x)
    match b with
    | .sqTail => s.leaveMp1
    | .cqHead => s
    | .tqHead => s.drainWaiting q

/-- SQ_TAIL (R312). -/
def execSqTail (t fn q x : Nat) (s : State) : Host.Outcome State Fault Refusal := .next ((s.advance t).doorbell fn q .sqTail x)

/-- CQ_HEAD (R312). -/
def execCqHead (t fn q x : Nat) (s : State) : Host.Outcome State Fault Refusal := .next ((s.advance t).doorbell fn q .cqHead x)

/-- TQ_HEAD (R312, R315). -/
def execTqHead (t fn q x : Nat) (s : State) : Host.Outcome State Fault Refusal := .next ((s.advance t).doorbell fn q .tqHead x)

/-! Queues (R309, R310, R316). -/

/-- R310: every ring size lies in 6 to 16. -/
def State.ringSizesOk (s : State) (q : Nat) : Bool :=
  [HIF_Q_SIZE_SQ_LOG2, HIF_Q_SIZE_CQ_LOG2, HIF_Q_SIZE_TQ_LOG2].all fun f =>
    decide (6 ≤ s.rd f q) && decide (s.rd f q ≤ 16)

/-- EN = 1 is written (R316): it acts on a DISABLED queue only. -/
def State.queueEnable (s : State) (q : Nat) : State :=
  if s.rd HIF_Q_STATUS_STATE q ≠ 0 then s
  else if !s.ringSizesOk q then s.setBit HIF_Q_STATUS_CFG_ERR q
  else ((s.setQueue q QueueSt.init).wr HIF_Q_STATUS_STATE 1 q).setBit HIF_Q_CTRL_EN q

/-- EN = 0 is written (R316, R325): a queue in ACTIVE or ERROR drains. -/
def State.queueDisable (s : State) (q : Nat) : State :=
  let st := s.rd HIF_Q_STATUS_STATE q
  if st == 1 || st == 3 then (s.wr HIF_Q_STATUS_STATE 2 q).wr HIF_Q_CTRL_EN 0 q else s

/-- HIF_Q_ENABLE (R316). -/
def execHifQEnable (t fn q : Nat) (s : State) : Host.Outcome State Fault Refusal :=
  let s := s.advance t
  .next (s.when (s.ownsQueue fn q) (·.queueEnable q))

/-- HIF_Q_DISABLE (R316). -/
def execHifQDisable (t fn q : Nat) (s : State) : Host.Outcome State Fault Refusal :=
  let s := s.advance t
  .next (s.when (s.ownsQueue fn q) (·.queueDisable q))

/-- A DRAINING queue has written its last completion entry and token record (R316). -/
def State.drained (s : State) (q : Nat) : Bool :=
  let Q := s.queue q
  s.rd HIF_Q_STATUS_STATE q == 2 && Q.open_.isEmpty && Q.waiting.isEmpty && Q.fences.isEmpty

/-- QUEUE_DRAINED (R316). -/
def execQueueDrained (t q : Nat) (s : State) : Host.Outcome State Fault Refusal :=
  let s := s.advance t
  .next (s.when (s.drained q) (·.wr HIF_Q_STATUS_STATE 0 q))

/-- The queues of a function (R309). -/
def State.queuesOf (s : State) (f : Nat) : List Nat := natsFrom (s.rd HIF_FN_QUEUES_FIRST f) (s.rd HIF_FN_QUEUES_COUNT f)

/-- R309: a range that a function may be given. -/
def State.rangeOk (s : State) (f first count : Nat) : Bool :=
  let new := natsFrom first count
  decide (first + count ≤ 256) && decide (count ≤ if f = 0 then 256 else 16)
    && (s.queuesOf f ++ new).all (fun q => s.rd HIF_Q_STATUS_STATE q == 0)
    && new.all (fun q => !s.bit HIF_Q_STATUS_ASSIGNED q || s.owner q == f)

/-- HIF_FN_QUEUES is written (R309): the word gives FIRST and COUNT for the function that HIF_FN_SEL names; bit 31 clears
ERR. -/
def State.writeFnQueues (s : State) (v : Nat) : State :=
  let f := s.rd HIF_FN_SEL_FN
  let first := bitsOf v 0 8
  let count := bitsOf v 8 9
  let s := s.when (bitOf v 31) (·.wr HIF_FN_QUEUES_ERR 0 f)
  if !s.rangeOk f first count then s.setBit HIF_FN_QUEUES_ERR f
  else
    let s := forEach (s.queuesOf f) s fun s q => (s.wr HIF_Q_STATUS_ASSIGNED 0 q).wr HIF_Q_STATUS_OWNER 0 q
    let s := forEach (natsFrom first count) s fun s q => (s.setBit HIF_Q_STATUS_ASSIGNED q).wr HIF_Q_STATUS_OWNER f q
    (s.wr HIF_FN_QUEUES_FIRST first f).wr HIF_FN_QUEUES_COUNT count f

/-- HIF_FN_QUEUES (R309). -/
def execHifFnQueues (t fn v : Nat) (s : State) : Host.Outcome State Fault Refusal :=
  let s := s.advance t
  .next (s.when (s.accepts fn) (·.writeFnQueues v))

/-! Signals (R317, R318). -/

/-- A ring's moderation is met (R318): by its count, or by TIME ticks of 1 µs since the first unsignalled entry. -/
def State.signalDue (s : State) (q : Nat) (tok : Bool) : Bool :=
  let Q := s.queue q
  let n := if tok then Q.tqNew else Q.cqNew
  let since := if tok then Q.tqSince else Q.cqSince
  decide (0 < n) && (decide (max (s.rd HIF_Q_MOD_CNT q) 1 ≤ n) || decide (since + s.rd HIF_Q_MOD_TIME q * 1000 ≤ s.now))

/-- RING_SIGNAL (R318): in a serving reset only a completion ring is signalled (R322, step 1). -/
def execRingSignal (t q : Nat) (tok : Bool) (s : State) : Host.Outcome State Fault Refusal :=
  let s := s.advance t
  let f := s.owner q
  .next (s.when (s.signalDue q tok && s.hostOn f && !(tok && s.resetting f)) fun s => (s.statusWrite q).ringSignal q tok)

/-- Pending messages whose vector is no longer masked are sent (R317), in vector order; not in D3hot (R326). -/
def State.msixFlush (s : State) (f : Nat) : State :=
  let F := s.fn f
  if !s.hostOn f || !F.msixEnable || F.fnMask || F.d3 then s
  else
    forEach (List.range 64) s fun s v =>
      let e := s.vec f v
      if e.pending && !e.masked then (s.setVec f v { e with pending := false }).post (.msix f v e.addr e.data) else s

/-- The mask of a vector or Message Control is written (R317). DEDUCED (assumption log 31). -/
def State.msixMask (s : State) (f : Nat) : MsixOp → State
  | .vector v m => if 64 ≤ v then s else (s.setVec f v { s.vec f v with masked := m }).msixFlush f
  | .control en m => (s.setFn f { s.fn f with msixEnable := en, fnMask := m }).msixFlush f

/-- MSIX_UNMASK (R317): the host writes a vector's mask in BAR0 (R454), or the Enable and Function Mask bits of Message Control
in configuration space (R453). -/
def execMsixUnmask (t fn : Nat) (op : MsixOp) (s : State) : Host.Outcome State Fault Refusal :=
  let s := s.advance t
  let acts := match op with
    | .vector _ _ => s.fnWrites fn
    | .control _ _ => s.configOn && s.fnExists fn && !s.resetting fn
  .next (s.when acts (·.msixMask fn op))

/-! Function-level reset (R321–R324). -/

/-- Step 2 of R322 for one session: its clones and requests end with FUNCTION_RESET, in acceptance order; its pages stay
until step 5. DEDUCED (assumption log 29). -/
def State.resetSession (s : State) (num : Nat) : State :=
  let s := s.abortClones num .functionReset
  match s.sess num with
  | none => s
  | some x =>
    let s := s.setSess { x with columns := [] }
    let s := forEach x.queue s fun s r => s.endReq num r .functionReset s.now 0
    let s := match x.closing with
      | some (some (n, q, tag)) =>
        s.complete q n ⟨tag, Status.code .functionReset, Op.code .close, 0, x.handle, s.now, x.committed, 0⟩
      | _ => s
    match s.sess num with
    | none => s
    | some y => s.setSess { y with columns := x.columns, closing := y.closing.map fun _ => none }

/-- Step 2 of R322 for a queue: token records that wait for room are dropped (R326), and its fences end with
FUNCTION_RESET. -/
def State.resetQueue (s : State) (q : Nat) : State :=
  let Q := s.queue q
  let fences := Q.fences
  let keep := Q.waiting.filter fun w => match w with | .token _ _ => false | .completion _ _ => true
  let s := (s.setQueue q { Q with fences := [], waiting := keep }).drainWaiting q
  forEach fences s fun s e =>
    s.complete q e.1 ⟨e.2, Status.code .functionReset, Op.code .fence, 0, 0, s.now, 0, 0⟩

/-- Step 2 of R322 for the weight and object requests of a function: loads stop, and the requests of an unload, a bind or a
swap end, whose work goes on. -/
def State.resetObjects (s : State) (f : Nat) : State :=
  let mine (o : Owner) : Bool := o.fn == f
  let s := forEach s.lst.loads s fun s n =>
    match (s.obj n).loading with
    | some l => if mine l.owner then s.loadEmpty n .functionReset else s
    | none => s
  let s := forEach s.lst.adapters s fun s a =>
    match a.unload with
    | some (some w) =>
      if mine w then
        let same (b : AdapterSt) : Bool := b.fn == a.fn && b.num == a.num
        let s := s.withLst { s.lst with adapters := updFirst same (fun b => { b with unload := some none }) s.lst.adapters }
        s.answerOwner w .adapterLoad .functionReset s.now 0
      else s
    | _ => s
  let s := match s.lst.bind with
    | none => s
    | some b =>
      match b.owner with
      | some w => if mine w then
          (s.withLst { s.lst with bind := some { b with owner := none } }).answerOwner w .bindWeights .functionReset s.now 0 else s
      | none => s
  match s.lst.swap with
  | none => s
  | some w =>
    match w.owner with
    | some o => if mine o then
        (s.withLst { s.lst with swap := some { w with owner := none } }).answerOwner o .swapWeights .functionReset s.now 0 else s
    | none => s

/-- A sequence of R322 starts: steps 1 to 4. -/
def State.beginReset (s : State) (f : Nat) (serving : Bool) : State :=
  let s := s.setFn f { s.fn f with reset := some (s.now, serving), emptied := false, credit := 0 }
  let s := (s.count HIF_FLR_CNT_COUNT).count HIF_FN_STATE_RESETS 1 f
  let s := s.unplan fun l => l.fn == f
  let s := s.setLaunches (s.serve.launches.map fun l => if l.fn = f then { l with dropped := true } else l)
  let s := forEach (s.queuesOf f) s State.resetQueue
  let nums := (s.serve.sessions.filter fun x => x.fn == f && x.cloneOf.isNone).map (·.num)
  (forEach nums s State.resetSession).resetObjects f

/-- A function-level or serving reset of a function is asked for (R321): ignored while one runs, and for a function that does
not exist. DEDUCED (assumption log 32). -/
def State.startReset (s : State) (f : Nat) (serving : Bool) : State :=
  if !s.fnExists f || s.resetting f then s else (s.beginReset f serving).mbxReset f

/-- Step 5 of R322: KVM closes every session of the function (R201). -/
def State.closeSessions (s : State) (f : Nat) : State :=
  let nums := (s.serve.sessions.filter fun x => x.fn == f).map (·.num)
  forEach nums s fun s num =>
    let s := (s.abortClones num .functionReset).stopMoves num
    match s.sess num with
    | none => s
    | some x => (s.setSess { x with closing := some none }).finishClose num

/-- An object slot is emptied with what it was loaded for. -/
def State.emptySlotOf (s : State) (n : Nat) : State :=
  let s := s.setObj n ObjSlot.init
  s.withLst { s.lst with loads := s.lst.loads.filter (· != n) }

/-- The slots that LST holds for a function. -/
def State.slotsOf (s : State) (f : Nat) : List Nat :=
  (List.range 64).filter fun n => (s.obj n).state != .empty && (s.obj n).fn == f

/-- Step 6 of R322: the function's adapters are unloaded and its slots emptied; CURRENT, OLD and the slot of a bind or swap
are kept unless `all`. -/
def State.emptyObjects (s : State) (f : Nat) (all : Bool) : State :=
  let s := s.withLst { s.lst with adapters := s.lst.adapters.filter (·.fn != f) }
  let kept (n : Nat) : Bool := !all && ((s.obj n).state == .current || (s.obj n).state == .old || s.objBusy n)
  forEach ((s.slotsOf f).filter (!kept ·)) s State.emptySlotOf

/-- The registers of one queue block that return to reset (R322 step 7): the assignment is kept (R323). -/
def queueFields : List Fld := [HIF_Q_CTRL_EN, HIF_Q_SIZE_SQ_LOG2, HIF_Q_SIZE_CQ_LOG2, HIF_Q_SIZE_TQ_LOG2,
  HIF_Q_SQ_BASE_ADDR, HIF_Q_CQ_BASE_ADDR, HIF_Q_TQ_BASE_ADDR, HIF_Q_STAT_ADDR_ADDR, HIF_Q_VEC_CQ_VEC, HIF_Q_VEC_CQ_EN,
  HIF_Q_VEC_TQ_VEC, HIF_Q_VEC_TQ_EN, HIF_Q_MOD_CNT, HIF_Q_MOD_TIME, HIF_Q_STATUS_STATE, HIF_Q_STATUS_DB_ERR,
  HIF_Q_STATUS_FETCH_ERR, HIF_Q_STATUS_CFG_ERR]

/-- Step 7 of R322: vectors and queues at reset. -/
def State.resetVectors (s : State) (f : Nat) : State :=
  let msix := SMap.dropIf (fun k _ => k / 64 == f) s.hif.msix
  let s := s.withHif { s.hif with msix := msix }
  let s := s.setFn f { s.fn f with msixEnable := false, fnMask := false, d3 := false }
  let s := [HIF_VF_EVT_VEC_MBX_VEC, HIF_VF_EVT_VEC_MBX_EN, HIF_VF_EVT_VEC_HIF_VEC, HIF_VF_EVT_VEC_HIF_EN].foldl
    (fun s r => s.wr r r.reset f) s
  forEach (s.queuesOf f) s fun s q => queueFields.foldl (fun s r => s.wr r r.reset q) (s.setQueue q QueueSt.init)

/-- Steps 5 and 6 of R322, from 1 ms to 90 ms after the start: the function's sessions are closed and its objects emptied, once. -/
def State.emptyFn (s : State) (f : Nat) : State :=
  match (s.fn f).reset with
  | none => s
  | some (start, serving) =>
    if (s.fn f).emptied || s.now < start + 1000000 then s
    else
      let s := (s.closeSessions f).emptyObjects f (!(serving && f == 0))
      s.setFn f { s.fn f with emptied := true }

/-- Steps 5 and 6 for every function that is reset: at a boundary of the wheel, or at the latest 90 ms after the start.
DESIGN CHOICE (assumption log 32). -/
def State.emptyFns (s : State) : State := forEach ((List.range 32).filter s.resetting) s State.emptyFn

/-- Steps 7 and 8 of R322. -/
def State.finishReset (s : State) (f : Nat) : State :=
  match (s.fn f).reset with
  | none => s
  | some (_, serving) =>
    let s := s.emptyFn f
    let s := if serving then s else s.resetVectors f
    s.setFn f { s.fn f with reset := none, emptied := false }

/-- Transactions Pending of a function's configuration space (R322): it clears with the end of the sequence.  A read of the host is answered
within its command, so that none stands outside a sequence. DEDUCED (assumption log 32). -/
def State.transactionsPending (s : State) (f : Nat) : Bool := s.resetting f

/-- A key of the register map lies in the HIF block or the virtual functions' window. -/
def isHifKey (k : Nat) : Bool := decide (k / 64 % 2 ^ 26 < 0x100000)

/-- R324 beyond R322: every HIF register at its reset value, no generation current, a bind or swap stopped.  The link's own
state (HIF_LINK) is not changed by a function-level reset. DEDUCED (assumption log 32). -/
def State.pfReset (s : State) : State :=
  let link := (s.rd HIF_LINK_SPEED, s.rd HIF_LINK_WIDTH, s.rd HIF_LINK_FLIT)
  let other (w : ShWrite) : Bool := w.blk != Blk.hif
  let s := { s with
    regs := SMap.dropIf (fun k _ => isHifKey k) s.regs
    shadow := s.shadow.filter other
    commits := s.commits.map fun (c : Nat × List ShWrite) => (c.1, c.2.filter other) }
  let s := ((s.wr HIF_LINK_SPEED link.1).wr HIF_LINK_WIDTH link.2.1).wr HIF_LINK_FLIT link.2.2
  let s := s.withHif { s.hif with queues := [], fns := [], msix := [], numVfs := 0, visit := 0, visited := 0 }
  s.withLst { s.lst with bind := none, swap := none, current := none, lehrPaused := false }

/-- The end of a sequence (R322), no earlier than 95 ms after its start; for the physical function's FLR every function ends
with it, and R324 follows. DEDUCED (assumption log 29), DEDUCED (assumption log 32). -/
def State.resetReady (s : State) (f : Nat) : State :=
  match (s.fn f).reset with
  | none => s
  | some (start, _) =>
    let s := (s.advance (start + 90000000)).emptyFns
    let s := s.advance (start + 95000000)
    if (s.fn f).pfFlr then (forEach (List.range 32) s State.finishReset).pfReset else s.finishReset f

/-- The virtual functions cease to exist, each reset (R321). DEDUCED (assumption log 32). -/
def State.clearVfs (s : State) : State :=
  let s := forEach ((List.range 32).filter (· != 0)) s fun s v => s.startReset v false
  s.withHif { s.hif with vfEnable := false }

/-- An FLR of the physical function (R324): VF Enable clears and every function runs the sequence together, so that none is told of the others'
resets; a sequence that runs already continues within it (R326). -/
def State.startPfFlr (s : State) : State :=
  if (s.fn 0).pfFlr then s
  else
    let s := if s.resetting 0 then s else s.beginReset 0 false
    let s := s.clearVfs
    let s := forEach ((List.range 32).filter s.resetting) s fun s f => s.setFn f { s.fn f with reset := some (s.now, false) }
    (s.setFn 0 { s.fn 0 with pfFlr := true }).mbxResetHost

/-- VF_FLR (R321). -/
def execVfFlr (t fn : Nat) (s : State) : Host.Outcome State Fault Refusal :=
  let s := s.advance t
  .next (s.when (s.configOn && fn != 0) (·.startReset fn false))

/-- FUNCTION_RESET_READY (R322): the sequence of a function ends. -/
def execFunctionResetReady (t fn : Nat) (s : State) : Host.Outcome State Fault Refusal := .next ((s.advance t).resetReady fn)

/-- HIF_FN_RESET is written with GO (R321): it names the function of HIF_FN_SEL and is ignored for function 0. -/
def State.writeFnReset (s : State) (keep : Bool) : State :=
  let f := s.rd HIF_FN_SEL_FN
  if f = 0 then s else s.startReset f keep

/-- HIF_FN_RESET_FLR (R321): GO = 1 with KEEP = 0. -/
def execHifFnResetFlr (t fn : Nat) (s : State) : Host.Outcome State Fault Refusal :=
  let s := s.advance t
  .next (s.when (s.accepts fn) (·.writeFnReset false))

/-- HIF_FN_RESET_SERVE (R321): GO = 1 with KEEP = 1. -/
def execHifFnResetServe (t fn : Nat) (s : State) : Host.Outcome State Fault Refusal :=
  let s := s.advance t
  .next (s.when (s.accepts fn) (·.writeFnReset true))

/-- HIF_CTRL_SERVE_RESET (R321). -/
def execHifCtrlServeReset (t fn : Nat) (s : State) : Host.Outcome State Fault Refusal :=
  let s := s.advance t
  .next (s.when (s.accepts fn) (·.startReset 0 true))

/-- HIF_VF_CTRL_SERVE_RESET (R321): a virtual function resets itself. -/
def execHifVfCtrlServeReset (t fn : Nat) (s : State) : Host.Outcome State Fault Refusal :=
  let s := s.advance t
  .next (s.when (fn != 0 && s.fnWrites fn) (·.startReset fn true))

/-- VF_ENABLE_CLEAR (R321). -/
def execVfEnableClear (t : Nat) (s : State) : Host.Outcome State Fault Refusal :=
  let s := s.advance t
  .next (s.when (s.configOn && s.hif.vfEnable) State.clearVfs)

/-- VF_ENABLE_SET (R302): NumVFs, VF Enable = 1 and the ARI Capable Hierarchy bit as the host has set them.
DEDUCED (assumption log 32). -/
def execVfEnableSet (t numVfs : Nat) (ari : Bool) (s : State) : Host.Outcome State Fault Refusal :=
  let s := s.advance t
  if !s.configOn || s.hif.vfEnable || decide (totalVfs < numVfs) || (!ari && decide (7 < numVfs)) then .next s
  else .next (s.withHif { s.hif with vfEnable := true, numVfs := numVfs, ariHier := ari })

/-- PF_FLR (R324). -/
def execPfFlr (t : Nat) (s : State) : Host.Outcome State Fault Refusal :=
  let s := s.advance t
  .next (s.when s.configOn State.startPfFlr)

/-- FUNCTION_POWER_STATE (R326): D3hot stops fetching and signals; back in D0 the pending ones are sent. -/
def execFunctionPowerState (t fn : Nat) (d3 : Bool) (s : State) : Host.Outcome State Fault Refusal :=
  let s := s.advance t
  .next (s.when (s.configOn && s.fnExists fn && !s.resetting fn) fun s => (s.setFn fn { s.fn fn with d3 := d3 }).msixFlush fn)

/-! Errors (R325). -/

/-- The fetch of an entry fails (R325). -/
def State.fetchError (s : State) (q : Nat) : State :=
  if s.rd HIF_Q_STATUS_STATE q ≠ 1 then s
  else (((s.wr HIF_Q_STATUS_STATE 3 q).setBit HIF_Q_STATUS_FETCH_ERR q).count HIF_FETCH_ERR_CNT_COUNT).hifEvent (s.owner q)

/-- The read of a request's buffer fails (R294, R325): the request, accepted and about to be admitted, ends with ABORTED. -/
def State.bufferError (s : State) (f h : Nat) : Option State :=
  match s.openSess f h with
  | none => none
  | some x =>
    match x.queue with
    | r :: _ =>
      let reads := match r.ops with | .prompt _ _ => true | .tune _ => true | _ => false
      if reads && r.phase == .accepted then some (s.endReq x.num r .aborted s.now 0) else none
    | [] => none

/-- COMPLETION_TIMEOUT (R325). -/
def execCompletionTimeout (t : Nat) (r : TimedRead) (s : State) : Host.Outcome State Fault Refusal :=
  let s := s.advance t
  match r with
  | .fetch q =>
    if s.rd HIF_Q_STATUS_STATE q ≠ 1 || !s.hostOn (s.owner q) then .next s
    else .next (((s.fetchError q).count HIF_CPL_TIMEOUT_CNT_COUNT).aer (s.owner q) "Completion Timeout")
  | .buffer f h =>
    match s.bufferError f h with
    | none => .next s
    | some s => .next ((s.count HIF_CPL_TIMEOUT_CNT_COUNT).aer f "Completion Timeout")

/-- HIF_UNCORRECTABLE (R325): host writes and fetching stop; the outputs of the steps in flight are dropped. -/
def execHifUncorrectable (t buffer : Nat) (s : State) : Host.Outcome State Fault Refusal :=
  let s := s.advance t
  let s := (s.withHif { s.hif with stopped := true }).aer 0 "Uncorrectable Internal Error"
  let s := s.setLaunches (s.serve.launches.map fun l => if l.inFlight then { l with dropped := true } else l)
  .next (s.logEvent { EventRec.blank 0x1D 3 with detail := [buffer] })

end Sys2Proof.Machine
end

