-- ==== Sys2Proof/Machine/Entries.lean ====
section
/-! DEFINITION. The layouts of submission entries (spec/11_serving.md R269–R275), their fetch (spec/12_host_interface.md
R313), and the meanings of the submission opcodes and of the serving loop's own steps. -/

namespace Sys2Proof.Machine

/-- Bits [lo, lo + w) of an entry. DESIGN CHOICE (assumption log 5). -/
def Entry512.field (e : Entry512) (lo w : Nat) : Nat := bitsOf e.toNat lo w

/-- The bit ranges that an opcode gives a meaning, as lowest bit and width (R269, R270, R272–R275); all others are RSV. -/
def entryFields (code : Nat) : List (Nat × Nat) :=
  let handle : Nat × Nat := (64, 64)
  let adapter : Nat × Nat := (16, 6)
  let sample : Nat × Nat := (160, 96)
  let rest : List (Nat × Nat) :=
    match code with
    | 0x01 => [handle, (8, 3), (128, 16), (144, 3)]
    | 0x02 | 0x04 => [handle, adapter, (8, 1), (128, 32), sample, (256, 64)]
    | 0x03 => [handle, adapter, (8, 1), (128, 24), sample, (256, 24), (288, 24), (320, 64), (384, 64), (448, 32), (480, 32)]
    | 0x05 => [handle, (128, 64)]
    | 0x06 | 0x09 => [handle]
    | 0x07 => [handle, (128, 64), (192, 4)]
    | 0x08 => [handle, (128, 32)]
    | 0x10 | 0x11 => [(128, 6), (144, 16)]
    | 0x12 => [(128, 6), (136, 1), (144, 6), (160, 32), (192, 64), (256, 64)]
    | 0x13 => [adapter, (128, 8)]
    | 0x14 => [handle, adapter, (8, 2), (128, 32), (160, 16), (192, 32), (256, 64), (320, 64)]
    | _ => []
  (0, 8) :: (32, 32) :: rest

/-- Every RSV bit of an entry is zero (check 2 of R271). -/
def entryRsvZero (e : Entry512) : Bool :=
  (entryFields (Entry512.field e 0 8)).foldl (fun n f => n - bitsOf n f.1 f.2 * 2 ^ f.1) e.toNat == 0

/-- The header of an entry read from a queue (R269). -/
def entryHeader (fn q : Nat) (e : Entry512) : EntryHdr where
  fn := fn
  queue := q
  flags := Entry512.field e 8 8
  adapter := Entry512.field e 16 6
  tag := Entry512.field e 32 32
  handle := Entry512.field e 64 64
  rsvZero := entryRsvZero e

/-- The sampling block of an entry (R273). -/
def entrySample (e : Entry512) : SampleBlock where
  k := Entry512.field e 160 8
  draw := Entry512.field e 168 8
  temp := BitVec.ofNat 16 (Entry512.field e 176 16)
  topP := BitVec.ofNat 16 (Entry512.field e 192 16)
  minP := BitVec.ofNat 16 (Entry512.field e 208 16)
  seed := Entry512.field e 224 32

/-- PREFILL's and APPEND's operands (R273). -/
def entryPrompt (e : Entry512) : PromptOps := ⟨entrySample e, Entry512.field e 128 32, Entry512.field e 256 64⟩

/-- GENERATE's operands (R274). -/
def entryGenerate (e : Entry512) : GenerateOps where
  sample := entrySample e
  maxTokens := Entry512.field e 128 21
  draftMax := Entry512.field e 149 3
  stop0 := Entry512.field e 256 24
  stop1 := Entry512.field e 288 24
  notBefore := Entry512.field e 320 64
  firstDue := Entry512.field e 384 64
  period := Entry512.field e 448 32
  lead := Entry512.field e 480 32

/-- ADAPTER_TUNE's operands (R275). -/
def entryTune (e : Entry512) : TuneOps where
  count := Entry512.field e 128 32
  lr := BitVec.ofNat 16 (Entry512.field e 160 16)
  seed := Entry512.field e 192 32
  addr := Entry512.field e 256 64
  outAddr := Entry512.field e 320 64

/-- LOAD_OBJECT's operands (R275). -/
def entryLoad (e : Entry512) : LoadOps where
  slot := Entry512.field e 128 6
  port := Entry512.field e 136 1
  qp := Entry512.field e 144 6
  rkey := Entry512.field e 160 32
  remoteAddr := Entry512.field e 192 64
  length := Entry512.field e 256 64

/-- An entry has been read (R271): its opcode's checks and effect. -/
def State.submitEntry (s : State) (h : EntryHdr) (e : Entry512) (verify : List VerifyRead) : State :=
  match Entry512.field e 0 8 with
  | 0x00 => s.submitNop h
  | 0x01 => s.submitOpen h (Entry512.field e 128 16) (Entry512.field e 144 3)
  | 0x02 => s.submitSession h (.prompt true (entryPrompt e))
  | 0x03 => s.submitSession h (.generate (entryGenerate e))
  | 0x04 => s.submitSession h (.prompt false (entryPrompt e))
  | 0x05 => s.submitSession h (.pause (Entry512.field e 128 64))
  | 0x06 => s.submitSession h .resume
  | 0x07 => s.submitSession h (.clone (Entry512.field e 128 64) (Entry512.field e 192 3) (bitOf e.toNat 195))
  | 0x08 => s.submitCancel h (Entry512.field e 128 32)
  | 0x09 => s.submitClose h
  | 0x10 => s.submitBind h (Entry512.field e 128 6) (Entry512.field e 144 16) verify
  | 0x11 => s.submitSwap h (Entry512.field e 128 6) (Entry512.field e 144 16)
  | 0x12 => s.submitLoad h (entryLoad e)
  | 0x13 => if Entry512.field e 128 8 = 0xFF then s.submitUnload h else s.submitAdapter h (Entry512.field e 128 8)
  | 0x14 => s.submitSession h (.tune (entryTune e))
  | 0x1F => s.submitFence h
  | c => s.submitUnknown h c

/-- NOP (R270). DESIGN CHOICE (assumption log 5). -/
def execNop (t : Nat) (h : EntryHdr) (s : State) : Host.Outcome State Fault Refusal := .next ((s.advance t).submitNop h)

/-- SESSION_OPEN (R266, R272). -/
def execSessionOpen (t : Nat) (h : EntryHdr) (job prio : Nat) (s : State) : Host.Outcome State Fault Refusal :=
  .next ((s.advance t).submitOpen h job prio)

/-- PREFILL (R281, R282). -/
def execPrefill (t : Nat) (h : EntryHdr) (o : PromptOps) (s : State) : Host.Outcome State Fault Refusal :=
  .next ((s.advance t).submitSession h (.prompt true o))

/-- APPEND (R281, R282). -/
def execAppend (t : Nat) (h : EntryHdr) (o : PromptOps) (s : State) : Host.Outcome State Fault Refusal :=
  .next ((s.advance t).submitSession h (.prompt false o))

/-- GENERATE (R286). -/
def execGenerate (t : Nat) (h : EntryHdr) (o : GenerateOps) (s : State) : Host.Outcome State Fault Refusal :=
  .next ((s.advance t).submitSession h (.generate o))

/-- PAUSE (R197). -/
def execPause (t : Nat) (h : EntryHdr) (ttl : Nat) (s : State) : Host.Outcome State Fault Refusal :=
  .next ((s.advance t).submitSession h (.pause ttl))

/-- RESUME (R199). -/
def execResume (t : Nat) (h : EntryHdr) (s : State) : Host.Outcome State Fault Refusal :=
  .next ((s.advance t).submitSession h .resume)

/-- CLONE (R202). -/
def execClone (t : Nat) (h : EntryHdr) (newHandle prio : Nat) (prioEn : Bool) (s : State) : Host.Outcome State Fault Refusal :=
  .next ((s.advance t).submitSession h (.clone newHandle prio prioEn))

/-- CANCEL (R289). DESIGN CHOICE (assumption log 4). -/
def execCancel (t : Nat) (h : EntryHdr) (target : Nat) (s : State) : Host.Outcome State Fault Refusal :=
  .next ((s.advance t).submitCancel h target)

/-- CLOSE (R290). -/
def execClose (t : Nat) (h : EntryHdr) (s : State) : Host.Outcome State Fault Refusal := .next ((s.advance t).submitClose h)

/-- ADAPTER_TUNE (R296). -/
def execAdapterTune (t : Nat) (h : EntryHdr) (o : TuneOps) (s : State) : Host.Outcome State Fault Refusal :=
  .next ((s.advance t).submitSession h (.tune o))

/-- FENCE (R270). -/
def execFence (t : Nat) (h : EntryHdr) (s : State) : Host.Outcome State Fault Refusal := .next ((s.advance t).submitFence h)

/-! The fetch of entries (R313). -/

/-- Entries of a queue may be fetched (R313, R316, R322, R325, R326, R355). DEDUCED (assumption log 31). -/
def State.mayFetch (s : State) (q : Nat) : Bool :=
  let Q := s.queue q
  let f := s.owner q
  s.ctl.ready && !s.ctl.restarting && !s.hif.stopped && s.rd HIF_Q_STATUS_STATE q == 1 && !s.resetting f && !(s.fn f).d3
    && decide (Q.sqHead ≠ Q.sqTail) && decide (occupancy Q.sqHead Q.cqHead < 2 ^ s.rd HIF_Q_SIZE_CQ_LOG2 q)

/-- The entries that one visit to a queue fetches at most: FETCH of its function, 0 applying as 1 and larger values as 8
(R313, R327). DEDUCED (assumption log 31). -/
def State.fetchMax (s : State) (q : Nat) : Nat := min 8 (max 1 (s.rd HIF_FN_QOS_FETCH (s.owner q)))

/-- The queue whose entry is fetched next (R313): the one being visited while the visit lasts, then the next in ascending
number, in turn. -/
def State.fetchQueue (s : State) : Option Nat :=
  let v := s.hif.visit
  if s.mayFetch v && decide (s.hif.visited < s.fetchMax v) then some v
  else
    let l := (List.range 256).filter s.mayFetch
    match l.find? fun q => decide (v < q) with
    | some q => some q
    | none => l.head?

/-- SUBMISSION_FETCH (R313): the host's answer to the read of the next entry, and for a BIND_WEIGHTS the positions whose verify
pass will fail (R224); `corrected` says that HIF has corrected an error of its buffers on the way (R325). DESIGN CHOICE (assumption log 5), DESIGN CHOICE (assumption log 54). -/
def execSubmissionFetch (t : Nat) (r : HostRead Entry512) (corrected : Bool) (verify : List VerifyRead) (s : State) :
    Host.Outcome State Fault Refusal :=
  let s := s.advance t
  match s.fetchQueue with
  | none => .next s
  | some q =>
    let s := if corrected then s.aer (s.owner q) "Corrected Internal Error" else s
    match r with
    | .error => .next ((s.fetchError q).aer (s.owner q) "Submission read")
    | .data e =>
      let same := s.hif.visit == q && decide (s.hif.visited < s.fetchMax q)
      let s := s.withHif { s.hif with visit := q, visited := if same then s.hif.visited + 1 else 1 }
      let Q := s.queue q
      let s := s.setQueue q { Q with sqHead := (Q.sqHead + 1) % 2 ^ 32 }
      .next (s.submitEntry (entryHeader (s.owner q) q e) e verify)

/-! The serving loop. -/

/-- SESSION_QUEUE_ACCEPT (R271): the entry at the head of a session's queue is accepted. -/
def execSessionQueueAccept (t fn handle : Nat) (s : State) : Host.Outcome State Fault Refusal :=
  let s := s.advance t
  if s.ctl.restarting then .next s
  else
    match s.openSess fn handle with
    | none => .next s
    | some x =>
      match x.queue with
      | r :: _ => .next (if r.phase = .queued then s.acceptHead x.num r.serial else s)
      | [] => .next s

/-- REQUEST_ADMIT (R284). -/
def execRequestAdmit (t fn handle : Nat) (plan : AdmitPlan) (s : State) : Host.Outcome State Fault Refusal :=
  .next ((s.advance t).admitOne fn handle plan)

/-- STEP_COMPLETE (R191): the completion record of a step, with what it made of each entry of its batch. -/
def execStepComplete (t id : Nat) (res : List StepResult) (s : State) : Host.Outcome State Fault Refusal :=
  .next ((s.advance t).stepComplete id res).memRepair

/-- CHUNK_COMPLETE (R283). -/
def execChunkComplete (t id : Nat) (res : List PieceResult) (s : State) : Host.Outcome State Fault Refusal :=
  .next ((s.advance t).chunkComplete id res).memRepair

/-- TOKEN_RELEASE (R254). -/
def execTokenRelease (t fn handle : Nat) (s : State) : Host.Outcome State Fault Refusal :=
  .next ((s.advance t).tokenRelease fn handle)

end Sys2Proof.Machine
end

