-- ==== Sys2Proof/Machine/Moves.lean ====
section
/-! DEFINITION. The moves of page columns between the tiers, the end of a clone copy and the expiry of paused sessions
(spec/08_kv_pages.md R197–R203), and the meanings of their commands.  A move begins with the allocation of its target pages;
the command is its end, which the rate of copies allows. -/

namespace Sys2Proof.Machine

/-- The session of a function's handle that has not closed (R200). -/
def State.named (s : State) (f h : Nat) : Option Session := s.openSess f h

/-- The lowest of a session's columns that meet a condition. -/
def Session.lowestOf (x : Session) (p : Column → Bool) : Option Column :=
  bestOf (fun (a b : Column) => decide (a.index < b.index)) (x.columns.filter p)

/-- A column has been copied to the other tier: its old pages are freed (R197, R199, R204). -/
def State.moved (s : State) (x : Session) (c : Column) (l : List Nat) (from_ : Nat) : State :=
  let s := (s.copyPages x.fn c.tierB c.pages (!c.tierB) l).markPages c.tierB false c.pages
  let cols := x.columns.map fun d =>
    if d.index = c.index then { d with tierB := !c.tierB, pages := l, retryAt := 0, move := none } else d
  ((s.setSess { x with columns := cols }).useCopy from_ c.pages.length).count
    (if c.tierB then KVM_PROMOTE_CNT_COUNT else KVM_DEMOTE_CNT_COUNT)

/-- A pausing session whose columns all lie in tier B is PAUSED; a resuming one whose columns all lie in tier A is ACTIVE and
its RESUME completes (R197, R199). -/
def State.moveSettled (s : State) (num : Nat) : State :=
  match s.sess num with
  | none => s
  | some x =>
    match x.state with
    | .pausing => if x.columns.all (·.tierB) then s.setSess { x with state := .paused } else s
    | .resuming =>
      if x.columns.any (·.tierB) then s
      else
        let s := s.setSess { x with state := .active }
        match x.queue with
        | r :: _ => match r.ops with
          | .resume => if r.phase = .queued then s else s.completeReq num r .ok s.now 0
          | _ => s
        | [] => s
    | _ => s

/-- The move of a column is given up: an uncorrectable error met its copy, and it is tried again later (R197, R199, R382).
DEDUCED (assumption log 25). -/
def State.dropMove (s : State) (num idx : Nat) : State :=
  match s.sess num with
  | none => s
  | some x =>
    let c := x.columns.filter (·.index == idx)
    let s := forEach c s fun s c => s.markPages (!c.tierB) false c.target
    (s.setSess { x with columns := x.columns.map fun d => if d.index = idx then { d with move := none } else d }).moveFailed num idx

/-- The move of a session's lowest moving column ends where the rate allows it (R204); an uncorrectable error met by the copy
faults the session's job, and the column is not moved (R382).  A session on its way with no move begins one.
DEDUCED (assumption log 25). -/
def State.moveNext (s : State) (f h : Nat) (want : SessState) (errs : List MemErr) : State :=
  match s.named f h with
  | none => s
  | some x =>
    if x.state != want then s
    else
      match x.lowestOf (·.move.isSome) with
      | none => s.goMoves x.num
      | some c =>
        match c.move with
        | none => s
        | some (l, from_) =>
          if s.copyCap < s.copyEnd from_ c.pages.length then s
          else
            let (ok, s) := s.copyErrors x.fn x.job errs
            match s.sess x.num with
            | none => s
            | some x =>
              let s := if ok then (s.moved x c l from_).moveSettled x.num else s.dropMove x.num c.index
              s.memRepair.goOn x.num

/-- DEMOTE_COLUMN (R197). DEDUCED (assumption log 25). -/
def execDemoteColumn (t fn handle : Nat) (errs : List MemErr) (s : State) : Host.Outcome State Fault Refusal :=
  .next ((s.advance t).moveNext fn handle .pausing errs)

/-- PROMOTE_COLUMN (R199). -/
def execPromoteColumn (t fn handle : Nat) (errs : List MemErr) (s : State) : Host.Outcome State Fault Refusal :=
  .next ((s.advance t).moveNext fn handle .resuming errs)

/-- MIGRATION_RETRY (R197, R199): 1,000 slot lengths after a failed attempt, the column's move is tried again. -/
def execMigrationRetry (t fn handle : Nat) (s : State) : Host.Outcome State Fault Refusal :=
  let s := s.advance t
  match s.named fn handle with
  | none => .next s
  | some x =>
    match x.state.leaves with
    | none => .next s
    | some tierB =>
      if !s.mayMove x then .next s
      else
        match x.lowestOf fun c => c.tierB == tierB && s.takable c && c.retryAt != 0 && decide (c.retryAt ≤ s.now) with
        | none => .next s
        | some c => .next (s.beginMove x c)

/-- A session's time to live expires (R198): every column is evicted, the lowest first, and it is PAUSED. -/
def State.expire (s : State) (num : Nat) : State :=
  match s.sess num with
  | none => s
  | some x =>
    let s := forEach (List.range x.columns.length) s fun s _ =>
      match s.sess num with
      | none => s
      | some x => match x.lowest with
        | none => s
        | some c => s.evictColumn x c
    match s.sess num with
    | none => s
    | some x => (s.setSess { x with state := .paused, expired := true }).count KVM_TTL_EXPIRE_CNT_COUNT

/-- A session is due for expiry at a boundary (R198, R203): paused, with no copy of a clone in progress. -/
def Session.expiryDue (x : Session) (b : Nat) : Bool :=
  (x.state == .pausing || x.state == .paused) && x.expiry != 0 && decide (x.expiry ≤ b) && !x.expired
    && !x.columns.any (·.copied) && x.old.isEmpty && x.cloneOf.isNone && x.closing.isNone

/-- Expiries that have fallen due at a boundary (R247, step 4). DEDUCED (assumption log 29). -/
def State.applyExpiries (s : State) (b : Nat) : State :=
  forEach ((s.serve.sessions.filter (·.expiryDue b)).map (·.num)) s State.expire

/-- TTL_EXPIRE (R198): a paused session at the first boundary at or after its expiry. DESIGN CHOICE (assumption log 3). -/
def execTtlExpire (t fn handle : Nat) (s : State) : Host.Outcome State Fault Refusal :=
  let s := s.advance t
  match s.named fn handle with
  | none => .next s
  | some x =>
    if !s.running || !x.expiryDue (s.boundary s.time.nextK) then .next s
    else .next ((s.advance (s.boundary s.time.nextK)).expire x.num)

/-- The copied columns of a clone's source are let go (R202), those of an earlier generation freed (R196), and its moves go on (R203);
while another clone is copied from it they stay. -/
def State.letGo (s : State) (src serial : Nat) : State :=
  let others := s.serve.sessions.any fun z => match z.cloneOf with | some (a, _) => a == src | none => false
  match s.sess src with
  | none => s
  | some x =>
    let cols := x.columns.map fun (d : Column) => { d with copied := d.copied && others }
    let s := s.setSess { x with columns := cols, queue := x.queue.filter (·.serial != serial) }
    if others then s else ((s.releaseOld src).memRepair).goMoves src

/-- CLONE_COMPLETE (R202): the copy ends, the new handle opens and the CLONE completes; an uncorrectable error met by the copy
faults the session's job, and the CLONE ends with JOB_FAULT (R382). DEDUCED (assumption log 25). -/
def execCloneComplete (t fn newHandle : Nat) (errs : List MemErr) (s : State) : Host.Outcome State Fault Refusal :=
  let s := s.advance t
  match s.serve.sessions.find? fun y => y.fn == fn && y.handle == newHandle && y.cloneOf.isSome with
  | none => .next s
  | some y =>
    match y.cloneOf with
    | none => .next s
    | some (src, serial, q, tag) =>
      let pages := sumN (y.columns.map (·.pages.length)) + y.tokenPages.length
      if s.copyCap < s.copyEnd y.copyFrom pages then .next s
      else
        let (ok, s) := s.copyErrors y.fn y.job errs
        if ok then
          let s := (s.setSess { y with cloneOf := none }).useCopy y.copyFrom pages
          let s := (s.letGo src serial).count KVM_CLONE_CNT_COUNT
          .next (s.complete q serial ⟨tag, Status.code .ok, Op.code .clone, 0, y.handle, s.now, y.committed, 0⟩)
        else
          let c : Completion := ⟨tag, Status.code .jobFault, Op.code .clone, 0, y.handle, s.now, 0, 0⟩
          .next ((((s.dropSession y.num).letGo src serial).complete q serial c))

end Sys2Proof.Machine
end

