-- ==== Sys2Proof/Machine/Wheel.lean ====
section
/-! DEFINITION. The cadence wheel (spec/10_cadence_wheel.md R242–R252): shadowed settings and commits, the start and the
stop, the events of a boundary and the launches, and the meanings of their commands. -/

namespace Sys2Proof.Machine

/-- The characterisation modes (R75, R129, R363), by key: register and value to log. DEDUCED (assumption log 22). -/
def isCharacter (w : ShWrite) : Option Nat :=
  if w.key = AMF_CTRL_TALLY_MODE.key 0 then some AMF_CTRL_TALLY_MODE.addr
  else if w.key = WLT_CTRL_SHADOW_MODE.key 0 then some WLT_CTRL_SHADOW_MODE.addr
  else if w.key = CPX_CTRL_HANG_MODE.key 0 then some CPX_CTRL_HANG_MODE.addr
  else none

/-- A shadowed value takes effect (R8), a copy rate for what is copied from now on (R204); a characterisation mode that is set is
logged. DEDUCED (assumption log 22). -/
def State.applyWrite (s : State) (w : ShWrite) : State :=
  let s := s.when (w.key == KVM_MIG_CTRL_RATE.key 0) State.settleCopies
  let s := { s with regs := SMap.put w.dflt s.regs w.key w.val }
  match isCharacter w with
  | some a => if w.val = 0 then s else s.logEvent { EventRec.blank 0x1A 0 with detail := [a, w.val] }
  | none => s

/-- Shadowed values take effect together, later ones prevailing (R8, R247 step 2); the error estimate goes on from where it
stands, the arbiters' grants up to now were made under the old settings and the waiting requests follow the new ones (R260), and so do the
sources. -/
def State.applyShadow (s : State) (l : List ShWrite) : State :=
  if l.isEmpty then s
  else
    let e := s.errEst
    let s := if s.time.errAt.isSome then s.withTime { s.time with errBase := some e, errAt := some s.now } else s
    let s := (forEach (List.range 6) s State.goPort).settleArbs
    ((l.foldl State.applyWrite s).renewArbs).retime

/-- A COMMIT write to a block (R8, R244): its pending writes wait for a boundary, or act at once while the wheel stands.
DEDUCED (assumption log 22). -/
def State.commit (s : State) (b : Blk) : State :=
  let mine := s.shadow.filter (·.blk == b)
  if mine.isEmpty then s
  else
    let s := { s with shadow := s.shadow.filter (·.blk != b) }
    if s.running then { s with commits := s.commits ++ [(s.now, mine)] } else s.applyShadow mine

/-- Every commit that waits takes effect (R244). -/
def State.applyAll (s : State) : State :=
  let l := (s.commits.map (·.2)).flatten
  ({ s with commits := [] }).applyShadow l

/-- The commits latched for a boundary take effect (R247 steps 1 and 2): those completed more than 500 ns before it.
DEDUCED (assumption log 22). -/
def State.applyLatched (s : State) (b : Nat) : State :=
  let now : List (Nat × List ShWrite) := s.commits.filter fun c => decide (c.1 + 500 < b)
  let later : List (Nat × List ShWrite) := s.commits.filter fun c => !decide (c.1 + 500 < b)
  let l : List ShWrite := (now.map fun (c : Nat × List ShWrite) => c.2).flatten
  ({ s with commits := later }).applyShadow l

/-- TWS_RUN_START (R243). -/
def State.runStart (s : State) : State :=
  if s.running then s
  else if s.slotLen < 8 || 1024 < s.slotLen then s.setBit TWS_CTRL_CFG_ERR
  else
    let k := s.firstK s.now
    (s.setBit TWS_CTRL_RUN).withTime { s.time with nextK := k, slotNow := none }

/-- The wheel may stop (R243). -/
def State.mayStop (s : State) : Bool := s.quiet && s.lst.bind.isNone && s.lst.swap.isNone

/-- TWS_RUN_STOP (R243, R244). DEDUCED (assumption log 23). -/
def State.runStop (s : State) : State :=
  if !s.running then s
  else if !s.mayStop then s.setBit TWS_CTRL_CFG_ERR
  else
    let s := (s.wr TWS_CTRL_RUN 0).withTime { s.time with slotNow := none }
    let s := s.applyAll
    let s := s.remapNow.applyTracking
    (s.applyMargins.ptmBoundary).tellPeers s.time.nextK

/-- Cores of a function's next launches wait while a move to a site is pending (R416). -/
def State.movePending (s : State) (l : Launch) : Bool :=
  match s.job l.fn l.job with
  | some j => j.fresh && l.cores.any s.moveBlocks
  | none => false

/-- Slot k is a pause slot of a core for throttling (R251). -/
def State.throttled (s : State) (k core : Nat) : Bool :=
  let n := SMap.get 0 s.serve.throttle core
  n != 0 && slotNum k % n == 0

/-- A core is paused in slot k (R251, R252). -/
def State.paused (s : State) (k core : Nat) : Bool := s.throttled k core || s.serve.testing.contains core

/-- A core's bridge is down (R14): its die takes no work. -/
def State.bridgeDown (s : State) (core : Nat) : Bool :=
  core < 512 && SMap.get false s.lnk.bridgeDown (core / 256)

/-- A job that starts again after a fault waits for its reset until no other job's step runs on its cores (R412, R456).
DEDUCED (assumption log 42). -/
def State.resetWaits (s : State) (l : Launch) : Bool :=
  match s.job l.fn l.job with
  | some j => j.fresh && j.faulted && (s.jobCores j ++ l.cores).any fun c =>
      s.serve.launches.any fun m => m.inFlight && m.cores.contains c
  | none => false

/-- A launch of the row goes out at boundary k (R19, R195, R251, R370, R403, R416). -/
def State.mayLaunch (s : State) (k : Nat) (l : Launch) : Bool :=
  decide (l.slot ≤ k) && !l.inFlight && !s.movePending l && !s.resetWaits l && decide (l.copyTo ≤ s.copyCap)
    && l.cores.all fun c => !s.paused k c && !s.bridgeDown c && decide ((s.health c).rampTo ≤ s.now)

/-- The job of a launch starts (R267, R128, R413, R416): after a fault the cores that the job uses are reset, moves that are ready
take effect, and its cores' shadow-sampling generators are seeded. -/
def State.jobStart (s : State) (l : Launch) : State :=
  match s.job l.fn l.job with
  | none => s
  | some j =>
    if !j.fresh then s.setJob { j with cores := (j.cores ++ l.cores).eraseDups }
    else
      let s := if j.faulted then forEach (s.jobCores j ++ l.cores).eraseDups s State.resetCore else s
      let s := forEach l.cores s State.applyMove
      let s := s.withFab { s.fab with
        shadowGen :=
          l.cores.foldl (fun m c => SMap.put ShadowGen.init m c { ShadowGen.init with job := j.num }) s.fab.shadowGen }
      s.setJob { j with fresh := false, faulted := false, faultStep := none, handSet := false, starts := j.starts + 1
                        cores := l.cores }

/-- The positions that a piece needs resident: from the first to one past the last (R191, R196). -/
def Session.needs (x : Session) (r : Request) : Piece → Nat × Nat
  | .recompute a q => (a, a + q)
  | .tune q _ => (0, x.committed + r.done + q)
  | p => (0, x.committed + p.qcnt)

/-- An entry of a launch still stands (R191, R196): its session is open, and every column that it needs lies in tier A. -/
def State.entryReady (s : State) (l : Launch) (e : LaunchEntry) : Bool :=
  match s.sess e.session with
  | none => false
  | some x =>
    match x.queue.find? (·.serial == e.serial) with
    | none => false
    | some r =>
      let n := x.needs r e.piece
      let whole := match e.piece with
        | .recompute _ _ => decide (n.2 ≤ x.evicted)
        | _ => x.evicted == 0
      r.launch == l.id && x.closing.isNone && x.state == .active && whole && (x.missing n.1 n.2).isEmpty
        && x.columns.all fun c => !c.tierB || decide ((c.index + 1) * colSpan x.kvFmt ≤ n.1) || decide (n.2 ≤ c.index * colSpan x.kvFmt)

/-- The entry of a sequence in the step's length table is written, and WRITTEN shows where the step will have written to (R165,
R190). -/
def State.writeLen (s : State) (e : LaunchEntry) : State :=
  match s.sess e.session with
  | none => s
  | some x =>
    match x.queue.find? (·.serial == e.serial) with
    | none => s
    | some r =>
      let f := lenFields x r e
      let q := e.piece.qcnt
      (s.writeBytes .cst e.lens.table (lenBytes f.1 q f.1 x.num e.lens.window f.2.1 x.kvFmt f.2.2)).setSess
        { x with written := f.1 + q }

/-- The entries of a launch that no longer stand wait for another admission (R191, R196): a column was evicted meanwhile. -/
def State.pruneLaunch (s : State) (l : Launch) : State :=
  let gone := l.entries.filter fun e => !s.entryReady l e
  let s := forEach gone s fun s e =>
    match s.sess e.session with
    | none => s
    | some x => s.setSess { x with queue := x.queue.map fun r =>
        if r.serial = e.serial && r.launch = l.id then { r with launch := 0, drafts := [] } else r }
  if gone.isEmpty then s
  else if gone.length = l.entries.length then s.dropLaunch l
  else s.setLaunches (updFirst (·.id == l.id) (fun m => { m with entries := m.entries.filter fun e => !gone.contains e }) s.serve.launches)

/-- One launch goes out (R247 steps 6 and 7), its length table written (R165) and its sessions' pages pinned (R195). -/
def State.launchOne (s : State) (k : Nat) (l : Launch) : State :=
  let s := s.jobStart l
  let nums := l.entries.map (·.session)
  let s := forEach l.entries s State.writeLen
  let s := s.setSessions (s.serve.sessions.map fun x =>
    if nums.contains x.num then { x with pins := (x.pins ++ [l.id]).eraseDups } else x)
  let s := s.setLaunches (s.serve.launches.map fun m => if m.id = l.id then { m with inFlight := true, at_ := s.now, slot := k } else m)
  forEach l.cores s fun s c => s.nameCore k l c

/-- The energy of a function's launches that went out at boundary k (R250). -/
def State.launchedEnergy (s : State) (f k : Nat) : Nat :=
  sumN ((s.serve.launches.filter fun l => l.inFlight && l.fn == f && l.slot == k).map (·.energy))

/-- The launches of the row (R248): those that may go and that the slot's budget still holds, which a cut of the cap may have
lowered since they were planned (R27, R250); the others move to the next slot. DEDUCED (assumption log 48), DESIGN CHOICE
(assumption log 28). -/
def State.launchRow (s : State) (k : Nat) : State :=
  let row := s.serve.launches.filter fun l => !l.inFlight && decide (l.slot ≤ k)
  let s := forEach row s State.pruneLaunch
  forEach row s fun s l =>
    match s.launch l.id with
    | none => s
    | some l =>
      let waiting := (s.serve.launches.filter fun m => !m.inFlight && decide (m.slot ≤ k) && m.id != l.id).map (·.fn)
      if s.mayLaunch k l && s.shareFits k waiting (s.launchedEnergy · k) l.fn l.energy then s.launchOne k l
      else s.setLaunches (s.serve.launches.map fun m => if m.id = l.id then { m with slot := k + 1 } else m)

/-- An empty slot (R248). -/
def State.emptySlot (s : State) (k : Nat) : State :=
  let s := (s.count TWS_PLAN_LATE_CNT_COUNT).twsEvent TWS_EVENT_PLAN_LATE TWS_EVENT_EN_PLAN_LATE
  s.setLaunches (s.serve.launches.map fun m => if !m.inFlight && m.slot ≤ k then { m with slot := k + 1 } else m)

/-- Test pauses at a boundary (R252): pauses whose slice has ended are over, and the forced ones that are due begin. -/
def State.testPauses (s : State) (k : Nat) : State :=
  let done := s.serve.testing.filter fun c => (s.health c).running.isSome
  let s := forEach done s fun s c => s.setHealth c { s.health c with running := none }
  let s := { s with serve := { s.serve with testing := s.serve.testing.filter fun c => !done.contains c } }
  forEach (SMap.keysIf (fun _ v => decide (v ≤ k + 1)) s.serve.testPause) s fun s c =>
    if s.serve.testing.contains c then s
    else
      let due := SMap.get 0 s.serve.testPause c
      let s := { s with serve := { s.serve with
        testing := s.serve.testing ++ [c], pauseFrom := SMap.put 0 s.serve.pauseFrom c s.now, testPause := SMap.put 0 s.serve.testPause c (max (due + 64) (k + 2)) } }
      s.count TWS_TEST_PAUSE_CNT_COUNT

/-- The time that barriers of paused cores wait does not count (R363). -/
def CoreCtl.shiftWaits (c : CoreCtl) (d : Nat) : CoreCtl :=
  { c with barriers := SMap.mapVals Barrier.init (fun _ b => { b with waitFrom := b.waitFrom.map (· + d) }) c.barriers }

/-- Cores paused in slot k: pause slots are counted, and their barriers' time stands still. -/
def State.pauseCores (s : State) (k : Nat) : State :=
  let n := (SMap.keysIf (fun c _ => s.throttled k c) s.serve.throttle).length
  let s := s.count TWS_PAUSE_SLOT_CNT_COUNT n
  let d := s.slotLen * 1000
  let cores := SMap.mapVals CoreCtl.init (fun c x => if s.paused k c then x.shiftWaits d else x) s.ctl.cores
  s.withCtl { s.ctl with cores := cores }

/-- Each function's allotment of slot k, and whether its next step needs more (R250). -/
def State.shares (s : State) (k : Nat) : List (Nat × Nat × Bool) :=
  (s.fnsWithWork k).map fun f =>
    let a := s.allotment k f
    (f, a, (s.readyWork k).any fun e => e.1.fn == f && decide (a < s.estimate e.1 e.2)
      || s.serve.launches.any fun l => !l.inFlight && l.fn == f && decide (a < l.energy))

/-- Allotments of the row that has gone (R250): a function that took nothing, and whose next step needs more than its allotment, builds
credit, up to 8 slots' allotment; what exceeded an allotment is paid from credit. -/
def State.settleCredit (s : State) (k : Nat) (al : List (Nat × Nat × Bool)) : State :=
  forEach al s fun s e =>
    let f := s.fn e.1
    let used := s.launchedEnergy e.1 k
    let credit := if used = 0 then (if e.2.2 then min (8 * e.2.1) (f.credit + e.2.1) else f.credit) else f.credit - (used - e.2.1)
    s.setFn e.1 { f with credit := credit }

/-- A core whose sequencer stopped in FAULT is reset once no step runs on it, and every job that uses it ends with JOB_FAULT (R146, R456).
DEDUCED (assumption log 42). -/
def State.resetFaulted (s : State) : State :=
  let idle (core : Nat) : Bool := !s.serve.launches.any fun l => l.inFlight && l.cores.contains core
  forEach (SMap.keysIf (fun n (c : CoreCtl) => c.seq == .fault && idle n) s.ctl.cores) s fun s core =>
    let s := forEach (s.serve.jobs.filter fun j => !j.faulted && (s.jobCores j).contains core) s fun s j =>
      s.faultJob j.fn j.num none { EventRec.blank 0x09 1 with core := some core, status := Status.code .internal, detail := [3, 0] }
    s.resetCore core

/-- The boundary of slot k (R247), its row marked ready or not; `lastings` are the positions that LST has chosen to last. -/
def State.slotBoundary (s : State) (ready : Bool) (lastings : List Nat) : State :=
  let k := s.time.nextK
  let b := s.boundary k
  let s := s.applyLatched b
  let s := (s.remapNow.applyTracking).switchAtBoundary k
  let s := (s.applyMargins.ptmBoundary).testPauses k
  let s := (s.applyExpiries b).emptyFns
  let s := forEach lastings s State.tryLasting
  let s := s.resetFaulted
  let al := s.shares k
  let s := s.withTime { s.time with slotNow := some (slotNum k), nextK := k + 1 }
  let s := { s with sms := { s.sms with iftBase := some (s.sms.iftBase.getD b) } }
  let s := s.withMem { s.mem with moved := [] }
  let s := (s.tellPeers k).showEntries.goLoads.pauseCores k
  let s := if ready then s.launchRow k else s.emptySlot k
  s.settleCredit k al

/-- SLOT_BOUNDARY (R247). DEDUCED (assumption log 23). -/
def execSlotBoundary (t : Nat) (ready : Bool) (lastings : List Nat) (s : State) : Host.Outcome State Fault Refusal :=
  let s := s.advance t
  if !s.running || decide (s.now < s.boundary s.time.nextK) then .next s else .next (s.slotBoundary ready lastings)

/-- TWS_RUN_START (R243). -/
def execTwsRunStart (t fn : Nat) (s : State) : Host.Outcome State Fault Refusal :=
  let s := s.advance t
  .next (s.when (s.accepts fn) State.runStart)

/-- TWS_RUN_STOP (R243). -/
def execTwsRunStop (t fn : Nat) (s : State) : Host.Outcome State Fault Refusal :=
  let s := s.advance t
  .next (s.when (s.accepts fn) State.runStop)

/-- A COMMIT register of a block is written with 1. -/
def State.commitWrite (s : State) (t fn : Nat) (b : Blk) : State :=
  let s := s.advance t
  s.when (s.accepts fn) (·.commit b)

/-- AMF_COMMIT (R8). -/
def execAmfCommit (t fn : Nat) (s : State) : Host.Outcome State Fault Refusal := .next (s.commitWrite t fn .amf)

/-- CCV_COMMIT (R8). -/
def execCcvCommit (t fn : Nat) (s : State) : Host.Outcome State Fault Refusal := .next (s.commitWrite t fn .ccv)

/-- WLT_COMMIT (R8). -/
def execWltCommit (t fn : Nat) (s : State) : Host.Outcome State Fault Refusal := .next (s.commitWrite t fn .wlt)

/-- ACR_COMMIT (R8). -/
def execAcrCommit (t fn : Nat) (s : State) : Host.Outcome State Fault Refusal := .next (s.commitWrite t fn .acr)

/-- ATN_COMMIT (R8). -/
def execAtnCommit (t fn : Nat) (s : State) : Host.Outcome State Fault Refusal := .next (s.commitWrite t fn .atn)

/-- KVM_COMMIT (R8). -/
def execKvmCommit (t fn : Nat) (s : State) : Host.Outcome State Fault Refusal := .next (s.commitWrite t fn .kvm)

/-- LST_COMMIT (R8). -/
def execLstCommit (t fn : Nat) (s : State) : Host.Outcome State Fault Refusal := .next (s.commitWrite t fn .lst)

/-- TWS_COMMIT (R8, R244). -/
def execTwsCommit (t fn : Nat) (s : State) : Host.Outcome State Fault Refusal := .next (s.commitWrite t fn .tws)

/-- HIF_COMMIT (R8). -/
def execHifCommit (t fn : Nat) (s : State) : Host.Outcome State Fault Refusal := .next (s.commitWrite t fn .hif)

/-- CPX_COMMIT (R8). -/
def execCpxCommit (t fn : Nat) (s : State) : Host.Outcome State Fault Refusal := .next (s.commitWrite t fn .cpx)

/-- CST_COMMIT (R8). -/
def execCstCommit (t fn : Nat) (s : State) : Host.Outcome State Fault Refusal := .next (s.commitWrite t fn .cst)

/-- MEM_COMMIT (R8). -/
def execMemCommit (t fn : Nat) (s : State) : Host.Outcome State Fault Refusal := .next (s.commitWrite t fn .mem)

/-- PTM_COMMIT (R8). -/
def execPtmCommit (t fn : Nat) (s : State) : Host.Outcome State Fault Refusal := .next (s.commitWrite t fn .ptm)

/-- SMS_COMMIT (R8). -/
def execSmsCommit (t fn : Nat) (s : State) : Host.Outcome State Fault Refusal := .next (s.commitWrite t fn .sms)

end Sys2Proof.Machine
end

