-- ==== Sys2Proof/Machine/FieldTest.lean ====
section
/-! DEFINITION. Stepping down a margin level and the in-field test (spec/17_reliability.md R415, R418), and the meanings of
their commands. -/

namespace Sys2Proof.Machine

/-- Nanoseconds of an hour. -/
def hourNs : Nat := 3600000000000

/-- IFT_PERIOD in ns (R424). -/
def State.iftPeriod (s : State) : Nat := max 1 (s.rd SMS_CTRL_IFT_PERIOD_H) * hourNs

/-- A core that is marked for retirement or retired has no due time (R418). -/
def Health.noDue (h : Health) : Bool := h.pending.isSome || h.retired

/-- The due time of a core's test (R418): first the wheel's first boundary plus n × IFT_PERIOD / 520; none before that
boundary. -/
def State.iftDue (s : State) (core : Nat) : Option Nat :=
  let h := s.health core
  if h.noDue then none
  else if h.due ≠ 0 then some h.due
  else s.sms.iftBase.map fun b => b + core * s.iftPeriod / 520

/-- A slice may have run on a core (R252, R418): no step is in flight on it, it has been idle for the slice's 400 µs, in a test pause since
its boundary, and it stands in such a pause or is within one hour of its due time or later. DEDUCED (assumption log 52). -/
def State.sliceMayRun (s : State) (core : Nat) : Bool :=
  let from_ := max (SMap.get 0 s.serve.idleFrom core) (if s.serve.testing.contains core then SMap.get 0 s.serve.pauseFrom core else 0)
  let idle := !(s.serve.launches.any fun l => l.inFlight && l.cores.contains core) && decide (from_ + 400000 ≤ s.now)
  let due := match s.iftDue core with
    | some d => decide (d ≤ s.now + hourNs)
    | none => (s.health core).noDue
  s.ctl.ready && s.rd PTM_PSTATE_STATE == 0 && idle && due
    && (!s.serve.testing.contains core || (s.health core).running.isNone)

/-- SMS_CORE_IFT.RUNNING (R424): the core stands in a test pause, its steps have ended, and the slice has not. -/
def State.sliceRuns (s : State) (core : Nat) : Bool :=
  s.serve.testing.contains core && (s.health core).running.isNone
    && !(s.serve.launches.any fun l => l.inFlight && l.cores.contains core)

/-- A slice fails (R414, R418): counted, raised, logged, and a suspect event of its core; the slice is run again.
DEDUCED (assumption log 52). -/
def State.sliceFailed (s : State) (core sig : Nat) : State :=
  let s := (s.count SMS_IFT_FAIL_CNT_COUNT).smsEvent SMS_EVENT_IFT_FAIL
  let s := s.logEvent { EventRec.blank 0x12 0 with core := some core, detail := [(s.health core).slice, sig] }
  s.suspect core 16 .core

/-- A slice completes (R418); the last of a test ends the forced pauses and fixes the next due time.
DEDUCED (assumption log 52). -/
def State.slicePassed (s : State) (core : Nat) : State :=
  let s := s.count SMS_IFT_SLICE_CNT_COUNT
  let h := s.health core
  if h.slice < 63 then s.setHealth core { h with slice := h.slice + 1 }
  else
    let due := match s.iftDue core with | some d => d + s.iftPeriod | none => h.due
    let s := s.setHealth core { h with slice := 0, overdue := false, due := due }
    { s with serve := { s.serve with testPause := SMap.put 0 s.serve.testPause core 0 } }

/-- A spare site that is not in use is tested in idle time (R418): 520 to 535 name the west die's sites, 536 to 551 the east die's.
DEDUCED (assumption log 52). -/
def State.siteTested (s : State) (site : Nat) : Bool :=
  s.ctl.ready && (if site < 536 then !s.sms.sitesW.contains (site - 520)
    else decide (site < 552) && !s.sms.sitesE.contains (site - 536))

/-- A slice of a spare site has run (R418): no core is suspect of its failure. DEDUCED (assumption log 52). -/
def State.siteSlice (s : State) (site : Nat) (pass : Bool) (sig : Nat) : State :=
  let h := s.health site
  if pass then (s.count SMS_IFT_SLICE_CNT_COUNT).setHealth site { h with slice := (h.slice + 1) % 64 }
  else ((s.count SMS_IFT_FAIL_CNT_COUNT).smsEvent SMS_EVENT_IFT_FAIL).logEvent
    { EventRec.blank 0x12 0 with detail := [h.slice, sig] }

/-- IFT_SLICE (R418): a slice of a core's test has run and its signature was right or wrong; a core of 520 or more names a
spare site. DEDUCED (assumption log 52). -/
def execIftSlice (t core : Nat) (pass : Bool) (sig : Nat) (s : State) : Host.Outcome State Fault Refusal :=
  let s := s.advance t
  if 520 ≤ core then
    .next (if s.siteTested core then s.siteSlice core pass sig else s)
  else if !s.sliceMayRun core then .next s
  else
    let s := if s.serve.testing.contains core then s.setHealth core { s.health core with running := some s.now } else s
    let s := s.idleNow [core]
    .next (if pass then s.slicePassed core else s.sliceFailed core sig)

/-- IFT_OVERDUE (R252, R418): the due time has passed with slices outstanding; TWS forces test pauses from the next
boundary on. DEDUCED (assumption log 52). -/
def execIftOverdue (t core : Nat) (s : State) : Host.Outcome State Fault Refusal :=
  let s := s.advance t
  match s.iftDue core with
  | none => .next s
  | some d =>
    let h := s.health core
    if 520 ≤ core || h.overdue || s.now < d || !s.ctl.ready then .next s
    else
      let s := s.setHealth core { h with overdue := true }
      .next { s with serve := { s.serve with testPause := SMap.put 0 s.serve.testPause core (s.time.nextK + 1) } }

/-- MARGIN_DECAY (R415): a core without a suspect event for DECAY_DAYS days steps down at the next boundary. -/
def execMarginDecay (t core : Nat) (s : State) : Host.Outcome State Fault Refusal :=
  let s := s.advance t
  let h := s.health core
  let days := s.rd SMS_CTRL_DECAY_DAYS
  if 520 ≤ core || days = 0 || h.level = 0 || h.retired || s.now < h.quietFrom + days * 24 * hourNs then .next s
  else .next (s.setHealth core { h with downPending := true })

end Sys2Proof.Machine
end

