-- ==== Sys2Proof/Machine/Aes.lean ====
section
/-! DEFINITION. AES-256-GCM, with which firmware images are encrypted (spec/18_security_and_management.md R438; FIPS 197 and
NIST SP 800-38D). -/

namespace Sys2Proof.Machine

/-- Multiplication by x in the field of AES. -/
def aesTimes2 (a : Nat) : Nat := if a < 128 then 2 * a else Nat.xor (2 * a % 256) 0x1B

/-- Multiplication in the field of AES, on `k` bits of the second factor. -/
def aesMul : Nat → Nat → Nat → Nat
  | 0, _, _ => 0
  | k + 1, a, b => Nat.xor (if b % 2 = 1 then a else 0) (aesMul k (aesTimes2 a) (b / 2))

/-- The product of two bytes. -/
def aesProd (a b : Nat) : Nat := aesMul 8 a b

/-- The 254th power, which inverts a byte and sends 0 to 0. -/
def aesInv (a : Nat) : Nat :=
  let a2 := aesProd a a
  let a4 := aesProd a2 a2
  let a8 := aesProd a4 a4
  let a16 := aesProd a8 a8
  let a32 := aesProd a16 a16
  let a64 := aesProd a32 a32
  aesProd (aesProd (aesProd a2 a4) (aesProd a8 a16)) (aesProd (aesProd a32 a64) (aesProd a64 a64))

/-- A byte turned left by `n` bits. -/
def rotl8 (n a : Nat) : Nat := a * 2 ^ n % 256 + a / 2 ^ (8 - n)

/-- The S-box. -/
def aesSub (a : Nat) : Nat :=
  let i := aesInv a
  Nat.xor 0x63 (Nat.xor i (Nat.xor (rotl8 1 i) (Nat.xor (rotl8 2 i) (Nat.xor (rotl8 3 i) (rotl8 4 i)))))

/-- Two byte lists added. -/
def xorBytes (a b : List Nat) : List Nat := List.zipWith Nat.xor a b

/-- The round words of a 256-bit key: the words so far, newest first, and the number of words still to form. -/
def aesExpand : Nat → Nat → List (List Nat) → List (List Nat)
  | 0, _, w => w
  | k + 1, rcon, w =>
    let i := w.length
    let t := w.headD []
    let u := if i % 8 = 0 then xorBytes ((t.drop 1 ++ t.take 1).map aesSub) [rcon, 0, 0, 0]
      else if i % 8 = 4 then t.map aesSub else t
    aesExpand k (if i % 8 = 0 then aesTimes2 rcon else rcon) (xorBytes (w.getD 7 []) u :: w)

/-- The words of a key in order. -/
def keyWords : Nat → List Nat → List (List Nat)
  | 0, _ => []
  | k + 1, l => l.take 4 :: keyWords k (l.drop 4)

/-- The 15 round keys of a 32-byte key. -/
def aesKeys (key : List Nat) : List (List Nat) :=
  let w := (aesExpand 52 1 (keyWords 8 key).reverse).reverse
  (List.range 15).map fun r => ((w.drop (4 * r)).take 4).flatten

/-- Row r of the state turned left by r. -/
def aesShift (s : List Nat) : List Nat :=
  (List.range 16).map fun i => s.getD (i % 4 + 4 * ((i / 4 + i % 4) % 4)) 0

/-- The columns mixed. -/
def aesMix (s : List Nat) : List Nat :=
  (List.range 16).map fun i =>
    let at_ (k : Nat) : Nat := s.getD (4 * (i / 4) + (i + k) % 4) 0
    Nat.xor (aesProd 2 (at_ 0)) (Nat.xor (aesProd 3 (at_ 1)) (Nat.xor (at_ 2) (at_ 3)))

/-- The rounds that follow the first key. -/
def aesRounds : List (List Nat) → List Nat → List Nat
  | [], s => s
  | [k], s => xorBytes (aesShift (s.map aesSub)) k
  | k :: t, s => aesRounds t (xorBytes (aesMix (aesShift (s.map aesSub))) k)

/-- One block of 16 bytes enciphered under the round keys. -/
def aesBlock (keys : List (List Nat)) (b : List Nat) : List Nat := aesRounds (keys.drop 1) (xorBytes b (keys.headD []))

/-- A big-endian number of bytes. -/
def beNat (l : List Nat) : Nat := l.foldl (fun a b => a * 256 + b) 0

/-- The 16 bytes of a 128-bit number, most significant first. -/
def be128 (x : Nat) : List Nat := (List.range 16).map fun i => x / 2 ^ (8 * (15 - i)) % 256

/-- The product of GHASH on `k` bits of the first factor, most significant first. -/
def ghashMul : Nat → Nat → Nat → Nat
  | 0, _, _ => 0
  | k + 1, x, v =>
    Nat.xor (if x / 2 ^ k % 2 = 1 then v else 0)
      (ghashMul k x (if v % 2 = 1 then Nat.xor (v / 2) (0xE1 * 2 ^ 120) else v / 2))

/-- Bytes cut into blocks of 16, the last filled with zeros, as numbers. -/
def ghashBlocks : Nat → List Nat → List Nat
  | 0, _ => []
  | k + 1, l => beNat ((l ++ List.replicate 16 0).take 16) :: ghashBlocks k (l.drop 16)

/-- GHASH of the additional data and the ciphertext. -/
def ghash (h : Nat) (aad c : List Nat) : Nat :=
  let l := ghashBlocks ((aad.length + 15) / 16) aad ++ ghashBlocks ((c.length + 15) / 16) c
    ++ [aad.length * 8 * 2 ^ 64 + c.length * 8]
  l.foldl (fun y x => ghashMul 128 (Nat.xor y x) h) 0

/-- The counter blocks' key stream from a counter value on, for `k` blocks. -/
def gcmStream (keys : List (List Nat)) (iv : List Nat) : Nat → Nat → List Nat
  | 0, _ => []
  | k + 1, ctr => aesBlock keys (iv ++ (be128 ctr).drop 12) ++ gcmStream keys iv k ((ctr + 1) % 2 ^ 32)

/-- AES-256-GCM decryption with a 12-byte initialisation vector: the plaintext where the tag is right. -/
def gcmOpen (key iv aad c tag : List Nat) : Option (List Nat) :=
  let keys := aesKeys key
  let h := beNat (aesBlock keys (List.replicate 16 0))
  let t := Nat.xor (ghash h aad c) (beNat (aesBlock keys (iv ++ [0, 0, 0, 1])))
  if t = beNat tag then some (xorBytes c (gcmStream keys iv ((c.length + 15) / 16) 2)) else none

end Sys2Proof.Machine
end

