-- ==== Sys2Proof/Machine/Mgmt.lean ====
section
/-! DEFINITION. The management port: MCTP control, SPDM, PLDM and the firmware update
(spec/18_security_and_management.md R431–R435, R439, R443), and the meanings of their commands. -/

namespace Sys2Proof.Machine

/-- A message on the management port acts while the standby domain is up; it shows the bus in SMS_MGT_STATUS.MODE (R446): I3C
once a dynamic address is assigned, I2C before. DEDUCED (assumption log 16). -/
def State.port (s : State) (t : Nat) (f : State → State) : Host.Outcome State Fault Refusal :=
  let s := s.advance t
  if !s.pwr.up then .next s
  else .next (f (s.withMgt { s.mgt with mode := if s.mgt.dynAddr = 0 then 1 else 2 }))

/-! I3C and MCTP control (R432, R433). -/

/-- The dynamic address is assigned (R432). DEDUCED (assumption log 16). -/
def State.setAddress (s : State) (addr : Nat) : State :=
  let s := s.withMgt { s.mgt with mode := 2, dynAddr := addr % 128 }
  s.mgtSend (.address (addr % 128))

/-- I3C_SETDASA (R432): directed at the static address 0x4D. -/
def execI3cSetdasa (t static addr : Nat) (s : State) : Host.Outcome State Fault Refusal :=
  let s := s.advance t
  .next (s.when (s.pwr.up && static == 0x4D) (·.setAddress addr))

/-- I3C_ENTDAA (R432): the arbitration is won with a provisional ID. -/
def execI3cEntdaa (t addr : Nat) (s : State) : Host.Outcome State Fault Refusal :=
  let s := s.advance t
  .next (s.when s.pwr.up (·.setAddress addr))

/-- SET_ENDPOINT_ID (R433). -/
def execSetEndpointId (t eid : Nat) (s : State) : Host.Outcome State Fault Refusal :=
  s.port t fun s =>
    let s := if 8 ≤ eid && eid < 255 then s.withMgt { s.mgt with eid := eid } else s
    s.mgtSend (.endpoint s.mgt.eid)

/-- GET_ENDPOINT_ID (R433): the null endpoint ID until one is assigned. -/
def execGetEndpointId (t : Nat) (s : State) : Host.Outcome State Fault Refusal :=
  s.port t fun s => s.mgtSend (.endpoint s.mgt.eid)

/-- GET_ENDPOINT_UUID (R433). -/
def execGetEndpointUuid (t : Nat) (s : State) : Host.Outcome State Fault Refusal :=
  s.port t fun s => s.mgtSend (.uuid endpointUuid)

/-- GET_MCTP_VERSION_SUPPORT (R432, R433): version 1.3. -/
def execGetMctpVersionSupport (t : Nat) (s : State) : Host.Outcome State Fault Refusal :=
  s.port t fun s => s.mgtSend (.mctpVersions [0x13])

/-- GET_MESSAGE_TYPE_SUPPORT (R433). -/
def execGetMessageTypeSupport (t : Nat) (s : State) : Host.Outcome State Fault Refusal :=
  s.port t fun s => s.mgtSend (.messageTypes [0x00, 0x01, 0x05])

/-! SPDM (R431). -/

/-- ERROR codes of SPDM: InvalidRequest, UnexpectedRequest. PRESUMED (assumption log 15). -/
def spdmInvalid : Nat := 0x01
def spdmUnexpected : Nat := 0x04

/-- A request that needs the connection at a point; before it, ERROR UnexpectedRequest. DEDUCED (assumption log 16). -/
def State.spdmAt (s : State) (l : List SpdmSt) (f : State → State) : State :=
  if l.contains s.mgt.spdm then f s else s.mgtSend (.spdmError spdmUnexpected)

/-- A signature by the identity key (R431): a free value; each signed response is counted.
DESIGN CHOICE (assumption log 14). -/
def State.spdmSign (s : State) : Word × State :=
  let (i, s) := s.draw
  (Config.spdmSignature i, s.count SMS_SPDM_SIGN_CNT_COUNT)

/-- SPDM_GET_VERSION (R431, R445): the connection starts again. -/
def execSpdmGetVersion (t : Nat) (s : State) : Host.Outcome State Fault Refusal :=
  s.port t fun s => (s.withMgt { s.mgt with spdm := .version }).mgtSend (.spdmVersions [0x12])

/-- GET_CAPABILITIES (R431). -/
def execGetCapabilities (t : Nat) (s : State) : Host.Outcome State Fault Refusal :=
  s.port t fun s => s.spdmAt [.version, .capabilities] fun s =>
    (s.withMgt { s.mgt with spdm := .capabilities }).mgtSend (.spdmCapabilities 1 1 2 13 1024 1024)

/-- NEGOTIATE_ALGORITHMS (R431): whether the requester offers Ed25519, SHA-512 and the DMTF measurement specification. -/
def execNegotiateAlgorithms (t : Nat) (offers : Bool) (s : State) : Host.Outcome State Fault Refusal :=
  s.port t fun s => s.spdmAt [.capabilities, .negotiated] fun s =>
    if offers then (s.withMgt { s.mgt with spdm := .negotiated }).mgtSend .spdmAlgorithms
    else s.mgtSend (.spdmError spdmInvalid)

/-- GET_DIGESTS (R431): slot 0 holds the chain. -/
def execGetDigests (t : Nat) (s : State) : Host.Outcome State Fault Refusal :=
  s.port t fun s => s.spdmAt [.negotiated] fun s => s.mgtSend (.spdmDigests (sha512 certChain))

/-- GET_CERTIFICATE (R431): a portion of at most 1,000 bytes of slot 0. -/
def execGetCertificate (t slot offset len : Nat) (s : State) : Host.Outcome State Fault Refusal :=
  s.port t fun s => s.spdmAt [.negotiated] fun s =>
    if slot ≠ 0 || certChain.length < offset then s.mgtSend (.spdmError spdmInvalid)
    else
      let l := (certChain.drop offset).take (min len 1000)
      s.mgtSend (.spdmCertificate l (certChain.length - offset - l.length))

/-- CHALLENGE (R431): answered with a signature by the identity key. -/
def execChallenge (t slot : Nat) (nonce : List Byte) (s : State) : Host.Outcome State Fault Refusal :=
  s.port t fun s => s.spdmAt [.negotiated] fun s =>
    if slot ≠ 0 then s.mgtSend (.spdmError spdmInvalid)
    else
      let (g, s) := s.spdmSign
      s.mgtSend (.spdmChallengeAuth (sha512 certChain) nonce g)

/-- The measurement blocks of indexes, in force now (R429). -/
def State.measureBlocks (s : State) (l : List Nat) : List (Nat × Nat × List Byte) :=
  l.filterMap fun i => (s.measure i).map fun m => (i, m.1, m.2)

/-- GET_MEASUREMENTS (R429, R431): index 0 asks for the number of blocks, 0xFF for all of them; with or without a signature. -/
def execGetMeasurements (t index : Nat) (sign : Bool) (nonce : List Byte) (s : State) : Host.Outcome State Fault Refusal :=
  s.port t fun s => s.spdmAt [.negotiated] fun s =>
    let l := if index = 0xFF then natsFrom 1 9 else [index]
    if index ≠ 0 && (s.measureBlocks l).isEmpty then s.mgtSend (.spdmError spdmInvalid)
    else
      let blocks := s.measureBlocks l
      let (g, s) := if sign then (fun (p : Word × State) => (some p.1, p.2)) s.spdmSign else (none, s)
      s.mgtSend (if index = 0 then .spdmMeasurementCount 9 g else .spdmMeasurements blocks nonce g)

/-! PLDM base and monitoring (R435). -/

/-- GETTID (R435). -/
def execGettid (t : Nat) (s : State) : Host.Outcome State Fault Refusal := s.port t fun s => s.mgtSend (.tid s.mgt.tid)

/-- SETTID (R435): 0 and 0xFF are no terminus IDs. -/
def execSettid (t tid : Nat) (s : State) : Host.Outcome State Fault Refusal :=
  s.port t fun s =>
    if 1 ≤ tid && tid < 255 then (s.withMgt { s.mgt with tid := tid }).mgtSend (.completion 0)
    else s.mgtSend (.completion 0x02)

/-- GETPLDMVERSION (R435). -/
def execGetpldmversion (t type_ : Nat) (s : State) : Host.Outcome State Fault Refusal :=
  s.port t fun s => s.mgtSend (
    match type_ with
    | 0 => .pldmVersion 0 1 1
    | 2 => .pldmVersion 2 1 2
    | 5 => .pldmVersion 5 1 1
    | _ => .completion 0x83)

/-- GETPLDMTYPES (R435). -/
def execGetpldmtypes (t : Nat) (s : State) : Host.Outcome State Fault Refusal := s.port t fun s => s.mgtSend (.pldmTypes [0, 2, 5])

/-- GETPLDMCOMMANDS (R435): the command codes of DSP0240, DSP0248 and DSP0267. PRESUMED (assumption log 15). -/
def execGetpldmcommands (t type_ : Nat) (s : State) : Host.Outcome State Fault Refusal :=
  s.port t fun s => s.mgtSend (
    match type_ with
    | 0 => .pldmCommands 0 [0x01, 0x02, 0x03, 0x04, 0x05]
    | 2 => .pldmCommands 2 [0x04, 0x0A, 0x0B, 0x11, 0x21, 0x50, 0x51]
    | 5 => .pldmCommands 5 [0x01, 0x02, 0x10, 0x13, 0x14, 0x15, 0x16, 0x17, 0x18, 0x1A, 0x1B, 0x1C, 0x1D]
    | _ => .completion 0x83)

/-- GETPDRREPOSITORYINFO (R435): one PDR for each sensor. -/
def execGetpdrrepositoryinfo (t : Nat) (s : State) : Host.Outcome State Fault Refusal :=
  s.port t fun s => s.mgtSend (.pdrInfo sensorIds.length)

/-- GETPDR (R435): the record of a sensor; handle 0 names the first. DEDUCED (assumption log 16). -/
def execGetpdr (t handle : Nat) (s : State) : Host.Outcome State Fault Refusal :=
  s.port t fun s =>
    let n := if handle = 0 then 1 else handle
    s.mgtSend (if sensorIds.contains n then .pdr n (decide (100 ≤ n)) else .completion 0x82)

/-- GETSENSORREADING (R435): a numeric sensor, or "unavailable". -/
def execGetsensorreading (t n : Nat) (s : State) : Host.Outcome State Fault Refusal :=
  s.port t fun s => s.mgtSend (if sensorIds.contains n && n < 100 then .reading n (s.sensor n) else .completion 0x80)

/-- GETSTATESENSORREADINGS (R435). -/
def execGetstatesensorreadings (t n : Nat) (s : State) : Host.Outcome State Fault Refusal :=
  s.port t fun s => s.mgtSend (if sensorIds.contains n && 100 ≤ n then .reading n (s.sensor n) else .completion 0x80)

/-- The oldest event that waits is sent to the receiver (R435). -/
def State.sendEvent (s : State) : State :=
  match s.mgt.events, s.mgt.receiver with
  | (n, v) :: _, some _ => s.mgtSend (.event n v)
  | _, _ => s

/-- SETEVENTRECEIVER (R435). -/
def execSeteventreceiver (t eid : Nat) (s : State) : Host.Outcome State Fault Refusal :=
  s.port t fun s => ((s.withMgt { s.mgt with receiver := some eid }).mgtSend .receiverSet).sendEvent

/-- POLLFORPLATFORMEVENTMESSAGE (R435): the oldest event is collected. -/
def execPollforplatformeventmessage (t : Nat) (s : State) : Host.Outcome State Fault Refusal :=
  s.port t fun s =>
    match s.mgt.events with
    | [] => s.mgtSend .noEvent
    | (n, v) :: rest => (s.withMgt { s.mgt with events := rest }).mgtSend (.event n v)

/-- PLATFORMEVENTMESSAGE_ACK (R435): the receiver has the oldest event; the next one is sent. -/
def execPlatformeventmessageAck (t : Nat) (s : State) : Host.Outcome State Fault Refusal :=
  s.port t fun s =>
    if s.mgt.receiver.isNone then s
    else (s.withMgt { s.mgt with events := s.mgt.events.drop 1 }).sendEvent

/-! Firmware update (R439, R443). -/

/-- Completion codes of DSP0267. PRESUMED (assumption log 15). -/
def notInUpdate : Nat := 0x80
def alreadyInUpdate : Nat := 0x81
def invalidState : Nat := 0x84
def unableToUpdate : Nat := 0x8A

/-- The largest image: header and ciphertext (R438). -/
def maxCipher : Nat := 32505344

/-- The header of an image with some of its fields taken as zero (R438). -/
def zeroed (l : List Byte) (lo n : Nat) : List Byte := l.take lo ++ List.replicate n 0#8 ++ l.drop (lo + n)

/-- ASCII "RHNLFWIM" (R438). -/
def fwMagic : List Byte := [0x52#8, 0x48#8, 0x4E#8, 0x4C#8, 0x46#8, 0x57#8, 0x49#8, 0x4D#8]

/-- The boot ROM's firmware key of a number (R438). -/
def bootKey (k : Nat) : List Byte := (List.range 32).map (Config.bootKey k)

/-- Steps 1 and 2 of R439 on a header of 512 bytes. DEDUCED (assumption log 17). -/
def headerOk (h : List Byte) : Bool :=
  h.length == 512 && h.take 8 == fwMagic && numAt h 8 2 == 1 && decide (numAt h 10 2 < 2) && decide (numAt h 12 4 ≤ maxCipher)
    && decide (numAt h 28 4 ≤ numAt h 24 4) && numAt h 32 2 == pciDeviceId 0 && numAt h 34 2 == 0 && (h.drop 192).all (· == 0#8)
    && ed25519Verify (bootKey (numAt h 10 2)) (sha512 (zeroed h 128 64)) (sliceOf h 128 64)

/-- Steps 1 to 3 of R439. -/
def State.headerPasses (s : State) (h : List Byte) : Bool := headerOk h && decide (s.mgt.floor ≤ numAt h 24 4)

/-- A component of a table entry: its type, offset and length, within its limit and inside the body (R438). -/
def componentOk (body : Nat) (e : List Byte) : Bool :=
  let len := numAt e 8 4
  numAt e 12 4 == 0 && decide (numAt e 4 4 + len ≤ body) &&
    match numAt e 0 4 with
    | 1 => decide (len ≤ 24 * 2 ^ 20)
    | 2 => decide (len ≤ 2 ^ 20)
    | 3 => len == 65536
    | 4 => len == 65536
    | _ => false

/-- Step 6 of R439: the component table holds exactly one component of each type, the other entries zero.
DEDUCED (assumption log 17). -/
def tableOk (body : List Byte) : Bool :=
  let l := (List.range 16).map fun i => sliceOf body (16 * i) 16
  let used := l.filter fun e => e.any (· != 0#8)
  decide (256 ≤ body.length) && used.all (componentOk body.length)
    && (used.map (numAt · 0 4)).length == 4 && (natsFrom 1 4).all fun t => used.any fun e => numAt e 0 4 == t

/-- The firmware content key's bytes (R426). DESIGN CHOICE (assumption log 14). -/
def contentKey : List Nat := (List.range 32).map fun i => Config.contentKey.toNat / 2 ^ (8 * (31 - i)) % 256

/-- Steps 4 to 6 of R439 on a header and ciphertext. DEDUCED (assumption log 17). -/
def bodyPasses (h c : List Byte) : Bool :=
  c.length == numAt h 12 4 && sha512 c == sliceOf h 64 64 &&
    match gcmOpen contentKey ((sliceOf h 36 12).map (·.toNat)) ((zeroed (zeroed h 48 16) 128 64).map (·.toNat))
        (c.map (·.toNat)) ((sliceOf h 48 16).map (·.toNat)) with
    | none => false
    | some p => tableOk (p.map fun n => BitVec.ofNat 8 n)

/-- The flash can be written: its rail is up (R443). -/
def State.flashUp (s : State) : Bool := s.pwr.rails && s.pwr.pwrGood

/-- A command of the agent that holds the update, in one of some phases; the completion code otherwise. -/
def State.inUpdate (s : State) (agent : Nat) (phases : List UpdPhase) (f : State → UpdateSt → State) : State :=
  match s.mgt.update with
  | none => s.mgtSend (.completion notInUpdate)
  | some u =>
    if u.agent ≠ agent then s.mgtSend (.completion alreadyInUpdate)
    else if !phases.contains u.phase then s.mgtSend (.completion invalidState)
    else f s u

/-- The update replaced. -/
def State.setUpdate (s : State) (u : Option UpdateSt) : State := s.withMgt { s.mgt with update := u }

/-- QUERYDEVICEIDENTIFIERS (R443). -/
def execQuerydeviceidentifiers (t : Nat) (s : State) : Host.Outcome State Fault Refusal :=
  s.port t fun s => s.mgtSend (.deviceIds (pciVendorId 0 + 65536 * pciDeviceId 0) deviceSerial)

/-- GETFIRMWAREPARAMETERS (R443). -/
def execGetfirmwareparameters (t : Nat) (s : State) : Host.Outcome State Fault Refusal :=
  s.port t fun s =>
    let o := s.slot (1 - s.mgt.running)
    s.mgtSend (.firmwareParameters (s.slot s.mgt.running).version
      (if o.state == .candidate || o.state == .trial then some o.version else none))

/-- REQUESTUPDATE (R443). DEDUCED (assumption log 17). -/
def execRequestupdate (t agent : Nat) (s : State) : Host.Outcome State Fault Refusal :=
  s.port t fun s =>
    let other := match s.mgt.update with | some u => u.agent != agent | none => false
    if other then s.mgtSend (.completion alreadyInUpdate)
    else if s.trialSlot.isSome || !s.flashUp then s.mgtSend (.completion unableToUpdate)
    else
      let s := s.setUpdate (some ⟨agent, 1 - s.mgt.running, .learn, 0, []⟩)
      (s.withMgt { s.mgt with updateLost := false }).mgtSend (.completion 0)

/-- PASSCOMPONENTTABLE (R443). -/
def execPasscomponenttable (t agent : Nat) (s : State) : Host.Outcome State Fault Refusal :=
  s.port t fun s => s.inUpdate agent [.learn] fun s u => (s.setUpdate (some { u with phase := .ready })).mgtSend (.completion 0)

/-- The next portion of a transfer is asked for (R443). -/
def State.askData (s : State) (u : UpdateSt) : State :=
  s.mgtSend (.requestData u.bytes.length (min 1024 (u.size - u.bytes.length)))

/-- UPDATECOMPONENT (R443): the target is erased and set EMPTY, and the header is asked for. -/
def execUpdatecomponent (t agent size : Nat) (s : State) : Host.Outcome State Fault Refusal :=
  s.port t fun s => s.inUpdate agent [.ready] fun s u =>
    let u := { u with phase := .download, size := size, bytes := [] }
    (((s.setSlot u.target FwSlot.blank).setUpdate (some u)).mgtSend (.completion 0)).askData u

/-- An image is refused (R439): counted; the target stays EMPTY. DEDUCED (assumption log 17). -/
def State.refuseImage (s : State) (u : UpdateSt) (m : MgtMsg) : State :=
  ((s.count SMS_FW_REFUSED_CNT_COUNT).setUpdate (some { u with phase := .ready, bytes := [] })).mgtSend m

/-- The versions of ledger records that an image knows (R444), which its body fixes. DESIGN CHOICE (assumption log 34). -/
def formatsOf (h : List Byte) : Formats where
  calibration := (Config.recordFormat h 0).toNat
  health := (Config.recordFormat h 1).toNat
  endurance := (Config.recordFormat h 2).toNat
  own := (Config.recordFormat h 3).toNat

/-- The whole image has arrived (R443): it is verified and marked CANDIDATE. DEDUCED (assumption log 17). -/
def State.verifyImage (s : State) (u : UpdateSt) : State :=
  let h := u.bytes.take 512
  let s := s.mgtSend (.transferComplete 0)
  if !bodyPasses h (u.bytes.drop 512) then s.refuseImage u (.verifyComplete 1)
  else
    let v : FwSlot := ⟨.candidate, 0, numAt h 16 8, numAt h 24 4, numAt h 28 4, h, formatsOf h⟩
    let s := ((s.mgtSend (.verifyComplete 0)).setSlot u.target v).mgtSend (.applyComplete 0)
    s.setUpdate (some { u with phase := .applied, bytes := [] })

/-- FIRMWARE_DATA_RECEIVE (R443): the answer to the request that is outstanding; the header is checked with the first one. -/
def execFirmwareDataReceive (t agent : Nat) (data : List Byte) (s : State) : Host.Outcome State Fault Refusal :=
  s.port t fun s => s.inUpdate agent [.download] fun s u =>
    if data.length ≠ min 1024 (u.size - u.bytes.length) then s.askData u
    else
      let first := u.bytes.isEmpty
      let u := { u with bytes := u.bytes ++ data }
      if first && !s.headerPasses (u.bytes.take 512) then s.refuseImage u (.transferComplete 1)
      else
        let s := s.setUpdate (some u)
        if u.size ≤ u.bytes.length then s.verifyImage u else s.askData u

/-- ACTIVATEFIRMWARE (R443): TRIAL with BOOTS = 0; the answer says that activation waits for the next PERST_N or power-on. -/
def execActivatefirmware (t agent : Nat) (s : State) : Host.Outcome State Fault Refusal :=
  s.port t fun s => s.inUpdate agent [.applied] fun s u =>
    let s := s.setSlot u.target { s.slot u.target with state := .trial, boots := 0 }
    (s.setUpdate none).mgtSend .activationWaits

/-- The code of an update's phase in GetStatus (DSP0267): IDLE, LEARN COMPONENTS, READY XFER, DOWNLOAD, APPLY. -/
def UpdPhase.code : UpdPhase → Nat
  | .learn => 1
  | .ready => 2
  | .download => 3
  | .applied => 5

/-- GETSTATUS (R443, R445). -/
def execGetstatus (t : Nat) (s : State) : Host.Outcome State Fault Refusal :=
  s.port t fun s => s.mgtSend (.updateStatus (match s.mgt.update with | some u => u.phase.code | none => 0) s.mgt.updateLost)

/-- An update's image is given up: the target is EMPTY once its erasure has begun (R443). -/
def State.dropImage (s : State) (u : UpdateSt) : State :=
  if u.phase == .download || u.phase == .applied then s.setSlot u.target FwSlot.blank else s

/-- CANCELUPDATECOMPONENT (R443). -/
def execCancelupdatecomponent (t agent : Nat) (s : State) : Host.Outcome State Fault Refusal :=
  s.port t fun s => s.inUpdate agent [.download, .applied] fun s u =>
    ((s.dropImage u).setUpdate (some { u with phase := .ready, bytes := [] })).mgtSend (.completion 0)

/-- CANCELUPDATE (R443). DEDUCED (assumption log 17). -/
def execCancelupdate (t agent : Nat) (s : State) : Host.Outcome State Fault Refusal :=
  s.port t fun s => s.inUpdate agent [.learn, .ready, .download, .applied] fun s u =>
    ((s.dropImage u).setUpdate none).mgtSend (.completion 0)

end Sys2Proof.Machine
end

