-- ==== Sys2Proof/Machine/View.lean ====
section
/-! DEFINITION. What a register read shows (R6, R7): the fields that the module forms when they are read, the registers that
are tables of states, and the value of any field (spec/03 to spec/18, the register rules). -/

namespace Sys2Proof.Machine

/-- How a field is formed when it is read: from the state and the bank (core, function, queue, port). -/
abbrev View := State → Nat → Nat

/-- The functions' states (R327): 0 absent, 1 READY, 2 RESETTING. -/
def State.fnState (s : State) (f : Nat) : Nat := if s.resetting f then 2 else if s.fnExists f then 1 else 0

/-! The data path. -/

/-- The entry of a spare line in a map: one that another spare has replaced is not in force (R69). -/
def usedSpare (m : List (Nat × Nat)) (phys : Nat) : Option (Nat × Nat) :=
  m.find? fun e => e.2 == phys && (m.find? (·.1 == e.1)) == some e

/-- The remap entry in force that AMF_REMAP_SEL selects (R69, R71, R82): logical and physical number.  R82 does not say which ENTRY shows
which substitution, nor what rows 8 to 15 show: entry e shows that of spare line 512 + e, and those rows none.
DESIGN CHOICE (assumption log 60). -/
def State.remapEntry (s : State) (core : Nat) : Option (Nat × Nat) :=
  let cl := s.rd AMF_REMAP_SEL_CLUSTER core
  let row := s.rd AMF_REMAP_SEL_XB_ROW core
  let col := s.rd AMF_REMAP_SEL_XB_COL core
  let e := s.rd AMF_REMAP_SEL_ENTRY core
  let m := s.mapInForce (posOf core cl row col)
  match s.rd AMF_REMAP_SEL_KIND core with
  | 0 => if 8 ≤ row then none else usedSpare m.rows (512 + e)
  | 1 => if 8 ≤ row then none else usedSpare m.cols (512 + e)
  | 2 => ((columnRows (posOf core cl 0 col)).find? fun q => (s.mapInForce q).spare).map fun q => (posRow q, 8)
  | _ => none

/-- A position is bound (R82): the current image has it, or until the End the one it replaced (R226). -/
def State.boundPos (s : State) (p : Nat) : Bool :=
  let has (n : Nat) : Bool := ((s.obj n).content.placed p).isSome
  (match s.lst.current with | some (n, _) => has n | none => false)
    || (match s.lst.swap with | some w => w.phase == .tail && has w.oldSlot | none => false)

/-- The state of a physical crossbar as AMF_XB_STATE shows it (R77, R82): 1 while it is lasted or stood in, 2 in its probe
intervals, 0 serving, 3 not serving. -/
def State.xbState (s : State) (phys : Nat) : Nat :=
  let r := s.probeOf (posCore phys) (posCluster phys)
  if s.lst.lastings.any fun l => s.lastPhys l == phys then 1
  else if r.phys == phys && r.starts.any fun a => decide (a ≤ s.now) && decide (s.now < a + 64) then 2
  else match s.logicalOf phys with
    | some p => if SMap.get 0 s.lst.holds p = 0 || !s.boundPos p then 3 else if s.underLasting p then 1 else 0
    | none => 3

/-- Register `i` of AMF_XB_STATE (R82). -/
def State.xbStateWord (s : State) (core i : Nat) : Nat :=
  sumN ((List.range 16).map fun j => s.xbState (s.siteBase core + 576 * core + 16 * i + j) * 4 ^ j)

/-- The tracking of the crossbar and of the slice that CCV_TRK_SEL selects (R103).  Of rows 9 to 15, which no crossbar has, it shows a
crossbar not in use. DESIGN CHOICE (assumption log 60). -/
def State.trkSel (s : State) (core : Nat) : XbTrk × SliceTrk :=
  let p := s.siteBase core + posOf core (s.rd CCV_TRK_SEL_CLUSTER core) (s.rd CCV_TRK_SEL_XB_ROW core) (s.rd CCV_TRK_SEL_XB_COL core)
  let t := if s.rd CCV_TRK_SEL_XB_ROW core ≤ 8 then s.trk p else XbTrk.init
  (t, SMap.get SliceTrk.init t.slices (s.rd CCV_TRK_SEL_SLICE core))

/-- CCV_TRK_DATA.STATE (R97, R103): 3 for a crossbar not in use, 2 where CS has replaced a slice and the column side is frozen, 3
for a slice not visited, 1 at a limit. -/
def State.trkState (s : State) (core : Nat) : Nat :=
  let k := s.rd CCV_TRK_SEL_SLICE core
  let row := s.rd CCV_TRK_SEL_XB_ROW core
  let p := s.siteBase core + posOf core (s.rd CCV_TRK_SEL_CLUSTER core) row (s.rd CCV_TRK_SEL_XB_COL core)
  let (t, v) := s.trkSel core
  if 25 < k then 0
  else if 8 < row || !s.xbUsed p then 3
  else if t.replaced.isSome && k ≤ 17 then 2
  else if v.visits = 0 then 3
  else b2n v.limit

/-- CCV_TRK_DATA.REPLACED (R103). -/
def State.trkReplaced (s : State) (core : Nat) : Nat :=
  let k := s.rd CCV_TRK_SEL_SLICE core
  match (s.trkSel core).1.replaced with
  | some r => b2n (k == 17 || (decide (k ≤ 16) && r == k))
  | none => 0

/-- The crossbar that WLT_CORR_SEL selects (R135): a physical crossbar of the core, none for a row above 8. -/
def State.corrSel (s : State) (core : Nat) : Option Nat :=
  let row := s.rd WLT_CORR_SEL_XB_ROW core
  if 8 < row then none
  else some (s.siteBase core + posOf core (s.rd WLT_CORR_SEL_CLUSTER core) row (s.rd WLT_CORR_SEL_XB_COL core))

/-- The slice that converts a physical column of a crossbar (R84, R87): that of the logical column a spare column serves. -/
def State.sliceOf (s : State) (phys j : Nat) : Nat :=
  if j < 512 then j / 32
  else match (SMap.get [] s.lst.colMap phys).find? (·.2 == j) with
    | some (l, _) => if l < 512 then l / 32 else 16
    | none => 16

/-- γ in force for the column that WLT_CORR_SEL selects, and whether it is held (R112, R135): where CS stands in for the column's slice,
that of CS. -/
def State.corrGain (s : State) (core : Nat) : Nat × Nat :=
  let j := s.rd WLT_CORR_SEL_COLUMN core
  match s.corrSel core with
  | none => (0, 0)
  | some p =>
    if 528 ≤ j then (0, 0)
    else
      let k := s.sliceOf p j
      let g := gammaOf p (dieOf core) (s.snapshot p) (if (s.trk p).spare = some k then 17 else k) j
      (toCode 24 g.1, b2n g.2)

/-- The object slot whose content a core's stores hold (R218, R226): the current one, to which a swap's Switch reloads them, or that of a bind
in progress. -/
def State.storeSlots (s : State) : List Nat :=
  match s.lst.current with
  | some (n, _) => [n]
  | none => (match s.lst.bind with | some b => [b.slot] | none => [])

/-- WLT_STORE_USE.OUTLIERS of a core (R135). -/
def State.outlierUse (s : State) (core : Nat) : Nat :=
  sumN (s.storeSlots.map fun n =>
    let c := (s.obj n).content
    (c.outliers.filter fun o => c.clusters.any fun r => r.core == core && r.covers o.matrix o.input o.output).length)

/-- WLT_STORE_USE.LOWRANK_KIB of a core (R135): the base images' factors and those of the adapters loaded. -/
def State.lowRankUse (s : State) (core : Nat) : Nat :=
  let base := sumN (s.storeSlots.map fun n => lowRankBytes (s.obj n).content (s.obj n).content.lowRank core)
  let own := sumN (s.lst.adapters.map fun a =>
    let o := s.obj a.slot
    match s.lst.current with
    | some (n, g) => if o.gens.contains g then lowRankBytes (s.obj n).content o.content.lowRank core else 0
    | none => 0)
  ceilDiv (base + own) 1024

/-- A register WLT_TILE of a core (R135). -/
def State.tileWord (s : State) (core n : Nat) : Nat :=
  let t := SMap.get TileSlot.init s.fab.tiles (8 * core + n)
  if !t.valid then 0
  else 1 + 2 * posCluster t.pos + 16 * posRow t.pos + 256 * posCol t.pos + 65536 * (t.gen % 65536)

/-- The code of a bank's state (R143). -/
def BankState.code : BankState → Nat
  | .free => 0
  | .loaded => 1
  | .flowing => 2
  | .complete => 3
  | .draining => 4

/-- ACR_BANK_STATE0 and 1 of a core (R160). -/
def State.bankWord (s : State) (core i : Nat) : Nat :=
  sumN ((List.range 4).map fun c =>
    let code (b : Nat) : Nat :=
      ((s.bank core (4 * i + c) (s.dataBank core (4 * i + c) b)).stateAt s.now).code
    (code 0 + 16 * code 1) * 256 ^ c)

/-- Engines of a core with an entry in flight, as a mask (R371). -/
def CoreCtl.busyMask (c : CoreCtl) : Nat :=
  sumN ((List.range 16).map fun e => if (SMap.get [] c.flying e).isEmpty then 0 else 2 ^ e)

/-- Engines of a core that a barrier holds, as a mask (R361, R371). -/
def CoreCtl.heldMask (c : CoreCtl) : Nat := sumN ((List.range 16).map fun e => b2n (c.isHeld e) * 2 ^ e)

/-- The code of CPX_SEQ_STATE.STATE (R371). -/
def SeqState.code : SeqState → Nat
  | .idle => 0
  | .running => 1
  | .stalled => 2
  | .fault => 3

/-- The prefill attention unit of a core holds work that is a backward pass (R183). -/
def State.attnBackward (s : State) (core : Nat) : Bool :=
  (SMap.get [] (s.core core).flying 11).any fun x => Config.attnBackward x.1.op

/-- Attention units of a core that wait for key or value bytes, as a mask (R179, R183): a core's prefill unit is unit 0. -/
def State.feedMask (s : State) (core : Nat) : Nat :=
  sumN ((List.range 8).map fun u => b2n (decide (s.now < SMap.get 0 s.fab.feeds (8 * core + u))) * 2 ^ u)

def viewsFabric : List (Fld × View) := [
  (AMF_REMAP_DATA_VALID, fun s n => b2n (s.remapEntry n).isSome),
  (AMF_REMAP_DATA_LOGICAL, fun s n => ((s.remapEntry n).map (·.1)).getD 0),
  (AMF_REMAP_DATA_PHYSICAL, fun s n => ((s.remapEntry n).map (·.2)).getD 0),
  (CCV_TRK_DATA_OFS, fun s n => toCode 8 (nth 0 (s.trkSel n).2.ofs (s.rd CCV_TRK_SEL_LSB_IDX n))),
  (CCV_TRK_DATA_GAIN, fun s n => toCode 8 (s.trkSel n).2.gain),
  (CCV_TRK_DATA_VISITS, fun s n => min 4095 (s.trkSel n).2.visits),
  (CCV_TRK_DATA_STATE, fun s n => s.trkState n),
  (CCV_TRK_DATA_REPLACED, fun s n => s.trkReplaced n),
  (WLT_STORE_USE_OUTLIERS, fun s n => s.outlierUse n),
  (WLT_STORE_USE_LOWRANK_KIB, fun s n => s.lowRankUse n),
  (WLT_CORR_GAIN_GAMMA, fun s n => (s.corrGain n).1),
  (WLT_CORR_GAIN_LIMIT, fun s n => (s.corrGain n).2),
  (WLT_CORR_DRIFT_DRIFT, fun s n => match s.corrSel n with | some p => (s.corr p).drift | none => 0),
  (WLT_CORR_DRIFT_TEMP, fun s n => toCode 8 (SMap.get 0 s.ptm.tx n)),
  (WLT_CORR_DRIFT_LIMIT, fun s n => match s.corrSel n with | some p => b2n (decide (8192 ≤ (s.corr p).drift)) | none => 0),
  (ATN_HUB_STATE_WAIT, fun s n => s.feedMask n % 256),
  (ATN_PRE_STATE_WAIT, fun s n => b2n (s.feedMask n != 0)),
  (ATN_HUB_STATE_BUSY, fun s n => (s.core n).busyMask % 256),
  (ATN_PRE_STATE_BUSY, fun s n => b2n (bitOf (s.core n).busyMask 11)),
  (ATN_PRE_STATE_BACKWARD, fun s n => b2n (s.attnBackward n)),
  (CPX_SEQ_STATE_STATE, fun s n => (s.core n).seq.code),
  (CPX_SEQ_STATE_JOB, fun s n => if (s.core n).seq = .idle then 0 else (s.core n).job),
  (CPX_SEQ_LAUNCH_SLOT, fun s n => (s.core n).launchSlot.getD 0xFFFFFFFF),
  (CPX_EQ_BUSY_BUSY, fun s n => (s.core n).busyMask),
  (CPX_EQ_BUSY_HELD, fun s n => (s.core n).heldMask),
  (CPX_BAR_STATE0_ARRIVED, fun s n => ((s.core n).bar (s.rd CPX_BAR_SEL_BAR n)).arrived),
  (CPX_BAR_STATE0_EARLY, fun s n => ((s.core n).bar (s.rd CPX_BAR_SEL_BAR n)).early),
  (CPX_BAR_STATE1_COUNT, fun s n => ((s.core n).bar (s.rd CPX_BAR_SEL_BAR n)).count),
  (CPX_BAR_STATE1_FAULTED, fun s n => b2n ((s.core n).bar (s.rd CPX_BAR_SEL_BAR n)).faulted),
  (CPX_BAR_STATE1_HUNG, fun s n => b2n ((s.core n).bar (s.rd CPX_BAR_SEL_BAR n)).hung),
  (CPX_BAR_STATE1_ROUND, fun s n => ((s.core n).bar (s.rd CPX_BAR_SEL_BAR n)).round)]

/-! Pages, weights, time and the host interface. -/

/-- The physical crossbar that LST_END_SEL selects (R234), none for a row above 8: row 8 names the spare itself. -/
def State.endSel (s : State) : Option (Nat × Bool) :=
  let p := posOf (s.rd LST_END_SEL_CORE) (s.rd LST_END_SEL_CLUSTER) (s.rd LST_END_SEL_XB_ROW) (s.rd LST_END_SEL_XB_COL)
  let row := s.rd LST_END_SEL_XB_ROW
  if 8 < row then none
  else some (s.physPos p, decide (row < 8) && SMap.get false s.lst.onSpare p)

/-- The code of an object slot's state (R207). -/
def ObjState.code : ObjState → Nat
  | .empty => 0
  | .loading => 1
  | .checked => 2
  | .bad => 3
  | .current => 4
  | .old => 5
  | .adapter => 6

/-- LST_SWAP_STATE.PHASE at an instant (R226, R234): Switch lasts until the welt has reloaded its stores. -/
def LstSt.phase (l : LstSt) (now : Nat) : Nat :=
  match l.swap with
  | some w => match w.phase with
    | .prepare => 1
    | .lasting => 2
    | .tail => if now < l.reloadTo then 3 else 4
  | none => if l.bind.isSome then 5 else 0

/-- LST_SWAP_STATE.XB_LEFT (R234). -/
def LstSt.left (l : LstSt) : Nat :=
  match l.swap with
  | some w => w.left.length
  | none => match l.bind with
    | some b => b.left.length
    | none => 0

/-- The object slot that LST_OBJ_SEL selects. -/
def State.objSel (s : State) : ObjSlot := s.obj (s.rd LST_OBJ_SEL_OBJ)

def viewsServing : List (Fld × View) := [
  (KVM_FREE_A_COUNT, fun s _ => s.freePages false),
  (KVM_FREE_B_COUNT, fun s _ => s.freePages true),
  (KVM_FN_USE_A_PAGES, fun s f => s.fnUse f false),
  (KVM_FN_USE_B_PAGES, fun s f => s.fnUse f true),
  (KVM_FN_OPEN_SESSIONS, fun s f => s.fnOpen f),
  (CST_FREE_BLOCKS, fun s _ => 10240 - s.cstAll / 65536),
  (CST_FN_USE_MIB, fun s f => ceilDiv (s.cstUsed f) 1048576),
  (LST_GEN_STATE_CURRENT, fun s _ => (s.lst.current.map (·.2)).getD 0),
  (LST_GEN_STATE_OLD, fun s _ => match s.lst.swap with | some w => if w.phase = .tail then w.oldGen else 0 | none => 0),
  (LST_SWAP_STATE_PHASE, fun s _ => s.lst.phase s.now),
  (LST_SWAP_STATE_VALID, fun s _ => b2n s.lst.current.isSome),
  (LST_SWAP_STATE_XB_LEFT, fun s _ => s.lst.left),
  (LST_OLD_REQ_COUNT, fun s _ => match s.lst.swap with
    | some w => if w.phase = .tail then s.boundTo w.oldGen else 0
    | none => 0),
  (LST_OBJ_STATE_STATE, fun s _ => s.objSel.state.code),
  (LST_OBJ_STATE_FN, fun s _ => s.objSel.fn),
  (LST_OBJ_STATE_ADAPTER, fun s _ => if s.objSel.state = .adapter then s.objSel.adapter else 0),
  (LST_OBJ_STATE_GEN, fun s _ => if s.objSel.state = .current || s.objSel.state = .old then s.objSel.gen else 0),
  (LST_TRUST_DATA_KEY, fun s _ =>
    ofLeBytes (((s.trustKey (s.rd LST_TRUST_SEL_SLOT)).drop (4 * s.rd LST_TRUST_SEL_WORD)).take 4)),
  (LST_FN_OBJ_USE_MIB, fun s f => min 65535 (ceilDiv (s.fnObjUse f) 1048576)),
  (LST_END_DATA_COUNT, fun s _ => match s.endSel with | some e => s.enduranceOf e.1 | none => 0),
  (LST_END_DATA_RATED, fun s _ => match s.endSel with | some e => b2n (decide (ratedLastings ≤ s.enduranceOf e.1)) | none => 0),
  (LST_END_DATA_SPARE, fun s _ => match s.endSel with | some e => b2n e.2 | none => 0),
  (TWS_EPOCH_NS, fun s _ => s.epoch),
  (TWS_TIME_NS, fun s _ => s.now),
  (TWS_SLOT_NOW_SLOT, fun s _ => s.time.slotNow.getD 0xFFFFFFFF),
  (TWS_STATUS_UNLOCKED, fun s _ => b2n s.unlocked),
  (TWS_STATUS_RUNNING, fun s _ => b2n s.time.slotNow.isSome),
  (TWS_ERR_EST_NS, fun s _ => s.errEst),
  (HIF_LINK_NUMVF, fun s _ => if s.hif.vfEnable then s.hif.numVfs else 0),
  (HIF_CTRL_SERVE_RESET, fun s _ => match (s.fn 0).reset with | some (_, true) => 1 | _ => 0),
  (HIF_FN_STATE_STATE, fun s f => s.fnState f),
  (HIF_VF_ID_FN, fun _ f => f),
  (HIF_VF_ID_QCOUNT, fun s f => s.rd HIF_FN_QUEUES_COUNT f),
  (HIF_VF_CTRL_SERVE_RESET, fun s f => match (s.fn f).reset with | some (_, true) => 1 | _ => 0),
  (HIF_VF_STATE_STATE, fun s f => s.fnState f),
  (HIF_Q_SQ_HEAD_INDEX, fun s q => (s.queue q).sqHead),
  (HIF_Q_CQ_TAIL_INDEX, fun s q => (s.queue q).cqTail),
  (HIF_Q_TQ_TAIL_INDEX, fun s q => (s.queue q).tqTail),
  (LNK_PTP_MASTER_ID, fun s _ => (s.time.master.map (·.2)).getD 0)]

/-! Memory, housekeeping, faults and management. -/

/-- The entry of the retired list that MEM_RETIRE_SEL selects (R387). -/
def State.retireSel (s : State) : Option Nat :=
  ((if s.bit MEM_RETIRE_SEL_TIER then s.mem.retiredB else s.mem.retiredA).drop (s.rd MEM_RETIRE_SEL_INDEX)).head?

/-- The spare sites of a die that are left (R424). -/
def sitesLeft (l : List Nat) : Nat := 16 - l.length

/-- Hub cores retired (R424). -/
def State.hubRetired (s : State) : Nat := SMap.count (fun k (v : Health) => decide (512 ≤ k) && v.retired) s.sms.health

/-- The clock division code of a core (R406). -/
def State.clkdiv (s : State) (core : Nat) : Nat := Nat.log2 (levelClkdiv (s.health core).level)

/-- The monitor's channels (R389): a selection of another reads zero. -/
def isPtmChannel (c : Nat) : Bool := decide (c < 635) || within c 640 24

def viewsCare : List (Fld × View) := [
  (MEM_RETIRE_DATA_PAGE, fun s _ => s.retireSel.getD 0),
  (MEM_RETIRE_DATA_VALID, fun s _ => b2n s.retireSel.isSome),
  (MEM_RETIRE_COUNT_A, fun s _ => s.mem.retiredA.length),
  (MEM_RETIRE_COUNT_B, fun s _ => s.mem.retiredB.length),
  (PTM_CH_VALUE_VALUE, fun s _ => toCode 16 (s.chan (s.rd PTM_CH_SEL_CH))),
  (PTM_CH_VALUE_KIND, fun s _ => (SMap.get (0, 0) s.ptm.chans (s.rd PTM_CH_SEL_CH)).2),
  (PTM_CH_WIN_LO, fun s _ => let c := s.rd PTM_CH_SEL_CH; if isPtmChannel c then (Config.windowLo c).toNat else 0),
  (PTM_CH_WIN_HI, fun s _ => let c := s.rd PTM_CH_SEL_CH; if isPtmChannel c then (Config.windowHi c).toNat else 0),
  (PTM_TEMP_MAX_T_MODEL, fun s _ => toCode 8 s.tempMax.1),
  (PTM_TEMP_MAX_REGION, fun s _ => s.tempMax.2),
  (PTM_DIODE_MAX_T_DIODE, fun s _ => toCode 8 (s.diodeMax.1 / 16)),
  (PTM_DIODE_MAX_DIODE, fun s _ => s.diodeMax.2),
  (PTM_CORE_STATE_VSTEP, fun s n => levelVstep (s.health n).level),
  (PTM_CORE_STATE_CLKDIV, fun s n => s.clkdiv n),
  (PTM_CORE_STATE_PAUSE_N, fun s n => SMap.get 0 s.serve.throttle n),
  (PTM_CORE_STATE_T_MODEL, fun s n => toCode 8 (wholeDeg (s.temp n))),
  (SMS_STATUS_SPARES_W, fun s _ => sitesLeft s.sms.sitesW),
  (SMS_STATUS_SPARES_E, fun s _ => sitesLeft s.sms.sitesE),
  (SMS_STATUS_HUB_RETIRED, fun s _ => s.hubRetired),
  (SMS_LOG_HEAD_SEQ, fun s _ => s.logHead),
  (SMS_LOG_TAIL_SEQ, fun s _ => s.logTail),
  (SMS_CORE_HEALTH_LEVEL, fun s n => (s.health n).level),
  (SMS_CORE_HEALTH_SUSPECT, fun s n => min 31 (s.suspectCount n)),
  (SMS_CORE_HEALTH_RETIRE_PENDING, fun s n => b2n (s.health n).pending.isSome),
  (SMS_CORE_HEALTH_SPARE_SITE, fun s n => b2n (s.health n).site.isSome),
  (SMS_CORE_HEALTH_SITE, fun s n => (s.health n).site.getD 0),
  (SMS_CORE_HEALTH_RETIRED, fun s n => b2n (s.health n).retired),
  (SMS_CORE_HEALTH_UNPLACEABLE, fun s n => b2n (s.health n).unplaceable),
  (SMS_CORE_IFT_NEXT_SLICE, fun s n => (s.health n).slice),
  (SMS_CORE_IFT_OVERDUE, fun s n => b2n (s.health n).overdue),
  (SMS_CORE_IFT_RUNNING, fun s n => b2n (s.sliceRuns n)),
  (SMS_CORE_IFT_DUE_NS, fun s n => (s.iftDue n).getD 0),
  (SMS_ID_DSN_DSN, fun _ _ => ofLeBytes deviceSerial),
  (SMS_FW_RUN_SLOT, fun s _ => s.mgt.running),
  (SMS_FW_RUN_TRIAL, fun s _ => b2n s.mgt.trial),
  (SMS_FW_RUN_BOOTS, fun s _ => (s.slot s.mgt.running).boots),
  (SMS_FW_RUN_FELL_BACK, fun s _ => b2n s.mgt.fellBack),
  (SMS_FW_RUN_CONFIRM_LEFT, fun s _ => s.confirmLeft),
  (SMS_FW_VERSION_VERSION, fun s _ => (s.slot s.mgt.running).version),
  (SMS_FW_SLOT_STATE, fun s _ => (s.slot (s.rd SMS_FW_SEL_SLOT)).state.code),
  (SMS_FW_SLOT_BOOTS, fun s _ => (s.slot (s.rd SMS_FW_SEL_SLOT)).boots),
  (SMS_FW_SLOT_SVN, fun s _ => (s.slot (s.rd SMS_FW_SEL_SLOT)).svn),
  (SMS_FW_SLOT_VER_VERSION, fun s _ =>
    let v := s.slot (s.rd SMS_FW_SEL_SLOT)
    if v.state = .empty then 0 else v.version),
  (SMS_FW_SVN_FLOOR_FLOOR, fun s _ => s.mgt.floor),
  (SMS_MEAS_DATA_DATA, fun s _ => s.measData),
  (SMS_MGT_STATUS_MODE, fun s _ => s.mgt.mode),
  (SMS_MGT_STATUS_APP, fun s _ => b2n s.mgt.app),
  (SMS_MGT_STATUS_UPDATE, fun s _ => b2n s.mgt.update.isSome),
  (SMS_MGT_STATUS_EID, fun s _ => s.mgt.eid),
  (SMS_MGT_STATUS_DYN_ADDR, fun s _ => s.mgt.dynAddr)]

/-- Every field that is formed when it is read. -/
def views : List (Fld × View) := viewsFabric ++ viewsServing ++ viewsCare

/-- The value of a field in force, as a read of it or of a virtual function's copy shows it (R307). -/
def State.inForce (s : State) (f : Fld) (bank : Nat) : Nat :=
  match views.find? (·.1 == f) with
  | some v => v.2 s bank % 2 ^ f.width
  | none => s.rd f bank

/-- The last write of a shadowed field that has not taken effect yet (R7, R8). -/
def State.written (s : State) (key : Nat) : Option Nat :=
  let last (l : List ShWrite) : Option Nat := (l.reverse.find? (·.key == key)).map (·.val)
  match last s.shadow with
  | some v => some v
  | none => last ((s.commits.map (·.2)).flatten)

/-- What a read of a field returns (R7): the last written value of a shadowed field, 0 for a write-only one. -/
def State.shown (s : State) (f : Fld) (bank : Nat) : Nat :=
  match f.ty with
  | .wo => 0
  | .sh => (s.written (f.key bank)).getD (s.rd f bank)
  | _ => s.inForce f bank

/-! The KVM table region (R188–R190) as the debug path reads it (R369). -/

/-- The code of a session's state (R190). -/
def SessState.code : SessState → Nat
  | .active => 0
  | .pausing => 1
  | .paused => 2
  | .resuming => 3

/-- The 512 bytes of a session record (R190). -/
def Session.record (x : Session) : List Byte :=
  leBytes 8 x.handle
    ++ leBytes 4 (x.fn % 32 + 32 * (x.prio % 8) + 256 * x.state.code + 2048 * (x.kvFmt % 2) + 4096 * b2n x.recomp)
    ++ leBytes 4 x.committed ++ leBytes 4 x.evicted ++ leBytes 4 x.written
    ++ leBytes 4 (x.gen % 65536 + 65536 * (x.columns ++ x.old).length) ++ leBytes 4 x.dir
    ++ leBytes 8 x.pausedAt ++ leBytes 8 x.expiry ++ leBytes 8 x.lastStep ++ List.replicate 200 0#8
    ++ ((List.range 64).map fun k => leBytes 4 (nth 0 x.tokenPages k)).flatten

/-- The 16 bytes of entry `i` of a column block (R188, R189); `kvFmt` is the session's. -/
def Column.entry (c : Column) (kvFmt i : Nat) : List Byte :=
  leBytes 4 (nth 0 c.pages i + 2 ^ 24 * b2n c.tierB + 2 ^ 25 * b2n (decide (i < c.pages.length)) + 2 ^ 26 * b2n c.spec)
    ++ leBytes 4 (c.gen % 65536)
    ++ leBytes 4 (if kvFmt = 0 then 0 else nth 0 c.pages (c.lh + i / 16) + 2 ^ 25 * (i % 16))
    ++ leBytes 4 0

/-- The word at an offset of the table region where a session's directory or a column block lies (R188, R189): the offset of a
column's block, or a word of an entry; none where nothing lies that the spec describes. -/
def State.tableWordAt (s : State) (o : Nat) : Option Nat :=
  s.serve.sessions.findSome? fun x =>
    if within o x.dir (1024 * x.dirSteps) then ((x.columns ++ x.old).find? (·.index == (o - x.dir) / 4)).map (·.block)
    else ((x.columns ++ x.old).find? fun c => within o c.block (16 * c.lh)).map fun c =>
      ofLeBytes (((c.entry x.kvFmt ((o - c.block) / 16)).drop ((o - c.block) % 16)).take 4)

/-- The word at an address of the table region or the firmware region, and the state after a free value was drawn for it: the
record of a session, a pointer of a directory, a word of a page-table entry, or a word whose content the spec does not give.
DESIGN CHOICE (assumption log 13). -/
def State.debugWord (s : State) (a : Nat) : Nat × State :=
  let o := a - s.rd KVM_TBL_BASE_ADDR
  let known :=
    if !within a (s.rd KVM_TBL_BASE_ADDR) (s.rd KVM_TBL_SIZE_SIZE_MIB * 2 ^ 20) then none
    else if o < tableRecords then (s.sess (o / 512)).map fun x => ofLeBytes ((x.record.drop (o % 512)).take 4)
    else s.tableWordAt o
  match known with
  | some w => (w, s)
  | none => let (i, s) := s.draw; ((Config.tableWord i).toNat, s)

/-- A read of CPX_DBG_DATA (R369): the word and the next address, or 0 and REFUSED, the address as it was.
DESIGN CHOICE (assumption log 13). -/
def State.debugRead (s : State) : Nat × State :=
  let a := s.rd CPX_DBG_ADDR_ADDR
  let region := s.regionOf 0 a
  if !s.bit CPX_CTRL_DBG_EN || !(region == 2 || region == 3) || 384 * 2 ^ 30 ≤ a then (0, s.setBit CPX_DBG_STATUS_REFUSED)
  else
    let (v, s) := s.debugWord a
    (v, s.wr CPX_DBG_ADDR_ADDR (a + 4))

end Sys2Proof.Machine
end

