-- ==== Sys2Proof/Machine/Regs.lean ====
section
/-! DEFINITION. BAR accesses (spec/12_host_interface.md R304–R309, R328; R6, R7): where an offset leads, reads with their
latches, and writes by field type or by the register's own action; and the meanings of the register commands. -/

namespace Sys2Proof.Machine

/-! Where an offset leads. -/

/-- What stands at a 4-byte aligned offset of a BAR: a register and its bank, a virtual function's copy of one (R307), a word of
the MSI-X table, a half of the pending bits (R317), a word of a mailbox block (R308), a doorbell (R312), or nothing. -/
inductive Place where
  | reg (addr bank : Nat)
  | copy (addr bank : Nat)
  | msix (v part : Nat)
  | pending (half : Nat)
  | send (a b off : Nat)
  | receive (a b off : Nat)
  | bell (q : Nat) (b : Bell)
  | none
deriving DecidableEq, Repr

/-- The MSI-X table and its pending bits, at the same offsets for every function (R307, R317). -/
def msixPlace (off : Nat) : Option Place :=
  if 0x8000 ≤ off && off < 0x8400 then some (.msix ((off - 0x8000) / 16) (off % 16 / 4))
  else if 0x9000 ≤ off && off < 0x9008 then some (.pending (off % 8 / 4))
  else none

/-- Registers that a select register shows for one function: first and last address, and the select field. -/
def fnSelected : List (Nat × Nat × Fld) := [
  (0x00000104, 0x00000110, HIF_FN_SEL_FN), (0x00100054, 0x00100058, TWS_FN_SEL_FN), (0x00200014, 0x00200018, CST_FN_SEL_FN),
  (0x00300014, 0x00300014, MEM_FN_SEL_FN), (0x00400044, 0x00400058, KVM_FN_SEL_FN), (0x00500060, 0x00500064, LST_FN_OBJ_SEL_FN)]

/-- BAR0 of the physical function (R305): the block map, the per-core windows, the queue blocks and the ports. -/
def State.pfPlace (s : State) (off : Nat) : Place :=
  if off < 0x01000000 then
    match fnSelected.find? fun e => decide (e.1 ≤ off) && decide (off ≤ e.2.1) with
    | some e => .reg off (s.rd e.2.2)
    | none =>
      if 0x1000 ≤ off && off < 0x5000 then .reg (0x1000 + (off - 0x1000) % 64) ((off - 0x1000) / 64)
      else if 0x00A00040 ≤ off && off < 0x00A000A0 then .reg (0x00A00040 + off % 16) ((off - 0x00A00040) / 16)
      else if 0x00A00200 ≤ off && off < 0x00A00400 then
        let port := (off - 0x00A00200) / 0x100
        let o := off % 0x100
        .reg (0x00A00200 + o) (if 0x44 ≤ o && o < 0x6C then qpBank port (s.rd LNK_Ss_QP_SEL_QP port) else port)
      else .reg off 0
  else if off < 0x02000000 then .reg (0x01000000 + off % 0x8000) ((off - 0x01000000) / 0x8000)
  else if off < 0x02040000 then
    let core := 512 + (off - 0x02000000) / 0x8000
    let o := off % 0x8000
    if o < 0x10 then .reg (0x02000000 + o) core
    else if 0x800 ≤ o && o < 0xB00 then .reg (0x01000000 + o) core
    else .none
  else .none

/-- The copies in a virtual function's view (R307): offset, address copied, and whether the register is the function's. -/
def vfCopies : List (Nat × Nat × Bool) := [
  (0x2000, 0x00400044, true), (0x2004, 0x00400048, true), (0x2008, 0x0040004C, true), (0x200C, 0x00400050, true),
  (0x2010, 0x00400054, true), (0x2014, 0x00400058, true), (0x2100, 0x00100018, false), (0x2104, 0x0010001C, false),
  (0x2108, 0x00100028, false), (0x210C, 0x00100008, false), (0x2110, 0x00100010, false), (0x2114, 0x00100014, false),
  (0x2118, 0x00100038, false), (0x211C, 0x00100040, false), (0x2200, 0x00000108, true), (0x2204, 0x00000104, true)]

/-- The queue that a virtual function knows as its local queue `k` (R309). -/
def State.localQueue (s : State) (fn k : Nat) : Option Nat :=
  if k < s.rd HIF_FN_QUEUES_COUNT fn then some (s.rd HIF_FN_QUEUES_FIRST fn + k) else none

/-- BAR0 of a virtual function (R307): no register of LST stands in it, so none is read there and a write has no effect (R235). -/
def State.vfPlace (s : State) (fn off : Nat) : Place :=
  if off < 0x10 then .reg (0x04000000 + off) fn
  else if 0x1000 ≤ off && off < 0x1400 then
    match s.localQueue fn ((off - 0x1000) / 64) with
    | some q => .reg (0x1000 + off % 64) q
    | none => .none
  else match vfCopies.find? (·.1 == off) with
    | some c => .copy c.2.1 (if c.2.2 then fn else 0)
    | none => .none

/-- BAR2 (R304, R312): a page for each queue. -/
def State.bellPlace (s : State) (fn off : Nat) : Place :=
  let q := if fn = 0 then (if off / 4096 < 256 then some (off / 4096) else none)
    else if off / 4096 < 16 then s.localQueue fn (off / 4096) else none
  match q with
  | none => .none
  | some q =>
    match off % 4096 with
    | 0 => .bell q .sqTail
    | 4 => .bell q .cqHead
    | 8 => .bell q .tqHead
    | _ => .none

/-- The mailbox block at an offset of a window (R308): of a function, towards the main firmware, the management controller and,
between the physical function and a virtual one, the other. -/
def mbxPlace (fn peer o : Nat) (inner : Bool) : Place :=
  match o / 0x400 with
  | 0 => if inner then .send fn idFw (o % 0x400) else .none
  | 1 => if inner then .receive idFw fn (o % 0x400) else .none
  | 2 => if inner then .send fn idMc (o % 0x400) else .none
  | 3 => if inner then .receive idMc fn (o % 0x400) else .none
  | 4 => if peer = fn then .none else .send fn peer (o % 0x400)
  | 5 => if peer = fn then .none else .receive peer fn (o % 0x400)
  | _ => .none

/-- BAR4 (R308): windows of 8 KiB; those of a virtual function that is absent hold nothing. -/
def State.windowPlace (s : State) (fn off : Nat) : Place :=
  let w := off / 0x2000
  let p := if fn = 0 then (if w < 32 then mbxPlace 0 w (off % 0x2000) (w == 0) else .none)
    else if w = 0 then mbxPlace fn 0 off true else .none
  match p with
  | .send a b _ => if s.chanOpen a b then p else .none
  | .receive a b _ => if s.chanOpen a b then p else .none
  | _ => .none

/-- What stands at an aligned offset of a function's BAR (R304): nothing beyond its size. DEDUCED (assumption log 20). -/
def State.barPlace (s : State) (fn bar off : Nat) : Place :=
  if ((barForm fn bar).elim 0 (·.size)) ≤ off then .none
  else match bar with
  | 0 =>
    match msixPlace off with
    | some p => p
    | none => if fn = 0 then s.pfPlace off else s.vfPlace fn off
  | 2 => s.bellPlace fn off
  | 4 => s.windowPlace fn off
  | _ => .none

/-! Reads. -/

/-- The fields of the register word at an address: a field of more than 32 bits covers several words. -/
def fieldsAt (a : Nat) : List Fld :=
  regTable.filter fun f => decide (f.addr ≤ a) && decide (a < f.addr + 4 * ceilDiv (f.lsb + f.width) 32)

/-- The share of a field's value in the word at an address. -/
def Fld.part (f : Fld) (a v : Nat) : Nat := v * 2 ^ f.lsb / 2 ^ (8 * (a - f.addr)) % 2 ^ 32

/-- The registers that are tables of states: AMF_XB_STATE, WLT_TILE, ACR_BANK_STATE and SMS_ID_KEY. -/
def State.stateWord (s : State) (a bank : Nat) : Option Nat :=
  if 0x01000010 ≤ a && a < 0x010000A0 then some (s.xbStateWord bank ((a - 0x01000010) / 4))
  else if 0x01000200 ≤ a && a < 0x01000220 then some (s.tileWord bank ((a - 0x01000200) / 4))
  else if 0x01000400 ≤ a && a < 0x01000408 then some (s.bankWord bank ((a - 0x01000400) / 4))
  else if 0x00D01000 ≤ a && a < 0x00D01020 then some (ofLeBytes ((identityKey.drop (a - 0x00D01000)).take 4))
  else none

/-- The word of a register (R7); an address that holds no register reads 0 (R6). -/
def State.regWord (s : State) (a bank : Nat) : Nat :=
  match s.stateWord a bank with
  | some w => w
  | none => sumN ((fieldsAt a).map fun f => f.part a (s.shown f bank))

/-- The word of a virtual function's copy (R307). -/
def State.copyWord (s : State) (a bank : Nat) : Nat := sumN ((fieldsAt a).map fun f => f.part a (s.inForce f bank))

/-- A word of the MSI-X table (R317). -/
def MsixSt.word (m : MsixSt) : Nat → Nat
  | 0 => m.addr % 2 ^ 32
  | 1 => m.addr / 2 ^ 32 % 2 ^ 32
  | 2 => m.data % 2 ^ 32
  | _ => b2n m.masked

/-- A word of a send block (R365). -/
def Mbx.sendWord (m : Mbx) (off : Nat) : Nat :=
  if off < 0x40 then (nth 0#32 m.data (off / 4)).toNat
  else if off = 0x44 then b2n m.busy + 2 * b2n m.emptied + 4 * b2n m.aborted + 8 * b2n m.overrun + 65536 * m.seq
  else 0

/-- A word of a receive block (R365). DEDUCED (assumption log 33). -/
def Mbx.receiveWord (m : Mbx) (off : Nat) : Nat :=
  match m.msg with
  | none => 0
  | some (l, sender, seq) =>
    if off < 0x40 then (nth 0#32 l (off / 4)).toNat
    else if off = 0x44 then 1 + 256 * sender + 65536 * seq
    else 0

/-- What a read of a core's register does to its log pairs (R83, R136): LOG0 holds the record until LOG1 is read. -/
def State.logRead (s : State) (a core : Nat) : State :=
  if a = AMF_TALLY_LOG0_VALID.addr then s.holdLog core 0
  else if a = AMF_TALLY_LOG1_DELTA.addr then s.releaseLog core 0
  else if a = WLT_SHADOW_LOG0_VALID.addr then s.holdLog core 1
  else if a = WLT_SHADOW_LOG1_DELTA.addr then s.releaseLog core 1
  else s

/-- A read of the word at a place, with what the read itself does: CPX_DBG_DATA moves on (R369), and word 0 of a measurement
fixes its value (R447). DESIGN CHOICE (assumption log 13). -/
def State.readPlace (s : State) (fn : Nat) : Place → Nat × State
  | .reg a bank =>
    if a = CPX_DBG_DATA_DATA.addr then s.debugRead
    else if a = SMS_MEAS_DATA_DATA.addr then let s := s.measHold; (s.measData, s)
    else (s.regWord a bank, s.logRead a bank)
  | .copy a bank => (s.copyWord a bank, s)
  | .msix v part => ((s.vec fn v).word part, s)
  | .pending half => (sumN ((List.range 32).map fun i => b2n (s.vec fn (32 * half + i)).pending * 2 ^ i), s)
  | .send a b off => ((s.mbox a b).sendWord off, s)
  | .receive a b off => ((s.mbox a b).receiveWord off, s)
  | .bell _ _ => (0, s)
  | .none => (0, s)

/-- A read acts (R454): before the firmware is READY, BAR0 shows nothing but CPX_FW_STATUS. -/
def State.readable (s : State) (fn bar off : Nat) : Bool :=
  s.configOn && s.fnExists fn && (bar != 0 || s.ctl.ready || (fn == 0 && off == CPX_FW_STATUS_STAGE.addr))

/-- A read of one aligned word of a BAR. -/
def State.readWord (s : State) (fn bar off : Nat) : Nat × State :=
  if s.readable fn bar off then s.readPlace fn (s.barPlace fn bar off) else (0, s)

/-- The words that a 4-byte read of a register latches, as distances above it (R6, R372, R387): the upper half of a
64-bit quantity and the other words of a log or a state. DEDUCED (assumption log 19). -/
def latched (a : Nat) : List Nat :=
  if a = MEM_ERR_LOG0_VALID.addr then [4, 8]
  else if a = CPX_BAR_STATE0_ARRIVED.addr || a = WLT_CORR_GAIN_GAMMA.addr then [4]
  else if (fieldsAt a).any fun f => f.addr == a && decide (32 < f.width) && decide (f.width ≤ 64) then [4]
  else []

/-- The latches of a place. -/
def Place.latches : Place → List Nat
  | .reg a _ => latched a
  | .copy a _ => latched a
  | _ => []

/-- The key of a latch: function, BAR and offset. DEDUCED (assumption log 19). -/
def latchKey (fn bar off : Nat) : Nat := fn * 2 ^ 31 + bar * 2 ^ 28 + off

/-- A 4-byte read of an aligned offset (R306): a latched word is returned once; any other read latches what goes with it.
DEDUCED (assumption log 19). -/
def State.read4 (s : State) (fn bar off : Nat) : Nat × State :=
  let k := latchKey fn bar off
  match SMap.get 0 s.hif.latches k with
  | v + 1 => (v, s.withHif { s.hif with latches := SMap.put 0 s.hif.latches k 0 })
  | 0 =>
    let uppers := if s.readable fn bar off then (s.barPlace fn bar off).latches else []
    let vals := uppers.map fun d => (latchKey fn bar (off + d), (s.readWord fn bar (off + d)).1 + 1)
    let (v, s) := s.readWord fn bar off
    (v, s.withHif { s.hif with latches := vals.foldl (fun m e => SMap.put 0 m e.1 e.2) s.hif.latches })

/-- A read of the words from an offset on, in ascending order: their bytes little-endian (R6, R306). -/
def State.readWords (s : State) (fn bar off : Nat) : Nat → Nat × State
  | 0 => (0, s)
  | n + 1 =>
    let (v, s) := s.readWord fn bar off
    let (w, s) := State.readWords s fn bar (off + 4) n
    (v + 2 ^ 32 * w, s)

/-- A read of a BAR (R306): 4 bytes aligned with the latches of R6, any other size up to 64 bytes without. -/
def State.barRead (s : State) (fn bar off size : Nat) : Nat × State :=
  if size = 4 && off % 4 = 0 then s.read4 fn bar off
  else if 64 < size then let (i, s) := s.draw; (Config.longRead i, s)
  else
    let first := off / 4 * 4
    let (v, s) := s.readWords fn bar first (ceilDiv (off + size - first) 4)
    (v / 2 ^ (8 * (off - first)) % 2 ^ (8 * size), s)

/-- The result of a read is with the host. DEDUCED (assumption log 19). -/
def State.readDone (r : Nat × State) : State := r.2.withHif { r.2.hif with readData := r.1 }

/-- HALF_LATCH_READ (R6, R306): a read of a BAR, the lower half of a 64-bit quantity among them.
DEDUCED (assumption log 19). -/
def execHalfLatchRead (t fn bar off size : Nat) (s : State) : Host.Outcome State Fault Refusal :=
  .next (State.readDone ((s.advance t).barRead fn bar off size))

/-- CPX_DBG_DATA_READ (R369). -/
def execCpxDbgDataRead (t fn : Nat) (s : State) : Host.Outcome State Fault Refusal :=
  .next (State.readDone ((s.advance t).barRead fn 0 CPX_DBG_DATA_DATA.addr 4))

/-! Counters. -/

/-- Fields set to 0 in every bank. -/
def State.clearEverywhere (s : State) (l : List Fld) : State :=
  { s with regs := SMap.dropIf (fun k _ => l.any fun f => k % 2 ^ 32 == f.key 0) s.regs }

/-- What a CNT_CLR register clears. -/
inductive CntBlk where
  | amf | ccv | wlt | acr | atn | kvm | lst | tws | hif | lnk | cpx | cst | mem | ptm | sms | smsId
deriving DecidableEq, Repr

/-- The counters of a block, and the VALID bits its CNT_CLR register clears with them (R82, R103, R135, R160, R183, R204, R234,
R264, R327, R352, R371, R386, R387, R406, R424, R446). -/
def CntBlk.fields : CntBlk → List Fld
  | .amf => [AMF_PASS_CNT_COUNT, AMF_SKIP_CNT_COUNT, AMF_SPLIT_CNT1_COUNT, AMF_SPLIT_CNT2_COUNT, AMF_SPLIT_CNT4_COUNT,
      AMF_SPLIT_CNT8_COUNT, AMF_TALLY_ERR_CNT_COUNT, AMF_TALLY_ERR0_COUNT, AMF_TALLY_ERR1_COUNT, AMF_TALLY_ERR2_COUNT,
      AMF_TALLY_ERR3_COUNT, AMF_TALLY_ERR4_COUNT, AMF_TALLY_ERR5_COUNT, AMF_TALLY_ERR6_COUNT, AMF_TALLY_ERR7_COUNT,
      AMF_TALLY_LOG0_VALID]
  | .ccv => [CCV_SAT_CNT_COUNT, CCV_TRK_LIMIT_CNT_COUNT, CCV_SAT_CORE_CNT_COUNT, CCV_SAT_LOG_VALID]
  | .wlt => [WLT_STANDIN_CNT_COUNT, WLT_SAT_RESCUE_CNT_COUNT, WLT_CANCEL_FLAG_CNT_COUNT, WLT_CANCEL_RESCUE_CNT_COUNT,
      WLT_SHADOW_CNT_COUNT, WLT_SHADOW_FAIL_CNT_COUNT, WLT_OOB_CNT_COUNT, WLT_LATE_CNT_COUNT, WLT_SHADOW_LOG0_VALID]
  | .acr => [ACR_DRAIN_CNT_COUNT, ACR_DBG_DRAIN_CNT_COUNT, ACR_BANK_WAIT_CNT_COUNT, ACR_PRELOAD_RANGE_CNT_COUNT,
      VEC_EXPORT_CNT_COUNT, VEC_TOPK_CNT_COUNT, VEC_SAMPLE_CNT_COUNT, VEC_FOLD_WAIT_CNT_COUNT]
  | .atn => [ATN_DEC_CHUNK_CNT_COUNT, ATN_PRE_CHUNK_CNT_COUNT, ATN_BWD_CHUNK_CNT_COUNT, ATN_EMPTY_ROW_CNT_COUNT,
      ATN_SEG_MERGE_CNT_COUNT, ATN_FEED_WAIT_CNT_COUNT, ATN_HUB_BYTES_COUNT, ATN_PRE_CYCLES_COUNT]
  | .kvm => [KVM_ALLOC_FAIL_CNT_COUNT, KVM_EVICT_CNT_COUNT, KVM_RECOMP_POS_CNT_COUNT, KVM_SPEC_FREE_CNT_COUNT,
      KVM_DEMOTE_CNT_COUNT, KVM_PROMOTE_CNT_COUNT, KVM_CLONE_CNT_COUNT, KVM_TTL_EXPIRE_CNT_COUNT]
  | .lst => [LST_RELAST_CNT_COUNT, LST_VERIFY_FAIL_CNT_COUNT, LST_ROW_SUB_CNT_COUNT, LST_COL_SUB_CNT_COUNT,
      LST_XB_SUB_CNT_COUNT, LST_WATCHDOG_CNT_COUNT, LST_LEHR_PROBE_CNT_COUNT, LST_LEHR_REFRESH_CNT_COUNT,
      LST_BAD_IMAGE_CNT_COUNT]
  | .tws => [TWS_PLAN_OVERRUN_COUNT, TWS_PLAN_LATE_CNT_COUNT, TWS_PAUSE_SLOT_CNT_COUNT, TWS_TEST_PAUSE_CNT_COUNT,
      TWS_LATE_TOKEN_CNT_COUNT, TWS_DEADLINE_MISS_CNT_COUNT, TWS_DEAD_CYCLE_CNT_COUNT, TWS_HOLDOVER_CNT_COUNT]
  | .hif => [HIF_BAD_ACCESS_CNT_COUNT, HIF_DB_ERR_CNT_COUNT, HIF_FETCH_ERR_CNT_COUNT, HIF_CPL_TIMEOUT_CNT_COUNT,
      HIF_TQ_WAIT_CNT_COUNT, HIF_FLR_CNT_COUNT]
  | .lnk => [LNK_Pp_REPLAY_COUNT, LNK_Pp_DOWN_COUNT, LNK_Pp_CRC_ERR_COUNT, LNK_MSG_TX_CNT_COUNT, LNK_MSG_RX_CNT_COUNT,
      LNK_MSG_DROP_CNT_COUNT, LNK_WIN_FAULT_CNT_COUNT, LNK_Ss_READ_BYTES_COUNT, LNK_Ss_CNP_CNT_COUNT, LNK_Ss_RETRY_CNT_COUNT,
      LNK_Ss_DISCARD_CNT_COUNT, LNK_PTP_SYNC_CNT_COUNT]
  | .cpx => [CPX_BAR_OVERRUN_CNT_COUNT, CPX_BAR_HANG_CNT_COUNT, CPX_BAR_FORCE_CNT_COUNT, CPX_MBX_SENT_CNT_COUNT,
      CPX_MBX_ABORT_CNT_COUNT, CPX_SEQ_FAULT_CNT_COUNT]
  | .cst => [CST_CE_CNT_COUNT, CST_UE_CNT_COUNT, CST_QUOTA_WAIT_CNT_COUNT]
  | .mem => [MEM_CE_A_CNT_COUNT, MEM_UE_A_CNT_COUNT, MEM_CE_B_CNT_COUNT, MEM_UE_B_CNT_COUNT, MEM_CAP_WAIT_CNT_COUNT,
      MEM_ERR_LOG0_VALID]
  | .ptm => [PTM_THROTTLE_CNT_COUNT, PTM_CAP_CNT_COUNT, PTM_WINDOW_CNT_COUNT, PTM_INJECT_CNT_COUNT, PTM_QUEUE_OVF_CNT_COUNT,
      PTM_DIODE_FAIL_CNT_COUNT]
  | .sms => [SMS_RESIDUE_CNT_COUNT, SMS_PARITY_CNT_COUNT, SMS_JOB_FAULT_CNT_COUNT, SMS_SUSPECT_CNT_COUNT,
      SMS_MARGIN_CNT_COUNT, SMS_RETIRE_CNT_COUNT, SMS_IFT_SLICE_CNT_COUNT, SMS_IFT_FAIL_CNT_COUNT, SMS_LOG_DROP_CNT_COUNT]
  | .smsId => [SMS_FW_REFUSED_CNT_COUNT, SMS_SPDM_SIGN_CNT_COUNT]

/-- A block's counters are cleared, with what waits for its log pair. -/
def State.clearCounters (s : State) (b : CntBlk) : State :=
  let s := s.clearEverywhere b.fields
  match b with
  | .amf => s.dropLogs 0
  | .wlt => s.dropLogs 1
  | _ => s

/-- A CNT_CLR register is written with 1 by a function. -/
def State.counterClear (s : State) (t fn : Nat) (b : CntBlk) : State :=
  let s := s.advance t
  s.when (s.accepts fn) (·.clearCounters b)

/-- AMF_CNT_CLR (R82). -/
def execAmfCntClr (t fn : Nat) (s : State) : Host.Outcome State Fault Refusal := .next (s.counterClear t fn .amf)
/-- CCV_CNT_CLR (R103). -/
def execCcvCntClr (t fn : Nat) (s : State) : Host.Outcome State Fault Refusal := .next (s.counterClear t fn .ccv)
/-- WLT_CNT_CLR (R135). -/
def execWltCntClr (t fn : Nat) (s : State) : Host.Outcome State Fault Refusal := .next (s.counterClear t fn .wlt)
/-- ACR_CNT_CLR (R160). -/
def execAcrCntClr (t fn : Nat) (s : State) : Host.Outcome State Fault Refusal := .next (s.counterClear t fn .acr)
/-- ATN_CNT_CLR (R183). -/
def execAtnCntClr (t fn : Nat) (s : State) : Host.Outcome State Fault Refusal := .next (s.counterClear t fn .atn)
/-- KVM_CNT_CLR (R204). -/
def execKvmCntClr (t fn : Nat) (s : State) : Host.Outcome State Fault Refusal := .next (s.counterClear t fn .kvm)
/-- LST_CNT_CLR (R234). -/
def execLstCntClr (t fn : Nat) (s : State) : Host.Outcome State Fault Refusal := .next (s.counterClear t fn .lst)
/-- TWS_CNT_CLR (R264). -/
def execTwsCntClr (t fn : Nat) (s : State) : Host.Outcome State Fault Refusal := .next (s.counterClear t fn .tws)
/-- HIF_CNT_CLR (R327). -/
def execHifCntClr (t fn : Nat) (s : State) : Host.Outcome State Fault Refusal := .next (s.counterClear t fn .hif)
/-- LNK_CNT_CLR (R352). -/
def execLnkCntClr (t fn : Nat) (s : State) : Host.Outcome State Fault Refusal := .next (s.counterClear t fn .lnk)
/-- CPX_CNT_CLR (R371). -/
def execCpxCntClr (t fn : Nat) (s : State) : Host.Outcome State Fault Refusal := .next (s.counterClear t fn .cpx)
/-- CST_CNT_CLR (R386). -/
def execCstCntClr (t fn : Nat) (s : State) : Host.Outcome State Fault Refusal := .next (s.counterClear t fn .cst)
/-- MEM_CNT_CLR (R387). -/
def execMemCntClr (t fn : Nat) (s : State) : Host.Outcome State Fault Refusal := .next (s.counterClear t fn .mem)
/-- PTM_CNT_CLR (R406). -/
def execPtmCntClr (t fn : Nat) (s : State) : Host.Outcome State Fault Refusal := .next (s.counterClear t fn .ptm)
/-- SMS_CNT_CLR (R424). -/
def execSmsCntClr (t fn : Nat) (s : State) : Host.Outcome State Fault Refusal := .next (s.counterClear t fn .sms)
/-- SMS_ID_CNT_CLR (R446). -/
def execSmsIdCntClr (t fn : Nat) (s : State) : Host.Outcome State Fault Refusal := .next (s.counterClear t fn .smsId)

/-! The enables of KVM and LST. -/

/-- Two ranges share an address. DEDUCED (assumption log 26), DEDUCED (assumption log 55). -/
def overlap (a n b m : Nat) : Bool := decide (0 < n) && decide (0 < m) && decide (a < b + m) && decide (b < a + n)

/-- Bytes of the firmware region, which starts tier A (R373). -/
def firmwareBytes : Nat := 16 * 2 ^ 30

/-- The byte range of a tier's pool. -/
def State.poolBytes (s : State) (tierB : Bool) : Nat × Nat := ((s.pool tierB).1 * 65536, (s.pool tierB).2 * 65536)

/-- The byte range of the KVM table region. -/
def State.tableRange (s : State) : Nat × Nat := (s.rd KVM_TBL_BASE_ADDR, s.rd KVM_TBL_SIZE_SIZE_MIB * 2 ^ 20)

/-- The checks of KVM_CTRL.EN (R204, R374). DEDUCED (assumption log 55). -/
def State.kvmSettingsOk (s : State) : Bool :=
  let a := s.poolBytes false
  let b := s.poolBytes true
  let t := s.tableRange
  decide (a.1 + a.2 ≤ tierSize false) && decide (b.1 + b.2 ≤ tierSize true) && decide (32 ≤ s.rd KVM_TBL_SIZE_SIZE_MIB)
    && decide (t.1 + t.2 ≤ tierSize false) && !overlap t.1 t.2 a.1 a.2 && !overlap a.1 a.2 0 firmwareBytes
    && !overlap t.1 t.2 0 firmwareBytes

/-- EN = 1 is written to KVM_CTRL (R204): KVM starts, or CFG_ERR is set. DEDUCED (assumption log 55). -/
def State.kvmEnable (s : State) : State :=
  if s.bit KVM_CTRL_EN then s
  else if s.kvmSettingsOk then s.setBit KVM_CTRL_EN else s.setBit KVM_CTRL_CFG_ERR

/-- The checks of LST_CTRL.EN (R234, R374). DEDUCED (assumption log 55). -/
def State.lstSettingsOk (s : State) : Bool :=
  let a := s.poolBytes false
  let b := s.poolBytes true
  let t := s.tableRange
  let obj := (s.rd LST_OBJ_BASE_ADDR, s.rd LST_OBJ_SIZE_GIB * 2 ^ 30)
  let emb := (s.rd LST_EMB_BASE_ADDR, s.rd LST_EMB_SIZE_GIB * 2 ^ 30)
  decide (obj.1 + obj.2 ≤ tierSize true) && !overlap obj.1 obj.2 b.1 b.2 && decide (emb.1 + emb.2 ≤ tierSize false)
    && !overlap emb.1 emb.2 a.1 a.2 && !overlap emb.1 emb.2 t.1 t.2 && !overlap emb.1 emb.2 0 firmwareBytes

/-- EN = 1 is written to LST_CTRL (R234): LST starts, or CFG_ERR is set. -/
def State.lstEnable (s : State) : State :=
  if s.bit LST_CTRL_EN then s
  else if s.lstSettingsOk then s.setBit LST_CTRL_EN else s.setBit LST_CTRL_CFG_ERR

/-- KVM_CTRL_EN (R204). -/
def execKvmCtrlEn (t fn : Nat) (s : State) : Host.Outcome State Fault Refusal :=
  let s := s.advance t
  .next (s.when (s.accepts fn) State.kvmEnable)

/-- LST_CTRL_EN (R234). -/
def execLstCtrlEn (t fn : Nat) (s : State) : Host.Outcome State Fault Refusal :=
  let s := s.advance t
  .next (s.when (s.accepts fn) State.lstEnable)

/-- LST_TRUST_LOCK (R234): LOCK is set until PERST_N. -/
def execLstTrustLock (t fn : Nat) (s : State) : Host.Outcome State Fault Refusal :=
  let s := s.advance t
  .next (s.when (s.accepts fn) (·.setBit LST_TRUST_LOCK_LOCK))

/-! Writes. -/

/-- The state of a command's answer. -/
def after (s : State) : Host.Outcome State Fault Refusal → State
  | .next t => t
  | .fault _ => s
  | .refused _ => s

/-- The block whose COMMIT brings a shadowed register into force (R8), by its address. -/
def blkOf (a : Nat) : Blk :=
  match a / 0x100000 with
  | 0 => .hif
  | 1 => .tws
  | 2 => .cst
  | 3 => .mem
  | 4 => .kvm
  | 5 => .lst
  | 6 => .wlt
  | 7 => if a < 0x00700100 then .amf else .ccv
  | 8 => .acr
  | 9 => .atn
  | 11 => .cpx
  | 12 => .ptm
  | _ => .sms

/-- Addresses whose lowest bits read 0 (R160, R204, R234, R327, R371): the field and how many bits. -/
def alignedFields : List (Fld × Nat) := [
  (KVM_TBL_BASE_ADDR, 16), (LST_OBJ_BASE_ADDR, 16), (LST_EMB_BASE_ADDR, 16), (HIF_Q_SQ_BASE_ADDR, 12), (HIF_Q_CQ_BASE_ADDR, 12),
  (HIF_Q_TQ_BASE_ADDR, 12), (HIF_Q_STAT_ADDR_ADDR, 6), (ACR_DBG_ADDR_ADDR, 6), (CPX_DBG_ADDR_ADDR, 2)]

/-- A field's value with the bits of one written word put in their place. -/
def Fld.merge (f : Fld) (a old w : Nat) : Nat :=
  let sh := 8 * (a - f.addr)
  let lo := sh - f.lsb
  let n := min (f.width - lo) (32 - (f.lsb - sh))
  let v := old - bitsOf old lo n * 2 ^ lo + bitsOf w (f.lsb - sh) n * 2 ^ lo
  match alignedFields.find? (·.1 == f) with
  | some e => v / 2 ^ e.2 * 2 ^ e.2
  | none => v

/-- A written word reaches one field, by its type (R7). -/
def State.writeField (s : State) (a bank w : Nat) (f : Fld) : State :=
  let k := f.key bank
  match f.ty with
  | .rw => s.wr f (f.merge a (s.rd f bank) w) bank
  | .w1c => if bitOf w f.lsb then s.wr f 0 bank else s
  | .sh =>
    let v := f.merge a ((s.written k).getD (s.rd f bank)) w % 2 ^ f.width
    { s with shadow := s.shadow ++ [⟨blkOf f.addr, k, f.reset, v⟩] }
  | _ => s

/-- A written word reaches every field of a register but some that act in a way of their own. -/
def State.writeFields (s : State) (a bank w : Nat) (but : List Fld := []) : State :=
  forEach ((fieldsAt a).filter fun f => !but.contains f) s fun s f => s.writeField a bank w f

/-- Registers that ignore writes now: pools, tables and regions once their block runs (R204, R234), the slot length and the epoch
while RUN = 1 (R243), the torus settings while EN = 1 (R352), and a queue's settings unless it is DISABLED (R316). -/
def State.writeLocked (s : State) (a bank : Nat) : Bool :=
  (decide (0x00400010 ≤ a) && decide (a ≤ 0x00400028) && s.bit KVM_CTRL_EN)
    || (decide (0x00500028 ≤ a) && decide (a ≤ 0x00500040) && s.bit LST_CTRL_EN)
    || (decide (0x00100008 ≤ a) && decide (a ≤ 0x00100014) && s.running)
    || (decide (0x00A00008 ≤ a) && decide (a ≤ 0x00A00014) && s.bit LNK_CTRL_EN)
    || (decide (0x00001004 ≤ a) && decide (a ≤ 0x0000102C) && s.rd HIF_Q_STATUS_STATE bank != 0)

/-- The bits that stand in an event register and its enable register. DEDUCED (assumption log 32). -/
def State.eventsOn (s : State) (ev en : Nat) : List Nat :=
  (List.range 8).filter fun i => bitOf (s.regWord ev 0) i && bitOf (s.regWord en 0) i

/-- An event-enable register is written: an event that stands raises its vector when it becomes enabled (R264, R406, R424). -/
def State.writeEnable (s : State) (ev en w : Nat) (src : EvtSrc) : State :=
  let old := s.eventsOn ev en
  let s := s.writeFields en 0 w
  s.when ((s.eventsOn ev en).any fun i => !old.contains i) (·.pfEvent src)

/-- A word of the selected trust slot is written (R234): not once LOCK is set. -/
def State.writeTrust (s : State) (w : Nat) : State :=
  if s.bit LST_TRUST_LOCK_LOCK then s
  else
    let n := s.rd LST_TRUST_SEL_SLOT
    let i := 4 * s.rd LST_TRUST_SEL_WORD
    let key := s.trustKey n
    let key := key.take i ++ leBytes 4 w ++ key.drop (i + 4)
    s.withLst { s.lst with trust := SMap.put (List.replicate 32 0#8) s.lst.trust n key }

/-- SMS_MEAS_SEL is written (R447): another INDEX gives up the value that word 0 fixed. -/
def State.writeMeasSel (s : State) (w : Nat) : State :=
  let old := s.rd SMS_MEAS_SEL_INDEX
  let s := s.writeFields SMS_MEAS_SEL_INDEX.addr 0 w
  if s.rd SMS_MEAS_SEL_INDEX = old then s else s.withMgt { s.mgt with measHeld := none }

/-- LNK_Ss_CTRL of a storage port is written (R347, R352). -/
def State.writePortCtrl (s : State) (port w : Nat) : State :=
  let s := s.writeFields LNK_Ss_CTRL_EN.addr port w [LNK_Ss_CTRL_EN]
  if bitOf w 0 then s.setBit LNK_Ss_CTRL_EN port else after s (execStoragePortDisable s.now 0 port s)

/-- LNK_Ss_QP_CTRL of a queue pair is written (R347, R352): other fields only in RESET; then STATE 0 or 1. -/
def State.writeQpCtrl (s : State) (bank w : Nat) : State :=
  let s := if s.rd LNK_Ss_QP_CTRL_STATE bank = 0 then s.writeFields LNK_Ss_QP_CTRL_STATE.addr bank w [LNK_Ss_QP_CTRL_STATE] else s
  match w % 4 with
  | 0 => after s (execQpReset s.now 0 (bank / 64) (bank % 64) s)
  | 1 => after s (execQpRts s.now 0 (bank / 64) (bank % 64) s)
  | _ => s

/-- PTM_PSTATE is written (R404). -/
def State.writePstate (s : State) (w : Nat) : State :=
  let s := s.writeFields PTM_PSTATE_REQ.addr 0 w [PTM_PSTATE_REQ]
  if bitOf w 0 then s.enterMp1 else s.leaveMp1

/-- TWS_CTRL is written (R243). -/
def State.writeTwsCtrl (s : State) (w : Nat) : State :=
  let s := s.writeFields TWS_CTRL_RUN.addr 0 w [TWS_CTRL_RUN]
  if bitOf w 0 then s.runStart else s.runStop

/-- LNK_CTRL is written (R352). -/
def State.writeLnkCtrl (s : State) (w : Nat) : State :=
  let s := s.writeFields LNK_CTRL_EN.addr 0 w [LNK_CTRL_EN]
  after s (execLnkCtrlEn s.now 0 (bitOf w 0) s)

/-- CPX_BAR_FORCE of a core is written (R364, R371): SET wins over RELEASE. -/
def State.writeBarForce (s : State) (core w : Nat) : State :=
  if bitOf w 1 then after s (execCpxBarForceSet s.now 0 core s)
  else if bitOf w 0 then after s (execCpxBarForceRelease s.now 0 core s) else s

/-- The COMMIT registers. -/
def commitRegs : List (Nat × Blk) := [
  (AMF_COMMIT_COMMIT.addr, .amf), (CCV_COMMIT_COMMIT.addr, .ccv), (WLT_COMMIT_COMMIT.addr, .wlt), (ACR_COMMIT_COMMIT.addr, .acr),
  (ATN_COMMIT_COMMIT.addr, .atn), (KVM_COMMIT_COMMIT.addr, .kvm), (LST_COMMIT_COMMIT.addr, .lst), (TWS_COMMIT_COMMIT.addr, .tws),
  (HIF_COMMIT_COMMIT.addr, .hif), (CPX_COMMIT_COMMIT.addr, .cpx), (CST_COMMIT_COMMIT.addr, .cst), (MEM_COMMIT_COMMIT.addr, .mem),
  (PTM_COMMIT_COMMIT.addr, .ptm), (SMS_COMMIT_COMMIT.addr, .sms)]

/-- The counter-clear registers. -/
def clearRegs : List (Nat × CntBlk) := [
  (AMF_CNT_CLR_CLEAR.addr, .amf), (CCV_CNT_CLR_CLEAR.addr, .ccv), (WLT_CNT_CLR_CLEAR.addr, .wlt), (ACR_CNT_CLR_CLEAR.addr, .acr),
  (ATN_CNT_CLR_CLEAR.addr, .atn), (KVM_CNT_CLR_CLEAR.addr, .kvm), (LST_CNT_CLR_CLEAR.addr, .lst), (TWS_CNT_CLR_CLEAR.addr, .tws),
  (HIF_CNT_CLR_CLEAR.addr, .hif), (LNK_CNT_CLR_CLEAR.addr, .lnk), (CPX_CNT_CLR_CLEAR.addr, .cpx), (CST_CNT_CLR_CLEAR.addr, .cst),
  (MEM_CNT_CLR_CLEAR.addr, .mem), (PTM_CNT_CLR_CLEAR.addr, .ptm), (SMS_CNT_CLR_CLEAR.addr, .sms),
  (SMS_ID_CNT_CLR_CLEAR.addr, .smsId)]

/-- The registers of the physical function whose writes act in a way of their own: address, and what a written word does. -/
def pfActions : List (Nat × (State → Nat → Nat → State)) := [
  (TWS_CTRL_RUN.addr, fun s _ w => s.writeTwsCtrl w),
  (TWS_TIME_SET_NS.addr, fun s _ w => s.withTime { s.time with setLo := w }),
  (TWS_TIME_SET_NS.addr + 4, fun s _ w => s.setTime (s.time.setLo + w * 2 ^ 32)),
  (TWS_EVENT_EN_UNLOCK.addr, fun s _ w => s.writeEnable TWS_EVENT_UNLOCK.addr TWS_EVENT_EN_UNLOCK.addr w .tws),
  (PTM_EVENT_EN_EN.addr, fun s _ w => s.writeEnable PTM_EVENT_WINDOW.addr PTM_EVENT_EN_EN.addr w .ptm),
  (SMS_EVENT_EN_EN.addr, fun s _ w => s.writeEnable SMS_EVENT_SUSPECT.addr SMS_EVENT_EN_EN.addr w .sms),
  (KVM_CTRL_EN.addr, fun s _ w => (s.writeFields KVM_CTRL_EN.addr 0 w [KVM_CTRL_EN]).when (bitOf w 0) State.kvmEnable),
  (LST_CTRL_EN.addr, fun s _ w => (s.writeFields LST_CTRL_EN.addr 0 w [LST_CTRL_EN]).when (bitOf w 0) State.lstEnable),
  (LST_TRUST_LOCK_LOCK.addr, fun s _ w => s.when (bitOf w 0) (·.setBit LST_TRUST_LOCK_LOCK)),
  (LST_TRUST_DATA_KEY.addr, fun s _ w => s.writeTrust w),
  (HIF_CTRL_SERVE_RESET.addr, fun s _ w => s.when (bitOf w 0) (·.startReset 0 true)),
  (HIF_FN_QUEUES_FIRST.addr, fun s _ w => s.writeFnQueues w),
  (HIF_FN_RESET_GO.addr, fun s _ w => s.when (bitOf w 0) (·.writeFnReset (bitOf w 1))),
  (LNK_CTRL_EN.addr, fun s _ w => s.writeLnkCtrl w),
  (LNK_Ss_CTRL_EN.addr, fun s p w => s.writePortCtrl p w),
  (LNK_Ss_QP_CTRL_STATE.addr, fun s k w => s.writeQpCtrl k w),
  (LNK_PTP_CTRL_EN.addr, fun s _ w => (s.writeFields LNK_PTP_CTRL_EN.addr 0 w).chooseMaster),
  (PTM_PSTATE_REQ.addr, fun s _ w => s.writePstate w),
  (CPX_BAR_FORCE_SET.addr, fun s n w => s.writeBarForce n w),
  (ACR_DBG_DRAIN_GO.addr, fun s n w => s.when (bitOf w 4) (·.forcedDrain n (bitsOf w 0 3) (bitsOf w 3 1))),
  (SMS_MEAS_SEL_INDEX.addr, fun s _ w => s.writeMeasSel w)]

/-- A word is written to a register by the physical function. -/
def State.writeReg (s : State) (a bank w : Nat) : State :=
  match commitRegs.find? (·.1 == a), clearRegs.find? (·.1 == a), pfActions.find? (·.1 == a) with
  | some c, _, _ => s.when (bitOf w 0) (·.commit c.2)
  | _, some c, _ => s.when (bitOf w 0) (·.clearCounters c.2)
  | _, _, some c => c.2 s bank w
  | none, none, none => if s.writeLocked a bank then s else s.writeFields a bank w

/-- A word of a queue block is written by the function that owns the queue (R309, R316, R328). -/
def State.writeQueueReg (s : State) (fn a q w : Nat) : State :=
  if !s.ownsQueue fn q then s
  else if a = HIF_Q_CTRL_EN.addr then (if bitOf w 0 then s.queueEnable q else s.queueDisable q)
  else if s.writeLocked a q then s
  else s.writeFields a q w

/-- A word of the MSI-X table is written (R317). -/
def State.writeMsix (s : State) (fn v part w : Nat) : State :=
  let m := s.vec fn v
  match part with
  | 0 => s.setVec fn v { m with addr := m.addr / 2 ^ 32 * 2 ^ 32 + w / 4 * 4 }
  | 1 => s.setVec fn v { m with addr := m.addr % 2 ^ 32 + w * 2 ^ 32 }
  | 2 => s.setVec fn v { m with data := w }
  | _ => s.msixMask fn (.vector v (bitOf w 0))

/-- A word of a send block is written (R365, R366). -/
def State.writeSend (s : State) (a b off w : Nat) : State :=
  let m := s.mbox a b
  if off < 0x40 then
    (if m.busy then s else s.setMbox a b { m with data := setNth 0#32 m.data (off / 4) (BitVec.ofNat 32 w) })
  else if off = 0x40 then s.when (bitOf w 0 && s.goAccepted a b) (·.mbxGo a b)
  else if off = 0x44 then
    s.setMbox a b { m with emptied := m.emptied && !bitOf w 1, aborted := m.aborted && !bitOf w 2
                           overrun := m.overrun && !bitOf w 3 }
  else s

/-- A word is written at a place by a function. DEDUCED (assumption log 20). -/
def State.writePlace (s : State) (fn w : Nat) : Place → State
  | .reg a bank =>
    if 0x1000 ≤ a && a < 0x1040 then s.writeQueueReg fn a bank w
    else if fn = 0 then s.writeReg a bank w
    else if a = HIF_VF_CTRL_SERVE_RESET.addr then s.when (bitOf w 0) (·.startReset fn true)
    else s.writeFields a bank w
  | .copy _ _ => s
  | .msix v part => s.writeMsix fn v part w
  | .pending _ => s
  | .send a b off => s.writeSend a b off w
  | .receive a b off => s.when (off == 0x40 && bitOf w 0) (·.mbxDone a b)
  | .bell q b => s.doorbell fn q b w
  | .none => s

/-- A write of one aligned word of a BAR acts (R326, R454): not while the function is reset, and in BAR0 once READY. -/
def State.writeWord (s : State) (fn bar off w : Nat) : State :=
  if (s.ctl.ready || bar != 0) && !s.resetting fn then s.writePlace fn w (s.barPlace fn bar off) else s

/-- A write that no BAR takes (R306): dropped and counted. -/
def State.badWrite (s : State) (fn : Nat) : State := s.when (s.ctl.ready && !s.resetting fn) (·.count HIF_BAD_ACCESS_CNT_COUNT)

/-- A 4-byte write of BAR2 (R306): a doorbell acts, anything else is dropped and counted. -/
def State.bellWrite (s : State) (fn off w : Nat) : State :=
  match s.barPlace fn 2 off with
  | .bell _ _ => s.writeWord fn 2 off w
  | _ => s.badWrite fn

/-- A write of a BAR (R306, R325): 4 bytes, or 8 as two words with the lower address first, which in BAR2 need only lie on a word; a poisoned one
is reported and dropped, any other size or alignment counted and dropped. DEDUCED (assumption log 20). -/
def State.barWrite (s : State) (fn bar off size data : Nat) (poisoned : Bool) : State :=
  if !s.configOn || !s.fnExists fn then s
  else if poisoned then s.aer fn "Poisoned TLP Received"
  else if (size = 4 || size = 8) && off % (if bar = 2 then 4 else size) = 0 then
    let act (s : State) (off w : Nat) : State := if bar = 2 then s.bellWrite fn off w else s.writeWord fn bar off w
    let s := act s off (data % 2 ^ 32)
    if size = 8 then act s (off + 4) (data / 2 ^ 32 % 2 ^ 32) else s
  else s.badWrite fn

/-- REGISTER_WRITE (R7, R306): a write of a BAR. -/
def execRegisterWrite (t fn bar off size data : Nat) (poisoned : Bool) (s : State) : Host.Outcome State Fault Refusal :=
  .next ((s.advance t).barWrite fn bar off size data poisoned)

end Sys2Proof.Machine
end

