-- ==== Sys2Proof/Machine/Reply.lean ====
section
/-! DEFINITION. The mailbox commands that the main firmware and the management controller answer
(spec/14_control_and_sync.md R368, spec/18_security_and_management.md R436). -/

namespace Sys2Proof.Machine

/-- Word k of a message. -/
def wordAt (l : List Word) (k : Nat) : Nat := (nth 0#32 l k).toNat

/-- The reply of R368: CMD with bit 15 set and the TAG, the status, and the result from DATA2 on. -/
def replyWords (w0 : Nat) (st : Status) (data : List Nat) : List Word :=
  let l := [Nat.lor (w0 % 65536) 0x8000 + w0 / 65536 * 65536, st.code] ++ data
  ((l.map fun n => BitVec.ofNat 32 n) ++ List.replicate 16 0#32).take 16

/-- A receiver takes the pending message of a sender, where its CMD is one that the row answers and the reverse channel is
free, and replies (R366, R368). DEDUCED (assumption log 33). -/
def State.answerMail (s : State) (me sender : Nat) (cmds : Nat → Bool)
    (f : State → Nat → List Word → State × Status × List Nat) : State :=
  match (s.mbox sender me).msg with
  | none => s
  | some (words, _, _) =>
    let w0 := wordAt words 0
    if !s.chanOpen me sender || !cmds (w0 % 65536) || (s.mbox me sender).busy then s
    else
      let s := s.mbxDone sender me
      let (s, st, data) := f s (w0 % 65536) words
      (s.setMbox me sender { s.mbox me sender with data := replyWords w0 st data }).mbxGo me sender

/-- The main firmware runs and serves its mailbox (R355, R454). -/
def State.fwServes (s : State) : Bool := s.mainReady && !s.ctl.restarting

/-- Only the physical function and the management controller may issue a command (R368). -/
def trusted (sender : Nat) : Bool := sender == 0 || sender == idMc

/-- FW_GET_VERSION (R368): the running image's version, its slot and the restarts; any CMD of no row is answered with
BAD_OPCODE. DEDUCED (assumption log 33). -/
def execFwGetVersion (t sender : Nat) (s : State) : Host.Outcome State Fault Refusal :=
  let s := s.advance t
  .next (s.when s.fwServes fun s => s.answerMail idFw sender (fun c => c != 2 && c != 3) fun s c _ =>
    let v := (s.slot s.mgt.running).version
    if c = 1 then (s, .ok, [v % 2 ^ 32, v / 2 ^ 32, s.mgt.running, s.rd CPX_FW_STATUS_RESTARTS]) else (s, .badOpcode, []))

/-- SET_TIME (R368): acts as TWS_TIME_SET (R240, R241). -/
def execSetTime (t sender : Nat) (s : State) : Host.Outcome State Fault Refusal :=
  let s := s.advance t
  .next (s.when s.fwServes fun s => s.answerMail idFw sender (· == 2) fun s _ w =>
    if trusted sender then (s.setTime (wordAt w 2 + wordAt w 3 * 2 ^ 32), .ok, []) else (s, .badOpcode, []))

/-- READ_LOG (R368, R421): the record whose SEQ the index is. -/
def execReadLog (t sender : Nat) (s : State) : Host.Outcome State Fault Refusal :=
  let s := s.advance t
  .next (s.when s.fwServes fun s => s.answerMail idFw sender (· == 3) fun s _ w =>
    if !trusted sender then (s, .badOpcode, [])
    else
      match s.sms.log.find? fun r => r.seq % 2 ^ 32 == wordAt w 2 with
      | none => (s, .lengthExceeds, [])
      | some r => (s, .ok, (List.range 14).map fun k => numAt r.bytes (4 * k) 4))

/-- A command of the management controller's mailbox (R436): with the standby set alone every one completes with
BAD_OPCODE. -/
def State.answerMc (s : State) (sender : Nat) (cmds : Nat → Bool) (f : Nat → List Word → Status × List Nat) : State :=
  if !s.mainOn then s
  else s.answerMail idMc sender cmds fun s c w =>
    if s.mgt.app then (fun (r : Status × List Nat) => (s, r.1, r.2)) (f c w) else (s, .badOpcode, [])

/-- The 32-bit words of bytes, the first byte lowest. -/
def wordsOf (k : Nat) (l : List Byte) : List Nat := (List.range k).map fun i => ofLeBytes ((l.drop (4 * i)).take 4)

/-- MC_GET_VERSION (R436): the application's version, which is that of the image it came from; any CMD of no row is answered with
BAD_OPCODE. DEDUCED (assumption log 17). -/
def execMcGetVersion (t sender : Nat) (s : State) : Host.Outcome State Fault Refusal :=
  let s := s.advance t
  .next (s.answerMc sender (fun c => !(0x101 ≤ c && c ≤ 0x104)) fun c _ =>
    let v := (s.slot s.mgt.running).version
    if c = 1 then (.ok, [v % 2 ^ 32, v / 2 ^ 32, 1]) else (.badOpcode, []))

/-- GET_IDENTITY (R436). -/
def execGetIdentity (t sender : Nat) (s : State) : Host.Outcome State Fault Refusal :=
  let s := s.advance t
  .next (s.answerMc sender (· == 0x101) fun _ _ => (.ok, wordsOf 8 identityKey ++ wordsOf 2 deviceSerial))

/-- GET_MEASUREMENT (R436). -/
def execGetMeasurement (t sender : Nat) (s : State) : Host.Outcome State Fault Refusal :=
  let s := s.advance t
  .next (s.answerMc sender (· == 0x102) fun _ w =>
    match s.measure (wordAt w 2 % 16) with
    | none => (.lengthExceeds, [])
    | some (ty, v) => (.ok, (ty + 256 * v.length) :: wordsOf 8 (v.drop (32 * (wordAt w 2 / 16 % 2)))))

/-- GET_SENSOR (R436). -/
def execGetSensor (t sender : Nat) (s : State) : Host.Outcome State Fault Refusal :=
  let s := s.advance t
  .next (s.answerMc sender (· == 0x103) fun _ w =>
    if sender ≠ 0 then (.badOpcode, [])
    else
      match s.sensor (wordAt w 2) with
      | some v => (.ok, [toCode 32 v, 1])
      | none => (.ok, [0, 0]))

/-- GET_FW_SLOTS (R436). -/
def execGetFwSlots (t sender : Nat) (s : State) : Host.Outcome State Fault Refusal :=
  let s := s.advance t
  .next (s.answerMc sender (· == 0x104) fun _ _ =>
    if sender ≠ 0 then (.badOpcode, []) else (.ok, [(s.slot 0).word, (s.slot 1).word]))

end Sys2Proof.Machine
end

