-- ==== Sys2Proof/Machine/Dispatch.lean ====
section
/-! DEFINITION. The meaning of each command, one arm for each constructor of `Instr` (spec/opcode_table.json). -/

namespace Sys2Proof.Machine

/-- The effect of a command on everything but the queue of waiting commands. -/
def exec (i : Instr) (s : State) : Host.Outcome State Fault Refusal :=
  match i with
  | .nop t h => Sys2Proof.Machine.execNop t h s
  | .sessionOpen t h job prio => Sys2Proof.Machine.execSessionOpen t h job prio s
  | .prefill t h o => Sys2Proof.Machine.execPrefill t h o s
  | .append t h o => Sys2Proof.Machine.execAppend t h o s
  | .generate t h o => Sys2Proof.Machine.execGenerate t h o s
  | .pause t h ttl => Sys2Proof.Machine.execPause t h ttl s
  | .resume t h => Sys2Proof.Machine.execResume t h s
  | .clone t h newHandle prio prioEn => Sys2Proof.Machine.execClone t h newHandle prio prioEn s
  | .cancel t h target => Sys2Proof.Machine.execCancel t h target s
  | .close t h => Sys2Proof.Machine.execClose t h s
  | .bindWeights t h slot gen verify => Sys2Proof.Machine.execBindWeights t h slot gen verify s
  | .swapWeights t h slot gen => Sys2Proof.Machine.execSwapWeights t h slot gen s
  | .loadObject t h o => Sys2Proof.Machine.execLoadObject t h o s
  | .adapterLoad t h slot => Sys2Proof.Machine.execAdapterLoad t h slot s
  | .adapterUnload t h => Sys2Proof.Machine.execAdapterUnload t h s
  | .adapterTune t h o => Sys2Proof.Machine.execAdapterTune t h o s
  | .fence t h => Sys2Proof.Machine.execFence t h s
  | .submissionFetch t r corrected verify => Sys2Proof.Machine.execSubmissionFetch t r corrected verify s
  | .sessionQueueAccept t fn handle => Sys2Proof.Machine.execSessionQueueAccept t fn handle s
  | .requestAdmit t fn handle plan => Sys2Proof.Machine.execRequestAdmit t fn handle plan s
  | .slotBoundary t ready lastings => Sys2Proof.Machine.execSlotBoundary t ready lastings s
  | .ttlExpire t fn handle => Sys2Proof.Machine.execTtlExpire t fn handle s
  | .stepComplete t id res => Sys2Proof.Machine.execStepComplete t id res s
  | .chunkComplete t id res => Sys2Proof.Machine.execChunkComplete t id res s
  | .sequencerStepEnd t core => Sys2Proof.Machine.execSequencerStepEnd t core s
  | .tokenRelease t fn handle => Sys2Proof.Machine.execTokenRelease t fn handle s
  | .queueEntryWrite t addr slot fn job bytes => Sys2Proof.Machine.execQueueEntryWrite t addr slot fn job bytes s
  | .queueStallTimeout t core => Sys2Proof.Machine.execQueueStallTimeout t core s
  | .enginePush t core entry check => Sys2Proof.Machine.execEnginePush t core entry check s
  | .barCfg t core bar count => Sys2Proof.Machine.execBarCfg t core bar count s
  | .waitQ t core addr slot => Sys2Proof.Machine.execWaitQ t core addr slot s
  | .endList t core => Sys2Proof.Machine.execEnd t core s
  | .engineEntryStart t core engine => Sys2Proof.Machine.execEngineEntryStart t core engine s
  | .engineEntryComplete t core engine check => Sys2Proof.Machine.execEngineEntryComplete t core engine check s
  | .barrierHang t core bar => Sys2Proof.Machine.execBarrierHang t core bar s
  | .cpxBarForceRelease t fn core => Sys2Proof.Machine.execCpxBarForceRelease t fn core s
  | .cpxBarForceSet t fn core => Sys2Proof.Machine.execCpxBarForceSet t fn core s
  | .vectorLoad t o => Sys2Proof.Machine.execVectorLoad t o s
  | .columnFlowArrive t core cluster b charges check => Sys2Proof.Machine.execColumnFlowArrive t core cluster b charges check s
  | .saturationRescue t core cluster b row col g => Sys2Proof.Machine.execSaturationRescue t core cluster b row col g s
  | .cancelRescue t core n e => Sys2Proof.Machine.execCancelRescue t core n e s
  | .shadowCheck t core cluster row col channel => Sys2Proof.Machine.execShadowCheck t core cluster row col channel s
  | .weltWorkComplete t core cluster b check => Sys2Proof.Machine.execWeltWorkComplete t core cluster b check s
  | .transposeVector t o charges => Sys2Proof.Machine.execTransposeVector t o charges s
  | .drain t core cluster b places check => Sys2Proof.Machine.execDrain t core cluster b places check s
  | .acrDbgDrain t fn core cluster b => Sys2Proof.Machine.execAcrDbgDrain t fn core cluster b s
  | .topk t core src k sums dst => Sys2Proof.Machine.execTopk t core src k sums dst s
  | .fold t core first n srcs dst serial => Sys2Proof.Machine.execFold t core first n srcs dst serial s
  | .rmsnorm t core src idx dst => Sys2Proof.Machine.execRmsnorm t core src idx dst s
  | .layernorm t core src idx dst => Sys2Proof.Machine.execLayernorm t core src idx dst s
  | .siluGate t core a b dst => Sys2Proof.Machine.execSiluGate t core a b dst s
  | .geluGate t core a b dst => Sys2Proof.Machine.execGeluGate t core a b dst s
  | .rotary t core src idx position dst => Sys2Proof.Machine.execRotary t core src idx position dst s
  | .expSum t core src list sums dst sumDst => Sys2Proof.Machine.execExpSum t core src list sums dst sumDst s
  | .quantA8 t core src matrix dst => Sys2Proof.Machine.execQuantA8 t core src matrix dst s
  | .toBf16 t core src page dst => Sys2Proof.Machine.execToBf16 t core src page dst s
  | .sample t core srcs serial j dst => Sys2Proof.Machine.execSample t core srcs serial j dst s
  | .expertDispatch t core src router places => Sys2Proof.Machine.execExpertDispatch t core src router places s
  | .expertCombine t core residual router layer outs dst => Sys2Proof.Machine.execExpertCombine t core residual router layer outs dst s
  | .qRecordWrite t core src dst => Sys2Proof.Machine.execQRecordWrite t core src dst s
  | .dma t core serial o errs => Sys2Proof.Machine.execDma t core serial o errs s
  | .attentionForward t o segments dst check errs => Sys2Proof.Machine.execAttentionForward t o segments dst check errs s
  | .segmentMerge t core n addr slot => Sys2Proof.Machine.execSegmentMerge t core n addr slot s
  | .attentionBackward t o b check errs => Sys2Proof.Machine.execAttentionBackward t o b check errs s
  | .trackVisit t phys cs => Sys2Proof.Machine.execTrackVisit t phys cs s
  | .trackSwapIn t phys => Sys2Proof.Machine.execTrackSwapIn t phys s
  | .trackSwapOut t phys l => Sys2Proof.Machine.execTrackSwapOut t phys l s
  | .wltDriftUpdate t => Sys2Proof.Machine.execWltDriftUpdate t s
  | .lastingComplete t p reads => Sys2Proof.Machine.execLastingComplete t p reads s
  | .lastingWatchdog t p => Sys2Proof.Machine.execLastingWatchdog t p s
  | .bindComplete t => Sys2Proof.Machine.execBindComplete t s
  | .swapSwitch t => Sys2Proof.Machine.execSwapSwitch t s
  | .swapEnd t => Sys2Proof.Machine.execSwapEnd t s
  | .objectCheckComplete t slot => Sys2Proof.Machine.execObjectCheckComplete t slot s
  | .adapterUnloadComplete t fn num => Sys2Proof.Machine.execAdapterUnloadComplete t fn num s
  | .lehrProbe t p charges => Sys2Proof.Machine.execLehrProbe t p charges s
  | .lehrRefresh t p => Sys2Proof.Machine.execLehrRefresh t p s
  | .demoteColumn t fn handle errs => Sys2Proof.Machine.execDemoteColumn t fn handle errs s
  | .migrationRetry t fn handle => Sys2Proof.Machine.execMigrationRetry t fn handle s
  | .promoteColumn t fn handle errs => Sys2Proof.Machine.execPromoteColumn t fn handle errs s
  | .cloneComplete t fn newHandle errs => Sys2Proof.Machine.execCloneComplete t fn newHandle errs s
  | .ppsEdge t stamp => Sys2Proof.Machine.execPpsEdge t stamp s
  | .ppsLoss t => Sys2Proof.Machine.execPpsLoss t s
  | .ptpSync t f origin correction interval stamp => Sys2Proof.Machine.execPtpSync t f origin correction interval stamp s
  | .ptpDelayReq t stamp => Sys2Proof.Machine.execPtpDelayReq t stamp s
  | .ptpDelayResp t f t4 correction least => Sys2Proof.Machine.execPtpDelayResp t f t4 correction least s
  | .ptpAnnounce t f rank interval => Sys2Proof.Machine.execPtpAnnounce t f rank interval s
  | .ptpAnnounceTimeout t port id => Sys2Proof.Machine.execPtpAnnounceTimeout t port id s
  | .ptpLoss t => Sys2Proof.Machine.execPtpLoss t s
  | .trefLoss t => Sys2Proof.Machine.execTrefLoss t s
  | .trefReturn t => Sys2Proof.Machine.execTrefReturn t s
  | .twsTimeSet t fn v => Sys2Proof.Machine.execTwsTimeSet t fn v s
  | .twsRunStart t fn => Sys2Proof.Machine.execTwsRunStart t fn s
  | .twsRunStop t fn => Sys2Proof.Machine.execTwsRunStop t fn s
  | .amfCommit t fn => Sys2Proof.Machine.execAmfCommit t fn s
  | .ccvCommit t fn => Sys2Proof.Machine.execCcvCommit t fn s
  | .wltCommit t fn => Sys2Proof.Machine.execWltCommit t fn s
  | .acrCommit t fn => Sys2Proof.Machine.execAcrCommit t fn s
  | .atnCommit t fn => Sys2Proof.Machine.execAtnCommit t fn s
  | .kvmCommit t fn => Sys2Proof.Machine.execKvmCommit t fn s
  | .lstCommit t fn => Sys2Proof.Machine.execLstCommit t fn s
  | .twsCommit t fn => Sys2Proof.Machine.execTwsCommit t fn s
  | .hifCommit t fn => Sys2Proof.Machine.execHifCommit t fn s
  | .cpxCommit t fn => Sys2Proof.Machine.execCpxCommit t fn s
  | .cstCommit t fn => Sys2Proof.Machine.execCstCommit t fn s
  | .memCommit t fn => Sys2Proof.Machine.execMemCommit t fn s
  | .ptmCommit t fn => Sys2Proof.Machine.execPtmCommit t fn s
  | .smsCommit t fn => Sys2Proof.Machine.execSmsCommit t fn s
  | .amfCntClr t fn => Sys2Proof.Machine.execAmfCntClr t fn s
  | .ccvCntClr t fn => Sys2Proof.Machine.execCcvCntClr t fn s
  | .wltCntClr t fn => Sys2Proof.Machine.execWltCntClr t fn s
  | .acrCntClr t fn => Sys2Proof.Machine.execAcrCntClr t fn s
  | .atnCntClr t fn => Sys2Proof.Machine.execAtnCntClr t fn s
  | .kvmCntClr t fn => Sys2Proof.Machine.execKvmCntClr t fn s
  | .lstCntClr t fn => Sys2Proof.Machine.execLstCntClr t fn s
  | .twsCntClr t fn => Sys2Proof.Machine.execTwsCntClr t fn s
  | .hifCntClr t fn => Sys2Proof.Machine.execHifCntClr t fn s
  | .lnkCntClr t fn => Sys2Proof.Machine.execLnkCntClr t fn s
  | .cpxCntClr t fn => Sys2Proof.Machine.execCpxCntClr t fn s
  | .cstCntClr t fn => Sys2Proof.Machine.execCstCntClr t fn s
  | .memCntClr t fn => Sys2Proof.Machine.execMemCntClr t fn s
  | .ptmCntClr t fn => Sys2Proof.Machine.execPtmCntClr t fn s
  | .smsCntClr t fn => Sys2Proof.Machine.execSmsCntClr t fn s
  | .smsIdCntClr t fn => Sys2Proof.Machine.execSmsIdCntClr t fn s
  | .kvmCtrlEn t fn => Sys2Proof.Machine.execKvmCtrlEn t fn s
  | .lstCtrlEn t fn => Sys2Proof.Machine.execLstCtrlEn t fn s
  | .lstTrustLock t fn => Sys2Proof.Machine.execLstTrustLock t fn s
  | .lnkCtrlEn t fn on => Sys2Proof.Machine.execLnkCtrlEn t fn on s
  | .cpxDbgDataRead t fn => Sys2Proof.Machine.execCpxDbgDataRead t fn s
  | .halfLatchRead t fn bar off size => Sys2Proof.Machine.execHalfLatchRead t fn bar off size s
  | .registerWrite t fn bar off size data poisoned => Sys2Proof.Machine.execRegisterWrite t fn bar off size data poisoned s
  | .sqTail t fn q x => Sys2Proof.Machine.execSqTail t fn q x s
  | .cqHead t fn q x => Sys2Proof.Machine.execCqHead t fn q x s
  | .tqHead t fn q x => Sys2Proof.Machine.execTqHead t fn q x s
  | .hifQEnable t fn q => Sys2Proof.Machine.execHifQEnable t fn q s
  | .hifQDisable t fn q => Sys2Proof.Machine.execHifQDisable t fn q s
  | .queueDrained t q => Sys2Proof.Machine.execQueueDrained t q s
  | .hifFnQueues t fn v => Sys2Proof.Machine.execHifFnQueues t fn v s
  | .ringSignal t q tok => Sys2Proof.Machine.execRingSignal t q tok s
  | .msixUnmask t fn op => Sys2Proof.Machine.execMsixUnmask t fn op s
  | .vfFlr t fn => Sys2Proof.Machine.execVfFlr t fn s
  | .functionResetReady t fn => Sys2Proof.Machine.execFunctionResetReady t fn s
  | .hifFnResetFlr t fn => Sys2Proof.Machine.execHifFnResetFlr t fn s
  | .hifFnResetServe t fn => Sys2Proof.Machine.execHifFnResetServe t fn s
  | .hifCtrlServeReset t fn => Sys2Proof.Machine.execHifCtrlServeReset t fn s
  | .hifVfCtrlServeReset t fn => Sys2Proof.Machine.execHifVfCtrlServeReset t fn s
  | .vfEnableClear t => Sys2Proof.Machine.execVfEnableClear t s
  | .pfFlr t => Sys2Proof.Machine.execPfFlr t s
  | .completionTimeout t r => Sys2Proof.Machine.execCompletionTimeout t r s
  | .hifUncorrectable t buffer => Sys2Proof.Machine.execHifUncorrectable t buffer s
  | .mbxSGo t a b words => Sys2Proof.Machine.execMbxSGo t a b words s
  | .mbxRDone t a b => Sys2Proof.Machine.execMbxRDone t a b s
  | .fwGetVersion t sender => Sys2Proof.Machine.execFwGetVersion t sender s
  | .setTime t sender => Sys2Proof.Machine.execSetTime t sender s
  | .readLog t sender => Sys2Proof.Machine.execReadLog t sender s
  | .mcGetVersion t sender => Sys2Proof.Machine.execMcGetVersion t sender s
  | .getIdentity t sender => Sys2Proof.Machine.execGetIdentity t sender s
  | .getMeasurement t sender => Sys2Proof.Machine.execGetMeasurement t sender s
  | .getSensor t sender => Sys2Proof.Machine.execGetSensor t sender s
  | .getFwSlots t sender => Sys2Proof.Machine.execGetFwSlots t sender s
  | .firmwareRestart t cause => Sys2Proof.Machine.execFirmwareRestart t cause s
  | .controlWatchdog t core => Sys2Proof.Machine.execControlWatchdog t core s
  | .trialConfirm t => Sys2Proof.Machine.execTrialConfirm t s
  | .fallback t bad => Sys2Proof.Machine.execFallback t bad s
  | .fastRound t cores rails v54 i54 taken => Sys2Proof.Machine.execFastRound t cores rails v54 i54 taken s
  | .slowRound t diodes volts hbm lp taken => Sys2Proof.Machine.execSlowRound t diodes volts hbm lp taken s
  | .injectedSequence t c values others taken => Sys2Proof.Machine.execInjectedSequence t c values others taken s
  | .monitorTrackVisit t die l => Sys2Proof.Machine.execMonitorTrackVisit t die l s
  | .ptmPstateEnterMp1 t fn => Sys2Proof.Machine.execPtmPstateEnterMp1 t fn s
  | .ptmPstateExitMp1 t fn => Sys2Proof.Machine.execPtmPstateExitMp1 t fn s
  | .standbySample t v c => Sys2Proof.Machine.execStandbySample t v c s
  | .marginDecay t core => Sys2Proof.Machine.execMarginDecay t core s
  | .iftSlice t core pass sig => Sys2Proof.Machine.execIftSlice t core pass sig s
  | .iftOverdue t core => Sys2Proof.Machine.execIftOverdue t core s
  | .scrubRead t tierB lines errs => Sys2Proof.Machine.execScrubRead t tierB lines errs s
  | .bridgeFlitReceive t die up bad => Sys2Proof.Machine.execBridgeFlitReceive t die up bad s
  | .bridgeRetrain t die => Sys2Proof.Machine.execBridgeRetrain t die s
  | .dataFlit t p l => Sys2Proof.Machine.execDataFlit t p l s
  | .idleFlit t p l => Sys2Proof.Machine.execIdleFlit t p l s
  | .nak t p l => Sys2Proof.Machine.execNak t p l s
  | .credit t p l => Sys2Proof.Machine.execCredit t p l s
  | .train t p lat l => Sys2Proof.Machine.execTrain t p lat l s
  | .replayTimeout t p => Sys2Proof.Machine.execReplayTimeout t p s
  | .torusPortDown t p => Sys2Proof.Machine.execTorusPortDown t p s
  | .torusPortRetrain t p => Sys2Proof.Machine.execTorusPortRetrain t p s
  | .queueWrite t => Sys2Proof.Machine.execQueueWrite t s
  | .collective t => Sys2Proof.Machine.execCollective t s
  | .control t => Sys2Proof.Machine.execControl t s
  | .storageReadResponse t port qp slot offset psn crcOk ce data => Sys2Proof.Machine.execStorageReadResponse t port qp slot offset psn crcOk ce data s
  | .storageNak t port qp access => Sys2Proof.Machine.execStorageNak t port qp access s
  | .rdmaRetryTimeout t port qp => Sys2Proof.Machine.execRdmaRetryTimeout t port qp s
  | .inboundRequestDiscard t port => Sys2Proof.Machine.execInboundRequestDiscard t port s
  | .storageLinkDown t port => Sys2Proof.Machine.execStorageLinkDown t port s
  | .storagePortDisable t fn port => Sys2Proof.Machine.execStoragePortDisable t fn port s
  | .qpReset t fn port qp => Sys2Proof.Machine.execQpReset t fn port qp s
  | .qpRts t fn port qp => Sys2Proof.Machine.execQpRts t fn port qp s
  | .standbyApply t offFor => Sys2Proof.Machine.execStandbyApply t offFor s
  | .standbyRemove t => Sys2Proof.Machine.execStandbyRemove t s
  | .pwrEnRise t main54 => Sys2Proof.Machine.execPwrEnRise t main54 s
  | .pwrGoodRise t o => Sys2Proof.Machine.execPwrGoodRise t o s
  | .pwrEnFall t lost54 => Sys2Proof.Machine.execPwrEnFall t lost54 s
  | .perstNAssert t k => Sys2Proof.Machine.execPerstNAssert t k s
  | .perstNRelease t o => Sys2Proof.Machine.execPerstNRelease t o s
  | .peRefclkLoss t o => Sys2Proof.Machine.execPeRefclkLoss t o s
  | .mcWatchdog t => Sys2Proof.Machine.execMcWatchdog t s
  | .i3cSetdasa t static addr => Sys2Proof.Machine.execI3cSetdasa t static addr s
  | .i3cEntdaa t addr => Sys2Proof.Machine.execI3cEntdaa t addr s
  | .setEndpointId t eid => Sys2Proof.Machine.execSetEndpointId t eid s
  | .getEndpointId t => Sys2Proof.Machine.execGetEndpointId t s
  | .getEndpointUuid t => Sys2Proof.Machine.execGetEndpointUuid t s
  | .getMctpVersionSupport t => Sys2Proof.Machine.execGetMctpVersionSupport t s
  | .getMessageTypeSupport t => Sys2Proof.Machine.execGetMessageTypeSupport t s
  | .spdmGetVersion t => Sys2Proof.Machine.execSpdmGetVersion t s
  | .getCapabilities t => Sys2Proof.Machine.execGetCapabilities t s
  | .negotiateAlgorithms t offers => Sys2Proof.Machine.execNegotiateAlgorithms t offers s
  | .getDigests t => Sys2Proof.Machine.execGetDigests t s
  | .getCertificate t slot offset len => Sys2Proof.Machine.execGetCertificate t slot offset len s
  | .challenge t slot nonce => Sys2Proof.Machine.execChallenge t slot nonce s
  | .getMeasurements t index sign nonce => Sys2Proof.Machine.execGetMeasurements t index sign nonce s
  | .gettid t => Sys2Proof.Machine.execGettid t s
  | .settid t tid => Sys2Proof.Machine.execSettid t tid s
  | .getpldmversion t type_ => Sys2Proof.Machine.execGetpldmversion t type_ s
  | .getpldmtypes t => Sys2Proof.Machine.execGetpldmtypes t s
  | .getpldmcommands t type_ => Sys2Proof.Machine.execGetpldmcommands t type_ s
  | .getpdrrepositoryinfo t => Sys2Proof.Machine.execGetpdrrepositoryinfo t s
  | .getpdr t handle => Sys2Proof.Machine.execGetpdr t handle s
  | .getsensorreading t n => Sys2Proof.Machine.execGetsensorreading t n s
  | .getstatesensorreadings t n => Sys2Proof.Machine.execGetstatesensorreadings t n s
  | .seteventreceiver t eid => Sys2Proof.Machine.execSeteventreceiver t eid s
  | .pollforplatformeventmessage t => Sys2Proof.Machine.execPollforplatformeventmessage t s
  | .querydeviceidentifiers t => Sys2Proof.Machine.execQuerydeviceidentifiers t s
  | .getfirmwareparameters t => Sys2Proof.Machine.execGetfirmwareparameters t s
  | .requestupdate t agent => Sys2Proof.Machine.execRequestupdate t agent s
  | .passcomponenttable t agent => Sys2Proof.Machine.execPasscomponenttable t agent s
  | .updatecomponent t agent size => Sys2Proof.Machine.execUpdatecomponent t agent size s
  | .firmwareDataReceive t agent data => Sys2Proof.Machine.execFirmwareDataReceive t agent data s
  | .activatefirmware t agent => Sys2Proof.Machine.execActivatefirmware t agent s
  | .getstatus t => Sys2Proof.Machine.execGetstatus t s
  | .cancelupdatecomponent t agent => Sys2Proof.Machine.execCancelupdatecomponent t agent s
  | .cancelupdate t agent => Sys2Proof.Machine.execCancelupdate t agent s
  | .errorEstimateUnlock t => Sys2Proof.Machine.execErrorEstimateUnlock t s
  | .firmwareReady t o => Sys2Proof.Machine.execFirmwareReady t o s
  | .mp1EntryComplete t => Sys2Proof.Machine.execMp1EntryComplete t s
  | .mp0ReturnComplete t verify => Sys2Proof.Machine.execMp0ReturnComplete t verify s
  | .swapPrepareComplete t => Sys2Proof.Machine.execSwapPrepareComplete t s
  | .storageLinkUp t port => Sys2Proof.Machine.execStorageLinkUp t port s
  | .pfcFrame t port enable quanta => Sys2Proof.Machine.execPfcFrame t port enable quanta s
  | .vfEnableSet t numVfs ari => Sys2Proof.Machine.execVfEnableSet t numVfs ari s
  | .functionPowerState t fn d3 => Sys2Proof.Machine.execFunctionPowerState t fn d3 s
  | .platformeventmessageAck t => Sys2Proof.Machine.execPlatformeventmessageAck t s

end Sys2Proof.Machine
end

