-- ==== Sys2Proof/Machine/Step.lean ====
section
/-! DEFINITION. One step of the block: the command at the front of the queue takes effect, and the queue keeps the rest. With no
command waiting the block idles, and its boot ROM runs to its end (assumption log 2). -/

namespace Sys2Proof.Machine

/-- The front command taken off the queue and run on the state that holds the rest.
DESIGN CHOICE (assumption log 2), DESIGN CHOICE (assumption log 4). -/
def step (s : State) : Host.Outcome State Fault Refusal :=
  match s.pending with
  | [] => .next s.bootRom
  | c :: rest => exec c { s with pending := rest }

/-- The state with the command that a word spells put at the front of its queue; no row of the table gives its command bits, so
no word spells one and the state stays as it is. -/
def State.withFetchWord (s : State) (nbits w : Nat) : State :=
  match decodeTableWord nbits w with
  | some c => { s with pending := c :: s.pending }
  | none => s

end Sys2Proof.Machine
end

