-- ==== Sys2Proof/WellFormed.lean ====
section
/-! DEFINITION. The commands whose operands lie in the ranges the spec gives them: functions, queues, cores, clusters, crossbar
rows and columns, ports, queue pairs, and the fields of submission entries at their widths. A meaning answers for every operand;
this says which terms stand for something the hardware can receive. -/

namespace Sys2Proof

/-- A function: 0 the physical function, 1–31 a virtual function (R307). -/
def fnOk (fn : Nat) : Bool := decide (fn < 32)
/-- A queue of the module (R309). -/
def queueOk (q : Nat) : Bool := decide (q < 256)
/-- An array core or hub core, by logical number (R12). -/
def coreOk (core : Nat) : Bool := decide (core < 520)
/-- An array core, by logical number (R12): only these hold clusters. -/
def arrayOk (core : Nat) : Bool := decide (core < 512)
/-- A cluster of an array core (R12). -/
def clusterOk (core cluster : Nat) : Bool := arrayOk core && decide (cluster < 8)
/-- One of the two accumulator banks of a cluster (R137). -/
def bankOk (core cluster b : Nat) : Bool := clusterOk core cluster && decide (b < 2)
/-- A crossbar of a cluster (R12). -/
def xbOk (row col : Nat) : Bool := decide (row < 9) && decide (col < 8)
/-- A crossbar by its position number (R12): 576 for each core. -/
def posOk (p : Nat) : Bool := decide (p < 576 * 512)
/-- A torus port (R330). -/
def torusOk (p : Nat) : Bool := decide (p < 6)
/-- A storage port (R345). -/
def storageOk (p : Nat) : Bool := decide (p < 2)
/-- A queue pair of a storage port (R345). -/
def qpOk (port qp : Nat) : Bool := storageOk port && decide (qp < 64)
/-- A host address, a handle or another 64-bit field. -/
def u64 (x : Nat) : Bool := decide (x < 2 ^ 64)
/-- A 32-bit field. -/
def u32 (x : Nat) : Bool := decide (x < 2 ^ 32)
/-- A 16-bit field. -/
def u16 (x : Nat) : Bool := decide (x < 2 ^ 16)
/-- A byte. -/
def u8 (x : Nat) : Bool := decide (x < 2 ^ 8)

/-- The header of a submission entry (R269). -/
def EntryHdr.wf (h : EntryHdr) : Bool :=
  fnOk h.fn && queueOk h.queue && u8 h.flags && decide (h.adapter < 64) && u32 h.tag && u64 h.handle

/-- The sampling block (R273). -/
def SampleBlock.wf (b : SampleBlock) : Bool := u8 b.k && u8 b.draw && u32 b.seed

/-- The operands of PREFILL and APPEND (R273). -/
def PromptOps.wf (o : PromptOps) : Bool := o.sample.wf && u32 o.count && u64 o.addr

/-- The operands of GENERATE (R274). -/
def GenerateOps.wf (o : GenerateOps) : Bool :=
  o.sample.wf && decide (o.maxTokens < 2 ^ 21) && decide (o.draftMax < 8) && decide (o.stop0 < 2 ^ 24)
    && decide (o.stop1 < 2 ^ 24) && u64 o.notBefore && u64 o.firstDue && u32 o.period && u32 o.lead

/-- The operands of ADAPTER_TUNE (R275). -/
def TuneOps.wf (o : TuneOps) : Bool := u32 o.count && u32 o.seed && u64 o.addr && u64 o.outAddr

/-- The operands of LOAD_OBJECT (R275). -/
def LoadOps.wf (o : LoadOps) : Bool :=
  u8 o.slot && u8 o.port && u8 o.qp && u32 o.rkey && u64 o.remoteAddr && u64 o.length

/-- The operands of a forward vector (R91). -/
def VectorOps.wf (o : VectorOps) : Bool := clusterOk o.core o.cluster

/-- The operands of a transpose vector (R78). -/
def TransposeOps.wf (o : TransposeOps) : Bool := clusterOk o.core o.cluster

/-- A line of a crossbar that is sensed (R51, R78): a weight, reference or tally column, or a row. -/
def lineOk (l : Nat) : Bool := decide (l < 512) || (decide (528 ≤ l) && decide (l < 540))

/-- The charges of a pass (R85): a crossbar, pass 0–3, window 0–7. -/
def XbCharges.wf (c : XbCharges) : Bool :=
  xbOk c.row c.col && decide (c.pass < 4) && decide (c.window < 8) && c.extra.all fun e => lineOk e.1

/-- A verify reading (R51, R219): a logical row and a logical line. -/
def CellRead.wf (c : CellRead) : Bool := decide (c.row < 512) && lineOk c.col && decide (c.attempt ≤ 16)
/-- A reading of the verify pass names a position and lies at or below the targets. -/
def VerifyRead.wf (v : VerifyRead) : Bool := posOk v.pos && decide (v.fall ≤ 65536) && v.reads.all CellRead.wf

/-- What a check found (R422): words of 32 bits. -/
def UnitCheck.wf : UnitCheck → Bool
  | .good => true
  | .residue a b => u32 a && u32 b
  | .parity a b => u32 a && u32 b

/-- An engine entry is 32 bytes (R359). -/
def engineEntryOk (b : List Byte) : Bool := b.length == 32

/-- An error of memory (R375): space 0–2. -/
def MemErr.wf (e : MemErr) : Bool := decide (e.space < 3)

/-- An address of CST (R373: 768 MiB), where `n` bytes from it lie in CST too. DESIGN CHOICE (assumption log 57). -/
def cstOk (a n : Nat) : Bool := decide (a + n ≤ 0x30000000)

/-- A place in CST, with a slot number of 32 bits (R16). -/
def PartPlace.wf : PartPlace → Bool
  | .buf _ => true
  | .entry a slot => cstOk a 1 && u32 slot

/-- A place of this module or of another (R341). -/
def DrainPlace.wf : DrainPlace → Bool
  | .here p => p.wf
  | .torus dst offset slot => decide (dst < 4096) && decide (offset % 64 = 0) && cstOk offset 1 && u32 slot

/-- A move of a DMA engine (R358): it names bytes that CST has. DESIGN CHOICE (assumption log 57). -/
def DmaOp.wf : DmaOp → Bool
  | .load a n _ _ => cstOk a n
  | .store _ a => cstOk a 1
  | .readEntry a slot _ _ => cstOk a 1 && u32 slot
  | .writeEntry _ p => p.wf
  | .collective _ dst coll offset slot => (DrainPlace.torus dst offset slot).wf && u16 coll
  | .embedding _ _ a slot => cstOk a 1 && u32 slot
  | .writeKv _ _ _ _ _ _ _ => true

/-- The operands of attention work (R164): the work of a core or hub core, one of eight units, a length-table entry that lies in
CST, and a group of at least one query head. -/
def AttnOps.wf (o : AttnOps) : Bool := coreOk o.core && decide (o.unit < 8) && cstOk o.table 32 && !o.heads.isEmpty

/-- An MSI-X vector of a function (R317). -/
def MsixOp.wf : MsixOp → Bool
  | .vector v _ => decide (v < 64)
  | .control _ _ => true

/-- The read that times out (R325). -/
def TimedRead.wf : TimedRead → Bool
  | .fetch q => queueOk q
  | .buffer fn h => fnOk fn && u64 h

/-- An access of a BAR (R306): a function, one of its memory BARs, a size in bytes of at least one. -/
def accessOk (fn bar size : Nat) : Bool := fnOk fn && (bar == 0 || bar == 2 || bar == 4) && decide (0 < size)

/-- The operands of a command lie in the ranges the spec gives them. DESIGN CHOICE (assumption log 57). -/
def Instr.wf (i : Instr) : Bool :=
  match i with
  | .nop _ h => h.wf
  | .sessionOpen _ h job prio => h.wf && u16 job && decide (prio < 8)
  | .prefill _ h o => h.wf && o.wf
  | .append _ h o => h.wf && o.wf
  | .generate _ h o => h.wf && o.wf
  | .pause _ h ttl => h.wf && u64 ttl
  | .resume _ h => h.wf
  | .clone _ h newHandle prio _ => h.wf && u64 newHandle && decide (prio < 8)
  | .cancel _ h target => h.wf && u32 target
  | .close _ h => h.wf
  | .bindWeights _ h slot gen vs => h.wf && u8 slot && u32 gen && vs.all VerifyRead.wf
  | .swapWeights _ h slot gen => h.wf && u8 slot && u32 gen
  | .loadObject _ h o => h.wf && o.wf
  | .adapterLoad _ h slot => h.wf && u8 slot
  | .adapterUnload _ h => h.wf
  | .adapterTune _ h o => h.wf && o.wf
  | .fence _ h => h.wf
  | .submissionFetch _ _ _ vs => vs.all VerifyRead.wf
  | .sessionQueueAccept _ fn handle => fnOk fn && u64 handle
  | .requestAdmit _ fn handle _ => fnOk fn && u64 handle
  | .slotBoundary _ _ _ => true
  | .ttlExpire _ fn handle => fnOk fn && u64 handle
  | .stepComplete _ _ _ => true
  | .chunkComplete _ _ _ => true
  | .sequencerStepEnd _ core => coreOk core
  | .tokenRelease _ fn handle => fnOk fn && u64 handle
  | .queueEntryWrite _ addr slot fn job l => cstOk addr l.length && fnOk fn && u32 slot && u16 job
  | .queueStallTimeout _ core => coreOk core
  | .enginePush _ core entry check => coreOk core && engineEntryOk entry && check.wf
  | .barCfg _ core bar _ => coreOk core && decide (bar < 64)
  | .waitQ _ core _ slot => coreOk core && u32 slot
  | .endList _ core => coreOk core
  | .engineEntryStart _ core engine => coreOk core && decide (engine < 13)
  | .engineEntryComplete _ core engine check => coreOk core && decide (engine < 13) && check.wf
  | .barrierHang _ core bar => coreOk core && decide (bar < 64)
  | .cpxBarForceRelease _ fn core => fnOk fn && coreOk core
  | .cpxBarForceSet _ fn core => fnOk fn && coreOk core
  | .vectorLoad _ o => o.wf
  | .columnFlowArrive _ core cluster b cs check => bankOk core cluster b && cs.all XbCharges.wf && check.wf
  | .saturationRescue _ core cluster b row col _ => bankOk core cluster b && xbOk row col
  | .cancelRescue _ core _ _ => coreOk core
  | .shadowCheck _ core cluster row col _ => clusterOk core cluster && xbOk row col
  | .weltWorkComplete _ core cluster b check => bankOk core cluster b && check.wf
  | .transposeVector _ o cs => o.wf && cs.all XbCharges.wf
  | .drain _ core cluster b places check => bankOk core cluster b && check.wf && places.all fun e => e.2.wf
  | .acrDbgDrain _ fn core cluster b => fnOk fn && bankOk core cluster b
  | .topk _ core _ _ _ _ => coreOk core
  | .fold _ core _ _ srcs _ _ => coreOk core && srcs.all PartPlace.wf
  | .rmsnorm _ core _ _ _ => coreOk core
  | .layernorm _ core _ _ _ => coreOk core
  | .siluGate _ core _ _ _ => coreOk core
  | .geluGate _ core _ _ _ => coreOk core
  | .rotary _ core _ _ _ _ => coreOk core
  | .expSum _ core _ _ _ _ _ => coreOk core
  | .quantA8 _ core _ _ _ => coreOk core
  | .toBf16 _ core _ _ _ => coreOk core
  | .sample _ core srcs _ _ _ => coreOk core && srcs.all PartPlace.wf
  | .expertDispatch _ core _ _ places => coreOk core && places.all fun e => e.2.wf
  | .expertCombine _ core _ _ _ _ _ => coreOk core
  | .qRecordWrite _ core _ _ => coreOk core
  | .dma _ core _ o errs => coreOk core && o.wf && errs.all MemErr.wf
  | .attentionForward _ o _ dst check errs => o.wf && dst.wf && check.wf && errs.all MemErr.wf
  | .segmentMerge _ core _ addr slot => coreOk core && (PartPlace.entry addr slot).wf
  | .attentionBackward _ o _ check errs => o.wf && check.wf && errs.all MemErr.wf
  | .trackVisit _ _ _ => true
  | .trackSwapIn _ _ => true
  | .trackSwapOut _ _ _ => true
  | .wltDriftUpdate _ => true
  | .lastingComplete _ p rs => posOk p && rs.all CellRead.wf
  | .lastingWatchdog _ p => posOk p
  | .bindComplete _ => true
  | .swapSwitch _ => true
  | .swapEnd _ => true
  | .objectCheckComplete _ slot => u8 slot
  | .adapterUnloadComplete _ fn _ => fnOk fn
  | .lehrProbe _ p cs => posOk p && cs.all XbCharges.wf
  | .lehrRefresh _ p => posOk p
  | .demoteColumn _ fn handle errs => fnOk fn && u64 handle && errs.all MemErr.wf
  | .migrationRetry _ fn handle => fnOk fn && u64 handle
  | .promoteColumn _ fn handle errs => fnOk fn && u64 handle && errs.all MemErr.wf
  | .cloneComplete _ fn newHandle errs => fnOk fn && u64 newHandle && errs.all MemErr.wf
  | .ppsEdge _ _ => true
  | .ppsLoss _ => true
  | .ptpSync _ _ _ _ _ _ => true
  | .ptpDelayReq _ _ => true
  | .ptpDelayResp _ _ _ _ _ => true
  | .ptpAnnounce _ _ _ _ => true
  | .ptpAnnounceTimeout _ port _ => storageOk port
  | .ptpLoss _ => true
  | .trefLoss _ => true
  | .trefReturn _ => true
  | .twsTimeSet _ fn v => fnOk fn && u64 v
  | .twsRunStart _ fn => fnOk fn
  | .twsRunStop _ fn => fnOk fn
  | .amfCommit _ fn => fnOk fn
  | .ccvCommit _ fn => fnOk fn
  | .wltCommit _ fn => fnOk fn
  | .acrCommit _ fn => fnOk fn
  | .atnCommit _ fn => fnOk fn
  | .kvmCommit _ fn => fnOk fn
  | .lstCommit _ fn => fnOk fn
  | .twsCommit _ fn => fnOk fn
  | .hifCommit _ fn => fnOk fn
  | .cpxCommit _ fn => fnOk fn
  | .cstCommit _ fn => fnOk fn
  | .memCommit _ fn => fnOk fn
  | .ptmCommit _ fn => fnOk fn
  | .smsCommit _ fn => fnOk fn
  | .amfCntClr _ fn => fnOk fn
  | .ccvCntClr _ fn => fnOk fn
  | .wltCntClr _ fn => fnOk fn
  | .acrCntClr _ fn => fnOk fn
  | .atnCntClr _ fn => fnOk fn
  | .kvmCntClr _ fn => fnOk fn
  | .lstCntClr _ fn => fnOk fn
  | .twsCntClr _ fn => fnOk fn
  | .hifCntClr _ fn => fnOk fn
  | .lnkCntClr _ fn => fnOk fn
  | .cpxCntClr _ fn => fnOk fn
  | .cstCntClr _ fn => fnOk fn
  | .memCntClr _ fn => fnOk fn
  | .ptmCntClr _ fn => fnOk fn
  | .smsCntClr _ fn => fnOk fn
  | .smsIdCntClr _ fn => fnOk fn
  | .kvmCtrlEn _ fn => fnOk fn
  | .lstCtrlEn _ fn => fnOk fn
  | .lstTrustLock _ fn => fnOk fn
  | .lnkCtrlEn _ fn _ => fnOk fn
  | .cpxDbgDataRead _ fn => fnOk fn
  | .halfLatchRead _ fn bar _ size => accessOk fn bar size
  | .registerWrite _ fn bar _ size _ _ => accessOk fn bar size
  | .sqTail _ fn q x => fnOk fn && queueOk q && u32 x
  | .cqHead _ fn q x => fnOk fn && queueOk q && u32 x
  | .tqHead _ fn q x => fnOk fn && queueOk q && u32 x
  | .hifQEnable _ fn q => fnOk fn && queueOk q
  | .hifQDisable _ fn q => fnOk fn && queueOk q
  | .queueDrained _ q => queueOk q
  | .hifFnQueues _ fn v => fnOk fn && u32 v
  | .ringSignal _ q _ => queueOk q
  | .msixUnmask _ fn op => fnOk fn && op.wf
  | .vfFlr _ fn => fnOk fn
  | .functionResetReady _ fn => fnOk fn
  | .hifFnResetFlr _ fn => fnOk fn
  | .hifFnResetServe _ fn => fnOk fn
  | .hifCtrlServeReset _ fn => fnOk fn
  | .hifVfCtrlServeReset _ fn => fnOk fn
  | .vfEnableClear _ => true
  | .pfFlr _ => true
  | .completionTimeout _ r => r.wf
  | .hifUncorrectable _ _ => true
  | .mbxSGo _ _ _ words => decide (words.length ≤ 16)
  | .mbxRDone _ _ _ => true
  | .fwGetVersion _ _ => true
  | .setTime _ _ => true
  | .readLog _ _ => true
  | .mcGetVersion _ _ => true
  | .getIdentity _ _ => true
  | .getMeasurement _ _ => true
  | .getSensor _ _ => true
  | .getFwSlots _ _ => true
  | .firmwareRestart _ _ => true
  | .controlWatchdog _ core => decide (core < 4)
  | .trialConfirm _ => true
  | .fallback _ _ => true
  | .fastRound _ _ _ _ _ _ => true
  | .slowRound _ _ _ _ _ _ => true
  | .injectedSequence _ _ _ _ _ => true
  | .monitorTrackVisit _ die _ => decide (die < 3)
  | .ptmPstateEnterMp1 _ fn => fnOk fn
  | .ptmPstateExitMp1 _ fn => fnOk fn
  | .standbySample _ _ _ => true
  | .marginDecay _ core => coreOk core
  | .iftSlice _ core _ _ => decide (core < 552)
  | .iftOverdue _ core => coreOk core
  | .scrubRead _ _ _ errs => errs.all MemErr.wf
  | .bridgeFlitReceive _ die _ _ => decide (die < 2)
  | .bridgeRetrain _ die => decide (die < 2)
  | .dataFlit _ p l => torusOk p && l.length == 256
  | .idleFlit _ p l => torusOk p && l.length == 256
  | .nak _ p l => torusOk p && l.length == 256
  | .credit _ p l => torusOk p && l.length == 256
  | .train _ p _ l => torusOk p && l.length == 256
  | .replayTimeout _ p => torusOk p
  | .torusPortDown _ p => torusOk p
  | .torusPortRetrain _ p => torusOk p
  | .queueWrite _ => true
  | .collective _ => true
  | .control _ => true
  | .storageReadResponse _ port qp _ _ psn _ _ _ => qpOk port qp && decide (psn < 2 ^ 24)
  | .storageNak _ port qp _ => qpOk port qp
  | .rdmaRetryTimeout _ port qp => qpOk port qp
  | .inboundRequestDiscard _ port => storageOk port
  | .storageLinkDown _ port => storageOk port
  | .storagePortDisable _ fn port => fnOk fn && storageOk port
  | .qpReset _ fn port qp => fnOk fn && qpOk port qp
  | .qpRts _ fn port qp => fnOk fn && qpOk port qp
  | .standbyApply _ _ => true
  | .standbyRemove _ => true
  | .pwrEnRise _ _ => true
  | .pwrGoodRise _ _ => true
  | .pwrEnFall _ _ => true
  | .perstNAssert _ _ => true
  | .perstNRelease _ _ => true
  | .peRefclkLoss _ _ => true
  | .mcWatchdog _ => true
  | .i3cSetdasa _ static addr => decide (static < 128) && decide (addr < 128)
  | .i3cEntdaa _ addr => decide (addr < 128)
  | .setEndpointId _ eid => u8 eid
  | .getEndpointId _ => true
  | .getEndpointUuid _ => true
  | .getMctpVersionSupport _ => true
  | .getMessageTypeSupport _ => true
  | .spdmGetVersion _ => true
  | .getCapabilities _ => true
  | .negotiateAlgorithms _ _ => true
  | .getDigests _ => true
  | .getCertificate _ _ _ _ => true
  | .challenge _ _ nonce => nonce.length == 32
  | .getMeasurements _ index _ nonce => u8 index && nonce.length == 32
  | .gettid _ => true
  | .settid _ tid => u8 tid
  | .getpldmversion _ _ => true
  | .getpldmtypes _ => true
  | .getpldmcommands _ _ => true
  | .getpdrrepositoryinfo _ => true
  | .getpdr _ handle => u32 handle
  | .getsensorreading _ _ => true
  | .getstatesensorreadings _ _ => true
  | .seteventreceiver _ eid => u8 eid
  | .pollforplatformeventmessage _ => true
  | .querydeviceidentifiers _ => true
  | .getfirmwareparameters _ => true
  | .requestupdate _ _ => true
  | .passcomponenttable _ _ => true
  | .updatecomponent _ _ _ => true
  | .firmwareDataReceive _ _ _ => true
  | .activatefirmware _ _ => true
  | .getstatus _ => true
  | .cancelupdatecomponent _ _ => true
  | .cancelupdate _ _ => true
  | .errorEstimateUnlock _ => true
  | .firmwareReady _ _ => true
  | .mp1EntryComplete _ => true
  | .mp0ReturnComplete _ vs => vs.all VerifyRead.wf
  | .swapPrepareComplete _ => true
  | .storageLinkUp _ port => storageOk port
  | .pfcFrame _ port enable _ => storageOk port && u8 enable
  | .vfEnableSet _ numVfs _ => u16 numVfs
  | .functionPowerState _ fn _ => fnOk fn
  | .platformeventmessageAck _ => true

end Sys2Proof
end

