-- ==== Sys2Proof/Safety.lean ====
section
/-! DEFINITION. What a safe run is, in the terms the statements use: a step that answers a next state, the canonical
forms that every step keeps, and the words in which the statements say what a command leaves unchanged. -/

namespace Sys2Proof.Machine

/-- An outcome that stops nothing: a next state of which a condition holds. -/
def Ends (o : Host.Outcome State Fault Refusal) (P : State → Prop) : Prop := ∃ t, o = .next t ∧ P t

/-- The keys of a sparse table rise strictly from `lo` on: no key stands twice, and equal tables are equal lists. -/
def SMap.risesFrom {α : Type} : Nat → SMap α → Bool
  | _, [] => true
  | lo, (a, _) :: t => decide (lo ≤ a) && SMap.risesFrom (a + 1) t

/-- The keys of a sparse table rise strictly. -/
def SMap.rises {α : Type} (m : SMap α) : Bool := SMap.risesFrom 0 m

/-- The register table is in its canonical order: each field of each bank stands in it at most once. -/
def State.regsRise (s : State) : Prop := SMap.rises s.regs = true

/-- The canonical form of a memory: addresses strictly rising, no byte that reads 0 listed.
DESIGN CHOICE (assumption log 6). -/
def Memory.wf (m : List Host.Cell) : Bool := SMap.wf 0#8 m

/-- CST and the two tiers are in canonical form. -/
def MemSt.wf (m : MemSt) : Prop := Memory.wf m.cst = true ∧ Memory.wf m.tierA = true ∧ Memory.wf m.tierB = true

/-- Every command that waits is well-formed. -/
def State.queueWf (s : State) : Prop := ∀ c ∈ s.pending, c.wf = true

/-- The invariant of every step. -/
def State.Inv (s : State) : Prop := s.queueWf ∧ s.regsRise ∧ s.mem.wf

/-- The areas of the state, external time apart from the rest of its sub-record. -/
inductive Area where
  | regs | shadow | commits | now | time | arbs | hif | serve | lst | ctl | mem | sms | fab | lnk | ptm | pwr | mgt | free
deriving DecidableEq, Repr

/-- What the time sub-record holds beside external time. -/
def TimeSt.rest (x : TimeSt) : TimeSt := { x with now := 0 }

/-- Every area of the state but those listed is the same, all of it: every register, every byte of memory.  The queue of
commands always is. -/
structure SameBut (A : List Area) (s t : State) : Prop where
  pending : t.pending = s.pending
  regs : .regs ∉ A → t.regs = s.regs
  shadow : .shadow ∉ A → t.shadow = s.shadow
  commits : .commits ∉ A → t.commits = s.commits
  now : .now ∉ A → t.time.now = s.time.now
  time : .time ∉ A → t.time.rest = s.time.rest
  arbs : .arbs ∉ A → t.arbs = s.arbs
  hif : .hif ∉ A → t.hif = s.hif
  serve : .serve ∉ A → t.serve = s.serve
  lst : .lst ∉ A → t.lst = s.lst
  ctl : .ctl ∉ A → t.ctl = s.ctl
  mem : .mem ∉ A → t.mem = s.mem
  sms : .sms ∉ A → t.sms = s.sms
  fab : .fab ∉ A → t.fab = s.fab
  lnk : .lnk ∉ A → t.lnk = s.lnk
  ptm : .ptm ∉ A → t.ptm = s.ptm
  pwr : .pwr ∉ A → t.pwr = s.pwr
  mgt : .mgt ∉ A → t.mgt = s.mgt
  free : .free ∉ A → t.free = s.free

/-- Every register field but those listed, each with its bank, reads as before. -/
def RegsBut (l : List (Fld × Nat)) (s t : State) : Prop :=
  ∀ (f : Fld) (b : Nat), (∀ e ∈ l, f.key b ≠ e.1.key e.2) → t.rd f b = s.rd f b

/-- A completion entry has been written to a queue's ring. -/
def State.posted (t : State) (q : Nat) (c : Completion) : Prop :=
  ∃ i a, HostWrite.completion q i a c.encode ∈ t.hif.out

/-- The host can be written for a queue, nothing waits in the queue, and no firmware restart keeps its completions back. -/
def State.hostReady (s : State) (q : Nat) : Prop :=
  q < 256 ∧ s.hostOn (s.owner q) = true ∧ (s.queue q).waiting = [] ∧ (s.queue q).fences = [] ∧ s.completionsWait q = false

/-- Of the control complex only one core's sequencer and engine queues have changed. -/
def State.onlyCore (s u : State) (core : Nat) : Prop :=
  SameBut [.now, .ctl] s u ∧ u.ctl = { s.ctl with cores := u.ctl.cores } ∧ ∀ n, n ≠ core → u.core n = s.core n

/-- `n` pages of a tier can be had for a function without freeing anything; none are needed where `n` is 0. -/
def State.roomFor (s : State) (f : Nat) (tierB : Bool) (n : Nat) : Prop := n = 0 ∨ s.fits f tierB n = true

/-- Of the data path only one buffer of VEC has changed, and which requests have met a NUMERIC event or a clamp. -/
def State.onlyBuf (s u : State) (core n : Nat) : Prop :=
  u.fab = { s.fab with
      bufs := u.fab.bufs, numericMarks := u.fab.numericMarks, oobMarks := u.fab.oobMarks, clampMarks := u.fab.clampMarks
      clamps := u.fab.clamps }
  ∧ ∀ k, k ≠ 65536 * core + n → SMap.get .empty u.fab.bufs k = SMap.get .empty s.fab.bufs k

/-- A buffer of VEC holds FP32 values from an output on, none of them marked and no rescue due. -/
def State.holdsVec (u : State) (core n : Nat) (serial : Option Nat) (first : Nat) (l : List F32) : Prop :=
  u.buf core n = .vec serial first l (l.map fun _ => false) []

/-- A counter field has gone up by `n`, no further than all ones. -/
def State.counted (s u : State) (f : Fld) (n : Nat := 1) (bank : Nat := 0) : Prop :=
  u.rd f bank = min (maxOf f.width) (s.rd f bank + n)

/-- The queue that is visited has had one more entry read (R313): its submission head has moved on. -/
def State.fetched (s : State) (q : Nat) : State :=
  let v := s.withHif { s.hif with visit := q, visited := s.hif.visited + 1 }
  v.setQueue q { v.queue q with sqHead := ((v.queue q).sqHead + 1) % 2 ^ 32 }

/-- A session opcode finds its session with no request before it, on a module that takes work. -/
def State.findsIdle (s : State) (h : EntryHdr) (x : Session) : Prop :=
  s.isHome = true ∧ h.rsvZero = true ∧ s.openSess h.fn h.handle = some x ∧ s.sess x.num = some x ∧ x.queue = []
  ∧ s.bit SMS_STATUS_MODULE_FAULT = false ∧ s.hostReady h.queue

/-- The management port, its standby domain up, has answered with one message; `f` says what else changed there. -/
def State.answered (s : State) (t : Nat) (u : State) (m : MgtMsg) (f : MgtSt → MgtSt) : Prop :=
  SameBut [.now, .mgt] s u ∧ u.now = max s.now t
    ∧ u.mgt = { f s.mgt with mode := if s.mgt.dynAddr = 0 then 1 else 2, out := s.mgt.out ++ [m] }

end Sys2Proof.Machine
end

