-- ==== Sys2Proof/Certificates/Slice0/Obligations.lean ====
section
/-! DEFINITION. The statements about the block that the provers settle.  `Ends o P` says that an outcome is a next state with P,
`SameBut` and `RegsBut` which areas of the state and which register fields may have changed (Sys2Proof/Safety.lean). -/

open Sys2Proof Sys2Proof.Machine

/-- A step runs the command at the front of the queue on the state that holds the rest (first in, first out); with none waiting
the block idles and its boot ROM, where a start has left it running, runs to its end, which is the model's choice (assumption log 2). -/
def Obligations.StepRunsTheFrontCommand : Prop :=
  (∀ (c : Instr) (rest : List Instr) (s : State), step { s with pending := c :: rest } = exec c { s with pending := rest })
  ∧ (∀ s : State, s.pending = [] → step s = .next s.bootRom)
  ∧ (∀ s : State, s.pending = [] → s.ctl.boot = none → step s = .next s)

/-- Every step answers a next state, and takes exactly one command off the queue where one waits: no command is refused, faults
or adds another. -/
def Obligations.EveryStepAnswers : Prop :=
  ∀ s : State, Ends (step s) fun u => u.pending = s.pending.tail

/-- Reset (R7, R456) meets the invariant: nothing waits, no register and no byte is listed. -/
def Obligations.ResetMeetsInvariant : Prop :=
  State.reset.Inv

/-- Every step keeps the canonical forms: the waiting commands are well-formed, each field of each bank stands once in the
register table, and each of the three memories lists rising addresses and no byte of 0. -/
def Obligations.StepsKeepInvariant : Prop :=
  ∀ s u : State, s.Inv → step s = .next u → u.Inv

/-- Reset (R7, R192, R234, R316, R327, R352, R356, R366, R404): every register field of every bank reads its reset value; STAGE is
0; no session, object, launch, page or torus flit is held; every queue is DISABLED with its indexes 0 and every mailbox
channel free; no counter counts and no event stands. -/
def Obligations.ResetLeavesNothing : Prop :=
  (∀ (f : Fld) (b : Nat), State.reset.rd f b = f.reset)
  ∧ State.reset.rd CPX_FW_STATUS_STAGE = 0 ∧ State.reset.running = false ∧ State.reset.rd TWS_SLOT_NOW_SLOT = 2 ^ 32 - 1
  ∧ State.reset.serve.sessions = [] ∧ State.reset.serve.launches = [] ∧ (∀ n, State.reset.obj n = ObjSlot.init)
  ∧ (∀ q, State.reset.queue q = QueueSt.init) ∧ (∀ a b, State.reset.mbox a b = Mbx.init)
  ∧ (∀ p, State.reset.tport p = TorusPort.init) ∧ (∀ p, State.reset.arb p = Arbiter.init) ∧ State.reset.ctl.boot = none
  ∧ (∀ port qp, State.reset.loadOn port qp = none) ∧ (∀ core, State.reset.core core = CoreCtl.init)
  ∧ (∀ sp a, State.reset.readByte sp a = 0#8)
  ∧ (∀ k ∈ [CntBlk.amf, .ccv, .wlt, .acr, .atn, .kvm, .lst, .tws, .hif, .lnk, .cpx, .cst, .mem, .ptm, .sms, .smsId],
      ∀ f ∈ k.fields, f.reset = 0)

/-- CNT_CLR (R82, R103, R135, R160, R183, R204, R234, R264, R327, R352, R371, R386, R387, R406, R424, R446): the physical
function's write of 1 sets every counter of the block to 0, in every core and port, with its log's VALID bit; every other field,
and all else but what waits for AMF's and WLT's log pairs, stays; another function's write changes nothing.
Its conclusions are that exec ANSWERS A NEXT STATE for: amfCntClr, ccvCntClr, wltCntClr, acrCntClr, atnCntClr, kvmCntClr,
lstCntClr, twsCntClr, hifCntClr, lnkCntClr, cpxCntClr, cstCntClr, memCntClr, ptmCntClr, smsCntClr, smsIdCntClr. -/
def Obligations.CountersClear : Prop :=
  ∀ (t : Nat) (s : State) (c : Nat → Nat → Instr) (b : CntBlk),
    (c, b) ∈ ([(.amfCntClr, .amf), (.ccvCntClr, .ccv), (.wltCntClr, .wlt), (.acrCntClr, .acr), (.atnCntClr, .atn),
      (.kvmCntClr, .kvm), (.lstCntClr, .lst), (.twsCntClr, .tws), (.hifCntClr, .hif), (.lnkCntClr, .lnk), (.cpxCntClr, .cpx),
      (.cstCntClr, .cst), (.memCntClr, .mem), (.ptmCntClr, .ptm), (.smsCntClr, .sms), (.smsIdCntClr, .smsId)]
      : List ((Nat → Nat → Instr) × CntBlk)) →
    (s.accepts 0 = true → Ends (exec (c t 0) s) fun u => SameBut [.regs, .now, .fab] s u
      ∧ u.fab = { s.fab with logHolds := u.fab.logHolds } ∧ (b ≠ .amf → b ≠ .wlt → u.fab = s.fab)
      ∧ (∀ f ∈ b.fields, ∀ bank, u.rd f bank = 0)
      ∧ (∀ f ∈ regTable, (∀ g ∈ b.fields, f.key 0 ≠ g.key 0) → ∀ bank, u.rd f bank = s.rd f bank))
    ∧ (∀ fn, fn ≠ 0 → exec (c t fn) s = .next (s.advance t))

/-- The enables (R204, R234, R351, R352, R353): EN = 1 starts KVM, LST or the torus where the settings pass their checks, else
CFG_ERR is set and the block stays off; LNK is turned off unless a partition job is admitted; LST_TRUST.LOCK stays set.
Its conclusions are that exec ANSWERS A NEXT STATE for: kvmCtrlEn, lstCtrlEn, lstTrustLock, lnkCtrlEn. -/
def Obligations.BlocksAreEnabled : Prop :=
  ∀ (t : Nat) (s : State), s.accepts 0 = true →
    (∀ (c : Nat → Nat → Instr) (en err : Fld) (ok : State → Bool),
      (c, en, err, ok) ∈ ([(.kvmCtrlEn, KVM_CTRL_EN, KVM_CTRL_CFG_ERR, State.kvmSettingsOk),
        (.lstCtrlEn, LST_CTRL_EN, LST_CTRL_CFG_ERR, State.lstSettingsOk)]
        : List ((Nat → Nat → Instr) × Fld × Fld × (State → Bool))) → s.bit en = false →
      (ok s = true → Ends (exec (c t 0) s) fun u => SameBut [.regs, .now] s u ∧ RegsBut [(en, 0)] s u ∧ u.bit en = true)
      ∧ (ok s = false → Ends (exec (c t 0) s) fun u => SameBut [.regs, .now] s u ∧ RegsBut [(err, 0)] s u
        ∧ u.bit err = true))
    ∧ (Ends (exec (.lstTrustLock t 0) s) fun u => SameBut [.regs, .now] s u ∧ RegsBut [(LST_TRUST_LOCK_LOCK, 0)] s u
      ∧ u.bit LST_TRUST_LOCK_LOCK = true)
    ∧ (s.bit LNK_CTRL_EN = false → s.linkCfgOk = true → Ends (exec (.lnkCtrlEn t 0 true) s) fun u =>
        SameBut [.regs, .now, .arbs, .lnk] s u ∧ u.bit LNK_CTRL_EN = true
        ∧ ∀ p, p < 6 → (s.torusDim (p / 2) ≠ 1 → u.rd LNK_Pp_STATUS_STATE p = 1)
            ∧ (s.torusDim (p / 2) = 1 → u.rd LNK_Pp_STATUS_STATE p = s.rd LNK_Pp_STATUS_STATE p))
    ∧ (s.bit LNK_CTRL_EN = true → s.partitionBusy = false → Ends (exec (.lnkCtrlEn t 0 false) s) fun u =>
        SameBut [.regs, .now, .arbs, .lnk] s u ∧ u.bit LNK_CTRL_EN = false
        ∧ ∀ p, p < 6 → u.rd LNK_Pp_STATUS_STATE p = 0 ∧ u.tport p = TorusPort.init)
    ∧ (∀ on, s.bit LNK_CTRL_EN = !on → (on = true → s.linkCfgOk = false) → (on = false → s.partitionBusy = true) →
        Ends (exec (.lnkCtrlEn t 0 on) s) fun u => SameBut [.regs, .now] s u ∧ RegsBut [(LNK_CTRL_CFG_ERR, 0)] s u
          ∧ u.bit LNK_CTRL_CFG_ERR = true)

/-- Register writes (R6, R7, R306, R325, R328): a RW field takes the word written, unless its block's enable locks it; a write of
a SH field waits in the shadow and leaves the field in force; W1C clears; a write of a wrong size is counted and dropped, a
poisoned one reported; a virtual function cannot write the physical function's registers.
Register reads (R6, R306, R369, R454): a read returns the field; the read of a lower half latches the upper one, which the
next read of it returns once; before READY only CPX_FW_STATUS shows; CPX_DBG_DATA moves the debug address on where debugging is
enabled and the address allowed, else it returns 0 and sets REFUSED.
LST and virtual functions (R235): no place of a virtual function's BAR0 is a register of LST, so a write at an LST offset changes
nothing and a read there returns 0.
Its conclusions are that exec ANSWERS A NEXT STATE for: registerWrite, halfLatchRead, cpxDbgDataRead. -/
def Obligations.RegisterAccess : Prop :=
  (∀ (t w : Nat) (s : State), s.accepts 0 = true → s.configOn = true → w < 2 ^ 32 →
    (s.bit LNK_CTRL_EN = false → Ends (exec (.registerWrite t 0 0 LNK_MODULE_NUM.addr 4 w false) s) fun u =>
      SameBut [.regs, .now] s u ∧ RegsBut [(LNK_MODULE_NUM, 0)] s u ∧ u.rd LNK_MODULE_NUM = w % 2 ^ 12)
    ∧ (s.bit LNK_CTRL_EN = true → exec (.registerWrite t 0 0 LNK_MODULE_NUM.addr 4 w false) s = .next (s.advance t))
    ∧ (Ends (exec (.registerWrite t 0 0 CPX_BAR_TIMEOUT_TICKS.addr 4 w false) s) fun u => SameBut [.shadow, .now] s u
        ∧ u.shadow = s.shadow ++ [⟨.cpx, CPX_BAR_TIMEOUT_TICKS.key 0, CPX_BAR_TIMEOUT_TICKS.reset, w % 2 ^ 16⟩])
    ∧ (w % 2 = 1 → Ends (exec (.registerWrite t 0 0 CPX_DBG_STATUS_REFUSED.addr 4 w false) s) fun u =>
        SameBut [.regs, .now] s u ∧ RegsBut [(CPX_DBG_STATUS_REFUSED, 0)] s u ∧ u.bit CPX_DBG_STATUS_REFUSED = false)
    ∧ (∀ off size, ¬((size = 4 ∨ size = 8) ∧ off % size = 0) → Ends (exec (.registerWrite t 0 0 off size w false) s) fun u =>
        SameBut [.regs, .now] s u ∧ RegsBut [(HIF_BAD_ACCESS_CNT_COUNT, 0)] s u ∧ s.counted u HIF_BAD_ACCESS_CNT_COUNT)
    ∧ (∀ bar off size, Ends (exec (.registerWrite t 0 bar off size w true) s) fun u => SameBut [.now, .hif] s u
        ∧ u.hif = { s.hif with aer := s.hif.aer ++ [(0, "Poisoned TLP Received")] })
    ∧ (∀ fn off, fn ≠ 0 → s.fnExists fn = true → 0x9008 ≤ off → off % 4 = 0 →
        exec (.registerWrite t fn 0 off 4 w false) s = .next (s.advance t)))
  ∧ (∀ (t : Nat) (s : State), s.configOn = true → (∀ k, SMap.get 0 s.hif.latches k = 0) →
    (s.ctl.ready = true →
      (Ends (exec (.halfLatchRead t 0 0 LNK_MODULE_NUM.addr 4) s) fun u => SameBut [.now, .hif] s u
        ∧ u.hif = { s.hif with readData := s.rd LNK_MODULE_NUM % 2 ^ 32 })
      ∧ (Ends (exec (.halfLatchRead t 0 0 TWS_TIME_NS.addr 4) s) fun u => SameBut [.now, .hif] s u
        ∧ u.hif.readData = max s.now t % 2 ^ 32
        ∧ SMap.get 0 u.hif.latches (latchKey 0 0 (TWS_TIME_NS.addr + 4)) = max s.now t / 2 ^ 32 % 2 ^ 32 + 1)
      ∧ (s.bit CPX_CTRL_DBG_EN = false → Ends (exec (.cpxDbgDataRead t 0) s) fun u => SameBut [.regs, .now, .hif] s u
        ∧ RegsBut [(CPX_DBG_STATUS_REFUSED, 0)] s u ∧ u.bit CPX_DBG_STATUS_REFUSED = true ∧ u.hif.readData = 0)
      ∧ (let a := s.rd CPX_DBG_ADDR_ADDR
        s.bit CPX_CTRL_DBG_EN = true → s.regionOf 0 a = 2 ∨ s.regionOf 0 a = 3 → a < 384 * 2 ^ 30 →
        Ends (exec (.cpxDbgDataRead t 0) s) fun u => SameBut [.regs, .now, .hif, .free] s u
          ∧ RegsBut [(CPX_DBG_ADDR_ADDR, 0)] s u ∧ u.rd CPX_DBG_ADDR_ADDR = a + 4))
    ∧ (s.ctl.ready = false → ∀ off, off % 4 = 0 → off ≠ CPX_FW_STATUS_STAGE.addr →
        Ends (exec (.halfLatchRead t 0 0 off 4) s) fun u => SameBut [.now, .hif] s u ∧ u.hif = { s.hif with readData := 0 })
    ∧ (∀ fn bar off v s', s' = s.withHif { s.hif with latches := SMap.put 0 s.hif.latches (latchKey fn bar off) (v + 1) } →
        off % 4 = 0 → Ends (exec (.halfLatchRead t fn bar off 4) s') fun u => SameBut [.now, .hif] s' u
          ∧ u.hif.readData = v ∧ ∀ k, SMap.get 0 u.hif.latches k = 0))
  ∧ (∀ (t fn : Nat) (s : State), fn ≠ 0 →
    (∀ off a bank, s.barPlace fn 0 off = .reg a bank ∨ s.barPlace fn 0 off = .copy a bank → a < 0x00500000 ∨ 0x00600000 ≤ a)
    ∧ (∀ off a bank, s.barPlace fn 2 off ≠ .reg a bank ∧ s.barPlace fn 2 off ≠ .copy a bank
        ∧ s.barPlace fn 4 off ≠ .reg a bank ∧ s.barPlace fn 4 off ≠ .copy a bank)
    ∧ ∀ off, 0x00500000 ≤ off → off < 0x00600000 → off % 4 = 0 → s.configOn = true → s.fnExists fn = true →
        (∀ w, exec (.registerWrite t fn 0 off 4 w false) s = .next (s.advance t))
        ∧ ((∀ k, SMap.get 0 s.hif.latches k = 0) → Ends (exec (.halfLatchRead t fn 0 off 4) s) fun u => SameBut [.now, .hif] s u
            ∧ u.hif = { s.hif with readData := 0 }))

/-- COMMIT (R8, R244): the writes that wait in the block's shadow latch together; while the wheel runs they wait for a
boundary with their time, else they act at once; a block with none pending commits nothing.  Other blocks' writes stay.
A shadowed field that is committed alone while the wheel stands reads as the value written (R8).
Its conclusions are that exec ANSWERS A NEXT STATE for: amfCommit, ccvCommit, wltCommit, acrCommit, atnCommit, kvmCommit,
lstCommit, twsCommit, hifCommit, cpxCommit, cstCommit, memCommit, ptmCommit, smsCommit. -/
def Obligations.CommitsLatch : Prop :=
  (∀ (t : Nat) (s : State) (c : Nat → Nat → Instr) (b : Blk), s.accepts 0 = true →
    (c, b) ∈ ([(.amfCommit, .amf), (.ccvCommit, .ccv), (.wltCommit, .wlt), (.acrCommit, .acr), (.atnCommit, .atn),
      (.kvmCommit, .kvm), (.lstCommit, .lst), (.twsCommit, .tws), (.hifCommit, .hif), (.cpxCommit, .cpx), (.cstCommit, .cst),
      (.memCommit, .mem), (.ptmCommit, .ptm), (.smsCommit, .sms)] : List ((Nat → Nat → Instr) × Blk)) →
    (s.running = true → s.shadow.filter (·.blk == b) ≠ [] → Ends (exec (c t 0) s) fun u => SameBut [.shadow, .commits, .now] s u
      ∧ u.shadow = s.shadow.filter (·.blk != b)
      ∧ u.commits = s.commits ++ [(max s.now t, s.shadow.filter (·.blk == b))])
    ∧ (s.running = false → s.shadow.filter (·.blk == b) ≠ [] → Ends (exec (c t 0) s) fun u =>
      SameBut [.regs, .shadow, .now, .time, .arbs, .hif, .serve, .sms, .lnk, .free] s u ∧ u.shadow = s.shadow.filter (·.blk != b))
    ∧ (s.shadow.filter (·.blk == b) = [] → exec (c t 0) s = .next (s.advance t))
    ∧ (∀ fn, fn ≠ 0 → exec (c t fn) s = .next (s.advance t)))
  ∧ (∀ (t v : Nat) (s : State) (c : Nat → Nat → Instr) (b : Blk) (f : Fld), s.accepts 0 = true → s.running = false →
    (c, b, f) ∈ ([(.kvmCommit, .kvm, KVM_MIG_CTRL_RATE), (.lstCommit, .lst, LST_BUDGET_WATTS),
      (.wltCommit, .wlt, WLT_DRIFT_CTRL_PERIOD), (.cpxCommit, .cpx, CPX_BAR_TIMEOUT_TICKS),
      (.ptmCommit, .ptm, PTM_PWR_CAP_FABRIC_W)] : List ((Nat → Nat → Instr) × Blk × Fld)) →
    v < 2 ^ f.width → s.shadow.filter (·.blk == b) = [⟨b, f.key 0, f.reset, v⟩] →
    Ends (exec (c t 0) s) fun u => u.rd f = v ∧ u.shadow = s.shadow.filter (·.blk != b))

/-- Doorbells (R312, R404, R454): a value that meets the conditions of R312 moves its index, and SQ_TAIL calls the module back
from MP1; a repeated value does nothing; one that does not moves nothing, sets DB_ERR and is counted; a queue of another function takes none.
Its conclusions are that exec ANSWERS A NEXT STATE for: sqTail, cqHead, tqHead. -/
def Obligations.DoorbellsMoveIndexes : Prop :=
  ∀ (t q x : Nat) (s : State) (c : Nat → Nat → Nat → Nat → Instr) (b : Bell),
    (c, b) ∈ ([(.sqTail, .sqTail), (.cqHead, .cqHead), (.tqHead, .tqHead)] : List ((Nat → Nat → Nat → Nat → Instr) × Bell)) →
    x < 2 ^ 32 → s.rd CPX_FW_STATUS_STAGE = 3 → s.rd HIF_Q_STATUS_STATE q = 1 →
    (s.ownsQueue (s.owner q) q = true →
      (s.bellOk q b x = true → x ≠ (s.queue q).bell b → (s.queue q).waiting = [] →
        Ends (exec (c t (s.owner q) q x) s) fun u => SameBut [.regs, .now, .hif, .fab, .ptm] s u
          ∧ (b ≠ .sqTail → u.regs = s.regs ∧ u.fab = s.fab ∧ u.ptm = s.ptm)
          ∧ (b = .sqTail → RegsBut [(PTM_PSTATE_REQ, 0), (PTM_PSTATE_STATE, 0)] s u ∧ u.bit PTM_PSTATE_REQ = false
              ∧ u.rd PTM_PSTATE_STATE = (if s.rd PTM_PSTATE_STATE = 1 then 3 else s.rd PTM_PSTATE_STATE))
          ∧ u.queue q = (s.queue q).ring b x ∧ (∀ r, r ≠ q → u.queue r = s.queue r)
          ∧ u.hif = { s.hif with queues := u.hif.queues })
      ∧ (s.bellOk q b x = true → x = (s.queue q).bell b → exec (c t (s.owner q) q x) s = .next (s.advance t))
      ∧ (s.bellOk q b x = false → Ends (exec (c t (s.owner q) q x) s) fun u => SameBut [.regs, .now, .hif] s u
          ∧ u.bit HIF_Q_STATUS_DB_ERR q = true ∧ s.counted u HIF_DB_ERR_CNT_COUNT ∧ ∀ r, u.queue r = s.queue r))
    ∧ (∀ fn, fn ≠ s.owner q → exec (c t fn q x) s = .next (s.advance t))

/-- Ring indexes (R311): all six are 0 when a queue is enabled; an accepted doorbell sets the host's; a fetched entry advances the
submission head and a written completion or token record its tail, each by 1 mod 2^32; the entry written is the one the index
names mod the ring's size, and the occupancy is the difference mod 2^32.
Its conclusions are that exec ANSWERS A NEXT STATE for: hifQEnable, sqTail, cqHead, tqHead, nop, submissionFetch. -/
def Obligations.RingIndexesRunFree : Prop :=
  (∀ tail head, tail < 2 ^ 32 → head < 2 ^ 32 → ((occupancy tail head : Nat) : Int) = ((tail : Int) - head) % 2 ^ 32)
  ∧ ∀ (t q : Nat) (s : State),
    (s.ownsQueue (s.owner q) q = true → s.rd HIF_Q_STATUS_STATE q = 0 → s.ringSizesOk q = true →
      Ends (exec (.hifQEnable t (s.owner q) q) s) fun u => (u.queue q).sqHead = 0 ∧ (u.queue q).sqTail = 0
        ∧ (u.queue q).cqHead = 0 ∧ (u.queue q).cqTail = 0 ∧ (u.queue q).tqHead = 0 ∧ (u.queue q).tqTail = 0)
    ∧ (s.ownsQueue (s.owner q) q = true → s.rd HIF_Q_STATUS_STATE q = 1 → s.rd CPX_FW_STATUS_STAGE = 3 →
        (s.queue q).waiting = [] → ∀ x, x < 2 ^ 32 →
        (s.bellOk q .sqTail x = true → Ends (exec (.sqTail t (s.owner q) q x) s) fun u => (u.queue q).sqTail = x)
        ∧ (s.bellOk q .cqHead x = true → Ends (exec (.cqHead t (s.owner q) q x) s) fun u => (u.queue q).cqHead = x)
        ∧ (s.bellOk q .tqHead x = true → Ends (exec (.tqHead t (s.owner q) q x) s) fun u => (u.queue q).tqHead = x))
    ∧ (∀ h : EntryHdr, h.queue = q → h.rsvZero = true → s.hostReady q → Ends (exec (.nop t h) s) fun u =>
        (u.queue q).cqTail = ((s.queue q).cqTail + 1) % 2 ^ 32
        ∧ ∃ e, HostWrite.completion q (s.queue q).cqTail
            (s.rd HIF_Q_CQ_BASE_ADDR q + (s.queue q).cqTail % 2 ^ s.rd HIF_Q_SIZE_CQ_LOG2 q * 32) e ∈ u.hif.out)
    ∧ (∀ e : Entry128, let u := s.writeToken q e
        (u.queue q).tqTail = ((s.queue q).tqTail + 1) % 2 ^ 32
        ∧ HostWrite.token q (s.queue q).tqTail
            (s.rd HIF_Q_TQ_BASE_ADDR q + (s.queue q).tqTail % 2 ^ s.rd HIF_Q_SIZE_TQ_LOG2 q * 16) e ∈ u.hif.out)
    ∧ (s.fetchQueue = some q → ∀ e corrected fails, Entry512.field e 0 8 = 0 → Ends (exec (.submissionFetch t (.data e) corrected fails) s)
        fun u => (u.queue q).sqHead = ((s.queue q).sqHead + 1) % 2 ^ 32)

/-- Queues (R309, R310, R316): EN = 1 makes a DISABLED queue with legal ring sizes ACTIVE and empty, else sets CFG_ERR; EN = 0
makes it DRAINING; drained it is DISABLED; HIF_FN_QUEUES gives a function a free range of queues, and a range it may not
have only sets ERR.
Its conclusions are that exec ANSWERS A NEXT STATE for: hifQEnable, hifQDisable, queueDrained, hifFnQueues. -/
def Obligations.QueuesAreSetUp : Prop :=
  ∀ (t q : Nat) (s : State),
    (s.ownsQueue (s.owner q) q = true →
      (s.rd HIF_Q_STATUS_STATE q = 0 →
        (s.ringSizesOk q = true → Ends (exec (.hifQEnable t (s.owner q) q) s) fun u => SameBut [.regs, .now, .hif] s u
          ∧ RegsBut [(HIF_Q_STATUS_STATE, q), (HIF_Q_CTRL_EN, q)] s u ∧ u.rd HIF_Q_STATUS_STATE q = 1
          ∧ u.bit HIF_Q_CTRL_EN q = true ∧ u.queue q = QueueSt.init ∧ ∀ r, r ≠ q → u.queue r = s.queue r)
        ∧ (s.ringSizesOk q = false → Ends (exec (.hifQEnable t (s.owner q) q) s) fun u => SameBut [.regs, .now] s u
          ∧ RegsBut [(HIF_Q_STATUS_CFG_ERR, q)] s u ∧ u.bit HIF_Q_STATUS_CFG_ERR q = true))
      ∧ (s.rd HIF_Q_STATUS_STATE q = 1 ∨ s.rd HIF_Q_STATUS_STATE q = 3 →
        Ends (exec (.hifQDisable t (s.owner q) q) s) fun u => SameBut [.regs, .now] s u
          ∧ RegsBut [(HIF_Q_STATUS_STATE, q), (HIF_Q_CTRL_EN, q)] s u ∧ u.rd HIF_Q_STATUS_STATE q = 2
          ∧ u.bit HIF_Q_CTRL_EN q = false))
    ∧ (s.drained q = true → Ends (exec (.queueDrained t q) s) fun u => SameBut [.regs, .now] s u
        ∧ RegsBut [(HIF_Q_STATUS_STATE, q)] s u ∧ u.rd HIF_Q_STATUS_STATE q = 0)
    ∧ (∀ v, let f := s.rd HIF_FN_SEL_FN
        let new := natsFrom (bitsOf v 0 8) (bitsOf v 8 9)
        s.accepts 0 = true → f < 32 →
        (s.rangeOk f (bitsOf v 0 8) (bitsOf v 8 9) = true → Ends (exec (.hifFnQueues t 0 v) s) fun u => SameBut [.regs, .now] s u
          ∧ (∀ r ∈ new, u.bit HIF_Q_STATUS_ASSIGNED r = true ∧ u.owner r = f)
          ∧ RegsBut ((HIF_FN_QUEUES_FIRST, f) :: (HIF_FN_QUEUES_COUNT, f) :: (HIF_FN_QUEUES_ERR, f)
              :: (s.queuesOf f ++ new).flatMap fun r => [(HIF_Q_STATUS_ASSIGNED, r), (HIF_Q_STATUS_OWNER, r)]) s u
          ∧ (∀ r ∈ s.queuesOf f, r ∉ new → u.bit HIF_Q_STATUS_ASSIGNED r = false) ∧ u.queuesOf f = new)
        ∧ (s.rangeOk f (bitsOf v 0 8) (bitsOf v 8 9) = false → Ends (exec (.hifFnQueues t 0 v) s) fun u =>
          SameBut [.regs, .now] s u ∧ RegsBut [(HIF_FN_QUEUES_ERR, f)] s u ∧ u.bit HIF_FN_QUEUES_ERR f = true))

/-- Signals (R317, R318): where a ring's moderation is met its status block is written, then its vector's message sent, or kept
pending while masked; unmasking a vector, or all of a function's, sends what is pending.
Its conclusions are that exec ANSWERS A NEXT STATE for: ringSignal, msixUnmask. -/
def Obligations.SignalsAreSent : Prop :=
  ∀ (t : Nat) (s : State),
    (∀ q tok, let f := s.owner q
      let v := s.rd (if tok then HIF_Q_VEC_TQ_VEC else HIF_Q_VEC_CQ_VEC) q
      let e := s.vec f v
      let st := HostWrite.status q (s.rd HIF_Q_STAT_ADDR_ADDR q) (s.queue q).sqHead (s.queue q).cqTail (s.queue q).tqTail
      s.bit (if tok then HIF_Q_VEC_TQ_EN else HIF_Q_VEC_CQ_EN) q = true → (s.advance t).signalDue q tok = true →
      s.hostOn f = true → (s.fn f).msixEnable = true →
      let kept := e.masked || (s.fn f).fnMask || (s.fn f).d3
      Ends (exec (.ringSignal t q tok) s) fun u => SameBut [.now, .hif] s u
        ∧ u.queue q = (if tok then { s.queue q with tqNew := 0 } else { s.queue q with cqNew := 0 })
        ∧ u.hif.out = s.hif.out ++ (if kept then [st] else [st, .msix f v e.addr e.data])
        ∧ u.vec f v = (if kept then { e with pending := true } else e))
    ∧ (∀ f, s.fnWrites f = true →
      (∀ v m, v < 64 → (m = true ∨ (s.vec f v).pending = false) → Ends (exec (.msixUnmask t f (.vector v m)) s) fun u =>
        SameBut [.now, .hif] s u ∧ u.vec f v = { s.vec f v with masked := m })
      ∧ (s.hostOn f = true → (s.fn f).msixEnable = true → (s.fn f).fnMask = false → (s.fn f).d3 = false →
        ∀ v, v < 64 → (s.vec f v).pending = true → Ends (exec (.msixUnmask t f (.vector v false)) s) fun u =>
          SameBut [.now, .hif] s u ∧ u.vec f v = { s.vec f v with masked := false, pending := false }
          ∧ .msix f v (s.vec f v).addr (s.vec f v).data ∈ u.hif.out)
      ∧ (s.configOn = true → s.hostOn f = true → (s.fn f).d3 = false → Ends (exec (.msixUnmask t f (.control true false)) s) fun u =>
          SameBut [.now, .hif] s u ∧ u.fn f = { s.fn f with msixEnable := true, fnMask := false }
          ∧ ∀ v, v < 64 → (s.vec f v).pending = true → (s.vec f v).masked = false →
              (u.vec f v).pending = false ∧ .msix f v (s.vec f v).addr (s.vec f v).data ∈ u.hif.out))

/-- Function resets begin (R321, R322): each way of asking starts the sequence of its function, counted for it; the function's
planned launches leave the plan and those in flight drop their outputs; a function in a sequence takes no second one.
Function resets end (R322, R324): no earlier than 95 ms after the start, the function is READY again, without adapters and, but for
a serving reset of function 0, with its object slots EMPTY; one that is no serving reset leaves its vectors and queues at reset.
Its conclusions are that exec ANSWERS A NEXT STATE for: vfFlr, hifFnResetFlr, hifFnResetServe, hifCtrlServeReset,
hifVfCtrlServeReset, functionResetReady. -/
def Obligations.FunctionResets : Prop :=
  (∀ (t f : Nat) (s : State) (c : Instr) (serving : Bool), s.fnExists f = true →
    (c = .vfFlr t f ∧ s.configOn = true ∧ f ≠ 0 ∧ serving = false)
      ∨ (c = .hifFnResetFlr t 0 ∧ s.accepts 0 = true ∧ f = s.rd HIF_FN_SEL_FN ∧ f ≠ 0 ∧ serving = false)
      ∨ (c = .hifFnResetServe t 0 ∧ s.accepts 0 = true ∧ f = s.rd HIF_FN_SEL_FN ∧ f ≠ 0 ∧ serving = true)
      ∨ (c = .hifCtrlServeReset t 0 ∧ s.accepts 0 = true ∧ f = 0 ∧ serving = true)
      ∨ (c = .hifVfCtrlServeReset t f ∧ s.ctl.ready = true ∧ f ≠ 0 ∧ serving = true) →
    (s.resetting f = false → Ends (exec c s) fun u => SameBut [.regs, .now, .arbs, .hif, .serve, .lst, .ctl, .lnk] s u
      ∧ (u.fn f).reset = some (max s.now t, serving) ∧ s.counted u HIF_FLR_CNT_COUNT ∧ s.counted u HIF_FN_STATE_RESETS 1 f
      ∧ ∀ l ∈ u.serve.launches, l.fn = f → l.inFlight = true ∧ l.dropped = true)
    ∧ (s.resetting f = true → exec c s = .next (s.advance t)))
  ∧ (∀ (t f start : Nat) (serving : Bool) (s : State), (s.fn f).reset = some (start, serving) → (s.fn f).pfFlr = false → f < 32 →
    Ends (exec (.functionResetReady t f) s) fun u => SameBut [.regs, .now, .arbs, .hif, .serve, .lst] s u
      ∧ u.now = max (max s.now t) (start + 95000000) ∧ (u.fn f).reset = none
      ∧ ((s.fn f).emptied = false → (∀ a ∈ u.lst.adapters, a.fn ≠ f)
          ∧ (serving = false ∨ f ≠ 0 → ∀ n, n < 64 → (u.obj n).fn = f → (u.obj n).state = .empty))
      ∧ (serving = false → (∀ v, v < 64 → u.vec f v = MsixSt.init) ∧ (u.fn f).msixEnable = false
          ∧ ∀ q ∈ s.queuesOf f, u.queue q = QueueSt.init ∧ u.rd HIF_Q_STATUS_STATE q = 0))

/-- Virtual functions, power states and the physical function's reset (R302, R321, R324, R326, R367): VF Enable brings NumVFs functions
into being; clearing it begins the reset of each that is not in one, with steps 1 to 4 of R322, each counted, and ends VF Enable; D3hot
is the function's own state, and D0 sends what is pending; an FLR of the physical function begins the resets of all together, from now
on, clears VF Enable and every host mailbox channel, and is not begun twice.
Its conclusions are that exec ANSWERS A NEXT STATE for: vfEnableSet, vfEnableClear, functionPowerState, pfFlr. -/
def Obligations.FunctionsComeAndGo : Prop :=
  ∀ (t : Nat) (s : State), s.configOn = true → (s.serve.sessions.map (·.num)).Nodup →
    let new (f : Nat) : Bool := s.fnExists f && !s.resetting f
    let begun (u : State) (f : Nat) : Prop := (u.fn f).reset = some (max s.now t, false) ∧ (u.fn f).emptied = false
      ∧ s.counted u HIF_FN_STATE_RESETS 1 f
      ∧ (∀ l ∈ u.serve.launches, l.fn = f → l.inFlight = true ∧ l.dropped = true)
      ∧ (∀ x ∈ u.serve.sessions, x.fn = f → x.cloneOf = none → x.queue = [])
      ∧ (∀ n ∈ u.lst.loads, ∀ l, (u.obj n).loading = some l → l.owner.fn ≠ f)
      ∧ ∀ q ∈ s.queuesOf f, (u.queue q).fences = [] ∧ ∀ w ∈ (u.queue q).waiting, ∃ n e, w = .completion n e
    let told (u : State) (a f : Nat) : Prop := (s.mbox a f).msg ≠ none →
      u.mbox a f = { s.mbox a f with busy := false, aborted := true, msg := none }
    (∀ n ari, s.hif.vfEnable = false → n ≤ 31 → (ari = true ∨ n ≤ 7) → Ends (exec (.vfEnableSet t n ari) s) fun u =>
      SameBut [.now, .hif] s u ∧ u.hif = { s.hif with vfEnable := true, numVfs := n, ariHier := ari }
      ∧ ∀ f, u.fnExists f = decide (f ≤ n))
    ∧ (s.hif.vfEnable = true → Ends (exec (.vfEnableClear t) s) fun u =>
        SameBut [.regs, .now, .arbs, .hif, .serve, .lst, .ctl, .lnk] s u ∧ u.hif.vfEnable = false
        ∧ (∀ f, u.fnExists f = decide (f = 0)) ∧ u.fn 0 = s.fn 0
        ∧ (s.rd HIF_FLR_CNT_COUNT < 2 ^ HIF_FLR_CNT_COUNT.width →
            s.counted u HIF_FLR_CNT_COUNT ((natsFrom 1 31).filter new).length)
        ∧ ∀ f ∈ natsFrom 1 31, (new f = false → u.fn f = s.fn f)
          ∧ (new f = true → begun u f ∧ ∀ a ∈ mbxIds, isChannel f a = true → u.mbox f a = Mbx.init ∧ told u a f))
    ∧ (∀ f d3, s.fnExists f = true → s.resetting f = false → Ends (exec (.functionPowerState t f d3) s) fun u =>
        SameBut [.now, .hif] s u ∧ u.fn f = { s.fn f with d3 := d3 }
        ∧ (d3 = true → u.hif = { s.hif with fns := u.hif.fns } ∧ ∀ q, s.owner q = f → u.mayFetch q = false)
        ∧ (d3 = false → s.hostOn f = true → (s.fn f).msixEnable = true → (s.fn f).fnMask = false →
            ∀ v, v < 64 → (s.vec f v).pending = true → (s.vec f v).masked = false →
              (u.vec f v).pending = false ∧ .msix f v (s.vec f v).addr (s.vec f v).data ∈ u.hif.out))
    ∧ ((s.fn 0).pfFlr = false → Ends (exec (.pfFlr t) s) fun u =>
        SameBut [.regs, .now, .arbs, .hif, .serve, .lst, .ctl, .lnk] s u
        ∧ (u.fn 0).pfFlr = true ∧ u.hif.vfEnable = false
        ∧ (s.rd HIF_FLR_CNT_COUNT < 2 ^ HIF_FLR_CNT_COUNT.width →
            s.counted u HIF_FLR_CNT_COUNT ((natsFrom 0 32).filter new).length)
        ∧ (∀ f ∈ natsFrom 0 32, (new f = true → begun u f)
            ∧ (s.resetting f = true → (u.fn f).reset = some (max s.now t, false)))
        ∧ ∀ f ∈ natsFrom 0 32, (∀ b ∈ mbxIds, isChannel f b = true → u.mbox f b = Mbx.init) ∧ told u idFw f ∧ told u idMc f)
    ∧ ((s.fn 0).pfFlr = true → exec (.pfFlr t) s = .next (s.advance t))

/-- Host interface errors (R294, R325): a fetch that times out puts its queue in ERROR with its virtual function's event; a buffer read that
does so ends its request, which has run no step, with ABORTED; both are counted and reported; an uncorrectable error stops all host writes
and fetching and drops the outputs of the steps in flight, and is reported and logged.
Its conclusions are that exec ANSWERS A NEXT STATE for: completionTimeout, hifUncorrectable. -/
def Obligations.HostErrors : Prop :=
  ∀ (t : Nat) (s : State),
    (∀ q, let f := s.owner q
      s.rd HIF_Q_STATUS_STATE q = 1 → s.hostOn f = true → Ends (exec (.completionTimeout t (.fetch q)) s) fun u =>
      SameBut [.regs, .now, .hif] s u ∧ RegsBut [(HIF_Q_STATUS_STATE, q), (HIF_Q_STATUS_FETCH_ERR, q),
        (HIF_FETCH_ERR_CNT_COUNT, 0), (HIF_CPL_TIMEOUT_CNT_COUNT, 0)] s u
      ∧ u.rd HIF_Q_STATUS_STATE q = 3 ∧ u.bit HIF_Q_STATUS_FETCH_ERR q = true
      ∧ s.counted u HIF_FETCH_ERR_CNT_COUNT ∧ s.counted u HIF_CPL_TIMEOUT_CNT_COUNT ∧ u.mayFetch q = false
      ∧ u.hif = { s.hif with aer := s.hif.aer ++ [(f, "Completion Timeout")], out := u.hif.out, msix := u.hif.msix }
      ∧ (let v := s.rd HIF_VF_EVT_VEC_HIF_VEC f
        f ≠ 0 → s.bit HIF_VF_EVT_VEC_HIF_EN f = true → s.resetting f = false → (s.fn f).msixEnable = true →
        (if ((s.vec f v).masked || (s.fn f).fnMask || (s.fn f).d3) = true then (u.vec f v).pending = true
          else u.hif.out = s.hif.out ++ [.msix f v (s.vec f v).addr (s.vec f v).data])))
    ∧ (∀ f h x r rest, s.openSess f h = some x → s.sess x.num = some x → x.queue = r :: rest → r.phase = .accepted →
        (∃ a b, r.ops = .prompt a b) ∨ (∃ a, r.ops = .tune a) → Ends (exec (.completionTimeout t (.buffer f h)) s) fun u =>
          SameBut [.regs, .now, .arbs, .hif, .serve] s u ∧ s.counted u HIF_CPL_TIMEOUT_CNT_COUNT
          ∧ u.hif.aer = s.hif.aer ++ [(f, "Completion Timeout")]
          ∧ u.sess x.num = some { x with queue := rest.filter (·.serial != r.serial) }
          ∧ (s.hostReady r.queue → ∃ c, u.posted r.queue c ∧ c.tag = r.tag ∧ c.status = 0x34 ∧ c.time = max s.now t))
    ∧ (∀ buffer, Ends (exec (.hifUncorrectable t buffer) s) fun u => SameBut [.regs, .now, .hif, .serve, .sms] s u
        ∧ u.hif = { s.hif with stopped := true, aer := s.hif.aer ++ [(0, "Uncorrectable Internal Error")] }
        ∧ (∀ f, u.hostOn f = false) ∧ (∀ q, u.mayFetch q = false)
        ∧ u.serve = { s.serve with
            launches := s.serve.launches.map fun l => if l.inFlight then { l with dropped := true } else l }
        ∧ (s.sms.inSecond < 1000 → ∃ r ∈ u.sms.log, r.type_ = 0x1D ∧ r.class_ = 3 ∧ r.detail = [buffer] ∧ r.seq = s.sms.nextSeq))

/-- SUBMISSION_FETCH (R269, R270, R313, R325): the entry read moves the submission head of the queue that is visited and is then
the command that its opcode byte names, an error that HIF corrected on the way reported before; a failed read stops the queue with
FETCH_ERR.
Its conclusions are that exec ANSWERS A NEXT STATE for: submissionFetch. -/
def Obligations.FetchRunsTheEntry : Prop :=
  ∀ (t q : Nat) (e : Entry512) (corrected : Bool) (fails : List VerifyRead) (s : State), s.hif.visit = q → s.mayFetch q = true →
    s.hif.visited < s.fetchMax q →
    let h := entryHeader (s.owner q) q e
    let read := if corrected then ((s.advance t).aer (s.owner q) "Corrected Internal Error").fetched q else s.fetched q
    let runs (c : Instr) : Prop := exec (.submissionFetch t (.data e) corrected fails) s = exec c read ∧ ∃ u, exec c read = .next u
    (Entry512.field e 0 8 = 0x00 → runs (.nop t h))
    ∧ (Entry512.field e 0 8 = 0x01 → runs (.sessionOpen t h (Entry512.field e 128 16) (Entry512.field e 144 3)))
    ∧ (Entry512.field e 0 8 = 0x02 → runs (.prefill t h (entryPrompt e)))
    ∧ (Entry512.field e 0 8 = 0x03 → runs (.generate t h (entryGenerate e)))
    ∧ (Entry512.field e 0 8 = 0x04 → runs (.append t h (entryPrompt e)))
    ∧ (Entry512.field e 0 8 = 0x05 → runs (.pause t h (Entry512.field e 128 64)))
    ∧ (Entry512.field e 0 8 = 0x06 → runs (.resume t h))
    ∧ (Entry512.field e 0 8 = 0x07 →
        runs (.clone t h (Entry512.field e 128 64) (Entry512.field e 192 3) (bitOf e.toNat 195)))
    ∧ (Entry512.field e 0 8 = 0x08 → runs (.cancel t h (Entry512.field e 128 32)))
    ∧ (Entry512.field e 0 8 = 0x09 → runs (.close t h))
    ∧ (Entry512.field e 0 8 = 0x10 → runs (.bindWeights t h (Entry512.field e 128 6) (Entry512.field e 144 16) fails))
    ∧ (Entry512.field e 0 8 = 0x11 → runs (.swapWeights t h (Entry512.field e 128 6) (Entry512.field e 144 16)))
    ∧ (Entry512.field e 0 8 = 0x12 → runs (.loadObject t h (entryLoad e)))
    ∧ (Entry512.field e 0 8 = 0x13 → Entry512.field e 128 8 = 0xFF → runs (.adapterUnload t h))
    ∧ (Entry512.field e 0 8 = 0x13 → Entry512.field e 128 8 ≠ 0xFF → runs (.adapterLoad t h (Entry512.field e 128 8)))
    ∧ (Entry512.field e 0 8 = 0x14 → runs (.adapterTune t h (entryTune e)))
    ∧ (Entry512.field e 0 8 = 0x1F → runs (.fence t h))
    ∧ (Ends (exec (.submissionFetch t .error corrected fails) s) fun u => SameBut [.regs, .now, .hif] s u
        ∧ u.bit HIF_Q_STATUS_FETCH_ERR q = true)

/-- The entries of R270 that no session holds: a NOP completes OK with no other effect, and a FENCE with no earlier entry of
its ring open does so too, else it waits; the entry and the completion touch no other queue.
Its conclusions are that exec ANSWERS A NEXT STATE for: nop, fence. -/
def Obligations.RingEntriesComplete : Prop :=
  ∀ (t : Nat) (h : EntryHdr) (s : State), h.rsvZero = true → s.hostReady h.queue →
    (Ends (exec (.nop t h) s) fun u => SameBut [.now, .arbs, .hif] s u
      ∧ u.posted h.queue ⟨h.tag, 0x00, 0x00, 0, 0, max s.now t, 0, 0⟩
      ∧ ∀ q, q ≠ h.queue → u.queue q = s.queue q)
    ∧ ((s.queue h.queue).open_ = [] → Ends (exec (.fence t h) s) fun u => SameBut [.now, .arbs, .hif] s u
      ∧ u.posted h.queue ⟨h.tag, 0x00, 0x1F, 0, 0, max s.now t, 0, 0⟩
      ∧ ∀ q, q ≠ h.queue → u.queue q = s.queue q)
    ∧ ((∃ n ∈ (s.queue h.queue).open_, n < s.hif.serial) → Ends (exec (.fence t h) s) fun u => SameBut [.now, .arbs, .hif] s u
      ∧ (u.queue h.queue).fences = [(s.hif.serial, h.tag)] ∧ u.hif.out = s.hif.out
      ∧ ∀ q, q ≠ h.queue → u.queue q = s.queue q)

/-- SESSION_OPEN (R190, R266, R272): under a free handle, within the limits, it opens an empty ACTIVE session of the job and
completes OK; nothing but the sessions, the jobs and the host's rings changes.
CANCEL and CLOSE (R289, R290): a queued request without a step ends CANCELLED at the CANCEL's read time; a CANCEL that
finds none completes ALREADY_DONE; a CLOSE of a session with no request and no pinned page takes the session away.
Its conclusions are that exec ANSWERS A NEXT STATE for: sessionOpen, cancel, close. -/
def Obligations.SessionsOpenAndClose : Prop :=
  (∀ (t : Nat) (h : EntryHdr) (job prio : Nat) (s : State), s.isHome = true → h.rsvZero = true → h.handle ≠ 0 →
    s.handleTaken h.fn h.handle = false → s.bit SMS_STATUS_MODULE_FAULT = false →
    (∀ j, s.job h.fn job = some j → j.policy = h.flags % 2 ∧ j.ref = bitOf h.flags 1) →
    s.fnOpen h.fn < s.rd KVM_FN_SESSIONS_LIMIT h.fn → s.fnOpen h.fn < 65536 → s.serve.sessions.length < 65536 →
    s.serve.jobs.length < 256 → s.hostReady h.queue →
    Ends (exec (.sessionOpen t h job prio) s) fun u => SameBut [.now, .arbs, .hif, .serve, .free] s u
      ∧ (∃ x, u.serve.sessions = s.serve.sessions ++ [x] ∧ x.handle = h.handle ∧ x.fn = h.fn ∧ x.job = job ∧ x.prio = prio
          ∧ x.state = .active ∧ x.kvFmt = bitsOf h.flags 2 1 ∧ x.committed = 0 ∧ x.columns = [] ∧ x.tokenPages = []
          ∧ x.pending = none ∧ x.queue = [])
      ∧ (∃ j, u.job h.fn job = some j ∧ j.policy = h.flags % 2 ∧ j.ref = bitOf h.flags 1)
      ∧ u.serve.launches = s.serve.launches ∧ u.posted h.queue ⟨h.tag, 0x00, 0x01, 0, h.handle, max s.now t, 0, 0⟩)
  ∧ (∀ (t : Nat) (h : EntryHdr) (s : State) (x : Session), s.isHome = true → h.rsvZero = true →
    s.openSess h.fn h.handle = some x → s.sess x.num = some x → s.hostReady h.queue →
    (∀ target r, x.queue = [r] → r.tag = target → r.ops.runs = true → r.ended = none → r.cancelAt = none → r.launch = 0 →
      r.phase ≠ .admitted → r.queue = h.queue → s.heldOf r.serial = [] →
      Ends (exec (.cancel t h target) s) fun u => SameBut [.now, .arbs, .hif, .serve, .ctl, .lnk] s u
        ∧ (∃ y, u.sess x.num = some y ∧ y.queue = [])
        ∧ u.posted h.queue ⟨h.tag, 0x00, 0x08, 0, h.handle, max s.now t, target, 0⟩
        ∧ ∃ c, u.posted h.queue c ∧ c.tag = target ∧ c.status = 0x01 ∧ c.time = max s.now t)
    ∧ (∀ target, x.queue = [] → Ends (exec (.cancel t h target) s) fun u => SameBut [.now, .arbs, .hif] s u
        ∧ u.posted h.queue ⟨h.tag, 0x02, 0x08, 0, h.handle, max s.now t, target, 0⟩)
    ∧ (x.queue = [] → x.pins = [] → (∀ y ∈ s.serve.sessions, y.cloneOf = none) →
        Ends (exec (.close t h) s) fun u => SameBut [.now, .arbs, .hif, .serve] s u
          ∧ u.sess x.num = none ∧ (∀ n, n ≠ x.num → u.sess n = s.sess n)
          ∧ ∃ c, u.posted h.queue c ∧ c.tag = h.tag ∧ c.status = 0x00 ∧ c.opcode = 0x09 ∧ c.handle = x.handle))

/-- PREFILL, APPEND, GENERATE and ADAPTER_TUNE (R271, R282, R286, R296): such a request of a session with none before it,
which passes the checks, joins the session's queue as its accepted head; no other session and no register changes.
Its conclusions are that exec ANSWERS A NEXT STATE for: prefill, append, generate, adapterTune. -/
def Obligations.RunRequestsAreAccepted : Prop :=
  ∀ (t : Nat) (h : EntryHdr) (s : State) (x : Session), s.findsIdle h x → x.state = .active →
    (h.adapter = 0 ∨ s.adapterLoaded x.fn h.adapter = true) →
    let joined (i : Instr) (ops : ReqOps) : Prop := Ends (exec i s) fun u => SameBut [.now, .arbs, .hif, .serve] s u
      ∧ u.sess x.num = some { x with queue := [{ mkRequest s.hif.serial h ops with
          phase := .accepted, acceptAt := max s.now t, readyAt := max s.now t, mayLaunch := max (s.firstK (max s.now t)) (if x.lastStep = 0 then 0 else s.nextKAfter x.lastStep) }] }
      ∧ (∀ n, n ≠ x.num → u.sess n = s.sess n) ∧ u.hif.out = s.hif.out
    (∀ o : PromptOps, 0 < o.count → o.addr % 4 = 0 → (bitOf h.flags 0 = true → sampleFine o.sample = true ∧ o.sample.k ≤ 64) →
      (x.committed = 0 → x.pending = none → o.count ≤ 1048576 → joined (.prefill t h o) (.prompt true o))
      ∧ (o.count + x.committed + x.p ≤ 1048576 → joined (.append t h o) (.prompt false o)))
    ∧ (∀ o : GenerateOps, 0 < o.maxTokens → sampleFine o.sample = true → o.sample.k ≤ 64 → x.pending.isSome = true →
        o.maxTokens + x.committed ≤ 1048576 → o.notBefore ≤ max s.now t + (2 ^ 31 - 1) * s.slotLen * 1000 →
        o.firstDue ≤ max s.now t + (2 ^ 31 - 1) * s.slotLen * 1000 → joined (.generate t h o) (.generate o))
    ∧ (∀ o : TuneOps, 1 < o.count → o.count ≤ min 16384 (1048576 - x.committed) → bf16NonFinite o.lr = false →
        o.addr % 4 = 0 → o.outAddr % 4 = 0 → s.adapterLoaded x.fn h.adapter = true → joined (.adapterTune t h o) (.tune o))

/-- PAUSE and RESUME (R197, R199): of an ACTIVE session a PAUSE sets PAUSED where no column lies in tier A, else PAUSING, whose
lowest column begins its move into pages of tier B that are taken for it; it notes PAUSED_AT and EXPIRY and completes OK; a
RESUME of a paused one clears them and sets RESUMING while a column lies in tier B, else ACTIVE, and completes; the columns
keep their pages.
CLONE (R188, R202, R203): its new handle free, places in the table region and pages at hand, it reserves the handle for a
session with the source's committed content, whose copied columns stand in the same tiers, and the source holds them; when the
copy is done the new session is ordinary and the CLONE completes OK under the new handle.
Its conclusions are that exec ANSWERS A NEXT STATE for: pause, resume, clone, cloneComplete. -/
def Obligations.SessionsPauseAndClone : Prop :=
  (∀ (t : Nat) (h : EntryHdr) (s : State) (x : Session), s.findsIdle h x →
    let only (u : State) : Prop := SameBut [.now, .arbs, .hif, .serve] s u ∧ ∀ n, n ≠ x.num → u.sess n = s.sess n
    (∀ ttl, ttl < 2 ^ 63 → x.state = .active →
      let y := { x with pausedAt := max s.now t, expiry := if ttl = 0 then 0 else max s.now t + ttl, expired := false }
      let paused (u : State) : Prop := u.posted h.queue ⟨h.tag, 0x00, 0x05, 0, x.handle, max s.now t, x.committed, 0⟩
      (x.columns.all (·.tierB) = true → Ends (exec (.pause t h ttl) s) fun u => only u ∧ paused u
        ∧ u.sess x.num = some { y with state := .paused })
      ∧ (x.columns.all (·.tierB) = false → Ends (exec (.pause t h ttl) s) fun u => paused u
        ∧ SameBut [.regs, .now, .arbs, .hif, .serve, .mem, .free] s u
        ∧ ∃ z, u.sess x.num = some z ∧ z.state = .pausing ∧ z.pausedAt = y.pausedAt ∧ z.expiry = y.expiry
          ∧ z.columns.map (·.pages) = x.columns.map (·.pages) ∧ z.columns.map (·.tierB) = x.columns.map (·.tierB))
      ∧ (∀ c, x.columns.all (·.tierB) = false → x.pins = [] → (∀ d ∈ x.columns, d.move = none) → x.nextColumn false = some c →
        s.cstFits x.fn 1 = true → s.roomFor x.fn true c.pages.length → Ends (exec (.pause t h ttl) s) fun u => paused u
          ∧ SameBut [.now, .arbs, .hif, .serve, .free] s u ∧ (∀ n, n ≠ x.num → u.sess n = s.sess n)
          ∧ ∃ l, l.length = c.pages.length ∧ u.sess x.num = some { y with
              state := .pausing
              columns := x.columns.map fun d =>
                if d.index = c.index then { d with move := some (l, (s.advance t).copyCap), retryAt := 0 } else d }))
    ∧ (x.state = .paused → x.columns.any (·.tierB) = false → Ends (exec (.resume t h) s) fun u => only u
      ∧ (∃ y, u.sess x.num = some y ∧ y.state = .active ∧ y.expiry = 0 ∧ y.pausedAt = 0 ∧ y.queue = [])
      ∧ u.posted h.queue ⟨h.tag, 0x00, 0x06, 0, x.handle, max s.now t, x.committed, 0⟩)
    ∧ (x.state = .paused → x.columns.any (·.tierB) = true → Ends (exec (.resume t h) s) fun u =>
      SameBut [.regs, .now, .arbs, .hif, .serve, .mem, .free] s u
      ∧ (∃ y r, u.sess x.num = some y ∧ y.state = .resuming ∧ y.expiry = 0 ∧ y.pausedAt = 0 ∧ y.queue = [r]
          ∧ r.phase = .accepted ∧ r.tag = h.tag ∧ y.columns.map (·.pages) = x.columns.map (·.pages)) ∧ u.hif.out = s.hif.out)
    ∧ (x.state = .active → Ends (exec (.resume t h) s) fun u => only u ∧ u.sess x.num = some x
      ∧ u.posted h.queue ⟨h.tag, 0x00, 0x06, 0, x.handle, max s.now t, x.committed, 0⟩))
  ∧ ((∀ (t : Nat) (h : EntryHdr) (nh prio : Nat) (en : Bool) (s : State) (x : Session), s.findsIdle h x → nh ≠ 0 →
    s.handleTaken x.fn nh = false → s.sessionsFull x.fn = false →
    (let steps := dirStepsFor (x.cloneColumns.map (·.index))
     (s.placeExtents (s.extents 65536)
      ((if steps = 0 then [] else [1024 * steps]) ++ x.cloneColumns.map fun c => 16 * c.lh)).1 ≠ none) →
    s.roomFor x.fn false (sumN ((x.cloneColumns.filter (!·.tierB)).map (·.pages.length))) →
    s.roomFor x.fn true (sumN ((x.cloneColumns.filter (·.tierB)).map (·.pages.length)) + ceilDiv x.committed 16384) →
    Ends (exec (.clone t h nh prio en) s) fun u => SameBut [.regs, .now, .arbs, .hif, .serve, .mem, .free] s u
      ∧ (∃ y ∈ u.serve.sessions, y.handle = nh ∧ y.fn = x.fn ∧ y.job = x.job ∧ y.prio = (if en then prio else x.prio)
          ∧ y.committed = x.committed ∧ y.evicted = x.evicted ∧ y.gen = x.gen ∧ y.pending = x.pending
          ∧ y.tokenPages.length = ceilDiv x.committed 16384 ∧ y.columns.map (·.index) = x.cloneColumns.map (·.index)
          ∧ y.columns.map (·.tierB) = x.cloneColumns.map (·.tierB) ∧ y.cloneOf = some (x.num, s.hif.serial, h.queue, h.tag))
      ∧ (∃ z, u.sess x.num = some z ∧ z.columns.map (·.pages) = x.columns.map (·.pages)
          ∧ ∀ c ∈ z.columns, (x.cloneColumns.map (·.index)).contains c.index = true → c.copied = true)
      ∧ u.hif.out = s.hif.out)
  ∧ (∀ (t fn nh : Nat) (s : State) (y : Session) (src serial q tag : Nat),
    s.serve.sessions.find? (fun z => z.fn == fn && z.handle == nh && z.cloneOf.isSome) = some y → s.sess y.num = some y →
    y.cloneOf = some (src, serial, q, tag) → src ≠ y.num → (∀ x, s.sess src = some x → x.state.leaves = none) →
    (s.advance t).copyEnd y.copyFrom (sumN (y.columns.map (·.pages.length)) + y.tokenPages.length) ≤ (s.advance t).copyCap →
    s.mem.evictWait = [] → s.mem.retireWait = [] →
    s.hostReady q → Ends (exec (.cloneComplete t fn nh []) s) fun u => SameBut [.regs, .now, .arbs, .hif, .serve, .mem, .free] s u
      ∧ u.sess y.num = some { y with cloneOf := none }
      ∧ (∀ x, s.sess src = some x → ∃ z, u.sess src = some z ∧ z.queue = x.queue.filter (·.serial != serial))
      ∧ u.rd KVM_CLONE_CNT_COUNT = min (2 ^ 32 - 1) (s.rd KVM_CLONE_CNT_COUNT + 1)
      ∧ u.posted q ⟨tag, 0x00, 0x07, 0, y.handle, max s.now t, y.committed, 0⟩))

/-- The serving loop takes a request (R271, R284, R285): the head of a session's queue is accepted where it passes the
checks; the plan's admission binds the generation and puts its next piece into a launch; a buffer read that fails ends the
request with ABORTED.
Its conclusions are that exec ANSWERS A NEXT STATE for: sessionQueueAccept, requestAdmit. -/
def Obligations.RequestsAreAdmitted : Prop :=
  ∀ (t fn handle : Nat) (s : State) (x : Session) (r : Request) (rest : List Request),
    s.openSess fn handle = some x → s.sess x.num = some x → x.queue = r :: rest → r.ops.runs = true →
    (s.ctl.restarting = false → s.bit SMS_STATUS_MODULE_FAULT = false → r.phase = .queued → r.ops.noop = false →
      (s.advance t).runCheck x { r with phase := .accepted, acceptAt := max s.now t } = none →
      Ends (exec (.sessionQueueAccept t fn handle) s) fun u => SameBut [.now, .serve] s u
        ∧ (∃ y r', u.sess x.num = some y ∧ y.queue = r' :: rest ∧ r'.phase = .accepted ∧ r'.acceptAt = max s.now t
            ∧ r'.serial = r.serial ∧ r'.ops = r.ops)
        ∧ (∀ n, n ≠ x.num → u.sess n = s.sess n))
    ∧ (∀ plan slot g, s.lst.current = some (slot, g) → r.phase = .accepted → (s.advance t).admissible x r plan.slot = true →
        (s.advance t).firstInOrder x r plan.slot = true →
        (s.advance t).energyFits fn plan.slot ((s.advance t).estimate x r) = true →
        (s.advance t).admitCheck x r g plan.buffer = none → x.gen = g → x.evicted = 0 → (∀ c ∈ x.columns, c.gen = g) → s.cstFits fn (s.stepBlocks x plan) = true →
        (∀ a lo hi tok, hi ≤ x.committed + r.done + 2048 → tok ≤ x.committed + 2048 →
          (((s.advance t).withArbs a).allocStep x.num plan.layerHeads g lo hi tok).1 = true) →
        (s.serve.launches.map (·.id)).Nodup →
        Ends (exec (.requestAdmit t fn handle plan) s) fun u =>
          SameBut [.regs, .now, .arbs, .serve, .ctl, .mem, .lnk, .free] s u
          ∧ ∃ y r' l p, u.sess x.num = some y ∧ y.queue = r' :: rest ∧ r'.phase = .admitted ∧ r'.gen = g
            ∧ r'.c0 = x.committed ∧ r'.launch = l.id ∧ l ∈ u.serve.launches ∧ l.inFlight = false ∧ l.slot = plan.slot
            ∧ l.fn = x.fn ∧ l.job = x.job ∧ l.gen = g ∧ (⟨x.num, r.serial, p, plan.lens⟩ : LaunchEntry) ∈ l.entries)
    ∧ (∀ plan slot g b o, s.lst.current = some (slot, g) → r.phase = .accepted → r.ops = .prompt b o →
        (s.advance t).admissible x r plan.slot = true → (s.advance t).firstInOrder x r plan.slot = true →
        (s.advance t).energyFits fn plan.slot ((s.advance t).estimate x r) = true → plan.buffer = .error → s.heldOf r.serial = [] →
        s.hostReady r.queue → Ends (exec (.requestAdmit t fn handle plan) s) fun u =>
          SameBut [.regs, .now, .arbs, .hif, .serve, .ctl, .lnk, .free] s u
          ∧ ∃ c, u.posted r.queue c ∧ c.tag = r.tag ∧ c.status = 0x34 ∧ c.time = max s.now t)

/-- SLOT_BOUNDARY (R242, R247, R248): at the boundary the slot number and the next boundary go on by one, and no launch that
stays planned is planned for a slot at or before this one; before the boundary's time the row is no event.
TTL_EXPIRE (R198): a paused session whose EXPIRY has come loses every column at the boundary, stays PAUSED and is counted
once; the registers but the two counters, and the other sessions, stay.
Its conclusions are that exec ANSWERS A NEXT STATE for: slotBoundary, ttlExpire. -/
def Obligations.BoundariesAndExpiry : Prop :=
  (∀ (t : Nat) (ready : Bool) (lastings : List Nat) (s : State), s.running = true →
    (s.boundary s.time.nextK ≤ max s.now t → Ends (exec (.slotBoundary t ready lastings) s) fun u =>
      SameBut [.regs, .commits, .now, .time, .arbs, .hif, .serve, .lst, .ctl, .mem, .sms, .fab, .lnk, .ptm, .mgt, .free] s u
      ∧ u.time.nextK = s.time.nextK + 1 ∧ u.time.slotNow = some (slotNum s.time.nextK)
      ∧ ∀ l ∈ u.serve.launches, l.inFlight = false → s.time.nextK < l.slot)
    ∧ (max s.now t < s.boundary s.time.nextK → exec (.slotBoundary t ready lastings) s = .next (s.advance t)))
  ∧ (∀ (t fn handle : Nat) (s : State) (x : Session), s.openSess fn handle = some x → s.sess x.num = some x → s.running = true →
    x.expiryDue (s.boundary s.time.nextK) = true → Ends (exec (.ttlExpire t fn handle) s) fun u =>
      SameBut [.regs, .now, .serve] s u ∧ RegsBut [(KVM_EVICT_CNT_COUNT, 0), (KVM_TTL_EXPIRE_CNT_COUNT, 0)] s u
      ∧ (∃ y, u.sess x.num = some y ∧ y.state = .paused ∧ y.expired = true ∧ y.columns = [] ∧ y.committed = x.committed)
      ∧ (∀ n, n ≠ x.num → u.sess n = s.sess n)
      ∧ u.rd KVM_TTL_EXPIRE_CNT_COUNT = min (2 ^ 32 - 1) (s.rd KVM_TTL_EXPIRE_CNT_COUNT + 1))

/-- The completion record of a launch of one entry (R191, R283, R288): a decode step commits the tokens it keeps of those that were
sampled at its positions, a prefill piece its positions; the launch is gone.
TOKEN_RELEASE (R254, R315): the first held token of a session whose release time has come is written to its ring, where
there is room, and is no longer held; before its time, and after a cancel of its request (R289), it stays.
Its conclusions are that exec ANSWERS A NEXT STATE for: stepComplete, chunkComplete, tokenRelease. -/
def Obligations.StepsCommitAndRelease : Prop :=
  (∀ (t id : Nat) (s : State) (l : Launch) (x : Session) (r : Request), s.launch id = some l → (s.advance t).mayEnd l = true →
    l.dropped = false → s.sess x.num = some x → x.queue = [r] → r.queue ≠ noRing → r.launch = id → r.ended = none → r.cancelAt = none →
    r.faulted = false → x.closing = none → s.mem.evictWait = [] → s.mem.retireWait = [] →
    s.fab.numericMarks = [] → (∀ j ∈ s.serve.jobs, j.faultStep = none) → s.serve.held = [] →
    (∀ y ∈ s.serve.sessions, y.closing = none ∧ y.state.leaves = none) →
    (∀ o q lens ts toks res, l.chunk = false → l.entries = [⟨x.num, r.serial, .decode q, lens⟩] → r.ops = .generate o →
      bitOf r.flags 0 = false → s.sampled r.serial (1 + r.drafts.length) = some ts → toks = ts.map (·.1) →
      (∀ p ∈ res, p.numeric = false) → Ends (exec (.stepComplete t id res) s) fun u =>
        SameBut [.regs, .now, .arbs, .hif, .serve, .ctl, .mem, .fab, .lnk, .free] s u ∧ u.launch id = none
        ∧ ∃ y, u.sess x.num = some y
          ∧ y.committed = x.committed + (keepTokens o (o.maxTokens - r.produced) r.drafts toks).length
          ∧ y.lastStep = max s.now t
          ∧ ((∀ i j, i < j → j ≤ x.committed + toks.length →
              x.tokenAddr i + 4 ≤ x.tokenAddr j ∨ x.tokenAddr j + 4 ≤ x.tokenAddr i) → ∀ j w, (x.pending.toList ++ r.drafts)[j]? = some w →
              j < (keepTokens o (o.maxTokens - r.produced) r.drafts toks).length →
              u.readBytes .tierB (x.tokenAddr (x.committed + j)) 4 = leBytes 4 (w % 2 ^ 24))
          ∧ (∀ k, (keepTokens o (o.maxTokens - r.produced) r.drafts toks).getLast? = some k → y.pending = some k))
    ∧ (∀ o q lens, l.chunk = true → l.entries = [⟨x.num, r.serial, .prefill q false, lens⟩] → r.ops = .prompt true o →
        Ends (exec (.chunkComplete t id []) s) fun u =>
          SameBut [.regs, .now, .arbs, .serve, .ctl, .mem, .fab, .lnk, .free] s u ∧ u.launch id = none
          ∧ ∃ y r', u.sess x.num = some y ∧ y.committed = x.committed + q ∧ y.queue = [r'] ∧ r'.done = r.done + q
            ∧ r'.launch = 0 ∧ r'.phase = r.phase))
  ∧ (∀ (t fn handle : Nat) (s : State) (k : Held),
    s.serve.held.find? (fun k => k.fn == fn && k.handle == handle) = some k →
    (k.release ≤ max s.now t → s.hostReady k.queue → s.tokenRoom k.queue = true →
      (∀ e, s.findReq (some k.owner) = some e → e.2.cancelAt = none) →
      Ends (exec (.tokenRelease t fn handle) s) fun u => SameBut [.regs, .now, .arbs, .hif, .serve] s u
        ∧ (∃ i a, HostWrite.token k.queue i a k.entry ∈ u.hif.out)
        ∧ u.serve.held = s.serve.held.filter fun h => !(h.owner == k.owner && h.index == k.index))
    ∧ (max s.now t < k.release ∨ (∃ e, s.findReq (some k.owner) = some e ∧ e.2.cancelAt ≠ none) →
      exec (.tokenRelease t fn handle) s = .next (s.advance t)))

/-- The sequencer of a core (R357): while it runs it pushes entries of 32 bytes to its engines' queues and waits where a queue is full,
configures barriers, goes past a queue entry it sees, waits for one whose slot has not come, stalls on one whose slot has come and
which is not there (R17), marks the end of its list, and is idle once that is reached and every entry has retired, with its
program's entry consumed, or starts on the program that waits; a malformed entry, a bad count and a parity error stop it in FAULT
(R410); no other core changes.
The engines of a core (R358, R359): the oldest queued entry starts while its barrier has come and the engine has room and
is not held; the oldest entry in flight retires once its work is done, and stays until then.
Its conclusions are that exec ANSWERS A NEXT STATE for: enginePush, barCfg, waitQ, endList, sequencerStepEnd,
engineEntryStart, engineEntryComplete. -/
def Obligations.SequencersAndEngines : Prop :=
  (∀ (t core : Nat) (s : State), (s.core core).seq = .running → (s.core core).stalls = [] → (s.core core).blocked = none →
    let faults (u : State) : Prop := SameBut [.regs, .now, .arbs, .hif, .serve, .ctl, .sms, .lnk] s u
      ∧ (u.core core).seq = .fault ∧ ∀ n, n ≠ core → u.core n = s.core n
    ((s.core core).ended = false →
      (∀ l, (engineEntry l).rsvZero = true → hasEngine core (engineEntry l).engine = true →
        let x := engineEntry l
        let q := SMap.get [] (s.core core).queued x.engine
        (q.length < 16 → Ends (exec (.enginePush t core l .good) s) fun u => s.onlyCore u core ∧ (u.core core).seq = .running
          ∧ (u.core core).index = (s.core core).index + 1 ∧ (u.core core).flying = (s.core core).flying
          ∧ (u.core core).queued = SMap.put [] (s.core core).queued x.engine (q ++ [x]))
        ∧ (16 ≤ q.length → Ends (exec (.enginePush t core l .good) s) fun u => s.onlyCore u core
          ∧ u.core core = { s.core core with blocked := some x }))
      ∧ (∀ l, (engineEntry l).rsvZero = false ∨ hasEngine core (engineEntry l).engine = false →
          Ends (exec (.enginePush t core l .good) s) faults)
      ∧ (∀ l place addr, Ends (exec (.enginePush t core l (.parity place addr)) s) fun u =>
          SameBut [.regs, .now, .arbs, .hif, .serve, .ctl, .sms, .lnk, .mgt] s u ∧ (u.core core).seq = .fault
          ∧ (∀ n, n ≠ core → u.core n = s.core n) ∧ s.counted u SMS_PARITY_CNT_COUNT)
      ∧ (∀ bar count, 1 ≤ count → count ≤ 16 → bar < 64 →
          (∀ x, (∃ q ∈ (s.core core).queued, x ∈ q.2) ∨ (∃ q ∈ (s.core core).flying, x ∈ q.2.map (·.1)) →
            (x.waitEn = true → x.waitBar ≠ bar) ∧ (x.arriveEn = true → x.arriveBar ≠ bar)) →
          Ends (exec (.barCfg t core bar count) s) fun u => s.onlyCore u core
            ∧ (u.core core).seq = .running ∧ (u.core core).bar bar = { Barrier.init with count := count }
            ∧ ∀ b, b ≠ bar → (u.core core).bar b = (s.core core).bar b)
      ∧ (∀ bar count, count = 0 ∨ 16 < count →
          Ends (exec (.barCfg t core bar count) s) faults)
      ∧ (∀ a slot, (s.entry a).written = true → (s.entry a).visible = true → (s.entry a).consumed = false →
          Ends (exec (.waitQ t core a slot) s) fun u => s.onlyCore u core
            ∧ u.core core = { s.core core with index := (s.core core).index + 1 })
      ∧ (∀ a slot, (s.entry a).written = false ∨ (s.entry a).consumed = true → s.slotCome slot = false →
          Ends (exec (.waitQ t core a slot) s) fun u => s.onlyCore u core ∧ (u.core core).seq = .running
            ∧ (u.core core).stalls = [⟨a, slot, false, true, none⟩])
      ∧ (∀ a slot, (s.entry a).written = false ∨ (s.entry a).consumed = true → s.slotCome slot = true →
          Ends (exec (.waitQ t core a slot) s) fun u => SameBut [.regs, .now, .ctl] s u
            ∧ RegsBut [(TWS_PLAN_OVERRUN_COUNT, 0), (VEC_FOLD_WAIT_CNT_COUNT, 0)] s u ∧ s.counted u TWS_PLAN_OVERRUN_COUNT
            ∧ s.counted u VEC_FOLD_WAIT_CNT_COUNT 0 ∧ (u.core core).seq = .stalled
            ∧ (u.core core).stalls = [⟨a, slot, false, true, some (max s.now t)⟩] ∧ ∀ n, n ≠ core → u.core n = s.core n))
    ∧ (Ends (exec (.endList t core) s) fun u => s.onlyCore u core ∧ u.core core = { s.core core with ended := true })
    ∧ ((s.core core).ended = true → (∀ q ∈ (s.core core).queued, q.2 = []) → (∀ q ∈ (s.core core).flying, q.2 = []) →
        ((s.core core).next = [] → Ends (exec (.sequencerStepEnd t core) s) fun u => SameBut [.now, .ctl] s u
          ∧ u.core core = { s.core core with seq := .idle, ended := false } ∧ (∀ n, n ≠ core → u.core n = s.core n)
          ∧ ∀ a, u.entry a = if s.programEntry core = some a then { s.entry a with consumed := true } else s.entry a)
        ∧ (∀ id rest l, (s.core core).next = id :: rest → l.programs = [] →
          s.serve.launches.find? (fun l => l.id == id && l.inFlight && !l.dropped) = some l →
          Ends (exec (.sequencerStepEnd t core) s) fun u => SameBut [.now, .ctl, .fab] s u
            ∧ (u.core core).seq = .running ∧ (u.core core).launch = id ∧ (u.core core).next = rest ∧ (u.core core).ended = false
            ∧ ∀ n, n ≠ core → u.core n = s.core n)))
  ∧ (∀ (t core engine k : Nat) (x : EngineEntry) (rest : List EngineEntry) (fly : List (EngineEntry × Nat)) (s : State),
    (SMap.get [] (s.core core).queued engine = x :: rest → (s.core core).seq ≠ .fault → (s.core core).blocked = none →
      (s.core core).isHeld engine = false →
      (x.waitEn = true → reached ((s.core core).bar x.waitBar).round x.waitRound = true) →
      (SMap.get [] (s.core core).flying engine).length < flightLimit engine →
      Ends (exec (.engineEntryStart t core engine) s) fun u => s.onlyCore u core ∧ (u.core core).seq = (s.core core).seq
        ∧ (u.core core).queued = SMap.put [] (s.core core).queued engine rest
        ∧ (u.core core).flying =
          SMap.put [] (s.core core).flying engine (SMap.get [] (s.core core).flying engine ++ [(x, s.entryNumber core engine)]))
    ∧ (SMap.get [] (s.core core).queued engine = x :: rest → x.waitEn = true →
      reached ((s.core core).bar x.waitBar).round x.waitRound = false →
      exec (.engineEntryStart t core engine) s = .next (s.advance t))
    ∧ (SMap.get [] (s.core core).flying engine = (x, k) :: fly → (s.advance t).entryRetired core engine (x, k) = false → ∀ check,
      exec (.engineEntryComplete t core engine check) s = .next (s.advance t))
    ∧ (SMap.get [] (s.core core).flying engine = (x, k) :: fly → (s.advance t).entryRetired core engine (x, k) = true →
      x.arriveEn = false →
      Ends (exec (.engineEntryComplete t core engine .good) s) fun u => s.onlyCore u core
        ∧ (u.core core).queued = (s.core core).queued
        ∧ (u.core core).flying = SMap.put [] (s.core core).flying engine fly))

/-- A participant's arrival at a barrier (R361, R362): it enters ARRIVED; the last one completes the round, and the early ones
become the arrived; a second arrival within the round enters EARLY and holds its engine; a third one faults the barrier.
A hung barrier and the hand settings (R363, R364): a wait of CPX_BAR_TIMEOUT ticks sets HUNG and counts; RELEASE completes
the round, SET loads the masks; each is counted and logged, and HUNG is cleared.
Its conclusions are that exec ANSWERS A NEXT STATE for: engineEntryComplete, barrierHang, cpxBarForceRelease, cpxBarForceSet. -/
def Obligations.BarrierRounds : Prop :=
  (∀ (t core engine k : Nat) (x : EngineEntry) (rest : List (EngineEntry × Nat)) (s : State),
    SMap.get [] (s.core core).flying engine = (x, k) :: rest → x.arriveEn = true →
    (s.advance t).entryRetired core engine (x, k) = true →
    let b := (s.core core).bar x.arriveBar
    let runs (P : Barrier → Prop) : Prop :=
      Ends (exec (.engineEntryComplete t core engine .good) s) fun u => SameBut [.regs, .now, .arbs, .hif, .serve, .ctl, .sms, .lnk] s u
        ∧ (∀ n, n ≠ core → u.core n = s.core n) ∧ P ((u.core core).bar x.arriveBar)
    b.faulted = false → x.part < b.count → x.arriveBar < 64 →
    (bitOf b.arrived x.part = false → Nat.land (b.arrived + 2 ^ x.part) b.full ≠ b.full → runs fun c =>
      c.arrived = b.arrived + 2 ^ x.part ∧ c.early = b.early ∧ c.round = b.round ∧ c.faulted = false)
    ∧ (bitOf b.arrived x.part = false → Nat.land (b.arrived + 2 ^ x.part) b.full = b.full → Nat.land b.early b.full ≠ b.full →
        runs fun c => c.arrived = b.early ∧ c.early = 0 ∧ c.round = (b.round + 1) % 2 ^ 16 ∧ c.held = [] ∧ c.faulted = false)
    ∧ (bitOf b.arrived x.part = true → bitOf b.early x.part = false → runs fun c =>
        c.arrived = b.arrived ∧ c.early = b.early + 2 ^ x.part ∧ c.round = b.round ∧ c.held = b.held ++ [engine])
    ∧ (bitOf b.arrived x.part = true → bitOf b.early x.part = true → runs fun c =>
        c.faulted = true ∧ c.arrived = b.arrived ∧ c.early = b.early ∧ c.round = b.round))
  ∧ (∀ (t core : Nat) (s : State),
    (∀ bar w, ((s.core core).bar bar).waitFrom = some w → ((s.core core).bar bar).hung = false →
      w + max 64 (s.rd CPX_BAR_TIMEOUT_TICKS) * 1000 ≤ max s.now t → s.bit CPX_CTRL_HANG_MODE = true →
      Ends (exec (.barrierHang t core bar) s) fun u => SameBut [.regs, .now, .hif, .sms, .ctl] s u
        ∧ ((u.core core).bar bar) = { (s.core core).bar bar with hung := true }
        ∧ s.counted u CPX_BAR_HANG_CNT_COUNT ∧ u.bit SMS_EVENT_JOB_FAULT = true)
    ∧ (s.accepts 0 = true → s.bit CPX_CTRL_DBG_EN = true →
      let bar := s.rd CPX_BAR_SEL_BAR core
      let b := (s.core core).bar bar
      (b.count ≠ 0 → Nat.land b.early b.full ≠ b.full →
        Ends (exec (.cpxBarForceRelease t 0 core) s) fun u => SameBut [.regs, .now, .hif, .serve, .sms, .ctl] s u
          ∧ ((u.core core).bar bar).round = (b.round + 1) % 2 ^ 16 ∧ ((u.core core).bar bar).arrived = b.early
          ∧ ((u.core core).bar bar).early = 0 ∧ ((u.core core).bar bar).hung = false
          ∧ s.counted u CPX_BAR_FORCE_CNT_COUNT)
      ∧ (b.count ≠ 0 → Nat.land (s.rd CPX_BAR_SET_VAL_ARRIVED core) b.full ≠ b.full →
        Ends (exec (.cpxBarForceSet t 0 core) s) fun u => SameBut [.regs, .now, .hif, .serve, .sms, .ctl] s u
          ∧ ((u.core core).bar bar).arrived = s.rd CPX_BAR_SET_VAL_ARRIVED core
          ∧ ((u.core core).bar bar).early = s.rd CPX_BAR_SET_VAL_EARLY core ∧ ((u.core core).bar bar).round = b.round
          ∧ ((u.core core).bar bar).hung = false ∧ s.counted u CPX_BAR_FORCE_CNT_COUNT))
    ∧ (s.bit CPX_CTRL_DBG_EN = false → exec (.cpxBarForceRelease t 0 core) s = .next (s.advance t)
        ∧ exec (.cpxBarForceSet t 0 core) s = .next (s.advance t)))

/-- CST queue entries (R16, R17, R18): a write stores the content and sets the owner and the written bit; the entry can be seen
from its valid slot on; a write over an entry not yet consumed changes neither it nor memory; a stall of 256 ticks idles the
sequencer.
Its conclusions are that exec ANSWERS A NEXT STATE for: queueEntryWrite, queueStallTimeout. -/
def Obligations.QueueEntriesAreWritten : Prop :=
  ∀ (t : Nat) (s : State),
    (∀ a slot fn job bytes, (s.entry a).written = false ∨ (s.entry a).consumed = true → s.fab.waiting = [] →
      Ends (exec (.queueEntryWrite t a slot fn job bytes) s) fun u => SameBut [.now, .ctl, .mem] s u
        ∧ u.entry a = ⟨slot, true, s.slotCome slot, false, fn, job, bytes, [], []⟩
        ∧ (∀ a', a' ≠ a → u.entry a' = s.entry a')
        ∧ (s.slotCome slot = true → ∀ n, (u.core n).stalls = (s.core n).stalls.filter (·.entry != a))
        ∧ u.mem = { s.mem with cst := u.mem.cst }
        ∧ ∀ x, u.readByte .cst x = if a ≤ x ∧ x < a + bytes.length then nth 0#8 bytes (x - a) else s.readByte .cst x)
    ∧ (∀ a slot fn job bytes, (s.entry a).written = true → (s.entry a).consumed = false → s.fab.waiting = [] →
      Ends (exec (.queueEntryWrite t a slot fn job bytes) s) fun u =>
        SameBut [.regs, .now, .arbs, .hif, .serve, .ctl, .sms, .lnk] s u ∧ u.ctl.entries = s.ctl.entries)
    ∧ (∀ core w b, w ∈ (s.core core).stalls → w.since = some b → b + 256000 ≤ max s.now t → (s.core core).next = [] →
      Ends (exec (.queueStallTimeout t core) s) fun u => SameBut [.regs, .now, .arbs, .hif, .serve, .ctl, .sms, .lnk] s u
        ∧ u.core core = { s.core core with seq := .idle, stalls := [], blocked := none })

/-- VECTOR_LOAD (R29, R62, R91, R138): a vector for a bound cluster on which no load waits, which is not probed and which awaits no
residual enters the cluster's next bank where that holds no vector, takes its drive time (after a drain still under way), and the
next vector takes the other bank; where the bank holds a vector the load waits and is counted; a block of scale code 0xFF faults the
job and no bank changes; no other bank changes.
TRANSPOSE_VECTOR (R78, R79, R138): gradients held for a matrix of a bound cluster on which no load waits and which is not probed
take both banks at once, for four passes; while a bank holds a vector the load waits, counted.
Its conclusions are that exec ANSWERS A NEXT STATE for: vectorLoad, transposeVector. -/
def Obligations.VectorsEnterBanks : Prop :=
  (∀ (t : Nat) (o : VectorOps) (s : State), s.clusterBound o.core o.cluster = true → o.core < 512 →
    (∀ w ∈ s.fab.waiting, w.on o.core o.cluster = false) → s.probeOf o.core o.cluster = ProbeRun.init →
    (∀ p ∈ o.preloads, p.kind ≠ 2 ∧ p.kind ≠ 3) →
    let k := 8 * o.core + o.cluster
    let w := s.waitingOf (.forward o)
    let b := SMap.get 0 s.fab.nextBank k
    (∀ serial num bs dig blocks, (s.bank o.core o.cluster b).state = .free → s.buf o.core o.src = .a8 serial num bs dig →
      s.vectorInput o ((s.image (s.genOf o.core serial)).clustersAt o.core o.cluster) = some (serial, num, blocks, dig) →
      ((∀ x, some x ∈ blocks → badScale x = false) →
        Ends (exec (.vectorLoad t o) s) fun u =>
          SameBut [.regs, .now, .arbs, .hif, .serve, .ctl, .mem, .sms, .fab, .lnk] s u
          ∧ (∃ v, u.bank o.core o.cluster b = v ∧ v.state = .loaded ∧ v.transpose = false ∧ v.gen = s.genOf o.core serial
              ∧ v.serial = serial ∧ v.num = num ∧ v.blocks = blocks ∧ v.digital = dig ∧ v.arrived = false ∧ v.flags = []
              ∧ v.number = w.number
              ∧ v.driveAt = max (max (max (max s.now t + 16) s.lst.reloadTo) (SMap.get 0 s.fab.busyUntil k))
                  (if max s.now t < (s.bank o.core o.cluster b).drainTo then (s.bank o.core o.cluster b).drainTo + 16 else 0)
              ∧ v.flowAt = v.driveAt + 64 * (2 * v.n - 1) + 136 ∧ SMap.get 0 u.fab.busyUntil k = v.driveAt + 128 * v.n)
          ∧ SMap.get 0 u.fab.nextBank k = 1 - b ∧ u.fab.waiting = s.fab.waiting ∧ u.fab.bufs = s.fab.bufs
          ∧ ∀ n, n ≠ 16 * o.core + 2 * o.cluster + b → SMap.get Vector.init u.fab.banks n = SMap.get Vector.init s.fab.banks n)
      ∧ (∀ x, some x ∈ blocks → badScale x = true →
        Ends (exec (.vectorLoad t o) s) fun u => SameBut [.regs, .now, .arbs, .hif, .serve, .ctl, .sms, .fab, .lnk] s u
          ∧ u.fab.banks = s.fab.banks ∧ u.fab.nextBank = s.fab.nextBank ∧ u.fab.busyUntil = s.fab.busyUntil
          ∧ u.fab.waiting = s.fab.waiting ∧ u.fab.bufs = s.fab.bufs))
    ∧ ((s.bank o.core o.cluster b).state ≠ .free → Ends (exec (.vectorLoad t o) s) fun u => SameBut [.regs, .now, .fab] s u
        ∧ RegsBut [(ACR_BANK_WAIT_CNT_COUNT, 0)] s u ∧ s.counted u ACR_BANK_WAIT_CNT_COUNT
        ∧ u.fab = { s.fab with waiting := s.fab.waiting ++ [w], issued := SMap.put 0 s.fab.issued k (w.number + 1) }
        ∧ w.number = SMap.get 0 s.fab.issued k))
  ∧ (∀ (t : Nat) (o : TransposeOps) (charges : List XbCharges) (s : State), o.core < 512 → s.clusterBound o.core o.cluster = true →
    (∀ w ∈ s.fab.waiting, w.on o.core o.cluster = false) → s.probeOf o.core o.cluster = ProbeRun.init →
    let k := 8 * o.core + o.cluster
    let w := s.waitingOf (.transpose o charges)
    let free := max (s.bank o.core o.cluster 0).drainTo (s.bank o.core o.cluster 1).drainTo
    (∀ serial first vals r, (s.bank o.core o.cluster 0).state = .free → (s.bank o.core o.cluster 1).state = .free →
      s.readVec o.core o.src = some (serial, first, vals) →
      ((s.image (s.genOf o.core serial)).clustersAt o.core o.cluster).find? (·.matrix == o.matrix) = some r →
      Ends (exec (.transposeVector t o charges) s) fun u =>
        SameBut [.regs, .now, .arbs, .hif, .serve, .ctl, .mem, .sms, .fab, .lnk, .mgt] s u
        ∧ (∀ b, b = 0 ∨ b = 1 → ∃ v, u.bank o.core o.cluster b = v ∧ v.state = .loaded ∧ v.transpose = true
            ∧ v.gen = s.genOf o.core serial
            ∧ v.number = w.number
            ∧ v.driveAt = max (max (max (max s.now t + 16) s.lst.reloadTo) (SMap.get 0 s.fab.busyUntil k))
                (if max s.now t < free then free + 16 else 0)
            ∧ v.flowAt = v.driveAt + 512 * v.n + 48 ∧ SMap.get 0 u.fab.busyUntil k = v.driveAt + 512 * v.n)
        ∧ (u.bank o.core o.cluster 0).serial = serial
        ∧ u.fab.bufs = s.fab.bufs ∧ u.fab.waiting = s.fab.waiting ∧ u.fab.vectors = s.fab.vectors + 1)
    ∧ ((s.bank o.core o.cluster 0).state ≠ .free ∨ (s.bank o.core o.cluster 1).state ≠ .free →
      Ends (exec (.transposeVector t o charges) s) fun u => SameBut [.regs, .now, .fab] s u
        ∧ RegsBut [(ACR_BANK_WAIT_CNT_COUNT, 0)] s u ∧ s.counted u ACR_BANK_WAIT_CNT_COUNT
        ∧ u.fab = { s.fab with waiting := s.fab.waiting ++ [w], issued := SMap.put 0 s.fab.issued k (w.number + 1) }))

/-- A vector on its way through ACR (R62, R125, R133, R143, R409): its column-flow sum arrives, a residue error on the way counted;
the welt's terms are formed, late ones counted; an outstanding group is rescued with its exact partials; a forward vector is
COMPLETE once all three are done.
Its conclusions are that exec ANSWERS A NEXT STATE for: columnFlowArrive, weltWorkComplete, saturationRescue. -/
def Obligations.VectorsComplete : Prop :=
  ∀ (t core cluster b : Nat) (s : State),
    let v := s.bank core cluster b
    v.transpose = false →
    (∀ charges check, v.state = .loaded →
      Ends (exec (.columnFlowArrive t core cluster b charges check) s) fun u =>
        SameBut [.regs, .now, .arbs, .hif, .serve, .ctl, .sms, .fab, .lnk, .mgt] s u ∧ u.fab.bufs = s.fab.bufs
        ∧ (u.bank core cluster b).arrived = true ∧ (u.bank core cluster b).gen = v.gen
        ∧ (u.bank core cluster b).state = (if v.termsDone ∧ (u.bank core cluster b).flags = [] then .complete else .flowing)
        ∧ (∀ expected found, check = .residue expected found → s.counted u SMS_RESIDUE_CNT_COUNT))
    ∧ (v.state ≠ .free → v.termsDone = false → Ends (exec (.weltWorkComplete t core cluster b .good) s) fun u =>
        SameBut [.regs, .now, .fab] s u ∧ RegsBut [(WLT_LATE_CNT_COUNT, 0)] s u
        ∧ (v.flowAt < max s.now t → s.counted u WLT_LATE_CNT_COUNT) ∧ (max s.now t ≤ v.flowAt → u.regs = s.regs)
        ∧ (u.bank core cluster b).termsDone = true
        ∧ (u.bank core cluster b).state =
            (if v.state = .flowing ∧ v.arrived ∧ v.flags = [] then .complete else v.state))
    ∧ (∀ row col g, v.flags.contains (row, col, g) = true →
        Ends (exec (.saturationRescue t core cluster b row col g) s) fun u => SameBut [.regs, .now, .fab] s u
          ∧ RegsBut [(WLT_SAT_RESCUE_CNT_COUNT, 0)] s u ∧ s.counted u WLT_SAT_RESCUE_CNT_COUNT
          ∧ (u.bank core cluster b).flags = v.flags.filter (· != (row, col, g))
          ∧ (u.bank core cluster b).rescued = v.rescued ++ [(row, col, g)]
          ∧ (((s.image v.gen).cells core cluster row col).diff = false → ∀ i, i < 32 →
              nth 0 (u.bank core cluster b).acc (256 * col + 32 * g + i) = nth 0 v.acc (256 * col + 32 * g + i)
                + alignPartial (v.rowExp row) (v.kRef.getD 0)
                    (exactPartial ((s.image v.gen).cells core cluster row col).body (32 * g + i) (v.rowElems row))))

/-- The drains of a bank (R144, R145): an ordered drain of a COMPLETE bank into a buffer of VEC hands on its matrix's partials and
empties the bank, which is DRAINING for 20 ns and then FREE, both banks for 40 ns for a transpose vector; a bank that is not COMPLETE is left; a forced drain, enabled and with its place
in the debug area, writes a record there and sets DONE, the bank unchanged, and is else refused.
Its conclusions are that exec ANSWERS A NEXT STATE for: drain, acrDbgDrain. -/
def Obligations.BanksAreDrained : Prop :=
  ∀ (t core cluster b : Nat) (s : State),
    let v := s.bank core cluster b
    (∀ w ∈ s.fab.waiting, w.on core cluster = false) →
    (∀ m n r, v.state = .complete → v.transpose = false →
      ((s.image v.gen).clustersAt core cluster).filter (·.matrix == m) = [r] →
      Ends (exec (.drain t core cluster b [(m, .here (.buf n))] .good) s) fun u => SameBut [.regs, .now, .arbs, .fab] s u
        ∧ RegsBut [(ACR_DRAIN_CNT_COUNT, 0)] s u ∧ s.counted u ACR_DRAIN_CNT_COUNT
        ∧ u.bank core cluster b = { Vector.init with drainTo := max s.now t + 20 }
        ∧ (u.bank core cluster b).stateAt u.now = .draining
        ∧ (∃ p, u.buf core n = .parts v.serial [p] ∧ p.kind = 0 ∧ p.matrix = m
            ∧ p.gen = v.gen ∧ p.vector = v.num ∧ p.firstOut = r.firstOut ∧ p.firstIn = r.firstIn)
        ∧ ∀ k, k ≠ 65536 * core + n → SMap.get .empty u.fab.bufs k = SMap.get .empty s.fab.bufs k)
    ∧ (v.transpose = true → b = 0 → v.stateAt (max s.now t) = .complete →
      Ends (exec (.drain t core cluster b [] .good) s) fun u => SameBut [.regs, .now, .arbs, .fab] s u
        ∧ RegsBut [(ACR_DRAIN_CNT_COUNT, 0)] s u ∧ s.counted u ACR_DRAIN_CNT_COUNT
        ∧ (∀ c, c = 0 ∨ c = 1 → u.bank core cluster c = { Vector.init with drainTo := max s.now t + 40 }) ∧ u.fab.bufs = s.fab.bufs)
    ∧ (∀ places check, (s.bank core cluster (s.dataBank core cluster b)).stateAt (max s.now t) ≠ .complete →
        exec (.drain t core cluster b places check) s = .next (s.advance t))
    ∧ (s.accepts 0 = true → core < 512 →
      let a := s.rd ACR_DBG_ADDR_ADDR core / 64 * 64
      (s.bit ACR_CTRL_DBG_DRAIN_EN = true → 0x07F00000 ≤ a → a + 16960 ≤ 0x08000000 →
        Ends (exec (.acrDbgDrain t 0 core cluster b) s) fun u => SameBut [.regs, .now, .hif, .mem, .sms] s u
          ∧ u.bit ACR_DBG_STATUS_DONE core = true ∧ s.counted u ACR_DBG_DRAIN_CNT_COUNT
          ∧ u.mem = { s.mem with cst := u.mem.cst }
          ∧ ∀ x, (x < a ∨ a + 16960 ≤ x) → u.readByte .cst x = s.readByte .cst x)
      ∧ ((s.bit ACR_CTRL_DBG_DRAIN_EN = false ∨ a < 0x07F00000 ∨ 0x08000000 < a + 16960) →
          exec (.acrDbgDrain t 0 core cluster b) s = .next (s.advance t)))

/-- SHADOW_CHECK and CANCEL_RESCUE (R124, R129): a due check is counted and made once; one beyond its limit is also counted
and logged as failed; a rescue gives its element the exact value; one that is not finite makes every element
NaN and the request NUMERIC (R46).
Its conclusions are that exec ANSWERS A NEXT STATE for: shadowCheck, cancelRescue. -/
def Obligations.ChecksAndRescues : Prop :=
  ∀ (t core : Nat) (s : State),
    (∀ cluster row col channel d, s.fab.checks.find? (fun d => d.core == core && d.cluster == cluster && d.row == row
        && d.col == col && d.channel == channel) = some d →
      (d.diff.natAbs ≤ d.limit.natAbs → Ends (exec (.shadowCheck t core cluster row col channel) s) fun u =>
        SameBut [.regs, .now, .fab] s u ∧ RegsBut [(WLT_SHADOW_CNT_COUNT, 0)] s u ∧ s.counted u WLT_SHADOW_CNT_COUNT
        ∧ u.fab = { s.fab with checks := s.fab.checks.erase d })
      ∧ (d.limit.natAbs < d.diff.natAbs → (SMap.get LogHold.init s.fab.logHolds (2 * core + 1)).held = false → Ends (exec (.shadowCheck t core cluster row col channel) s) fun u =>
        SameBut [.regs, .now, .arbs, .hif, .serve, .ctl, .sms, .fab, .lnk, .mgt] s u ∧ s.counted u WLT_SHADOW_CNT_COUNT
        ∧ s.counted u WLT_SHADOW_FAIL_CNT_COUNT ∧ u.bit WLT_SHADOW_LOG0_VALID core = true
        ∧ u.fab.checks = s.fab.checks.erase d))
    ∧ (∀ n i serial first vals oob rescue x, s.buf core n = .vec serial first vals oob rescue →
        rescue.find? (·.1 == i) = some (i, x) → Ends (exec (.cancelRescue t core n i) s) fun u =>
          SameBut [.regs, .now, .fab] s u ∧ RegsBut [(WLT_CANCEL_RESCUE_CNT_COUNT, 0)] s u
          ∧ s.counted u WLT_CANCEL_RESCUE_CNT_COUNT ∧ s.onlyBuf u core n
          ∧ (f32NonFinite x = false → u.buf core n = .vec serial first (setNth 0#32 vals i x) oob (rescue.filter (·.1 != i)))
          ∧ (f32NonFinite x = true → u.buf core n = .vec serial first (vals.map fun _ => f32NaN) oob []
              ∧ ∀ q, serial = some q → q ∈ u.fab.numericMarks))

/-- The vector operations of VEC (R41, R46, R47, R152, R153): each reads its sources, which no rescue is due on, and writes its result
to one buffer, all NaN where a result on the way or at the end is not finite though no NaN came in; no register and nothing else of the data path
changes.
The quantising and converting operations of VEC (R31, R32, R46, R117, R149, R169): blocks of 512 elements to A8 with the
digital channels of the matrix beside them, values to BF16 hand-offs or to key and value bytes, heads to Q records, and the k
largest values of a buffer with their count.
Its conclusions are that exec ANSWERS A NEXT STATE for: rmsnorm, layernorm, siluGate, geluGate, rotary, topk, expSum,
quantA8, toBf16, qRecordWrite. -/
def Obligations.VectorEngine : Prop :=
  (∀ (t core src dst : Nat) (serial : Option Nat) (first : Nat) (xs : List F32) (s : State),
    s.readVec core src = some (serial, first, xs) →
    let settled (ins sums outs : List F32) : List F32 :=
      if !ins.any f32IsNaN && (sums ++ outs).any f32NonFinite then outs.map fun _ => f32NaN else outs
    let writes (i : Instr) (l : List F32) : Prop :=
      Ends (exec i s) fun u => SameBut [.now, .fab] s u ∧ s.onlyBuf u core dst ∧ u.holdsVec core dst serial first l
    let c := s.image (s.genOf core serial)
    (∀ idx, let n := nth 0#32 (c.table 4 idx) 1
      let eps := nth 0#32 (c.table 4 idx) 0
      (let sum := vecSum (xs.map fun x => f32Mul x x)
       let r := f32Rsqrt (f32Add (f32Div sum n) eps)
       writes (.rmsnorm t core src idx dst) (settled xs [sum, f32Div sum n, r]
        (xs.zipIdx.map fun (x, i) => f32Mul (f32Mul x r) (nth 0#32 (c.table 2 idx) i))))
      ∧ (let sum := vecSum xs
         let mu := f32Div sum n
         let sq := vecSum (xs.map fun x => f32Mul (f32Sub x mu) (f32Sub x mu))
         let r := f32Rsqrt (f32Add (f32Div sq n) eps)
         writes (.layernorm t core src idx dst) (settled xs [sum, mu, sq, r] (xs.zipIdx.map fun (x, i) =>
          f32Fma (f32Mul (f32Sub x mu) r) (nth 0#32 (c.table 2 idx) i) (nth 0#32 (c.table 3 idx) i)))))
    ∧ (∀ b serial' first' ys, s.readVec core b = some (serial', first', ys) →
        let gated (f : F32 → F32 → List F32) : List F32 :=
          let rs := xs.zipIdx.map fun (x, i) => f x (nth 0#32 ys i)
          settled (xs ++ ys) rs.flatten (rs.map fun l => l.getLastD 0#32)
        writes (.siluGate t core src b dst) (gated siluGate) ∧ writes (.geluGate t core src b dst) (gated geluGate))
    ∧ (∀ idx position, let tab := c.table 5 idx
        let angles := (List.range 64).map fun j => f32Mul (f32OfNat position) (nth 0#32 tab j)
        writes (.rotary t core src idx position dst) (settled xs [] ((blocksOf 0#32 128 xs).map
          (rotateHead (nth 0#32 tab 64 == 0x3F800000#32) (angles.map f32Cos) (angles.map f32Sin))).flatten))
    ∧ (∀ list sr f items m z oob sums sumDst, s.buf core list = .topk sr f items (some m) z oob → sumDst ≠ dst →
        let temp := (s.scaleTemp serial sums).getD 0x3F800000#32
        let es := xs.map fun x => expScaled x m temp
        let steps := xs.map fun x => f32Div (f32Sub x m) temp
        Ends (exec (.expSum t core src list sums dst sumDst) s) fun u => SameBut [.now, .fab] s u
          ∧ u.holdsVec core dst serial first (settled xs steps es) ∧ u.holdsVec core sumDst serial 0 (settled xs [] [vecSum es])
          ∧ ∀ k, k ≠ 65536 * core + dst → k ≠ 65536 * core + sumDst →
            SMap.get .empty u.fab.bufs k = SMap.get .empty s.fab.bufs k))
  ∧ (∀ (t core src dst : Nat) (serial : Option Nat) (first : Nat) (xs : List F32) (s : State),
    s.readVec core src = some (serial, first, xs) →
    (∀ matrix, let digital := (s.image (s.genOf core serial)).digital
      Ends (exec (.quantA8 t core src matrix dst) s) fun u => SameBut [.now, .fab] s u
      ∧ u.fab = { s.fab with bufs := u.fab.bufs, vectors := s.fab.vectors + 1, numericMarks := u.fab.numericMarks }
      ∧ (∀ k, k ≠ 65536 * core + dst → SMap.get .empty u.fab.bufs k = SMap.get .empty s.fab.bufs k)
      ∧ (digital.all (·.1 != matrix) = true →
          u.buf core dst = .a8 serial (s.fab.vectors + 1) ((blocksOf 0#32 512 xs).map fun l => (a8Block l).1) [])
      ∧ ∃ bs dg, u.buf core dst = .a8 serial (s.fab.vectors + 1) bs dg ∧ bs.length = ceilDiv xs.length 512
        ∧ ∀ d ∈ dg, (matrix, d.1) ∈ digital ∧ ∃ x, xs[d.1 - first]? = some x ∧ d.2 = f32ToBf16 x)
    ∧ (xs.any bf16Overflows = false → Ends (exec (.toBf16 t core src 0 dst) s) fun u => SameBut [.now, .fab] s u
      ∧ u.fab = { s.fab with bufs := u.fab.bufs } ∧ s.onlyBuf u core dst ∧ u.buf core dst = .bf16 serial (xs.map f32ToBf16))
    ∧ (xs.any bf16Overflows = true → ∀ n, serial = some n → Ends (exec (.toBf16 t core src 0 dst) s) fun u =>
      SameBut [.now, .fab] s u ∧ s.onlyBuf u core dst ∧ u.buf core dst = .bf16 serial (xs.map fun _ => bf16NaN)
      ∧ u.fab.numericMarks.contains n = true)
    ∧ (∀ page, 0 < page → Ends (exec (.toBf16 t core src page dst) s) fun u => SameBut [.now, .fab] s u ∧ s.onlyBuf u core dst
      ∧ ∃ l, u.buf core dst = .kv serial l)
    ∧ (Ends (exec (.qRecordWrite t core src dst) s) fun u => SameBut [.now, .fab] s u ∧ s.onlyBuf u core dst
      ∧ ∃ l, u.buf core dst = .qrecs serial l ∧ l.length = ceilDiv xs.length 128 ∧ ∀ r ∈ l, r.length = 136)
    ∧ (∀ k sums, Ends (exec (.topk t core src k sums dst) s) fun u => SameBut [.regs, .now, .fab] s u
      ∧ RegsBut [(VEC_TOPK_CNT_COUNT, 0)] s u ∧ s.counted u VEC_TOPK_CNT_COUNT ∧ s.onlyBuf u core dst
      ∧ ∃ items m z, u.buf core dst = .topk serial first items m z (s.buf core src).marked ∧ items.length = min 64 (max 1 k)
        ∧ ∀ e ∈ items, e = topkUnused ∨ ∃ i v, xs[i]? = some v ∧ e = (first + i, v) ∧ f32IsNaN v = false))

/-- The folds and the sampling of VEC (R22, R148, R150, R154): records of the step's generation are folded element by element, an
entry's being consumed; a record that is not there stalls the sequencer from its slot on, counted as a fold wait; a sampled token
is the index of one of the candidates, and is kept for its request; of a tune, the target's logits are kept for its loss, and their
gradient goes into a buffer.
The experts (R15, R157, R158): the token's activation goes to the places of the experts that the router's list selects, into a
buffer or a queue entry, and to no other; the combined result is the residual with the weighted outputs of the experts added in
ascending number, in BF16, and the residual alone where none is selected.
Its conclusions are that exec ANSWERS A NEXT STATE for: fold, sample, expertDispatch, expertCombine. -/
def Obligations.FoldsSamplesExperts : Prop :=
  (∀ (t core first n dst : Nat) (serial : Option Nat) (s : State),
    (∀ bufs : List Nat, let recs := s.foldRecs core (s.refOn core serial) (bufs.map PartPlace.buf)
      (∀ r ∈ recs, r.1.gen = s.genOf core serial) →
      let es := (List.range n).map fun i => foldElem (sortRecs recs) (first + i)
      Ends (exec (.fold t core first n (bufs.map PartPlace.buf) dst serial) s) fun u => SameBut [.regs, .now, .fab] s u
        ∧ RegsBut [(WLT_CANCEL_FLAG_CNT_COUNT, 0), (WLT_OOB_CNT_COUNT, 0)] s u
        ∧ u.fab = { s.fab with bufs := u.fab.bufs, rescues := u.fab.rescues, oobMarks := u.fab.oobMarks
                               numericMarks := u.fab.numericMarks }
        ∧ (∀ k, k ≠ 65536 * core + dst → SMap.get .empty u.fab.bufs k = SMap.get .empty s.fab.bufs k)
        ∧ ∃ vals oob rescue, u.buf core dst = .vec serial first vals oob rescue ∧ oob.length = n
          ∧ vals = if es.any fun e => !e.nanIn && f32NonFinite e.val then es.map fun _ => f32NaN else es.map (·.val))
    ∧ (∀ a slot, (s.entry a).written = true → (s.entry a).visible = true → (s.entry a).consumed = false →
        (∀ r ∈ s.foldRecs core (s.refOn core serial) [.entry a slot], r.1.gen = s.genOf core serial) →
        Ends (exec (.fold t core first n [.entry a slot] dst serial) s) fun u => SameBut [.regs, .now, .arbs, .ctl, .fab] s u
          ∧ u.entry a = { s.entry a with consumed := true } ∧ (∀ x, x ≠ a → u.entry x = s.entry x)
          ∧ ∃ vals oob rescue, u.buf core dst = .vec serial first vals oob rescue ∧ vals.length = n)
    ∧ (∀ a slot, (s.entry a).written = false ∨ (s.entry a).consumed = true → (∀ x ∈ (s.core core).stalls, x.entry ≠ a) →
        s.slotCome slot = true →
        Ends (exec (.fold t core first n [.entry a slot] dst serial) s) fun u => SameBut [.regs, .now, .ctl] s u
          ∧ RegsBut [(TWS_PLAN_OVERRUN_COUNT, 0), (VEC_FOLD_WAIT_CNT_COUNT, 0)] s u
          ∧ s.counted u TWS_PLAN_OVERRUN_COUNT ∧ s.counted u VEC_FOLD_WAIT_CNT_COUNT
          ∧ (u.core core).stalls = (s.core core).stalls ++ [⟨a, slot, true, false, some (max s.now t)⟩]
          ∧ ((s.core core).seq = .running → (u.core core).seq = .stalled))
    ∧ (∀ (bufs : List Nat) q j x r b, let ls := s.candidateLists core (bufs.map PartPlace.buf)
        s.findReq (some q) = some (x, r) → r.sampling = some b → (∃ l ∈ ls, l.items ≠ []) →
        Ends (exec (.sample t core (bufs.map PartPlace.buf) q j dst) s) fun u =>
          SameBut [.regs, .now, .fab] s u ∧ RegsBut [(VEC_SAMPLE_CNT_COUNT, 0)] s u ∧ s.counted u VEC_SAMPLE_CNT_COUNT
          ∧ u.fab = { s.fab with bufs := u.fab.bufs, numericMarks := u.fab.numericMarks, samples := u.fab.samples }
          ∧ (∀ k, k ≠ 65536 * core + dst → SMap.get .empty u.fab.bufs k = SMap.get .empty s.fab.bufs k)
          ∧ ∃ tok, u.buf core dst = .token (some q) tok ∧ ⟨q, j, tok, ls.any (·.oob)⟩ ∈ u.fab.samples
            ∧ ∃ l ∈ ls, ∃ v, (tok, v) ∈ l.items)
    ∧ (∀ (bufs : List Nat) q j x r m, let vals := (s.logitParts core (bufs.map PartPlace.buf)).flatten
        s.findReq (some q) = some (x, r) → r.sampling = none → (targetIndexes r.buffer).contains j = true → maxOfVals vals = some m →
        Ends (exec (.sample t core (bufs.map PartPlace.buf) q j dst) s) fun u => SameBut [.now, .fab] s u
          ∧ u.fab = { s.fab with bufs := u.fab.bufs, numericMarks := u.fab.numericMarks, targets := u.fab.targets }
          ∧ (∃ z, ⟨r.serial, j, m, z, nth 0#32 vals (nth 0 r.buffer j % 2 ^ 24)⟩ ∈ u.fab.targets)
          ∧ ∃ l, u.holdsVec core dst (some r.serial) 0 l ∧ l.length = vals.length))
  ∧ (∀ (t core : Nat) (s : State),
    (∀ src router e serial num bs dig sr f items m z oob, s.buf core src = .a8 serial num bs dig →
      s.buf core router = .topk sr f items m z oob →
      (items.any (·.1 == e) = true → e ≠ 0xFFFFFFFF →
        (∀ n, Ends (exec (.expertDispatch t core src router [(e, .here (.buf n))]) s) fun u => SameBut [.now, .fab] s u
          ∧ s.onlyBuf u core n ∧ u.buf core n = .a8 serial num bs dig)
        ∧ (∀ a slot, (s.entry a).written = false ∨ (s.entry a).consumed = true → s.fab.waiting = [] →
            Ends (exec (.expertDispatch t core src router [(e, .here (.entry a slot))]) s) fun u =>
              SameBut [.now, .arbs, .ctl, .mem] s u ∧ (u.entry a).written = true ∧ (u.entry a).validSlot = slot
              ∧ (u.entry a).bytes = (VecBuf.a8 serial num bs dig).stored ∧ ∀ x, x ≠ a → u.entry x = s.entry x))
      ∧ (items.any (·.1 == e) = false → ∀ place,
          exec (.expertDispatch t core src router [(e, place)]) s = .next (s.advance t)))
    ∧ (∀ residual router layer outs dst serial first res sr f items m z oob ys,
        s.readVec core residual = some (serial, first, res) → s.buf core router = .topk sr f items m z oob →
        (let full := nth 0#32 ((s.image (s.genOf core serial)).table 7 layer) 0 == 0x3F800000#32
         s.expertOuts core outs (byNumber (expertWeights full (items.filter (·.1 != 0xFFFFFFFF)) (m.getD 0#32) z)) = some ys) →
        let sum := res.zipIdx.map fun (x, i) => ys.foldl (fun acc (w, y) => f32Add acc (f32Mul w (nth 0#32 y i))) x
        let full := nth 0#32 ((s.image (s.genOf core serial)).table 7 layer) 0 == 0x3F800000#32
        let chosen := items.filter (·.1 != 0xFFFFFFFF)
        let peak := if full then m.getD 0#32 else (chosen.head?.map (·.2)).getD 0#32
        let far := chosen.any fun c => expOverflows 0x3F800000#32 peak c.2
        let event := (far || sum.any fun x => f32NonFinite x || bf16Overflows x) && !(res ++ (ys.map (·.2)).flatten).any f32IsNaN
        Ends (exec (.expertCombine t core residual router layer outs dst) s) fun u => SameBut [.now, .fab] s u
          ∧ s.onlyBuf u core dst ∧ u.buf core dst = .bf16 serial (sum.map fun x => if event then bf16NaN else f32ToBf16 x)))

/-- DMA (R13, R16, R18, R157, R186, R191, R340, R343, R358), with no memory error on its way: each kind of move, whole.  A load brings
bytes of CST into a buffer of VEC, in the buffer's kind; a store writes a buffer's bytes there; an entry that the core sees is taken
into a buffer and consumed, one that is not there yet is waited for; a buffer goes to another buffer, to a queue entry of this module
or in a message to another module, as it does in a collective; a row of the embedding region comes into an entry; the keys or values
of one head and position that the request's step writes go to their page, and of others nothing.  Nothing else changes but the
arbiters of what the move uses, and the bytes that a function has moved on a tier.
Its conclusions are that exec ANSWERS A NEXT STATE for: dma, collective. -/
def Obligations.DmaMoves : Prop :=
  ∀ (t core : Nat) (serial : Option Nat) (s : State),
    let moves (o : DmaOp) (A : List Area) (P : State → Prop) : Prop :=
      Ends (exec (.dma t core serial o []) s) fun u => SameBut (.now :: .arbs :: A) s u ∧ u.now = max s.now t ∧ P u
    let ofBytes (kind : DmaKind) (l : List Byte) : VecBuf :=
      match kind with
      | .raw => .bytes l
      | .f32 => .vec serial 0 ((chunksOf 4 l).map fun w => BitVec.ofNat 32 (ofLeBytes w)) [] []
      | .bf16 => .bf16 serial ((chunksOf 2 l).map fun w => BitVec.ofNat 16 (ofLeBytes w))
      | .a8 n => .a8 serial (s.fab.vectors + 1) ((chunksOf 528 (l.take (528 * n))).map a8OfBytes)
          ((chunksOf 6 (l.drop (528 * n))).map fun w => (numAt w 0 4, BitVec.ofNat 16 (numAt w 4 2)))
    let brings (u : State) (dst : Nat) (kind : DmaKind) (l : List Byte) : Prop :=
      u.fab = { s.fab with bufs := u.fab.bufs, vectors := match kind with | .a8 _ => s.fab.vectors + 1 | _ => s.fab.vectors }
      ∧ u.buf core dst = ofBytes kind l
      ∧ ∀ k, k ≠ 65536 * core + dst → SMap.get .empty u.fab.bufs k = SMap.get .empty s.fab.bufs k
    let writes (u : State) (a : Nat) (l : List Byte) : Prop := u.mem = { s.mem with cst := u.mem.cst }
      ∧ ∀ x, u.readByte .cst x = if a ≤ x ∧ x < a + l.length then nth 0#8 l (x - a) else s.readByte .cst x
    let fills (u : State) (a slot : Nat) (l : List Byte) : Prop :=
      u.entry a = ⟨slot, true, s.slotCome slot, false, (s.workOn core serial).1, (s.workOn core serial).2, l, [], []⟩
      ∧ ∀ x, x ≠ a → u.entry x = s.entry x
    let open_ (a : Nat) : Prop := ((s.entry a).written = false ∨ (s.entry a).consumed = true) ∧ s.fab.waiting = []
    let sends (o : DmaOp) (dst type_ coll offset slot rank : Nat) (l : List Byte) : Prop :=
      dst ≠ s.moduleNum → l.length ≤ 65504 → moves o [.regs, .lnk] fun u =>
        let w := s.coreWork core serial
        u = ((s.advance t).count LNK_MSG_TX_CNT_COUNT).route dst core w.1 w.2
          (s.messageOf dst type_ coll offset (s.handoffSlot l.length slot) rank l)
    (∀ a n dst kind, moves (.load a n dst kind) [.fab] fun u => brings u dst kind (s.readBytes .cst a n))
    ∧ (∀ src a, moves (.store src a) [.mem] fun u => writes u a (s.buf core src).stored)
    ∧ (∀ a slot dst kind,
        ((s.entry a).written = true → (s.entry a).visible = true → (s.entry a).consumed = false →
          moves (.readEntry a slot dst kind) [.ctl, .fab] fun u => brings u dst kind (s.entry a).bytes
            ∧ u.ctl = { s.ctl with entries := u.ctl.entries }
            ∧ u.entry a = { s.entry a with consumed := true } ∧ ∀ x, x ≠ a → u.entry x = s.entry x)
        ∧ ((s.entry a).written = false ∨ (s.entry a).consumed = true → (∀ x ∈ (s.core core).stalls, x.entry ≠ a) →
          moves (.readEntry a slot dst kind) [.regs, .ctl] fun u => u.ctl = { s.ctl with cores := u.ctl.cores }
            ∧ (∀ c, c ≠ core → u.core c = s.core c)
            ∧ (u.core core).stalls = (s.core core).stalls
                ++ [⟨a, slot, false, false, if s.slotCome slot then some (max s.now t) else none⟩]
            ∧ RegsBut [(TWS_PLAN_OVERRUN_COUNT, 0)] s u
            ∧ s.counted u TWS_PLAN_OVERRUN_COUNT (if s.slotCome slot then 1 else 0)))
    ∧ (∀ src n, moves (.writeEntry src (.here (.buf n))) [.fab] fun u => s.onlyBuf u core n ∧ u.buf core n = s.buf core src)
    ∧ (∀ src a slot, open_ a → moves (.writeEntry src (.here (.entry a slot))) [.ctl, .mem] fun u =>
        fills u a slot (s.buf core src).stored ∧ writes u a (s.buf core src).stored)
    ∧ (∀ src dst offset slot, sends (.writeEntry src (.torus dst offset slot)) dst 0 0 offset slot 0 (s.buf core src).stored)
    ∧ (∀ src dst coll offset slot,
        sends (.collective src dst coll offset slot) dst 1 coll offset slot s.rank (s.buf core src).stored)
    ∧ (∀ row len a slot, open_ a →
        let half := if s.lst.current.map (·.2) = some (s.genOf core serial) then s.lst.embHalf else 1 - s.lst.embHalf
        let l := s.readBytes .tierA (s.embBase half + row * len) len
        moves (.embedding row len a slot) [.regs, .ctl, .mem] fun u => fills u a slot l
          ∧ RegsBut [(MEM_CAP_WAIT_CNT_COUNT, 0)] s u ∧ u.mem = { s.mem with cst := u.mem.cst, moved := u.mem.moved }
          ∧ ∀ x, u.readByte .cst x = if a ≤ x ∧ x < a + l.length then nth 0#8 l (x - a) else s.readByte .cst x)
    ∧ (∀ src pt layer kvHeads kvHead pos value q l x w c, let o := DmaOp.writeKv src pt layer kvHeads kvHead pos value
        s.buf core src = .kv q l → s.sess pt = some x → s.workLaunch core serial = some w → x.columnAt pos = some c →
        let ours := w.entries.any fun e => e.session == x.num && x.queue.any fun r => r.serial == e.serial && stepWrites x r e pos
        let at_ := c.kvAt x.kvFmt (layer * kvHeads + kvHead) pos value
        let lies (u : State) (f : Nat → Byte) : Prop := u.mem.cst = s.mem.cst
          ∧ (∀ a, u.readByte c.space a = f a) ∧ ∀ sp, sp ≠ c.space → ∀ a, u.readByte sp a = s.readByte sp a
        (ours = false → exec (.dma t core serial o []) s = .next (s.advance t))
        ∧ (ours = true → x.kvFmt = 0 → l.length = 128 → moves o [.regs, .mem] fun u =>
            RegsBut [(MEM_CAP_WAIT_CNT_COUNT, 0)] s u
            ∧ lies u fun a => if at_.1 ≤ a ∧ a < at_.1 + 128 then nth 0#8 l (a - at_.1) else s.readByte c.space a)
        ∧ (ours = true → x.kvFmt ≠ 0 → l.length = 68 → moves o [.regs, .mem] fun u =>
            RegsBut [(MEM_CAP_WAIT_CNT_COUNT, 0)] s u
            ∧ lies u fun a => if at_.2 ≤ a ∧ a < at_.2 + 4 then nth 0#8 l (17 * (a - at_.2) + 16)
              else if at_.1 ≤ a ∧ a < at_.1 + 64 then nth 0#8 l (17 * ((a - at_.1) / 16) + (a - at_.1) % 16)
              else s.readByte c.space a))

/-- Attention (R162, R165 to R168, R173, R174, R180, R203): a unit whose sequence is its own to take, with pages of the step's
generation for every key it sees, computes every segment and leaves one output of 128 elements for each row, +0 for a row that
sees no key; an entry with no query token is skipped; a merge consumes another unit's records; the backward pass leaves the
gradients of every row and key.
Its conclusions are that exec ANSWERS A NEXT STATE for: attentionForward, attentionBackward, segmentMerge. -/
def Obligations.AttentionWorks : Prop :=
  ∀ (t : Nat) (o : AttnOps) (s : State), let e := s.lenAt o.table
    let segs := List.range (ceilDiv e.top 4096)
    (∀ w, e.ok = true → 0 < e.qcnt → s.launchOn o.core ≠ none → s.attnWork o e = some w →
      pteBad w.session e w.launch.gen segs = false →
      (∀ n, decide (e.qcnt ≤ s.hubMax) = decide (512 ≤ o.core) →
        Ends (exec (.attentionForward t o segs (.buf n) .good []) s) fun u => SameBut [.regs, .now, .arbs, .mem, .fab] s u
          ∧ u.mem = { s.mem with cst := u.mem.cst, moved := u.mem.moved } ∧ (e.stats = none → u.mem.cst = s.mem.cst)
          ∧ (∀ k, k ≠ 65536 * o.core + n → SMap.get .empty u.fab.bufs k = SMap.get .empty s.fab.bufs k)
          ∧ ∃ outs, u.buf o.core n = .heads w.serial outs ∧ outs.length = e.qcnt * o.heads.length
            ∧ ∀ r, r < outs.length → (nth [] outs r).length = 128
              ∧ ((∀ p, e.visible (e.qpos + r / max o.heads.length 1) p = false) → nth [] outs r = List.replicate 128 0#16))
      ∧ (∀ b, o.core < 512 → Ends (exec (.attentionBackward t o b .good []) s) fun u =>
          SameBut [.regs, .now, .arbs, .mem, .fab] s u ∧ u.mem = { s.mem with moved := u.mem.moved }
          ∧ (∀ k, k ≠ 65536 * o.core + b.dst → SMap.get .empty u.fab.bufs k = SMap.get .empty s.fab.bufs k)
          ∧ ∃ recs, u.buf o.core b.dst = .grads w.serial recs ∧ recs.length = e.qcnt * o.heads.length + 2 * e.top))
    ∧ (e.ok = true → e.qcnt = 0 → ∀ segments dst check errs,
        exec (.attentionForward t o segments dst check errs) s = .next (s.advance t))
    ∧ (∀ core n a slot serial qpos heads nrows nseg stats states, s.buf core n = .rows serial qpos heads nrows nseg stats states →
        (s.entry a).written = true → (s.entry a).visible = true → (s.entry a).consumed = false →
        Ends (exec (.segmentMerge t core n a slot) s) fun u => SameBut [.regs, .now, .arbs, .ctl, .mem, .fab] s u
          ∧ RegsBut [(ATN_SEG_MERGE_CNT_COUNT, 0), (ATN_EMPTY_ROW_CNT_COUNT, 0)] s u ∧ s.onlyBuf u core n
          ∧ u.entry a = { s.entry a with consumed := true } ∧ (∀ x, x ≠ a → u.entry x = s.entry x))

/-- The moves of page columns (R197, R199, R204): where the rate allows it, the move of a pausing session's last column to tier B ends,
its old pages freed and the session PAUSED, and that of a resuming one's last column to tier A, and it is ACTIVE with its RESUME
completed; a column that had no room begins its move again when its wait is over, into pages taken for it, and waits another 1,000
slot lengths where its function can have none.
Its conclusions are that exec ANSWERS A NEXT STATE for: demoteColumn, promoteColumn, migrationRetry. -/
def Obligations.ColumnsMove : Prop :=
  ∀ (t fn handle : Nat) (s : State) (x : Session) (c : Column), s.openSess fn handle = some x → s.sess x.num = some x →
    (∀ l from_, x.lowestOf (·.move.isSome) = some c → c.move = some (l, from_) → s.mem.evictWait = [] → s.mem.retireWait = [] →
      (s.advance t).copyEnd from_ c.pages.length ≤ (s.advance t).copyCap →
      (∀ d ∈ x.columns, d.index ≠ c.index → d.tierB = !c.tierB) →
      let cols := x.columns.map fun d =>
        if d.index = c.index then { d with tierB := !c.tierB, pages := l, retryAt := 0, move := none } else d
      (x.state = .pausing → c.tierB = false → Ends (exec (.demoteColumn t fn handle []) s) fun u =>
        SameBut [.regs, .now, .arbs, .serve, .mem] s u ∧ (∀ n, n ≠ x.num → u.sess n = s.sess n)
        ∧ s.counted u KVM_DEMOTE_CNT_COUNT ∧ u.sess x.num = some { x with state := .paused, columns := cols })
      ∧ (∀ r, x.state = .resuming → c.tierB = true → x.queue = [r] → r.ops = .resume → r.phase ≠ .queued → s.hostReady r.queue →
        Ends (exec (.promoteColumn t fn handle []) s) fun u =>
          SameBut [.regs, .now, .arbs, .hif, .serve, .mem] s u ∧ (∀ n, n ≠ x.num → u.sess n = s.sess n)
          ∧ s.counted u KVM_PROMOTE_CNT_COUNT
          ∧ u.sess x.num = some { x with state := .active, columns := cols, queue := [] }
          ∧ ∃ d, u.posted r.queue d ∧ d.tag = r.tag ∧ d.status = 0x00 ∧ d.opcode = 0x06 ∧ d.handle = x.handle
            ∧ d.time = max s.now t))
    ∧ (x.state = .pausing → (s.advance t).mayMove x = true →
      x.lowestOf (fun d => d.tierB == false && (s.advance t).takable d && d.retryAt != 0 && decide (d.retryAt ≤ max s.now t))
        = some c →
      (0 < c.pages.length → s.fits x.fn true c.pages.length = true →
        Ends (exec (.migrationRetry t fn handle) s) fun u => SameBut [.now, .serve, .free] s u
          ∧ (∀ n, n ≠ x.num → u.sess n = s.sess n)
          ∧ ∃ l, l.length = c.pages.length ∧ u.sess x.num = some { x with columns := x.columns.map fun d =>
              if d.index = c.index then { d with move := some (l, (s.advance t).copyCap), retryAt := 0 } else d })
      ∧ (s.rd KVM_FN_QUOTA_B_PAGES x.fn < c.pages.length →
        Ends (exec (.migrationRetry t fn handle) s) fun u => SameBut [.now, .serve] s u
          ∧ u.sess x.num = some { x with columns := x.columns.map fun d =>
              if d.index = c.index then { d with retryAt := max s.now t + 1000 * s.slotLen * 1000 } else d }))

/-- The weight and object requests (R208, R218, R225, R228): each that passes its checks begins what it asks for, a bind, a
swap in its Prepare phase, a load of its slot whose first READ, which waits while its port is
down or paused, fetches the manifest, an adapter's unload, and completes later;
an ADAPTER_LOAD takes its number at once and completes OK.
How they end (R208, R215, R218, R226, R227, R228): the checked object's slot is CHECKED and its load completes with the object's
size in MiB; the bound image becomes CURRENT; a swap goes through Lasting and Switch to its end,
in a partition once the home module has announced the boundary, 64 slots ahead, which it does when every module has done its lastings; an unused adapter's object is
CHECKED again; each completes OK.
Its conclusions are that exec ANSWERS A NEXT STATE for: bindWeights, swapWeights, loadObject, adapterLoad, adapterUnload,
objectCheckComplete, bindComplete, swapPrepareComplete, swapSwitch, swapEnd, adapterUnloadComplete. -/
def Obligations.WeightRequests : Prop :=
  (∀ (t : Nat) (h : EntryHdr) (s : State), h.rsvZero = true → s.bit SMS_STATUS_MODULE_FAULT = false →
    let owner : Owner := ⟨s.hif.serial, h.fn, h.queue, h.tag⟩
    (∀ slot gen verify, h.fn = 0 → (s.obj slot).state = .checked → (s.obj slot).isBase = true → s.running = true →
      s.lst.current = none → s.lst.bind = none → s.bindable (s.obj slot).content = true →
      Ends (exec (.bindWeights t h slot gen verify) s) fun u => SameBut [.regs, .now, .arbs, .hif, .lst, .mem, .fab] s u
        ∧ RegsBut [(LST_VERIFY_FAIL_CNT_COUNT, 0)] s u ∧ u.hif.out = s.hif.out
        ∧ u.mem = { s.mem with tierA := u.mem.tierA }
        ∧ u.lst.bind = some ⟨slot, gen, some owner,
            s.verifyFails (s.obj slot).content.cellsAt verify (s.obj slot).content.positions, (s.obj slot).content.positions⟩)
    ∧ (∀ slot gen old cur, h.fn = 0 → ((s.obj slot).state = .checked ∧ (s.obj slot).isBase = true ∨ (s.obj slot).state = .current) →
      s.lst.current = some (old, cur) → s.lst.bind = none → s.lst.swap = none → s.running = true → genLater gen cur = true →
      (∀ g ∈ s.liveGens, genLater gen g = true) → s.bindable (s.obj slot).content = true →
      Ends (exec (.swapWeights t h slot gen) s) fun u => SameBut [.now, .arbs, .hif, .lst] s u ∧ u.hif.out = s.hif.out
        ∧ ∃ left, u.lst = { s.lst with swap := some ⟨slot, old, gen, cur, some owner, .prepare, left, none, 0⟩ })
    ∧ (∀ o, s.slotAvailable h.fn o.slot = true → s.qpReady h.fn o.port o.qp = true → s.bit LST_CTRL_EN = true →
      4096 ≤ o.length → o.length ≤ 2 ^ 40 → o.length ≤ s.objFree →
      Ends (exec (.loadObject t h o) s) fun u => SameBut [.now, .arbs, .hif, .lst, .lnk] s u ∧ u.hif.out = s.hif.out
        ∧ (u.obj o.slot).state = .loading ∧ (u.obj o.slot).fn = h.fn ∧ u.lst.loads = s.lst.loads ++ [o.slot]
        ∧ (s.loadsOn o.port o.qp = [] → o.slot ∉ s.lst.loads →
            let k := qpBank o.port o.qp
            let first : ReadReq := ⟨o.port, o.qp, o.rkey, o.remoteAddr, 4096, s.rd LNK_Ss_QP_DQPN_QPN k, s.qpMtu o.port o.qp,
              SMap.get 0 s.lnk.psnNext k, s.vlanTag o.port, s.rd LNK_Ss_CTRL_DSCP o.port⟩
            ((s.advance t).portSends o.port = true →
              u.lnk.reads = s.lnk.reads ++ s.lnk.readsHeld.filter (·.port == o.port) ++ [first])
            ∧ ((s.advance t).portSends o.port = false →
              u.lnk.reads = s.lnk.reads ∧ u.lnk.readsHeld = s.lnk.readsHeld ++ [first])))
    ∧ (∀ slot cur g fs, 1 ≤ h.adapter → h.adapter ≤ 63 → slot ≤ 63 → (s.obj slot).state = .checked → (s.obj slot).fn = h.fn →
      (s.obj slot).isBase = false → (∀ a ∈ s.lst.adapters, (a.fn, a.num) ≠ (h.fn, h.adapter)) → s.lst.current = some (cur, g) →
      s.lst.bind = none → adapterShaped (s.obj slot).content (s.obj cur).content = true →
      adapterRanked (s.obj slot).content (s.obj cur).content = true →
      (s.obj slot).content.factorsFor (s.obj cur).content = some fs → adapterFits (s.obj cur).content fs = true →
      s.hostReady h.queue → Ends (exec (.adapterLoad t h slot) s) fun u => SameBut [.now, .arbs, .hif, .lst] s u
        ∧ u.lst.adapters = s.lst.adapters ++ [⟨h.fn, h.adapter, slot, none⟩]
        ∧ (u.obj slot).state = .adapter ∧ (u.obj slot).adapter = h.adapter ∧ (u.obj slot).content.lowRank = fs
        ∧ u.posted h.queue ⟨h.tag, 0x00, 0x13, 0, 0, max s.now t, slot, 0⟩)
    ∧ (∀ a, s.lst.adapters.find? (fun a => a.fn == h.fn && a.num == h.adapter && a.unload.isNone) = some a →
      Ends (exec (.adapterUnload t h) s) fun u => SameBut [.now, .arbs, .hif, .lst] s u ∧ u.hif.out = s.hif.out
        ∧ u.lst = { s.lst with adapters := u.lst.adapters } ∧ { a with unload := some (some owner) } ∈ u.lst.adapters))
  ∧ (∀ (t : Nat) (s : State) (w : Owner), s.hostReady w.queue →
    (∀ slot l, (s.obj slot).loading = some l → l.owner = w → l.left = [] → l.ops.length ≤ l.next →
      (s.obj slot).content.canonOk = true → Ends (exec (.objectCheckComplete t slot) s) fun u =>
        SameBut [.now, .arbs, .hif, .lst, .lnk] s u ∧ (u.obj slot).state = .checked ∧ (u.obj slot).loading = none
        ∧ u.lst.loads = s.lst.loads.filter (· != slot)
        ∧ u.posted w.queue ⟨w.tag, 0x00, 0x12, 0, 0, max s.now t, ceilDiv (s.obj slot).size 1048576, 0⟩)
    ∧ (∀ b, s.lst.bind = some b → b.owner = some w → b.left = [] → b.probing = [] → (∀ l ∈ s.lst.lastings, l.why ≠ .bind) →
      (∀ p ∈ (s.obj b.slot).content.positions, (s.trk (s.physPos p)).firstRound = true) →
      Ends (exec (.bindComplete t) s) fun u => SameBut [.regs, .now, .arbs, .hif, .lst] s u ∧ u.lst.bind = none
        ∧ u.lst.current = some (b.slot, b.gen) ∧ (u.obj b.slot).state = .current ∧ (u.obj b.slot).gen = b.gen
        ∧ (∀ n, n ≠ b.slot → u.obj n = s.obj n)
        ∧ u.posted w.queue ⟨w.tag, 0x00, 0x10, 0, 0, u.now, b.gen, 0⟩)
    ∧ (∀ x, s.lst.swap = some x → x.phase = .prepare → Ends (exec (.swapPrepareComplete t) s) fun u =>
        SameBut [.now, .lst, .mem] s u ∧ u.lst.swap = some { x with phase := .lasting } ∧ u.lst.current = s.lst.current)
    ∧ (∀ x, s.lst.swap = some x → x.phase = .lasting → x.left = [] → (∀ l ∈ s.lst.lastings, l.why ≠ .swap) → x.slot ≠ x.oldSlot →
        s.inPartition = false ∨ (∃ k, x.announced = some k ∧ (s.running = true → k ≤ s.time.nextK)) →
        Ends (exec (.swapSwitch t) s) fun u => SameBut [.regs, .now, .lst, .free] s u ∧ u.lst.current = some (x.slot, x.gen)
          ∧ (u.obj x.slot).state = .current ∧ (u.obj x.slot).gen = x.gen ∧ (u.obj x.oldSlot).state = .old
          ∧ (u.obj x.oldSlot).gen = x.oldGen ∧ u.lst.swap = some { x with phase := .tail, switchAt := u.now })
    ∧ (∀ x, s.lst.swap = some x → x.phase = .lasting → x.left = [] → (∀ l ∈ s.lst.lastings, l.why ≠ .swap) → x.announced = none →
        s.inPartition = true → s.isHome = true →
        (∀ p ∈ s.otherModules, ∃ r, SMap.get none s.lnk.peers p = some r ∧ r.lasted = some x.gen) →
        Ends (exec (.swapSwitch t) s) fun u => SameBut [.now, .lst] s u
          ∧ u.lst = { s.lst with swap := some { x with announced := some (s.time.nextK + 64) } })
    ∧ (∀ x, s.lst.swap = some x → x.phase = .tail → x.owner = some w → s.boundTo x.oldGen = 0 → s.lst.adapters = [] →
        x.slot ≠ x.oldSlot → Ends (exec (.swapEnd t) s) fun u => SameBut [.now, .arbs, .hif, .lst] s u ∧ u.lst.swap = none
          ∧ u.lst.current = s.lst.current ∧ (u.obj x.oldSlot).state = .checked
          ∧ u.posted w.queue ⟨w.tag, 0x00, 0x11, 0, 0, x.switchAt, x.gen, 0⟩)
    ∧ (∀ fn num a, s.lst.adapters.find? (fun a => a.fn == fn && a.num == num && a.unload.isSome) = some a →
        a.unload = some (some w) → s.adapterInUse fn num = false → Ends (exec (.adapterUnloadComplete t fn num) s) fun u =>
          SameBut [.now, .arbs, .hif, .lst] s u ∧ u.lst.adapters = s.lst.adapters.filter (fun b => !(b.fn == fn && b.num == num))
          ∧ (u.obj a.slot).state = .checked ∧ (u.obj a.slot).adapter = 0
          ∧ u.posted w.queue ⟨w.tag, 0x00, 0x13, 0, 0, max s.now t, a.slot, 0⟩))

/-- Lastings (R219, R220, R222, R223): one that converges has taken 803.84 µs at least, and leaves its position holding its generation, its crossbar undrifted and one
count older; one that has taken 8 ms moves to the free spare of its column and starts anew.
The lehr (R76, R77, R231, R232): the probe of the round's next position, with no load waiting on its cluster and no probe under
way there, takes 8 pass intervals, 16 at most with its repeats, is counted and gives its crossbar ρ from the predicted and the measured totals, and the round
goes on; the refresh first in order starts as a lasting of the generation held.
Its conclusions are that exec ANSWERS A NEXT STATE for: lastingComplete, lastingWatchdog, lehrProbe, lehrRefresh. -/
def Obligations.LastingsAndLehr : Prop :=
  (∀ (t p : Nat) (s : State) (l : Lasting), s.lst.lastings.find? (·.pos == p) = some l → l.why ≠ .retire → l.why ≠ .site →
    (l.start + 803840 ≤ max s.now t → Ends (exec (.lastingComplete t p []) s) fun u => SameBut [.regs, .now, .lst, .fab] s u
      ∧ RegsBut [(LST_RELAST_CNT_COUNT, 0), (LST_LEHR_REFRESH_CNT_COUNT, 0)] s u ∧ s.counted u LST_RELAST_CNT_COUNT
      ∧ u.lst.lastings = s.lst.lastings.filter (·.pos != p) ∧ SMap.get 0 u.lst.holds p = l.gen + 1
      ∧ SMap.get 0 u.lst.endurance (s.lastPhys l) = SMap.get 0 s.lst.endurance (s.lastPhys l) + 1
      ∧ u.corr (s.lastPhys l) = { XbCorr.init with lastedAt := (max s.now t : Nat) }
      ∧ u.fab = { s.fab with corr := u.fab.corr })
    ∧ (l.start + 8000000 ≤ max s.now t → s.spareFree p = true → Ends (exec (.lastingWatchdog t p) s) fun u =>
        SameBut [.regs, .now, .lst] s u ∧ RegsBut [(LST_WATCHDOG_CNT_COUNT, 0), (LST_XB_SUB_CNT_COUNT, 0)] s u
        ∧ s.counted u LST_WATCHDOG_CNT_COUNT ∧ s.counted u LST_XB_SUB_CNT_COUNT
        ∧ SMap.get false u.lst.onSpare p = true
        ∧ u.lst.lastings.find? (·.pos == p) = some { l with start := max s.now t, remap := true })
    ∧ (max s.now t < l.start + 803840 → exec (.lastingComplete t p []) s = .next (s.advance t))
    ∧ (max s.now t < l.start + 8000000 → exec (.lastingWatchdog t p) s = .next (s.advance t)))
  ∧ (∀ (t p : Nat) (s : State), s.lst.bind = none → s.lehrHeld = false → s.bit LST_CTRL_LEHR_EN = true →
    (∀ charges, s.lehrTarget = some p → s.lst.lehrStart ≤ max s.now t → s.underLasting p = false →
      (∀ w ∈ s.fab.waiting, w.on (posCore p) (posCluster p) = false) → (s.advance t).probing (posCore p) (posCluster p) = false →
      let cells := (s.contentOf (SMap.get 0 s.lst.holds p - 1)).cellsAt p
      let r := cells.probes charges (posRow p) (posCol p)
      Ends (exec (.lehrProbe t p charges) s) fun u =>
        SameBut [.regs, .now, .arbs, .hif, .serve, .lst, .ctl, .sms, .fab, .lnk, .ptm, .mgt] s u
        ∧ s.counted u LST_LEHR_PROBE_CNT_COUNT ∧ (u.lst.lehrNext = p + 1 ∨ u.lst.lehrNext = 0)
        ∧ (∃ n, 8 ≤ n ∧ n ≤ 16 ∧ s.counted u AMF_PASS_CNT_COUNT n
            ∧ SMap.get 0 u.fab.busyUntil (8 * posCore p + posCluster p)
              = (s.advance t).driveFrom (posCore p) (posCluster p) + 64 * n)
        ∧ (r.kept ≠ [] → (u.corr (s.physPos p)).rho =
            rhoOf (sumN (r.kept.map fun k => cells.windowTotal k.win.window)) (sumI (r.kept.map ProbeCodes.total))))
    ∧ (∀ r, s.nextRefresh = some r → r.pos = p → SMap.get 0 s.lst.holds p ≠ 0 → (∀ l ∈ s.lst.lastings, l.pos ≠ p) →
      (s.lst.lastings.filter (·.why == .refresh)).length < s.maxRefresh → s.lst.lastings.length < s.maxLastings →
      s.coreLastings (posCore p) < 4 → Ends (exec (.lehrRefresh t p) s) fun u =>
        SameBut [.regs, .now, .arbs, .hif, .lst, .sms, .fab] s u
        ∧ (∃ x ∈ u.lst.lastings, x.pos = p ∧ x.why = .refresh ∧ x.gen = SMap.get 0 s.lst.holds p - 1)
        ∧ u.lst.refreshQ = s.lst.refreshQ.filter (·.pos != p)))

/-- Converter tracking and drift (R94, R95, R98, R103, R115, R393).  A visit of a crossbar's next slice starts: a row-side one, with no
transpose vector on the cluster, is only noted, a column-side one first updates CS's own values.  Between vectors CS takes the
columns of a visited column-side slice; the visit's end, between vectors too, takes CS off, updates the slice, moves the round on and
counts a round that every tracked crossbar has done; where visits have stopped meanwhile it only takes CS off.  An update waits for a
boundary, or takes effect at once while the wheel stands; each value stored at its limit is counted.  A drift update that is due gives
every crossbar its new drift, for the boundary or at once, and asks LST to relast each at 2^-3.  The spare monitor converter updates
the next working one, replaces it for good at a limit, and a second one at a limit is a module fault.
Its conclusions are that exec ANSWERS A NEXT STATE for: trackVisit, trackSwapIn, trackSwapOut, wltDriftUpdate,
monitorTrackVisit. -/
def Obligations.TrackingVisits : Prop :=
  ∀ (t phys : Nat) (s : State),
    let x := s.trk phys
    let v := s.advance t
    let core := posCore phys
    let cluster := posCluster phys
    let visited (k : Nat) (l : List Ladder) : SliceTrk × Nat :=
      (match x.waiting.find? fun (w : Nat × SliceTrk) => w.1 == k with
        | some w => w.2
        | none => SMap.get SliceTrk.init x.slices k).visit l
    let updates (u : State) (y : XbTrk) (k : Nat) (l : List Ladder) : Prop :=
      SameBut [.regs, .now, .arbs, .hif, .serve, .ctl, .sms, .fab, .lnk, .ptm, .mgt] s u
      ∧ (s.running = true → (SMap.rises s.fab.track = true → ∀ p, p ≠ phys → { u.trk p with round := false } = { s.trk p with round := false })
          ∧ u.trk phys = { y with
              waiting := y.waiting.filter (·.1 != k) ++ [(k, (visited k l).1)], round := (u.trk phys).round })
      ∧ (s.running = false → SMap.get SliceTrk.init (u.trk phys).slices k = (visited k l).1 ∧ (u.trk phys).waiting = []
          ∧ (u.trk phys).visit = y.visit ∧ (u.trk phys).next = y.next ∧ (u.trk phys).last = y.last)
      ∧ (0 < (visited k l).2 → s.counted u CCV_TRK_LIMIT_CNT_COUNT (visited k l).2)
      ∧ ((visited k l).2 = 0 → SameBut [.regs, .now, .fab, .ptm] s u ∧ RegsBut [(CCV_TRK_ROUND_COUNT, 0)] s u)
    let only (u : State) (y : XbTrk) : Prop := SameBut [.now, .fab] s u ∧ u.trk phys = y ∧ (∀ p, p ≠ phys → u.trk p = s.trk p)
      ∧ u.fab = { s.fab with track := u.fab.track, banks := u.fab.banks }
      ∧ ∀ b, u.bank core cluster b = if b < 2 then (s.bank core cluster b).respare (max s.now t) phys y.spare else s.bank core cluster b
    (∀ cs, v.visitsRun phys = true → x.visit = none → (x.last = 0 ∨ x.last + s.trackPeriod x ≤ max s.now t) →
      let n := x.nextVisit
      let y := { x with visit := some (visitSlice n, false), next := n, last := max s.now t }
      (17 ≤ n → s.transposing core cluster = false →
        Ends (exec (.trackVisit t phys cs) s) fun u => SameBut [.now, .fab] s u ∧ u.fab = { s.fab with track := u.fab.track }
          ∧ u.trk phys = y ∧ ∀ p, p ≠ phys → u.trk p = s.trk p)
      ∧ (n < 17 → Ends (exec (.trackVisit t phys cs) s) fun u => updates u y 17 cs))
    ∧ (∀ k, x.visit = some (k, false) → k < 17 → v.visitsRun phys = true → v.driving core cluster = false →
      Ends (exec (.trackSwapIn t phys) s) fun u => only u { x with visit := some (k, true) })
    ∧ (∀ k sw l, x.visit = some (k, sw) → v.lastedNow phys = false → v.driving core cluster = false →
      (v.visitsRun phys = false → Ends (exec (.trackSwapOut t phys l) s) fun u => only u { x with visit := none })
      ∧ (v.visitsRun phys = true → (17 ≤ k ∨ sw = true) → Ends (exec (.trackSwapOut t phys l) s) fun u =>
          updates u { x with visit := none, next := (x.next + 1) % 25 } k l
          ∧ (s.running = true → (visited k l).2 = 0 →
              let all := ∀ p ∈ s.trackedXbs, p ≠ phys → v.visitsRun p = true → (s.trk p).round = true
              ((x.next + 1) % 25 ≠ 0 → (u.trk phys).round = x.round ∧ u.regs = s.regs)
              ∧ ((x.next + 1) % 25 = 0 → all → s.counted u CCV_TRK_ROUND_COUNT ∧ ∀ p, (u.trk p).round = false)
              ∧ ((x.next + 1) % 25 = 0 → ¬all → (u.trk phys).round = true ∧ u.regs = s.regs))))
    ∧ (s.fab.driftAt + max 1 (s.rd WLT_DRIFT_CTRL_PERIOD) * 1000000 ≤ max s.now t →
      Ends (exec (.wltDriftUpdate t) s) fun u => SameBut [.now, .lst, .fab, .ptm] s u ∧ u.fab.driftAt = max s.now t
        ∧ u.lst = { s.lst with refreshQ := u.lst.refreshQ }
        ∧ (s.running = true → u.ptm = s.ptm ∧ u.fab = { s.fab with driftAt := u.fab.driftAt, corr := u.fab.corr }
            ∧ ∀ p, u.corr p = if p ∈ s.driftXbs then { s.corr p with driftNew := some (v.driftOf p) } else s.corr p)
        ∧ (s.running = false → SMap.rises s.fab.corr = true →
            ∀ p, (u.corr p).driftNew = none ∧ (p ∈ s.driftXbs → (u.corr p).drift = v.driftOf p))
        ∧ (∀ p q, p ∈ s.driftXbs → v.driftOf p = 8192 → s.logicalOf p = some q →
            ∃ r ∈ u.lst.refreshQ, r.pos = q ∧ r.order ≤ 1)
        ∧ ((∀ p ∈ s.driftXbs, v.driftOf p < 8192) → u.lst.refreshQ = s.lst.refreshQ))
    ∧ (max s.now t < s.fab.driftAt + max 1 (s.rd WLT_DRIFT_CTRL_PERIOD) * 1000000 → exec (.wltDriftUpdate t) s = .next v)
    ∧ (∀ die l, die < 3 → s.mainOn = true → s.rd PTM_PSTATE_STATE ≠ 1 →
      (SMap.get 0 s.ptm.convAt die = 0 ∨ SMap.get 0 s.ptm.convAt die + 100000000 ≤ max s.now t + 1) →
      let n := SMap.get 0 s.ptm.convNext die
      let c := SMap.get MonConv.init s.ptm.convs (16 * die + n)
      let o := monStep (!c.visited) c.offset l.zero 2 128
      let g := monStep (!c.visited) c.gain (l.plus - l.minus - 12288) 3 32
      let spare := SMap.get 0 s.ptm.convSpare die
      let after : PtmSt := { s.ptm with
        convs := SMap.put MonConv.init s.ptm.convs (16 * die + n) ⟨o.1, g.1, true, o.2 || g.2⟩
        convNext := SMap.put 0 s.ptm.convNext die ((n + 1) % convCount die)
        convAt := SMap.put 0 s.ptm.convAt die (max s.now t + 1) }
      ((o.2 || g.2) = false ∨ spare = n + 1 ∨ (spare ≠ 0 ∧ c.atLimit = true) →
        Ends (exec (.monitorTrackVisit t die l) s) fun u => SameBut [.now, .ptm] s u ∧ u.ptm = after)
      ∧ ((o.2 || g.2) = true → spare = 0 →
        Ends (exec (.monitorTrackVisit t die l) s) fun u => SameBut [.regs, .now, .hif, .sms, .ptm] s u
          ∧ u.ptm = { after with convSpare := SMap.put 0 s.ptm.convSpare die (n + 1) })
      ∧ ((o.2 || g.2) = true → spare ≠ 0 → spare ≠ n + 1 → c.atLimit = false →
        Ends (exec (.monitorTrackVisit t die l) s) fun u =>
          SameBut [.regs, .now, .arbs, .hif, .serve, .ctl, .sms, .lnk, .ptm, .mgt] s u ∧ u.ptm = after
          ∧ (s.ctl.restarting = false → u.bit SMS_STATUS_MODULE_FAULT = true)))

/-- PPS (R238, R239): an edge within 100 ns of the second after the last is counted, the eighth in a row locks a source that
TWS_DISC_CTRL names, QUALITY becomes 2 with an error of 50 ns; a worse one starts the count again; TWS_OFFSET shows what a source
that is named measures; two seconds without an edge end the lock
in HOLDOVER, counted.
PTP (R238, R349, R350): an accepted Sync is counted and the sixteenth good one locks with QUALITY 3; a Delay_Req is sent to
the master, no sooner than it asks for, and its answer gives the path delay; an Announce joins the data sets compared, the only one heard is the master, and
one that stops is dropped; four seconds without a Sync end the lock.
Its conclusions are that exec ANSWERS A NEXT STATE for: ppsEdge, ppsLoss, ptpSync, ptpDelayReq, ptpDelayResp, ptpAnnounce,
ptpAnnounceTimeout, ptpLoss. -/
def Obligations.TimeSources : Prop :=
  (∀ (t : Nat) (s : State), s.mainOn = true →
    (∀ stamp : Nat, let e := ((stamp : Int) - 2 * sext 16 (s.rd TWS_PPS_DELAY_DELAY)).toNat
      let good := ∃ d, s.edgeError e = some (1, d) ∧ d ≤ 200
      let shows (u : State) : Prop :=
        s.usesPps = true → u.rd TWS_OFFSET_NS = toCode 32 (clampI (-2147483647) 2147483647 (edgeOffset e))
      s.bit TWS_STATUS_PPS_OK = false → s.time.ppsRound = false →
      (good → s.time.ppsGood < 7 →
        Ends (exec (.ppsEdge t stamp) s) fun u => SameBut [.regs, .now, .time] s u ∧ RegsBut [(TWS_OFFSET_NS, 0)] s u ∧ shows u
          ∧ u.time.ppsGood = s.time.ppsGood + 1 ∧ u.time.ppsLast = some e ∧ u.now = max s.now t)
      ∧ (good → s.time.ppsGood = 7 → s.usesPps = true → s.bit TWS_STATUS_PTP_OK = false →
        Ends (exec (.ppsEdge t stamp) s) fun u =>
          SameBut [.regs, .now, .time, .hif, .lst, .fab, .mgt] s u ∧ shows u ∧ u.bit TWS_STATUS_PPS_OK = true
          ∧ u.rd TWS_STATUS_QUALITY = 2 ∧ u.time.errBase = some 50)
      ∧ (¬good → Ends (exec (.ppsEdge t stamp) s) fun u => SameBut [.regs, .now, .time] s u ∧ RegsBut [(TWS_OFFSET_NS, 0)] s u
          ∧ shows u ∧ u.time.ppsGood = 0))
    ∧ (s.bit TWS_STATUS_PPS_OK = true → s.time.ppsSeen + 2000010000 ≤ max s.now t → s.bit TWS_STATUS_PTP_OK = false →
        s.rd TWS_STATUS_QUALITY = 2 → Ends (exec (.ppsLoss t) s) fun u => SameBut [.regs, .now, .time, .hif] s u
          ∧ u.bit TWS_STATUS_PPS_OK = false ∧ u.rd TWS_STATUS_QUALITY = 4 ∧ s.counted u TWS_HOLDOVER_CNT_COUNT
          ∧ u.time.ppsGood = 0 ∧ u.time.ppsLast = none)
    ∧ (max s.now t < s.time.ppsSeen + 2000010000 → exec (.ppsLoss t) s = .next (s.advance t)))
  ∧ (∀ (t : Nat) (s : State),
    (∀ (f : PtpFrom) (origin correction : Int) (interval stamp : Nat), s.fromMaster f = true → 7812500 ≤ interval → interval ≤ 2000000000 →
      let half : Int := 2 * (origin + correction) + s.time.ptpDelay - s.ptpStamp stamp
      s.bit TWS_STATUS_PTP_OK = false → s.time.ptpSeen ≠ 0 → (half - s.time.ptpLastOff).natAbs ≤ 2000 →
      (s.time.ptpGood < 15 → Ends (exec (.ptpSync t f origin correction interval stamp) s) fun u =>
        SameBut [.regs, .now, .time] s u ∧ RegsBut [(LNK_PTP_SYNC_CNT_COUNT, 0), (TWS_OFFSET_NS, 0)] s u
        ∧ s.counted u LNK_PTP_SYNC_CNT_COUNT ∧ u.time.ptpGood = s.time.ptpGood + 1
        ∧ u.time.ptpT1 = 2 * (origin + correction) ∧ u.time.ptpT2 = s.ptpStamp stamp ∧ u.time.ptpLastOff = half)
      ∧ (s.time.ptpGood = 15 → s.usesPtp = true → Ends (exec (.ptpSync t f origin correction interval stamp) s) fun u =>
        SameBut [.regs, .now, .time, .hif, .lst, .fab, .mgt, .free] s u ∧ s.counted u LNK_PTP_SYNC_CNT_COUNT
        ∧ u.bit TWS_STATUS_PTP_OK = true ∧ u.rd TWS_STATUS_QUALITY = 3))
    ∧ (∀ p id stamp, s.time.master = some (p, id) → s.ptpPort p = true → s.time.ptpDelayAt + s.time.ptpDelayMin ≤ max s.now t →
        Ends (exec (.ptpDelayReq t stamp) s) fun u =>
        SameBut [.now, .time, .lnk] s u ∧ u.lnk = { s.lnk with delayReqs := s.lnk.delayReqs + 1 }
        ∧ u.time.rest = { s.time.rest with ptpT3 := some (s.ptpStamp stamp), ptpDelayAt := max s.now t })
    ∧ (max s.now t < s.time.ptpDelayAt + s.time.ptpDelayMin → ∀ stamp, exec (.ptpDelayReq t stamp) s = .next (s.advance t))
    ∧ (∀ f t4 correction least t3, s.time.ptpT3 = some t3 → s.fromMaster f = true → s.time.ptpSeen ≠ 0 →
        Ends (exec (.ptpDelayResp t f t4 correction least) s) fun u => SameBut [.now, .time] s u
          ∧ u.time.rest = { s.time.rest with
              ptpT3 := none, ptpDelayMin := least
              ptpDelay := divAway ((s.time.ptpT2 - s.time.ptpT1) + (2 * (t4 - correction) - t3)) 2 })
    ∧ (∀ f rank interval, s.ptpHears f = true → s.time.masters = [] → s.time.master = none →
        Ends (exec (.ptpAnnounce t f rank interval) s) fun u => SameBut [.regs, .now, .time, .hif, .free] s u
          ∧ u.time.masters = [⟨f.port, f.id, rank, max s.now t, interval, f.domain, f.transport⟩] ∧ u.time.master = some (f.port, f.id)
          ∧ u.rd LNK_PTP_MASTER_ID = f.id % 2 ^ 64)
    ∧ (∀ port id, Ends (exec (.ptpAnnounceTimeout t port id) s) fun u => SameBut [.regs, .now, .time, .hif, .free] s u
        ∧ u.time.masters = s.time.masters.filter fun m =>
            !(m.port == port && m.id == id && decide (m.last + 3 * m.interval ≤ max s.now t)))
    ∧ (s.bit TWS_STATUS_PTP_OK = true → s.time.ptpSeen + 4000000000 ≤ max s.now t →
        Ends (exec (.ptpLoss t) s) fun u => SameBut [.regs, .now, .time, .hif, .free] s u ∧ u.bit TWS_STATUS_PTP_OK = false
          ∧ u.time.ptpGood = 0)
    ∧ (max s.now t < s.time.ptpSeen + 4000000000 → exec (.ptpLoss t) s = .next (s.advance t)))

/-- External time and the wheel (R237, R240, R243, R262): TREF_OK follows the reference; TIME_SET steps a standing wheel's time
and gives a running one a target to slew to; RUN = 1 starts the wheel at its next boundary where LEN fits and RUN = 0 stops it
where nothing runs, each else refused with CFG_ERR; an estimate above LIMIT raises UNLOCK once.
Its conclusions are that exec ANSWERS A NEXT STATE for: trefLoss, trefReturn, twsTimeSet, twsRunStart, twsRunStop,
errorEstimateUnlock. -/
def Obligations.TimeAndTheWheel : Prop :=
  ∀ (t : Nat) (s : State),
    (Ends (exec (.trefLoss t) s) fun u => SameBut [.regs, .now] s u ∧ RegsBut [(TWS_STATUS_TREF_OK, 0)] s u
      ∧ u.bit TWS_STATUS_TREF_OK = false)
    ∧ (s.mainOn = true → Ends (exec (.trefReturn t) s) fun u => SameBut [.regs, .now] s u
      ∧ RegsBut [(TWS_STATUS_TREF_OK, 0)] s u ∧ u.bit TWS_STATUS_TREF_OK = true)
    ∧ (s.accepts 0 = true → s.bit TWS_STATUS_PPS_OK = false → s.bit TWS_STATUS_PTP_OK = false → ∀ x, x < 2 ^ 64 →
      (s.running = false → Ends (exec (.twsTimeSet t 0 x) s) fun u => SameBut [.regs, .now, .time, .hif, .lst, .fab, .mgt] s u
        ∧ u.now = x ∧ u.rd TWS_STATUS_QUALITY = 1 ∧ u.time.errBase = some 0)
      ∧ (s.running = true → Ends (exec (.twsTimeSet t 0 x) s) fun u => SameBut [.regs, .now, .time, .hif] s u
        ∧ u.now = max s.now t ∧ u.time.slewLeft = (x : Int) - (max s.now t : Nat) ∧ u.rd TWS_STATUS_QUALITY = 1))
    ∧ (s.accepts 0 = true → s.running = false →
      (8 ≤ s.slotLen → s.slotLen ≤ 1024 → Ends (exec (.twsRunStart t 0) s) fun u => SameBut [.regs, .now, .time] s u
        ∧ RegsBut [(TWS_CTRL_RUN, 0)] s u ∧ u.running = true
        ∧ u.time.rest = { s.time.rest with nextK := s.firstK (max s.now t), slotNow := none })
      ∧ (s.slotLen < 8 ∨ 1024 < s.slotLen → Ends (exec (.twsRunStart t 0) s) fun u => SameBut [.regs, .now] s u
        ∧ RegsBut [(TWS_CTRL_CFG_ERR, 0)] s u ∧ u.bit TWS_CTRL_CFG_ERR = true))
    ∧ (s.accepts 0 = true → s.running = true →
      ((s.advance t).mayStop = true → s.commits = [] → Ends (exec (.twsRunStop t 0) s) fun u =>
        SameBut [.regs, .now, .arbs, .hif, .lst, .serve, .sms, .fab, .lnk, .ptm, .time, .commits] s u ∧ u.running = false
        ∧ u.time.slotNow = none ∧ u.now = max s.now t)
      ∧ ((s.advance t).mayStop = false → Ends (exec (.twsRunStop t 0) s) fun u => SameBut [.regs, .now] s u
        ∧ RegsBut [(TWS_CTRL_CFG_ERR, 0)] s u ∧ u.bit TWS_CTRL_CFG_ERR = true))
    ∧ ((s.advance t).unlocked = true → s.time.unlocked = false → Ends (exec (.errorEstimateUnlock t) s) fun u =>
        SameBut [.regs, .now, .time, .hif] s u ∧ RegsBut [(TWS_EVENT_UNLOCK, 0)] s u ∧ u.bit TWS_EVENT_UNLOCK = true
        ∧ u.time.unlocked = true)

/-- Torus flits (R334, R335, R336, R338, R340): on an active port a flit of the expected SEQ moves the expectation on, its ACK lets kept
flits go, and an IDLE flit acknowledges it.  A DATA flit of a message for this module is gathered on its channel, and the last one lets
the message wait for its check; one of a message for another module is sent on at once through the next port of its route, and its
space is free again; one of a message that is dropped frees its space.  A CREDIT raises the credits to at most 1,024.  A flit out of
sequence has a NAK sent once; one whose CRC fails is counted and has one too.
Its conclusions are that exec ANSWERS A NEXT STATE for: dataFlit, idleFlit, credit, nak, train. -/
def Obligations.TorusFlitsAreTaken : Prop :=
  ∀ (t p : Nat) (l : List Byte) (s : State), p < 6 → s.rd LNK_Pp_STATUS_STATE p = 2 →
    let x := s.tport p
    (∀ f, flitOf l = some f → x.queue = [] → x.ctl = [] →
      let y : TorusPort := { x with rxNext := (x.rxNext + 1) % 4096, rxIgnore := false, unacked := ackTo f.ack x.unacked }
      let idle (seq : Nat) : Nat × Flit := (p, ⟨0, 0, false, false, seq, (y.rxNext + 4095) % 4096, List.replicate 248 0#8⟩)
      let frees (g : Flit) : Prop := g.kind = 2
        ∧ g.payload = controlPayload 2 0 (if f.vc = 0 then 1 else 0) (if f.vc = 0 then 0 else 1) s.moduleNum p
      let dest := numAt f.payload 0 2 % 4096
      (f.seq = x.rxNext →
        (∀ m, f.kind = 1 → (f.first = true ∧ dest = s.moduleNum ∧ m = []) ∨ (f.first = false ∧ x.rx f.vc = .gather m) →
          (f.last = false → Ends (exec (.dataFlit t p l) s) fun u => SameBut [.now, .arbs, .lnk] s u
            ∧ u.tport p = y.setRx f.vc (.gather (m ++ f.payload))
            ∧ u.lnk = { s.lnk with ports := u.lnk.ports, sent := s.lnk.sent ++ [idle x.txNext] })
          ∧ (f.last = true →
            let whole := m ++ f.payload
            let msg := whole.take (32 + numAt whole 12 4 % 2 ^ 17)
            numAt msg 0 2 / 4096 < 3 → Ends (exec (.dataFlit t p l) s) fun u => SameBut [.now, .arbs, .lnk] s u
              ∧ u.tport p = y.setRx f.vc .none
              ∧ u.lnk = { s.lnk with
                  ports := u.lnk.ports, sent := s.lnk.sent ++ [idle x.txNext]
                  arrived := s.lnk.arrived ++ [⟨p, f.vc, whole.length / 248, msg⟩] }))
        ∧ (f.kind = 1 → f.first = false → x.rx f.vc = .discard ∨ x.rx f.vc = .none → y.unacked.length < 2048 →
          Ends (exec (.dataFlit t p l) s) fun u => SameBut [.now, .arbs, .lnk] s u
            ∧ ∃ g, frees g ∧ u.lnk.sent = s.lnk.sent ++ [(p, g), idle ((x.txNext + 1) % 4096)])
        ∧ (∀ q cross, f.kind = 1 → f.first = true → dest ≠ s.moduleNum → s.hop dest = some (q, cross) → q ≠ p →
          s.rd LNK_Pp_STATUS_STATE q = 2 → y.unacked.length < 2048 →
          let z := s.tport q
          let vc := nextVc (some p) f.vc q cross
          z.queue = [] → z.ctl = [] → z.unacked.length < 2048 → (s.arb (arbLink q)).ends ≤ arbTicks (max s.now t) →
          (if vc = 0 then 0 < z.credit0 ∧ z.busy0 = none else 0 < z.credit1 ∧ z.busy1 = none) →
          Ends (exec (.dataFlit t p l) s) fun u => SameBut [.now, .arbs, .lnk] s u
            ∧ (u.tport p).rx f.vc = (if f.last then .none else .forward q vc s.lnk.nextMsg)
            ∧ ∃ g c, frees c ∧ g.kind = f.kind ∧ g.vc = vc ∧ g.first = f.first ∧ g.last = f.last ∧ g.payload = f.payload
                ∧ u.lnk.sent = s.lnk.sent ++ [(q, g), (p, c), idle ((x.txNext + 1) % 4096)])
        ∧ (f.kind = 0 → Ends (exec (.idleFlit t p l) s) fun u => SameBut [.now, .arbs, .lnk] s u
          ∧ u.lnk = { s.lnk with ports := u.lnk.ports } ∧ u.tport p = { x with unacked := ackTo f.ack x.unacked })
        ∧ (f.kind = 2 → f.op = 2 → Ends (exec (.credit t p l) s) fun u => SameBut [.now, .arbs, .lnk] s u
          ∧ u.lnk = { s.lnk with ports := u.lnk.ports, sent := s.lnk.sent ++ [idle x.txNext] }
          ∧ u.tport p = { y with
              credit0 := min 1024 (x.credit0 + numAt f.payload 4 2), credit1 := min 1024 (x.credit1 + numAt f.payload 6 2) }))
      ∧ (f.seq ≠ x.rxNext → x.rxIgnore = false → x.unacked.length < 2048 → ∀ c, (f.kind = 0 ∧ c = Instr.idleFlit t p l)
            ∨ (f.kind = 1 ∧ c = .dataFlit t p l) ∨ (f.kind = 2 ∧ f.op = 1 ∧ c = .nak t p l)
            ∨ (f.kind = 2 ∧ f.op = 2 ∧ c = .credit t p l) →
        Ends (exec c s) fun u => SameBut [.now, .lnk] s u ∧ (u.tport p).rxIgnore = true ∧ (u.tport p).rxNext = x.rxNext
          ∧ ∃ g, u.lnk.sent = s.lnk.sent ++ [(p, g)] ∧ g.kind = 2 ∧ g.payload = controlPayload 1 x.rxNext 0 0 s.moduleNum p))
    ∧ (flitOf l = none → ∀ c, c = Instr.idleFlit t p l ∨ c = .dataFlit t p l ∨ c = .nak t p l ∨ c = .credit t p l
          ∨ (∃ lat, c = .train t p lat l) →
      Ends (exec c s) fun u => SameBut [.regs, .now, .lnk] s u ∧ RegsBut [(LNK_Pp_CRC_ERR_COUNT, p)] s u
        ∧ s.counted u LNK_Pp_CRC_ERR_COUNT 1 p ∧ (u.tport p).rxIgnore = true ∧ (u.tport p).rxNext = x.rxNext
        ∧ (x.rxIgnore = true → u.lnk = s.lnk))

/-- Torus flits as R334 lays them out: KIND in bits 1 to 0, VC 2, FIRST 3, LAST 4, zero 7 to 5, SEQ 19 to 8, ACK 31 to 20, 248
bytes of payload and the CRC-32C of bytes 0 to 251; what is so written is read back whole; a word of KIND 3, a wrong CRC or
another length is no flit; a CONTROL payload has OP, SEQ, the two credits, the module number and the port at bytes 4 to
14. -/
def Obligations.FlitsAreReadAsLaidOut : Prop :=
  (∀ f : Flit, f.kind < 3 → f.vc < 2 → f.seq < 4096 → f.ack < 4096 → f.payload.length = 248 →
    flitOf f.bytes = some f ∧ f.bytes.length = 256
    ∧ (∀ i, i < 32 → bitOf (numAt f.bytes 0 4) i = (if i < 2 then bitOf f.kind i else if i = 2 then bitOf f.vc 0
        else if i = 3 then f.first else if i = 4 then f.last else if i < 8 then false else if i < 20 then bitOf f.seq (i - 8)
        else bitOf f.ack (i - 20)))
    ∧ sliceOf f.bytes 4 248 = f.payload ∧ numAt f.bytes 252 4 = crc32c (f.bytes.take 252))
  ∧ (∀ l, l.length ≠ 256 ∨ numAt l 252 4 ≠ crc32c (l.take 252) ∨ numAt l 0 4 % 4 = 3 → flitOf l = none)
  ∧ (∀ op seq c0 c1 num port, op < 16 → seq < 4096 → c0 < 2 ^ 16 → c1 < 2 ^ 16 → num < 4096 → port < 256 →
      let p := controlPayload op seq c0 c1 num port ++ List.replicate 237 0#8
      ∀ f : Flit, f.payload = p → p.length = 248 ∧ f.op = op ∧ numAt f.bytes 4 2 = op ∧ numAt f.bytes 6 2 = seq
        ∧ numAt f.bytes 8 2 = c0 ∧ numAt f.bytes 10 2 = c1 ∧ numAt f.bytes 12 2 = num ∧ numAt f.bytes 14 1 = port)

/-- Torus replay and training (R331, R335, R337, R339): a NAK, or 2 µs without an acknowledgement, sends the kept flits again from
the flit concerned, counted; where that flit was replayed 8 times, or the NAK names none kept, the port is DOWN and holds nothing;
a DOWN port retrains; a TRAIN that names the neighbour and the opposite port makes it ACTIVE, another WRONG, with the latency
measured.
Its conclusions are that exec ANSWERS A NEXT STATE for: nak, replayTimeout, torusPortDown, torusPortRetrain, train. -/
def Obligations.TorusPortsReplayAndTrain : Prop :=
  ∀ (t p : Nat) (s : State), p < 6 →
    let x := s.tport p
    let down (u : State) : Prop := SameBut [.regs, .now, .arbs, .hif, .serve, .ctl, .sms, .lnk] s u
      ∧ u.rd LNK_Pp_STATUS_STATE p = 4 ∧ s.counted u LNK_Pp_DOWN_COUNT 1 p ∧ u.tport p = TorusPort.init
    let again (u : State) (from_ : List Kept) (more : List (Nat × Flit)) : Prop := SameBut [.regs, .now, .arbs, .lnk] s u
      ∧ RegsBut [(LNK_Pp_REPLAY_COUNT, p)] s u ∧ s.counted u LNK_Pp_REPLAY_COUNT 1 p
      ∧ (∃ old, (u.tport p).unacked = old ++ from_.map fun k => { k with replays := k.replays + 1, sentAt := max s.now t })
      ∧ u.lnk.sent = s.lnk.sent ++ (from_.map fun k => (p, k.flit)) ++ more
    (s.rd LNK_Pp_STATUS_STATE p = 2 → x.queue = [] → x.ctl = [] →
      (∀ l f, flitOf l = some f → f.kind = 2 → f.op = 1 → f.seq = x.rxNext →
        let want := numAt f.payload 2 2 % 4096
        (∀ k rest, ackTo f.ack x.unacked = k :: rest → k.flit.seq = want →
          (k.replays < 8 → Ends (exec (.nak t p l) s) fun u => ∃ i, i.kind = 0 ∧ again u (k :: rest) [(p, i)])
          ∧ (8 ≤ k.replays → Ends (exec (.nak t p l) s) down))
        ∧ ((∀ k ∈ ackTo f.ack x.unacked, k.flit.seq ≠ want) → Ends (exec (.nak t p l) s) down)))
    ∧ (∀ early k rest, x.unacked = early ++ k :: rest → (∀ e ∈ early, max s.now t < e.sentAt + 2000) →
        k.sentAt + 2000 ≤ max s.now t → k.replays < 8 → Ends (exec (.replayTimeout t p) s) fun u => again u (k :: rest) [])
    ∧ (s.rd LNK_Pp_STATUS_STATE p ≠ 0 → s.rd LNK_Pp_STATUS_STATE p ≠ 4 → Ends (exec (.torusPortDown t p) s) down)
    ∧ (s.rd LNK_Pp_STATUS_STATE p = 4 → s.bit LNK_CTRL_EN = true → x.queue = [] →
        Ends (exec (.torusPortRetrain t p) s) fun u => SameBut [.regs, .now, .arbs, .lnk] s u
          ∧ RegsBut [(LNK_Pp_STATUS_STATE, p)] s u ∧ u.rd LNK_Pp_STATUS_STATE p = 1
          ∧ ∃ g, u.lnk.sent = s.lnk.sent ++ [(p, g)] ∧ g.payload = controlPayload 3 0 1024 1024 s.moduleNum p)
    ∧ (∀ l f lat, flitOf l = some f → f.kind = 2 → f.op = 3 → f.seq = x.rxNext → x.queue = [] → x.ctl = [] →
        s.rd LNK_Pp_STATUS_STATE p = 1 ∨ s.rd LNK_Pp_STATUS_STATE p = 3 →
        let num := numAt f.payload 8 2 % 4096
        let fits := num = s.neighbourOf p ∧ numAt f.payload 10 1 = (if p % 2 = 0 then p + 1 else p - 1)
        Ends (exec (.train t p lat l) s) fun u => SameBut [.regs, .now, .arbs, .hif, .sms, .lnk] s u
          ∧ u.rd LNK_Pp_STATUS_NEIGHBOUR p = num ∧ (u.tport p).rxNext = (x.rxNext + 1) % 4096
          ∧ (lat < 2 ^ LNK_Pp_STATUS_LAT_NS.width → u.rd LNK_Pp_STATUS_LAT_NS p = lat)
          ∧ (fits → u.rd LNK_Pp_STATUS_STATE p = 2 ∧ (u.tport p).credit0 = min 1024 (numAt f.payload 4 2)
              ∧ (u.tport p).credit1 = min 1024 (numAt f.payload 6 2))
          ∧ (¬fits → u.rd LNK_Pp_STATUS_STATE p = 3))

/-- Messages (R336, R340, R341, R343): the oldest waiting one is checked, and the receive space that it took is free; a QUEUE_WRITE or
COLLECTIVE inside a receive window writes its bytes and its queue entry, a CONTROL record inside the firmware's own window is
written there and reaches the firmware, each counted; one of another partition is dropped and counted; one outside every window, or
onto an entry not yet consumed, is counted as a fault and writes nothing.
Its conclusions are that exec ANSWERS A NEXT STATE for: queueWrite, collective, control. -/
def Obligations.MessagesAreDelivered : Prop :=
  ∀ (t : Nat) (s : State) (a : Arrived) (rest : List Arrived), s.lnk.arrived = a :: rest →
    let l := a.bytes
    let off := numAt l 8 4 % 2 ^ 30
    let n := numAt l 12 4 % 2 ^ 17
    let taken (u : State) : Prop := u.lnk.arrived = rest
      ∧ (s.rd LNK_Pp_STATUS_STATE a.port = 2 → 0 < a.flits → (s.tport a.port).unacked.length < 2048 →
          ∃ g, u.lnk.sent = s.lnk.sent ++ [(a.port, g)] ∧ g.kind = 2
            ∧ g.payload = controlPayload 2 0 (if a.vc = 0 then a.flits else 0) (if a.vc = 0 then 0 else a.flits) s.moduleNum a.port)
    let bytesAt (u : State) : Prop := u.mem = { s.mem with cst := u.mem.cst }
      ∧ ∀ b, u.readByte .cst b = if off ≤ b ∧ b < off + (l.drop 32).length then nth 0#8 (l.drop 32) (b - off) else s.readByte .cst b
    let refused (u : State) : Prop := SameBut [.regs, .now, .arbs, .hif, .serve, .ctl, .sms, .lnk] s u
      ∧ s.counted u LNK_WIN_FAULT_CNT_COUNT ∧ u.lnk.arrived = rest
    (∀ c, (numAt l 0 2 / 4096 = 0 ∧ c = Instr.queueWrite t) ∨ (numAt l 0 2 / 4096 = 1 ∧ c = .collective t) →
      (∀ id, s.messageFate l = some true → s.windowOf off n = some id → s.fab.waiting = [] →
        ((s.entry off).written = false ∨ (s.entry off).consumed = true →
        Ends (exec c s) fun u => SameBut [.regs, .now, .arbs, .ctl, .mem, .lnk] s u ∧ RegsBut [(LNK_MSG_RX_CNT_COUNT, 0)] s u
          ∧ s.counted u LNK_MSG_RX_CNT_COUNT ∧ taken u
          ∧ (u.entry off).bytes = l.drop 32 ∧ (u.entry off).written = true ∧ (u.entry off).validSlot = numAt l 16 4
          ∧ (∀ a, a ≠ off → u.entry a = s.entry a) ∧ bytesAt u)
        ∧ ((s.entry off).written = true → (s.entry off).consumed = false → Ends (exec c s) fun u =>
            refused u ∧ u.entry off = s.entry off))
      ∧ (∀ ok, s.messageFate l = some ok → s.windowOf off n = none ∨ ok = false → Ends (exec c s) refused)
      ∧ (s.messageFate l = none → Ends (exec c s) fun u => SameBut [.regs, .now, .lnk] s u
          ∧ RegsBut [(LNK_MSG_DROP_CNT_COUNT, 0)] s u ∧ s.counted u LNK_MSG_DROP_CNT_COUNT ∧ taken u))
    ∧ (numAt l 0 2 / 4096 = 2 → s.messageFate l = some true →
      (fwWindow ≤ off → off + n ≤ fwWindow + 65504 →
        (Config.controlRecord (l.drop 32) = none → Ends (exec (.control t) s) fun u =>
          SameBut [.regs, .now, .arbs, .mem, .lnk] s u ∧ RegsBut [(LNK_MSG_RX_CNT_COUNT, 0)] s u
          ∧ s.counted u LNK_MSG_RX_CNT_COUNT ∧ taken u ∧ u.lnk.controls = s.lnk.controls ++ [l] ∧ bytesAt u)
        ∧ (∀ pos r, Config.controlRecord (l.drop 32) = some (.report pos r) → Ends (exec (.control t) s) fun u =>
          SameBut [.regs, .now, .arbs, .mem, .lnk] s u ∧ s.counted u LNK_MSG_RX_CNT_COUNT ∧ taken u
          ∧ u.lnk.controls = s.lnk.controls ++ [l] ∧ bytesAt u
          ∧ u.lnk.peers = SMap.put none s.lnk.peers pos (some r)))
      ∧ (off < fwWindow ∨ fwWindow + 65504 < off + n → Ends (exec (.control t) s) refused))

/-- Routing (R257, R333, R335, R336, R338): a message of this module whose next port is UP and free, with a credit and room in the window,
begins to leave there at once, over the dateline on channel 1, and its other flits wait for the port; for a port that is not UP, and
at its destination, it goes nowhere. -/
def Obligations.MessagesAreRouted : Prop :=
  ∀ (s : State) (dest who fn prio : Nat) (msg : List Byte),
    (∀ p cross, s.hop dest = some (p, cross) →
      let x := s.tport p
      let vc := if cross then 1 else 0
      (s.rd LNK_Pp_STATUS_STATE p = 2 → x.queue = [] → x.ctl = [] → x.unacked.length < 2048 →
        (s.arb (arbLink p)).ends ≤ arbTicks s.now →
        (if vc = 0 then 0 < x.credit0 ∧ x.busy0 = none else 0 < x.credit1 ∧ x.busy1 = none) →
        ∀ f rest, messageFlits vc msg = f :: rest →
          let u := s.route dest who fn prio msg
          let g : Flit := { f with seq := x.txNext, ack := (x.rxNext + 4095) % 4096 }
          SameBut [.arbs, .lnk] s u ∧ u.lnk = { s.lnk with
              ports := u.lnk.ports, sent := s.lnk.sent ++ [(p, g)], nextMsg := s.lnk.nextMsg + 1 }
          ∧ u.tport p = { x with
              queue := rest.map fun f => ⟨f, s.lnk.nextMsg, who, fn, prio, none⟩, txNext := (x.txNext + 1) % 4096
              unacked := x.unacked ++ [⟨g, 0, s.now⟩]
              credit0 := if vc = 0 then x.credit0 - 1 else x.credit0, credit1 := if vc = 0 then x.credit1 else x.credit1 - 1
              busy0 := if vc = 0 ∧ f.last = false then some s.lnk.nextMsg else x.busy0
              busy1 := if vc = 1 ∧ f.last = false then some s.lnk.nextMsg else x.busy1 }
          ∧ (u.arb (arbLink p)).ends = arbTicks s.now + 153)
      ∧ (s.rd LNK_Pp_STATUS_STATE p ≠ 2 → s.route dest who fn prio msg = s))
    ∧ (s.hop dest = none → s.route dest who fn prio msg = s)

/-- Storage reads (R345, R347, R348, R215): the next packet of the load in progress, with the packet number expected and its invariant CRC
right, joins the load's bytes, goes to the slot's space in tier B and is counted; any other changes nothing but that waiting READs leave.
A READ unanswered for the queue pair's timeout is sent again with all that are outstanding, numbered from the packet expected, and
counted; where the retries are used up, and at a NAK, the queue pair is in ERROR with cause 3, 1 or 2, and each of its loads ends with
its slot EMPTY, the first answered with BAD_HANDLE.
Storage ports and queue pairs (R344 to R347): a queue pair goes to RTS from RESET with an MTU, its packets numbered from the starting
PSN, and to RESET from any state, where its loads end and their slots are EMPTY; the link comes up on an enabled port, and the READs that
waited leave; where it goes down, or the port is disabled, every queue pair with a load is in ERROR with cause 4; an inbound request is
discarded and counted; a PFC frame pauses the honoured priority for 1.28 ns a quantum, and READs wait meanwhile.
Its conclusions are that exec ANSWERS A NEXT STATE for: storageReadResponse, rdmaRetryTimeout, storageNak, qpRts, qpReset,
storagePortDisable, storageLinkUp, storageLinkDown, inboundRequestDiscard, pfcFrame. -/
def Obligations.StorageLinks : Prop :=
  (∀ (t port qp : Nat) (s : State),
    let k := qpBank port qp
    let held := s.lnk.readsHeld.filter (·.port == port)
    let left := s.lnk.readsHeld.filter (·.port != port)
    let sends := (s.advance t).portSends port
    let failed (u : State) (cause : Nat) : Prop := SameBut [.regs, .now, .arbs, .hif, .lst, .lnk] s u
      ∧ u.rd LNK_Ss_QP_CTRL_STATE k = 2 ∧ u.rd LNK_Ss_QP_ERR_CAUSE k = cause
      ∧ (∀ e ∈ s.loadsOn port qp, u.obj e.1 = ObjSlot.init ∧ e.1 ∉ u.lst.loads)
      ∧ ∀ n l rest, s.loadsOn port qp = (n, l) :: rest → s.hostReady l.owner.queue →
          u.posted l.owner.queue ⟨l.owner.tag, 0x12, 0x12, 0, 0, max s.now t, 0, 0⟩
    (∀ n l a m rest data, s.rd LNK_Ss_QP_CTRL_STATE k = 1 → s.loadOn port qp = some (n, l) → l.outstanding = (a, m) :: rest →
      data.length = min m (s.qpMtu port qp) → l.next + data.length < 4096 → l.left = [] → l.issued ≠ 0 → sends = true →
      data.length ≤ s.rd LST_OBJ_SIZE_GIB * 2 ^ 30 →
      Ends (exec (.storageReadResponse t port qp n a (SMap.get 0 s.lnk.psnWant k) true false data) s) fun u =>
        SameBut [.regs, .now, .arbs, .lst, .mem, .lnk] s u
        ∧ RegsBut [(LNK_Ss_READ_BYTES_COUNT, port), (MEM_CAP_WAIT_CNT_COUNT, 0)] s u
        ∧ u.mem = { s.mem with moved := u.mem.moved, tierB := u.mem.tierB }
        ∧ (∀ i, i < data.length → u.readByte .tierB (s.objAddr n 0 (l.next + i)) = nth 0#8 data i)
        ∧ (∀ b, (∀ i, i < data.length → b ≠ s.objAddr n 0 (l.next + i)) → u.readByte .tierB b = s.readByte .tierB b)
        ∧ s.counted u LNK_Ss_READ_BYTES_COUNT data.length port
        ∧ u.lst = { s.lst with slots := u.lst.slots } ∧ (∀ j, j ≠ n → u.obj j = s.obj j)
        ∧ (∃ l', u.obj n = { s.obj n with loading := some l' }
            ∧ l' = { l with bytes := l.bytes ++ data, next := l.next + data.length, outstanding := l'.outstanding }
            ∧ l'.outstanding = if m ≤ data.length then rest else (a + data.length, m - data.length) :: rest)
        ∧ u.lnk = { s.lnk with
            reads := s.lnk.reads ++ held, readsHeld := left
            psnWant := SMap.put 0 s.lnk.psnWant k ((SMap.get 0 s.lnk.psnWant k + 1) % 2 ^ 24)
            tries := SMap.put 0 s.lnk.tries k 0, progress := SMap.put 0 s.lnk.progress k (max s.now t) })
    ∧ (∀ n a psn crcOk ce data, s.rd LNK_Ss_QP_CTRL_STATE k ≠ 1 ∨ s.bit LNK_Ss_STATUS_LINK_UP port = false ∨ crcOk = false
        ∨ psn ≠ SMap.get 0 s.lnk.psnWant k →
      Ends (exec (.storageReadResponse t port qp n a psn crcOk ce data) s) fun u => SameBut [.now, .lnk] s u
        ∧ u.lnk = { s.lnk with
            reads := if sends then s.lnk.reads ++ held else s.lnk.reads, readsHeld := if sends then left else s.lnk.readsHeld })
    ∧ (∀ n l, s.rd LNK_Ss_QP_CTRL_STATE k = 1 → s.loadOn port qp = some (n, l) → l.outstanding ≠ [] →
        SMap.get 0 s.lnk.progress k + s.qpTimeout port qp ≤ max s.now t →
      (SMap.get 0 s.lnk.tries k < s.rd LNK_Ss_QP_CTRL_RETRY k →
        Ends (exec (.rdmaRetryTimeout t port qp) s) fun u => SameBut [.regs, .now, .lnk] s u
          ∧ RegsBut [(LNK_Ss_RETRY_CNT_COUNT, port)] s u ∧ s.counted u LNK_Ss_RETRY_CNT_COUNT 1 port
          ∧ SMap.get 0 u.lnk.tries k = SMap.get 0 s.lnk.tries k + 1 ∧ SMap.get 0 u.lnk.progress k = max s.now t
          ∧ ∃ again, again.map (fun r => { r with psn := 0 }) = (l.outstanding.map fun e => ⟨port, qp, l.ops.rkey,
                l.ops.remoteAddr + e.1, e.2, s.rd LNK_Ss_QP_DQPN_QPN k, s.qpMtu port qp, 0, s.vlanTag port,
                s.rd LNK_Ss_CTRL_DSCP port⟩)
            ∧ (again.head?.map (·.psn)) = some (SMap.get 0 s.lnk.psnWant k)
            ∧ (sends = true → u.lnk.reads = s.lnk.reads ++ held ++ again)
            ∧ (sends = false → u.lnk.reads = s.lnk.reads
                ∧ u.lnk.readsHeld = (s.lnk.readsHeld.filter fun r => !(r.port == port && r.qp == qp)) ++ again))
      ∧ (s.rd LNK_Ss_QP_CTRL_RETRY k ≤ SMap.get 0 s.lnk.tries k →
        Ends (exec (.rdmaRetryTimeout t port qp) s) fun u => failed u 3))
    ∧ (s.rd LNK_Ss_QP_CTRL_STATE k = 1 → s.loadsOn port qp ≠ [] → ∀ access,
        Ends (exec (.storageNak t port qp access) s) fun u => failed u (if access then 1 else 2)))
  ∧ (∀ (t port qp : Nat) (s : State),
    let k := qpBank port qp
    let held := s.lnk.readsHeld.filter (·.port == port)
    let left := s.lnk.readsHeld.filter (·.port != port)
    let down (u : State) : Prop := u.bit LNK_Ss_STATUS_LINK_UP port = false
      ∧ ∀ n ∈ s.lst.loads, ∀ l, (s.obj n).loading = some l → l.ops.port = port → u.obj n = ObjSlot.init ∧ n ∉ u.lst.loads
          ∧ u.rd LNK_Ss_QP_CTRL_STATE (qpBank port l.ops.qp) = 2 ∧ u.rd LNK_Ss_QP_ERR_CAUSE (qpBank port l.ops.qp) = 4
    (s.accepts 0 = true →
      (s.rd LNK_Ss_QP_CTRL_STATE k = 0 → s.rd LNK_Ss_QP_CTRL_MTU k ≠ 0 →
        Ends (exec (.qpRts t 0 port qp) s) fun u => SameBut [.regs, .now, .lnk] s u
          ∧ RegsBut [(LNK_Ss_QP_CTRL_STATE, k)] s u ∧ u.rd LNK_Ss_QP_CTRL_STATE k = 1
          ∧ u.lnk = { s.lnk with
              psnNext := SMap.put 0 s.lnk.psnNext k (s.rd LNK_Ss_QP_PSN_PSN k)
              psnWant := SMap.put 0 s.lnk.psnWant k (s.rd LNK_Ss_QP_PSN_PSN k) })
      ∧ (s.rd LNK_Ss_QP_CTRL_STATE k ≠ 0 ∨ s.rd LNK_Ss_QP_CTRL_MTU k = 0 →
        exec (.qpRts t 0 port qp) s = .next (s.advance t))
      ∧ (Ends (exec (.qpReset t 0 port qp) s) fun u => SameBut [.regs, .now, .arbs, .hif, .lst, .lnk] s u
          ∧ u.rd LNK_Ss_QP_CTRL_STATE k = 0 ∧ u.rd LNK_Ss_QP_ERR_CAUSE k = 0
          ∧ ∀ e ∈ s.loadsOn port qp, u.obj e.1 = ObjSlot.init ∧ e.1 ∉ u.lst.loads)
      ∧ (s.loadsOn port qp = [] → Ends (exec (.qpReset t 0 port qp) s) fun u => SameBut [.regs, .now, .lnk] s u
          ∧ RegsBut [(LNK_Ss_QP_CTRL_STATE, k), (LNK_Ss_QP_ERR_CAUSE, k)] s u
          ∧ u.rd LNK_Ss_QP_CTRL_STATE k = 0 ∧ u.rd LNK_Ss_QP_ERR_CAUSE k = 0)
      ∧ (s.bit LNK_Ss_CTRL_EN port = true → Ends (exec (.storagePortDisable t 0 port) s) fun u =>
          SameBut [.regs, .now, .time, .arbs, .hif, .lst, .lnk, .free] s u ∧ u.bit LNK_Ss_CTRL_EN port = false ∧ down u))
    ∧ (s.bit LNK_Ss_CTRL_EN port = true → Ends (exec (.storageLinkUp t port) s) fun u =>
        SameBut [.regs, .now, .time, .hif, .lnk, .free] s u ∧ u.bit LNK_Ss_STATUS_LINK_UP port = true
        ∧ (SMap.get 0 s.lnk.pausedTo port ≤ max s.now t → u.lnk = { s.lnk with reads := s.lnk.reads ++ held, readsHeld := left }))
    ∧ (s.bit LNK_Ss_STATUS_LINK_UP port = true → Ends (exec (.storageLinkDown t port) s) fun u =>
        SameBut [.regs, .now, .time, .arbs, .hif, .lst, .lnk, .free] s u ∧ down u)
    ∧ (Ends (exec (.inboundRequestDiscard t port) s) fun u => SameBut [.regs, .now] s u
        ∧ RegsBut [(LNK_Ss_DISCARD_CNT_COUNT, port)] s u ∧ s.counted u LNK_Ss_DISCARD_CNT_COUNT 1 port)
    ∧ (∀ enable quanta, let p := s.rd LNK_Ss_CTRL_PFC_PRIO port
        s.bit LNK_Ss_CTRL_EN port = true → s.bit LNK_Ss_CTRL_PFC_EN port = true → bitOf enable p = true →
        let d := nth 0 quanta p * 128 / 100
        Ends (exec (.pfcFrame t port enable quanta) s) fun u => SameBut [.now, .lnk] s u
          ∧ u.lnk = { s.lnk with
              pausedTo := SMap.put 0 s.lnk.pausedTo port (if d = 0 then 0 else max s.now t + d)
              reads := if d = 0 ∧ s.bit LNK_Ss_STATUS_LINK_UP port = true then s.lnk.reads ++ held else s.lnk.reads
              readsHeld := if d = 0 ∧ s.bit LNK_Ss_STATUS_LINK_UP port = true then left else s.lnk.readsHeld }))

/-- Mailbox channels (R366): GO on a free channel copies the sender's 16 words into the receive block with the next SEQ and the
sender's own identity, which is the boot ROM's while it runs on the main firmware's channels, raises the receiver's interrupt and
is counted; DONE empties the receive block, its words reading 0, frees the sender's and raises the sender's interrupt; GO on a
busy channel only sets OVERRUN; no other channel changes.
Its conclusions are that exec ANSWERS A NEXT STATE for: mbxSGo, mbxRDone. -/
def Obligations.MailboxesPass : Prop :=
  ∀ (t a b : Nat) (s : State),
    let m := s.mbox a b
    let others (u : State) : Prop := ∀ k, k ≠ 64 * a + b → SMap.get Mbx.init u.ctl.mbx k = SMap.get Mbx.init s.ctl.mbx k
    (∀ words, s.goAccepted a b = true →
      let d := if a < 32 then m.data else (words ++ List.replicate 16 0#32).take 16
      (m.busy = false → Ends (exec (.mbxSGo t a b words) s) fun u => SameBut [.regs, .now, .hif, .ctl] s u
        ∧ RegsBut [(CPX_MBX_SENT_CNT_COUNT, 0)] s u ∧ s.counted u CPX_MBX_SENT_CNT_COUNT ∧ others u
        ∧ u.mbox a b = { m with
            data := d, busy := true, seq := (m.seq + 1) % 2 ^ 16, msg := some (d, s.stamp a, (m.seq + 1) % 2 ^ 16) }
        ∧ (∀ k, k < 16 → (u.mbox a b).receiveWord (4 * k) = (nth 0#32 d k).toNat)
        ∧ (u.mbox a b).receiveWord 0x44 = 1 + 256 * s.stamp a + 65536 * ((m.seq + 1) % 2 ^ 16)
        ∧ u.hif = (s.mbxInterrupt b).hif)
      ∧ (m.busy = true → Ends (exec (.mbxSGo t a b words) s) fun u => SameBut [.now, .ctl] s u ∧ others u
        ∧ u.mbox a b = { m with overrun := true }))
    ∧ (s.stamp a = if a = 0x21 ∧ s.rd CPX_FW_STATUS_STAGE = 1 then 0x22 else a)
    ∧ (s.goAccepted a b = false → ∀ words, exec (.mbxSGo t a b words) s = .next (s.advance t))
    ∧ (s.chanOpen a b = true → s.mbxMay b = true → m.msg ≠ none → Ends (exec (.mbxRDone t a b) s) fun u =>
        SameBut [.now, .hif, .ctl] s u ∧ others u ∧ u.mbox a b = { m with busy := false, emptied := true, msg := none }
        ∧ (∀ off, (u.mbox a b).receiveWord off = 0) ∧ u.hif = (s.mbxInterrupt a).hif)

/-- Mailbox commands (R240, R366, R368, R421, R436): the firmware and the management controller take the message, free the
sender's channel and reply with the status and data of their command's row; what only trusted senders may ask is refused to
others; the standby set alone answers BAD_OPCODE.
Its conclusions are that exec ANSWERS A NEXT STATE for: fwGetVersion, setTime, readLog, mcGetVersion, getIdentity,
getMeasurement, getSensor, getFwSlots. -/
def Obligations.MailboxCommandsAreAnswered : Prop :=
  ∀ (t sender : Nat) (s : State) (words : List Word) (st seq : Nat),
    let answers (me : Nat) (c : Instr) (status : Status) (data : List Nat) (also : State → Prop) : Prop :=
      (s.mbox sender me).msg = some (words, st, seq) → s.chanOpen me sender = true → (s.mbox me sender).busy = false →
      Ends (exec c s) fun u => also u ∧ u.mbox sender me = { s.mbox sender me with busy := false, emptied := true, msg := none }
        ∧ (u.mbox me sender).msg = some (replyWords (wordAt words 0) status data, s.stamp me, ((s.mbox me sender).seq + 1) % 2 ^ 16)
        ∧ s.counted u CPX_MBX_SENT_CNT_COUNT
    let plain (u : State) : Prop := SameBut [.regs, .now, .hif, .ctl] s u ∧ RegsBut [(CPX_MBX_SENT_CNT_COUNT, 0)] s u
    let cmd := wordAt words 0 % 65536
    let v := (s.slot s.mgt.running).version
    (s.fwServes = true →
      (cmd = 1 → answers idFw (.fwGetVersion t sender) .ok
          [v % 2 ^ 32, v / 2 ^ 32, s.mgt.running, s.rd CPX_FW_STATUS_RESTARTS] plain)
      ∧ (cmd ≠ 1 → cmd ≠ 2 → cmd ≠ 3 → answers idFw (.fwGetVersion t sender) .badOpcode [] plain)
      ∧ (cmd = 2 → trusted sender = true → s.running = false → s.bit TWS_STATUS_PPS_OK = false →
          s.bit TWS_STATUS_PTP_OK = false → answers idFw (.setTime t sender) .ok [] fun u =>
            SameBut [.regs, .now, .time, .hif, .lst, .ctl, .fab, .mgt] s u ∧ u.now = wordAt words 2 + wordAt words 3 * 2 ^ 32)
      ∧ (cmd = 2 → trusted sender = false → answers idFw (.setTime t sender) .badOpcode [] plain)
      ∧ (cmd = 3 → trusted sender = true → ∀ r, s.sms.log.find? (fun r => r.seq % 2 ^ 32 == wordAt words 2) = some r →
          answers idFw (.readLog t sender) .ok ((List.range 14).map fun k => numAt r.bytes (4 * k) 4) plain)
      ∧ (cmd = 3 → trusted sender = true → (∀ r ∈ s.sms.log, r.seq % 2 ^ 32 ≠ wordAt words 2) →
          answers idFw (.readLog t sender) .lengthExceeds [] plain)
      ∧ (cmd = 3 → trusted sender = false → answers idFw (.readLog t sender) .badOpcode [] plain))
    ∧ (s.mainOn = true → s.mgt.app = true →
      (cmd = 1 → answers idMc (.mcGetVersion t sender) .ok [v % 2 ^ 32, v / 2 ^ 32, 1] plain)
      ∧ (cmd = 0x101 → answers idMc (.getIdentity t sender) .ok (wordsOf 8 identityKey ++ wordsOf 2 deviceSerial) plain)
      ∧ (cmd = 0x102 → (s.advance t).measure (wordAt words 2 % 16) = none → answers idMc (.getMeasurement t sender) .lengthExceeds [] plain)
      ∧ (cmd = 0x102 → ∀ ty l, (s.advance t).measure (wordAt words 2 % 16) = some (ty, l) → answers idMc (.getMeasurement t sender) .ok
          ((ty + 256 * l.length) :: wordsOf 8 (l.drop (32 * (wordAt words 2 / 16 % 2)))) plain)
      ∧ (cmd = 0x103 → sender = 0 → answers idMc (.getSensor t sender) .ok
          (match (s.advance t).sensor (wordAt words 2) with | some x => [toCode 32 x, 1] | none => [0, 0]) plain)
      ∧ (cmd = 0x104 → sender = 0 → answers idMc (.getFwSlots t sender) .ok [(s.slot 0).word, (s.slot 1).word] plain)
      ∧ (sender ≠ 0 → (cmd = 0x103 → answers idMc (.getSensor t sender) .badOpcode [] plain)
          ∧ (cmd = 0x104 → answers idMc (.getFwSlots t sender) .badOpcode [] plain)))
    ∧ (s.mainOn = true → s.mgt.app = false → ∀ c, (cmd = 1 ∧ c = .mcGetVersion t sender)
        ∨ (cmd = 0x101 ∧ c = .getIdentity t sender) ∨ (cmd = 0x102 ∧ c = .getMeasurement t sender)
        ∨ (cmd = 0x103 ∧ c = .getSensor t sender) ∨ (cmd = 0x104 ∧ c = .getFwSlots t sender) →
      answers idMc c .badOpcode [] plain)

/-- Firmware starts and restarts (R355, R356, R434, R441, R442, R444): the boot ROM, at the next step of an idle queue, puts the chosen
slot's firmware to STAGE 2 on all four cores, counting a TRIAL boot, or STAGE to 4 where no slot can be booted; a restart puts STAGE to 2,
is counted and logged, counts a control core's residue mismatch (R409), takes every planned launch out and leaves the program stores to be read back, and an expired watchdog of a control
core is one; the start's end makes STAGE 3, where the completions that waited for it are written, or 4; a trial image is CONFIRMED after
60 s of READY and its ledger's predecessors released, its slot FAILED after 600 s, when the other runs; the management controller falls
back to its standby set.
Its conclusions are that exec ANSWERS A NEXT STATE for: firmwareRestart, controlWatchdog, firmwareReady, trialConfirm,
fallback, mcWatchdog. -/
def Obligations.FirmwareStartsAndRestarts : Prop :=
  ∀ (t : Nat) (s : State),
    (s.pending = [] → ∀ o, s.ctl.boot = some o →
      let runs (u : State) (i : Nat) (trial : Bool) : Prop := u.rd CPX_FW_STATUS_STAGE = 2 ∧ u.rd CPX_FW_STATUS_SLOT = i
        ∧ u.rd CPX_FW_STATUS_CORES_UP = 15 ∧ u.ctl.boot = none ∧ u.mgt.running = i ∧ u.mgt.trial = trial ∧ u.mgt.bootAt = s.now
      let ok (i : Nat) : Prop := (s.slot i).state = .confirmed ∧ s.imageOk o.bad i = true
      (s.trialSlot = none → ok 0 → (s.slot 1).state ≠ .confirmed ∨ (s.slot 1).version ≤ (s.slot 0).version →
        Ends (step s) fun u => runs u 0 false)
      ∧ (s.trialSlot = none → ok 1 → (s.slot 0).state ≠ .confirmed ∨ (s.slot 0).version < (s.slot 1).version →
        Ends (step s) fun u => runs u 1 false)
      ∧ (∀ i, s.trialSlot = some i → (s.slot i).boots < 3 → s.imageOk o.bad i = true → Ends (step s) fun u => runs u i true
          ∧ u.slot i = { s.slot i with boots := (s.slot i).boots + 1 })
      ∧ (s.trialSlot = none → (s.slot 0).state ≠ .confirmed → (s.slot 1).state ≠ .confirmed → Ends (step s) fun u =>
          u.rd CPX_FW_STATUS_STAGE = 4 ∧ u.rd CPX_FW_STATUS_CORES_UP = 0 ∧ u.ctl.boot = none))
    ∧ (∀ c cause, c = Instr.firmwareRestart t cause ∨ (∃ core, core < 4 ∧ cause = 2 ∧ c = .controlWatchdog t core) →
      (s.rd CPX_FW_STATUS_STAGE = 2 ∨ s.rd CPX_FW_STATUS_STAGE = 3 → Ends (exec c s) fun u =>
        SameBut [.regs, .now, .arbs, .hif, .serve, .ctl, .sms, .lnk, .mgt] s u ∧ u.rd CPX_FW_STATUS_STAGE = 2
        ∧ s.counted u CPX_FW_STATUS_RESTARTS ∧ (c = .firmwareRestart t 1 → s.counted u SMS_RESIDUE_CNT_COUNT) ∧ u.ctl.restarting = s.ctl.ready ∧ (∀ l ∈ u.serve.launches, l.inFlight = true)
        ∧ (s.ctl.ready = true → (s.sms.inSecond < 1000 → ∃ r ∈ u.sms.log, r.type_ = 0x0D ∧ r.class_ = 2
              ∧ r.detail = [cause, u.rd CPX_FW_STATUS_RESTARTS] ∧ r.seq = s.sms.nextSeq)
            ∧ (s.ctl.stores.loaded = true → u.ctl.stores.toCheck = List.range 520)))
      ∧ (s.rd CPX_FW_STATUS_STAGE ≠ 2 → s.rd CPX_FW_STATUS_STAGE ≠ 3 → exec c s = .next (s.advance t)))
    ∧ (s.mainOn = true → s.ctl.boot = none → s.rd CPX_FW_STATUS_STAGE = 2 → ∀ o,
      (o.failed = true → Ends (exec (.firmwareReady t o) s) fun u => SameBut [.regs, .now, .hif, .sms, .mgt] s u
        ∧ u.rd CPX_FW_STATUS_STAGE = 4 ∧ u.rd CPX_FW_STATUS_CORES_UP = 0)
      ∧ (o.failed = false → Ends (exec (.firmwareReady t o) s) fun u =>
        SameBut [.regs, .now, .arbs, .hif, .serve, .lst, .ctl, .sms, .lnk, .ptm, .mgt] s u ∧ u.rd CPX_FW_STATUS_STAGE = 3
        ∧ u.ctl.ready = true ∧ u.ctl.restarting = false ∧ u.mgt.readyAt = (max s.now t : Nat) ∧ u.ctl.stores.loaded = true
        ∧ (s.ctl.ready = false ∨ s.mgt.fellBack = true → u.mgt.app = true)
        ∧ (s.ctl.stores.loaded = true → (∀ l ∈ s.serve.launches, l.inFlight = false) → u.ctl.stores.toCheck = [])
        ∧ ∀ q n e, q ≠ noRing → (s.queue q).waiting = [.completion n e] → s.hostOn (s.owner q) = true →
            ∃ i a, HostWrite.completion q i a e ∈ u.hif.out))
    ∧ (s.mgt.trial = true →
      (s.mainReady = true → s.bit SMS_STATUS_MODULE_FAULT = false → s.mgt.readyAt + 60000000000 ≤ (max s.now t : Nat) →
        (max s.now t : Nat) ≤ s.mgt.bootAt + 600000000000 → Ends (exec (.trialConfirm t) s) fun u => SameBut [.now, .sms, .mgt] s u
          ∧ u.sms = { s.sms with
              healthLedger := s.sms.healthLedger.release, wearLedger := s.sms.wearLedger.release
              ownLedger := s.sms.ownLedger.release }
          ∧ u.slot s.mgt.running = { s.slot s.mgt.running with state := .confirmed } ∧ u.mgt.trial = false
          ∧ u.mgt.floor = max s.mgt.floor (s.slot s.mgt.running).svnFloor)
      ∧ ((max s.now t : Nat) < s.mgt.readyAt + 60000000000 → exec (.trialConfirm t) s = .next (s.advance t))
      ∧ (s.mainOn = true → s.mgt.bootAt + 600000000000 ≤ (max s.now t : Nat) → ∀ bad,
          Ends (exec (.fallback t bad) s) fun u => SameBut [.regs, .now, .arbs, .hif, .serve, .ctl, .sms, .lnk, .mgt] s u
            ∧ (u.slot s.mgt.running).state = .failed ∧ u.mgt.trial = false ∧ u.mgt.fellBack = true
            ∧ u.ctl.stores = StoreSt.init ∧ (u.rd CPX_FW_STATUS_STAGE = 2 ∨ u.rd CPX_FW_STATUS_STAGE = 4))
      ∧ ((max s.now t : Nat) < s.mgt.bootAt + 600000000000 → ∀ bad, exec (.fallback t bad) s = .next (s.advance t)))
    ∧ (s.pwr.up = true → Ends (exec (.mcWatchdog t) s) fun u => SameBut [.regs, .now, .hif, .ctl, .mgt] s u
        ∧ u.mgt = { s.mgt with app := false })

/-- Rounds of the monitor (R390 to R396, R401, R405): a fast round latches every core's and rail's current and, the model
started, advances every region's temperature; a slow round latches diodes, voltages, stacks and packages, starts the model and
forms the input power; a region that has reached 115 °C, and at a slow round a readout of 105 °C or more, trips, which takes
the rails down; a channel's repeated values in its window change nothing more, outside it the event is raised, a core's group
throttles at 2, and a diode at 120 °C or more trips.
Its conclusions are that exec ANSWERS A NEXT STATE for: fastRound, slowRound, injectedSequence. -/
def Obligations.MonitorRounds : Prop :=
  ∀ (t : Nat) (s : State),
    (∀ cores rails v54 i54 taken, let strobe := max s.now t / 8000 * 8
      s.mainOn = true → s.rd PTM_PSTATE_STATE ≠ 1 →
      (s.ptm.fastAt ≤ strobe → s.pwr.tripLatch = false → Ends (exec (.fastRound t cores rails v54 i54 taken) s) fun u =>
        ∃ m, SameBut [.regs, .now, .hif, .ptm] s m ∧ m.ptm.temps = s.ptm.temps ∧ (∀ c, c < 520 → m.chan c = nth 0 cores c)
          ∧ (∀ r, r < 16 → m.chan (616 + r) = nth 0 rails r) ∧ m.chan 632 = v54 ∧ m.chan 633 = i54
          ∧ m.ptm.fastAt = strobe + 1 ∧ m.ptm.rounds = s.ptm.rounds + 1
          ∧ (s.ptm.started = false → u = m)
          ∧ (s.ptm.started = true →
            ((∀ i, i < 536 → f32Le 0x42E60000#32 (m.regionNext i) = false) →
              (∀ i, i < 536 → u.temp i = m.regionNext i) ∧ u.pwr = s.pwr)
            ∧ ((∃ i, i < 536 ∧ f32Le 0x42E60000#32 (m.regionNext i) = true) →
              u.pwr.rails = false ∧ u.pwr.tripLatch = true)))
      ∧ (strobe < s.ptm.fastAt → exec (.fastRound t cores rails v54 i54 taken) s = .next (s.advance t)))
    ∧ (∀ diodes volts hbm lp taken, s.mainOn = true → s.ptm.slowAt + s.slowPeriod ≤ max s.now t / 1000000 + 1 →
        s.pwr.tripLatch = false → Ends (exec (.slowRound t diodes volts hbm lp taken) s) fun u => ∃ m,
          SameBut [.regs, .now, .hif, .serve, .sms, .fab, .ptm, .mgt, .free] s m
          ∧ (∀ d, d < 80 → m.chan (520 + d) = nth 0 diodes d) ∧ (∀ r, r < 16 → m.chan (600 + r) = nth 0 volts r)
          ∧ (∀ k, k < 8 → m.chan (640 + k) = nth 0 hbm k) ∧ (∀ k, k < 16 → m.chan (648 + k) = nth 0 lp k)
          ∧ m.ptm.started = true ∧ m.ptm.slowAt = max s.now t / 1000000 + 1 ∧ m.ptm.rounds = 0
          ∧ (s.ptm.rounds ≠ 0 → m.rd PTM_PWR_STATUS_INPUT_W = min 2047 (divEvenN s.ptm.powerSum s.ptm.rounds))
          ∧ let hot := (∃ i, i < 536 ∧ f32Le 0x42E60000#32 (m.temp i) = true) ∨ (∃ k, k < 8 ∧ 105 ≤ nth 0 hbm k)
              ∨ ∃ k, k < 16 ∧ 105 ≤ nth 0 lp k
            (¬hot → u = m) ∧ (hot → u.pwr.rails = false ∧ u.pwr.tripLatch = true))
    ∧ (∀ c v0 values taken, s.ptm.inject.find? (·.1 == c) = some (c, v0) →
        let n := if c < 520 then 1 else if c < 600 then 2 else 3
        ((∀ i, i < n → outside c (nth 0 values i) = false) → Ends (exec (.injectedSequence t c values [] taken) s) fun u =>
          SameBut [.regs, .now, .hif, .ptm] s u ∧ s.counted u PTM_INJECT_CNT_COUNT ∧ u.chan c = nth 0 values (n - 1)
          ∧ u.ptm.inject = s.ptm.inject.filter (·.1 != c))
        ∧ ((∀ i, i < n → outside c (nth 0 values i) = true) → Ends (exec (.injectedSequence t c values [] taken) s) fun u =>
          (c < 520 ∨ 600 ≤ c → u.bit PTM_EVENT_WINDOW = true ∧ s.counted u PTM_INJECT_CNT_COUNT)
          ∧ (c < 520 → s.bit PTM_CTRL_THROTTLE_EN = true → (u.group (throttleOf c)).n = 2)
          ∧ (520 ≤ c → c < 600 → (s.diode (c - 520)).failed = false → s.pwr.tripLatch = false → 1920 ≤ nth 0 values 1 →
              u.pwr.rails = false ∧ u.pwr.tripLatch = true)))

/-- Power states (R404, R233): REQ = 1 on a quiet module with no lasting to come starts the entry into MP1 and on one with work sets CFG_ERR; the entry ends in
MP1, or returns where REQ is 0 again; the return ends in MP0 once the verify pass has found nothing to last.
Its conclusions are that exec ANSWERS A NEXT STATE for: ptmPstateEnterMp1, ptmPstateExitMp1, mp1EntryComplete,
mp0ReturnComplete. -/
def Obligations.PowerStatesFollowRequests : Prop :=
  ∀ (t : Nat) (s : State),
    (s.accepts 0 = true →
      (s.rd PTM_PSTATE_STATE = 0 →
        ((s.advance t).quiet = true → s.lastingsAhead = false → Ends (exec (.ptmPstateEnterMp1 t 0) s) fun u => SameBut [.regs, .now] s u
          ∧ RegsBut [(PTM_PSTATE_REQ, 0), (PTM_PSTATE_STATE, 0)] s u ∧ u.bit PTM_PSTATE_REQ = true ∧ u.rd PTM_PSTATE_STATE = 2)
        ∧ ((s.advance t).quiet = false ∨ s.lastingsAhead = true → Ends (exec (.ptmPstateEnterMp1 t 0) s) fun u => SameBut [.regs, .now] s u
          ∧ RegsBut [(PTM_PSTATE_REQ, 0), (PTM_PSTATE_CFG_ERR, 0)] s u ∧ u.bit PTM_PSTATE_CFG_ERR = true
          ∧ u.bit PTM_PSTATE_REQ = false))
      ∧ (s.rd PTM_PSTATE_STATE = 1 → Ends (exec (.ptmPstateExitMp1 t 0) s) fun u => SameBut [.regs, .now, .fab, .ptm] s u
          ∧ RegsBut [(PTM_PSTATE_REQ, 0), (PTM_PSTATE_STATE, 0)] s u ∧ u.bit PTM_PSTATE_REQ = false
          ∧ u.rd PTM_PSTATE_STATE = 3 ∧ u.ptm.verifyDue = true)
      ∧ (s.rd PTM_PSTATE_STATE ≠ 1 → Ends (exec (.ptmPstateExitMp1 t 0) s) fun u => SameBut [.regs, .now] s u
          ∧ RegsBut [(PTM_PSTATE_REQ, 0)] s u ∧ u.bit PTM_PSTATE_REQ = false))
    ∧ (s.rd PTM_PSTATE_STATE = 2 → Ends (exec (.mp1EntryComplete t) s) fun u => SameBut [.regs, .now, .fab, .ptm] s u
        ∧ RegsBut [(PTM_PSTATE_REQ, 0), (PTM_PSTATE_STATE, 0)] s u
        ∧ u.rd PTM_PSTATE_STATE = (if s.bit PTM_PSTATE_REQ then 1 else 3))
    ∧ (s.rd PTM_PSTATE_STATE = 3 → s.ptm.roundDue = false → s.ptm.verifyDue = true → s.lst.verifyLeft = [] →
        (∀ l ∈ s.lst.lastings, l.why ≠ .verify) → ∀ reads, let a := s.advance t
        let bad := a.verifyFails a.heldCells reads ((reads.map (·.pos)).filter a.positionUsed).eraseDups
        Ends (exec (.mp0ReturnComplete t reads) s) fun u => SameBut [.regs, .now, .lst, .ptm] s u
          ∧ s.counted u LST_VERIFY_FAIL_CNT_COUNT bad.length ∧ u.ptm.verifyDue = false ∧ u.lst.verifyLeft = bad
          ∧ u.rd PTM_PSTATE_STATE = (if bad = [] then 0 else 3))

/-- Supplies and resets (R302, R404, R453, R455, R456, R459): the standby input brings up the standby domain and, with PWR_EN and
the 54 V input, the main rails; without PWR_EN they drop; PERST_N, or a link that goes down, resets the main domain, which
starts again when PERST_N is released, its boot ROM running on one control core; a reset leaves no byte of the memories and no waiting write, and keeps the standby domain,
its send blocks of the mailboxes and what the host has received.
Its conclusions are that exec ANSWERS A NEXT STATE for: standbySample, standbyApply, standbyRemove, pwrEnRise, pwrEnFall,
pwrGoodRise, perstNAssert, perstNRelease, peRefclkLoss. -/
def Obligations.SuppliesAndResets : Prop :=
  ∀ (t : Nat) (s : State),
    let fresh (u : State) : Prop := u.pending = s.pending ∧ u.shadow = [] ∧ u.commits = [] ∧ u.time = TimeSt.init
      ∧ u.arbs = State.reset.arbs ∧ u.mem = MemSt.init ∧ u.lnk = { LnkSt.init with sent := s.lnk.sent }
    let starts (u : State) (o : StartOps) : Prop := fresh u ∧ u.pwr.refclk = o.refclk
      ∧ u.rd CPX_FW_STATUS_STAGE = 1 ∧ u.rd CPX_FW_STATUS_CORES_UP = 1 ∧ u.ctl = { State.reset.ctl with boot := some o, mbx := s.mcBlocks }
      ∧ (o.link = none → u.rd HIF_LINK_SPEED = 0)
    let up (p : PwrSt) : Bool := p.rails || (p.up && p.pwrEn && p.main54 && !p.tripLatch)
    (∀ v i, s.pwr.up = true → Ends (exec (.standbySample t v i) s) fun u => SameBut [.now, .pwr] s u
        ∧ u.pwr = { s.pwr with standbyV := v, standbyI := i })
    ∧ (∀ off, s.pwr.standby = false → Ends (exec (.standbyApply t off) s) fun u => SameBut [.regs, .now, .pwr, .mgt] s u
        ∧ RegsBut [(SMS_FW_REFUSED_CNT_COUNT, 0)] s u ∧ u.rd SMS_FW_REFUSED_CNT_COUNT = 0 ∧ u.pwr.standby = true
        ∧ u.pwr.up = true ∧ u.pwr.tripLatch = (s.pwr.tripLatch && decide (off < 100000000)) ∧ u.mgt.app = false
        ∧ u.pwr.rails = up { s.pwr with up := true, tripLatch := u.pwr.tripLatch })
    ∧ (s.pwr.standby = true → s.pwr.rails = true → Ends (exec (.standbyRemove t) s) fun u => fresh u ∧ u.ctl = State.reset.ctl
        ∧ u.pwr = { s.pwr with standby := false, up := false, rails := false, pwrGood := false } ∧ u.hif.out = s.hif.out)
    ∧ (∀ m, Ends (exec (.pwrEnRise t m) s) fun u => SameBut [.now, .pwr] s u ∧ u.pwr.pwrEn = true ∧ u.pwr.main54 = m
        ∧ u.pwr.rails = up { s.pwr with pwrEn := true, main54 := m })
    ∧ (∀ lost, s.pwr.rails = true → Ends (exec (.pwrEnFall t lost) s) fun u => fresh u ∧ u.ctl = State.reset.ctl ∧ u.pwr.rails = false
        ∧ u.pwr.pwrGood = false ∧ u.mgt.app = false ∧ u.mgt.update = none ∧ u.hif.out = s.hif.out
        ∧ (lost = true → u.pwr.main54 = false) ∧ (lost = false → u.pwr.pwrEn = false))
    ∧ (∀ o, s.pwr.rails = true → s.pwr.pwrGood = false →
        (s.pwr.perst = true → Ends (exec (.pwrGoodRise t o) s) fun u => SameBut [.now, .pwr] s u
          ∧ u.pwr = { s.pwr with pwrGood := true })
        ∧ (s.pwr.perst = false → Ends (exec (.pwrGoodRise t o) s) fun u => starts u o ∧ u.pwr.pwrGood = true))
    ∧ (s.pwr.perst = false → Ends (exec (.perstNAssert t .pin) s) fun u => fresh u ∧ u.pwr = { s.pwr with perst := true }
        ∧ u.ctl = { State.reset.ctl with mbx := s.mcBlocks }
        ∧ u.hif.out = s.hif.out ∧ u.mgt.app = false)
    ∧ (∀ o, s.mainOn = true → Ends (exec (.perstNAssert t (.inBand o)) s) fun u => starts u o ∧ u.pwr.perst = false)
    ∧ (∀ o, s.pwr.perst = true →
        (s.pwr.rails = true → s.pwr.pwrGood = true → Ends (exec (.perstNRelease t o) s) fun u => starts u o
          ∧ u.pwr.perst = false)
        ∧ (s.pwr.rails = false ∨ s.pwr.pwrGood = false → Ends (exec (.perstNRelease t o) s) fun u => SameBut [.now, .pwr] s u
          ∧ u.pwr = { s.pwr with perst := false }))
    ∧ (∀ o, s.pwr.refclk = true →
        (s.mainOn = true → s.rd HIF_LINK_SPEED ≠ 0 → Ends (exec (.peRefclkLoss t o) s) fun u =>
          starts u { o with refclk := false })
        ∧ (s.mainOn = false ∨ s.rd HIF_LINK_SPEED = 0 → Ends (exec (.peRefclkLoss t o) s) fun u => SameBut [.now, .pwr] s u
          ∧ u.pwr = { s.pwr with refclk := false }))

/-- Field tests and margins (R252, R415, R418): a core without a suspect event for DECAY_DAYS days steps down; a slice that passes
moves its core's test on, the last one ending it, and is counted; one that fails is counted, raised and run again; of a spare site's slices only the counts tell; a test overdue
forces pauses from the next boundary on.
Scrub and die-to-die bridges (R14, R382, R383): the patrol scrub reads on through a tier, changes no byte and counts a
corrected error; a bridge replays a flit that fails its CRC, each direction with a count of its own, goes down when the
eighth replay fails, and works again once retrained.
Its conclusions are that exec ANSWERS A NEXT STATE for: marginDecay, iftSlice, iftOverdue, scrubRead, bridgeFlitReceive,
bridgeRetrain. -/
def Obligations.UpkeepRuns : Prop :=
  (∀ (t core : Nat) (s : State), core < 520 →
    let h := s.health core
    let others (u : State) : Prop := ∀ c, c ≠ core → u.health c = s.health c
    let due := h.quietFrom + s.rd SMS_CTRL_DECAY_DAYS * 24 * hourNs
    (s.rd SMS_CTRL_DECAY_DAYS ≠ 0 → h.level ≠ 0 → h.retired = false →
      (due ≤ max s.now t → Ends (exec (.marginDecay t core) s) fun u => SameBut [.now, .sms] s u ∧ others u
        ∧ u.health core = { h with downPending := true })
      ∧ (max s.now t < due → exec (.marginDecay t core) s = .next (s.advance t)))
    ∧ ((s.advance t).sliceMayRun core = true →
      let ran := if s.serve.testing.contains core then some (max s.now t) else h.running
      (∀ sig, h.slice < 63 → Ends (exec (.iftSlice t core true sig) s) fun u => SameBut [.regs, .now, .serve, .sms] s u
        ∧ u.serve = { s.serve with idleFrom := u.serve.idleFrom } ∧ SMap.get 0 u.serve.idleFrom core = max s.now t
        ∧ RegsBut [(SMS_IFT_SLICE_CNT_COUNT, 0)] s u ∧ s.counted u SMS_IFT_SLICE_CNT_COUNT ∧ others u
        ∧ u.health core = { h with slice := h.slice + 1, running := ran })
      ∧ (∀ sig, h.slice = 63 → Ends (exec (.iftSlice t core true sig) s) fun u => SameBut [.regs, .now, .serve, .sms] s u
        ∧ s.counted u SMS_IFT_SLICE_CNT_COUNT ∧ others u ∧ (u.health core).slice = 0 ∧ (u.health core).overdue = false
        ∧ (∀ d, s.iftDue core = some d → (u.health core).due = d + s.iftPeriod) ∧ SMap.get 0 u.serve.testPause core = 0)
      ∧ (∀ sig, Ends (exec (.iftSlice t core false sig) s) fun u =>
        SameBut [.regs, .now, .arbs, .hif, .serve, .ctl, .sms, .lnk, .mgt] s u ∧ s.counted u SMS_IFT_FAIL_CNT_COUNT
        ∧ s.counted u SMS_SUSPECT_CNT_COUNT ∧ u.bit SMS_EVENT_IFT_FAIL = true ∧ (u.health core).slice = h.slice))
    ∧ (∀ site sig, 520 ≤ site → s.siteTested site = true →
      (Ends (exec (.iftSlice t site true sig) s) fun u => SameBut [.regs, .now, .sms] s u
        ∧ RegsBut [(SMS_IFT_SLICE_CNT_COUNT, 0)] s u ∧ s.counted u SMS_IFT_SLICE_CNT_COUNT
        ∧ u.health site = { s.health site with slice := ((s.health site).slice + 1) % 64 }
        ∧ ∀ c, c ≠ site → u.health c = s.health c)
      ∧ (Ends (exec (.iftSlice t site false sig) s) fun u => SameBut [.regs, .now, .hif, .sms] s u
        ∧ s.counted u SMS_IFT_FAIL_CNT_COUNT ∧ u.bit SMS_EVENT_IFT_FAIL = true
        ∧ (s.sms.inSecond < 1000 → ∃ r ∈ u.sms.log, r.type_ = 0x12 ∧ r.core = none ∧ r.detail = [(s.health site).slice, sig])))
    ∧ (∀ d, s.iftDue core = some d → h.overdue = false → s.ctl.ready = true →
      (d ≤ max s.now t → Ends (exec (.iftOverdue t core) s) fun u => SameBut [.now, .serve, .sms] s u ∧ others u
        ∧ u.health core = { h with overdue := true } ∧ SMap.get 0 u.serve.testPause core = s.time.nextK + 1)
      ∧ (max s.now t < d → exec (.iftOverdue t core) s = .next (s.advance t))))
  ∧ (∀ (t : Nat) (s : State),
    (∀ tierB lines, s.scrubOn = true → s.mem.scrubFrom ≠ 0 → s.mem.scrubA < tierLines false →
      let first := if tierB then s.mem.scrubB else s.mem.scrubA
      let n := min lines (tierLines tierB - first)
      (Ends (exec (.scrubRead t tierB lines []) s) fun u => SameBut [.regs, .now, .arbs, .mem] s u
        ∧ RegsBut [(MEM_STATUS_SCRUB_BUSY, 0)] s u
        ∧ u.mem = (if tierB then { s.mem with scrubB := first + n } else { s.mem with scrubA := first + n }))
      ∧ (∀ e, e.ue = false → e.space = b2n tierB → first * (if tierB then 32 else 64) ≤ e.addr →
          e.addr < (first + n) * (if tierB then 32 else 64) → Ends (exec (.scrubRead t tierB lines [e]) s) fun u =>
            s.counted u (if tierB then MEM_CE_B_CNT_COUNT else MEM_CE_A_CNT_COUNT)
            ∧ u.bit MEM_ERR_LOG0_VALID = true ∧ u.rd MEM_ERR_ADDR_ADDR = (errAtLine e).addr % 2 ^ 64
            ∧ (s.inPool tierB (e.addr / 65536) = false → ∀ sp a, u.readByte sp a = s.readByte sp a)))
    ∧ (s.scrubOn = false → ∀ tierB lines errs, exec (.scrubRead t tierB lines errs) s = .next (s.advance t))
    ∧ (∀ die, die < 2 →
      (SMap.get false s.lnk.bridgeDown die = false → ∀ up,
        let k := 2 * die + b2n up
        let n := SMap.get 0 s.lnk.bridgeReplays k
        (∀ bad, (bad = false ∨ n < 8) → Ends (exec (.bridgeFlitReceive t die up bad) s) fun u => SameBut [.now, .lnk] s u
          ∧ u.lnk = { s.lnk with bridgeReplays := SMap.put 0 s.lnk.bridgeReplays k (if bad then n + 1 else 0) }
          ∧ SMap.get 0 u.lnk.bridgeReplays k = (if bad then n + 1 else 0)
          ∧ ∀ j, j ≠ k → SMap.get 0 u.lnk.bridgeReplays j = SMap.get 0 s.lnk.bridgeReplays j)
        ∧ (8 ≤ n → Ends (exec (.bridgeFlitReceive t die up true) s) fun u =>
            SameBut [.regs, .now, .arbs, .hif, .serve, .ctl, .sms, .lnk] s u ∧ SMap.get false u.lnk.bridgeDown die = true
            ∧ (∀ j, j / 2 = die → SMap.get 0 u.lnk.bridgeReplays j = 0)
            ∧ (s.sms.inSecond < 1000 → s.serve.jobs = [] → ∃ r ∈ u.sms.log, r.type_ = 0x07 ∧ r.detail = [die, 8])))
      ∧ (Ends (exec (.bridgeRetrain t die) s) fun u => SameBut [.now, .lnk] s u
          ∧ u.lnk = { s.lnk with bridgeDown := u.lnk.bridgeDown } ∧ SMap.get false u.lnk.bridgeDown die = false)))

/-- MCTP control (R432, R433): addresses and endpoint IDs are assigned and told; nothing but the management controller
changes.
Its conclusions are that exec ANSWERS A NEXT STATE for: setEndpointId, getEndpointId, getEndpointUuid, getMctpVersionSupport,
getMessageTypeSupport, i3cSetdasa, i3cEntdaa. -/
def Obligations.MctpControlAnswers : Prop :=
  ∀ (t : Nat) (s : State), s.pwr.up = true →
    (∀ eid, 8 ≤ eid → eid < 255 → Ends (exec (.setEndpointId t eid) s) fun u =>
      s.answered t u (.endpoint eid) fun m => { m with eid := eid })
    ∧ Ends (exec (.getEndpointId t) s) (fun u => s.answered t u (.endpoint s.mgt.eid) id)
    ∧ Ends (exec (.getEndpointUuid t) s) (fun u => s.answered t u (.uuid endpointUuid) id)
    ∧ Ends (exec (.getMctpVersionSupport t) s) (fun u => s.answered t u (.mctpVersions [0x13]) id)
    ∧ Ends (exec (.getMessageTypeSupport t) s) (fun u => s.answered t u (.messageTypes [0x00, 0x01, 0x05]) id)
    ∧ (∀ addr, addr < 128 → Ends (exec (.i3cSetdasa t 0x4D addr) s) fun u => SameBut [.now, .mgt] s u
        ∧ u.mgt = { s.mgt with mode := 2, dynAddr := addr, out := s.mgt.out ++ [.address addr] })
    ∧ (∀ addr, addr < 128 → Ends (exec (.i3cEntdaa t addr) s) fun u => SameBut [.now, .mgt] s u
        ∧ u.mgt = { s.mgt with mode := 2, dynAddr := addr, out := s.mgt.out ++ [.address addr] })

/-- SPDM (R431): the connection goes GET_VERSION, GET_CAPABILITIES, NEGOTIATE_ALGORITHMS, and then answers digests and
certificates; nothing but the management controller changes.
SPDM's signed responses (R429, R431, R445): the signature is a free value, each one counts once in SMS_SPDM_SIGN_CNT, the
challenge and the measurements echo the nonce; no other register changes.
Its conclusions are that exec ANSWERS A NEXT STATE for: spdmGetVersion, getCapabilities, negotiateAlgorithms, getDigests,
getCertificate, challenge, getMeasurements. -/
def Obligations.SpdmAnswers : Prop :=
  (∀ (t : Nat) (s : State), s.pwr.up = true →
    Ends (exec (.spdmGetVersion t) s) (fun u => s.answered t u (.spdmVersions [0x12]) fun m => { m with spdm := .version })
    ∧ (s.mgt.spdm = .version ∨ s.mgt.spdm = .capabilities → Ends (exec (.getCapabilities t) s) fun u =>
        s.answered t u (.spdmCapabilities 1 1 2 13 1024 1024) fun m => { m with spdm := .capabilities })
    ∧ (s.mgt.spdm = .capabilities ∨ s.mgt.spdm = .negotiated → Ends (exec (.negotiateAlgorithms t true) s) fun u =>
        s.answered t u .spdmAlgorithms fun m => { m with spdm := .negotiated })
    ∧ (s.mgt.spdm = .negotiated → Ends (exec (.getDigests t) s) fun u =>
        s.answered t u (.spdmDigests (sha512 certChain)) id)
    ∧ (s.mgt.spdm = .negotiated → ∀ offset len, offset ≤ certChain.length → Ends (exec (.getCertificate t 0 offset len) s) fun u =>
        s.answered t u (.spdmCertificate ((certChain.drop offset).take (min len 1000))
          (certChain.length - offset - ((certChain.drop offset).take (min len 1000)).length)) id))
  ∧ (∀ (t : Nat) (nonce : List Byte) (s : State), s.pwr.up = true → s.mgt.spdm = .negotiated →
    (Ends (exec (.challenge t 0 nonce) s) fun u => SameBut [.now, .regs, .mgt, .free] s u
      ∧ RegsBut [(SMS_SPDM_SIGN_CNT_COUNT, 0)] s u
      ∧ u.rd SMS_SPDM_SIGN_CNT_COUNT = min (2 ^ 32 - 1) (s.rd SMS_SPDM_SIGN_CNT_COUNT + 1)
      ∧ ∃ g, u.mgt.out = s.mgt.out ++ [.spdmChallengeAuth (sha512 certChain) nonce g])
    ∧ (Ends (exec (.getMeasurements t 0xFF true nonce) s) fun u => SameBut [.now, .regs, .mgt, .free] s u
      ∧ RegsBut [(SMS_SPDM_SIGN_CNT_COUNT, 0)] s u
      ∧ ((s.measureBlocks (natsFrom 1 9)).isEmpty = false →
        u.rd SMS_SPDM_SIGN_CNT_COUNT = min (2 ^ 32 - 1) (s.rd SMS_SPDM_SIGN_CNT_COUNT + 1)
        ∧ ∃ g, u.mgt.out = s.mgt.out ++ [.spdmMeasurements (s.measureBlocks (natsFrom 1 9)) nonce (some g)]))
    ∧ (Ends (exec (.getMeasurements t 0 false nonce) s) fun u =>
        s.answered t u (.spdmMeasurementCount 9 none) id))

/-- PLDM base (R435): terminus ID, versions, types and commands.
PLDM monitoring (R435): sensor records and readings, and the queue of events, of which the oldest is sent, collected and
acknowledged first.
Its conclusions are that exec ANSWERS A NEXT STATE for: gettid, settid, getpldmversion, getpldmtypes, getpldmcommands,
getpdrrepositoryinfo, getpdr, getsensorreading, getstatesensorreadings, seteventreceiver, pollforplatformeventmessage,
platformeventmessageAck. -/
def Obligations.PldmAnswers : Prop :=
  (∀ (t : Nat) (s : State), s.pwr.up = true →
    Ends (exec (.gettid t) s) (fun u => s.answered t u (.tid s.mgt.tid) id)
    ∧ (∀ tid, 1 ≤ tid → tid < 255 → Ends (exec (.settid t tid) s) fun u =>
        s.answered t u (.completion 0) fun m => { m with tid := tid })
    ∧ Ends (exec (.getpldmversion t 0) s) (fun u => s.answered t u (.pldmVersion 0 1 1) id)
    ∧ Ends (exec (.getpldmversion t 2) s) (fun u => s.answered t u (.pldmVersion 2 1 2) id)
    ∧ Ends (exec (.getpldmversion t 5) s) (fun u => s.answered t u (.pldmVersion 5 1 1) id)
    ∧ Ends (exec (.getpldmtypes t) s) (fun u => s.answered t u (.pldmTypes [0, 2, 5]) id)
    ∧ (∀ ty, ty = 0 ∨ ty = 2 ∨ ty = 5 → Ends (exec (.getpldmcommands t ty) s) fun u =>
        ∃ l, l ≠ [] ∧ s.answered t u (.pldmCommands ty l) id))
  ∧ (∀ (t : Nat) (s : State), s.pwr.up = true →
    Ends (exec (.getpdrrepositoryinfo t) s) (fun u => s.answered t u (.pdrInfo sensorIds.length) id)
    ∧ (∀ n, sensorIds.contains n = true → n ≠ 0 → Ends (exec (.getpdr t n) s) fun u =>
        s.answered t u (.pdr n (decide (100 ≤ n))) id)
    ∧ (∀ n, sensorIds.contains n = true → n < 100 → Ends (exec (.getsensorreading t n) s) fun u =>
        ∃ v, s.answered t u (.reading n v) id)
    ∧ (∀ n, sensorIds.contains n = true → 100 ≤ n → Ends (exec (.getstatesensorreadings t n) s) fun u =>
        ∃ v, s.answered t u (.reading n v) id)
    ∧ (∀ eid, s.mgt.events = [] → Ends (exec (.seteventreceiver t eid) s) fun u =>
        s.answered t u .receiverSet fun m => { m with receiver := some eid })
    ∧ (∀ n v rest, s.mgt.events = (n, v) :: rest → Ends (exec (.pollforplatformeventmessage t) s) fun u =>
        s.answered t u (.event n v) fun m => { m with events := rest })
    ∧ (s.mgt.events = [] → Ends (exec (.pollforplatformeventmessage t) s) fun u => s.answered t u .noEvent id)
    ∧ (∀ r e n v rest, s.mgt.receiver = some r → s.mgt.events = e :: (n, v) :: rest →
        Ends (exec (.platformeventmessageAck t) s) fun u =>
          s.answered t u (.event n v) fun m => { m with events := (n, v) :: rest }))

/-- The firmware update (R443): identifiers and parameters, the update taken by one agent, its component table, the target
slot erased and its header asked for.
The rest of a firmware update (R443): a later portion is taken and the next one asked for; the image that was applied is
made TRIAL with BOOTS = 0; a cancelled one leaves its slot EMPTY; the status is told.
Its conclusions are that exec ANSWERS A NEXT STATE for: querydeviceidentifiers, getfirmwareparameters, requestupdate,
passcomponenttable, updatecomponent, firmwareDataReceive, activatefirmware, cancelupdatecomponent, cancelupdate, getstatus. -/
def Obligations.UpdatesRun : Prop :=
  (∀ (t agent : Nat) (s : State), s.pwr.up = true →
    Ends (exec (.querydeviceidentifiers t) s) (fun u => s.answered t u (.deviceIds 0x0416 deviceSerial) id)
    ∧ Ends (exec (.getfirmwareparameters t) s) (fun u => ∃ p, s.answered t u
        (.firmwareParameters (s.slot s.mgt.running).version p) id)
    ∧ (s.mgt.update = none → s.trialSlot = none → s.flashUp = true → Ends (exec (.requestupdate t agent) s) fun u =>
        s.answered t u (.completion 0) fun m =>
          { m with update := some ⟨agent, 1 - m.running, .learn, 0, []⟩, updateLost := false })
    ∧ (∀ x, s.mgt.update = some x → x.agent = agent → x.phase = .learn → Ends (exec (.passcomponenttable t agent) s) fun u =>
        s.answered t u (.completion 0) fun m => { m with update := some { x with phase := .ready } })
    ∧ (∀ x size, s.mgt.update = some x → x.agent = agent → x.phase = .ready →
        Ends (exec (.updatecomponent t agent size) s) fun u => SameBut [.now, .mgt] s u
          ∧ u.mgt.update = some { x with phase := .download, size := size, bytes := [] }
          ∧ (u.slot x.target).state = .empty
          ∧ u.mgt.out = s.mgt.out ++ [.completion 0, .requestData 0 (min 1024 size)])
    ∧ (∀ x, s.mgt.update = some x → x.agent ≠ agent → Ends (exec (.requestupdate t agent) s) fun u =>
        s.answered t u (.completion 0x81) id))
  ∧ (∀ (t agent : Nat) (s : State), s.pwr.up = true →
    (∀ x data, s.mgt.update = some x → x.agent = agent → x.phase = .download → x.bytes ≠ [] →
        data.length = min 1024 (x.size - x.bytes.length) → x.bytes.length + data.length < x.size →
        Ends (exec (.firmwareDataReceive t agent data) s) fun u => SameBut [.now, .mgt] s u
          ∧ u.mgt.update = some { x with bytes := x.bytes ++ data }
          ∧ u.mgt.out = s.mgt.out ++ [.requestData (x.bytes.length + data.length)
              (min 1024 (x.size - (x.bytes.length + data.length)))])
    ∧ (∀ x, s.mgt.update = some x → x.agent = agent → x.phase = .applied →
        Ends (exec (.activatefirmware t agent) s) fun u => SameBut [.now, .mgt] s u ∧ u.mgt.update = none
          ∧ u.slot x.target = { s.slot x.target with state := .trial, boots := 0 }
          ∧ u.mgt.out = s.mgt.out ++ [.activationWaits])
    ∧ (∀ x, s.mgt.update = some x → x.agent = agent → x.phase = .download ∨ x.phase = .applied →
        (Ends (exec (.cancelupdatecomponent t agent) s) fun u => SameBut [.now, .mgt] s u
          ∧ u.mgt.update = some { x with phase := .ready, bytes := [] } ∧ (u.slot x.target).state = .empty)
        ∧ (Ends (exec (.cancelupdate t agent) s) fun u => SameBut [.now, .mgt] s u
          ∧ u.mgt.update = none ∧ (u.slot x.target).state = .empty))
    ∧ Ends (exec (.getstatus t) s) (fun u => s.answered t u (.updateStatus
        (match s.mgt.update with
          | none => 0
          | some x => match x.phase with | .learn => 1 | .ready => 2 | .download => 3 | .applied => 5) s.mgt.updateLost) id))

/-- Saturation (R43, R60, R64, R78, R85, R89, R90): every code lies within ±255; a crossbar's passes have at most 8 windows with LSBs
of at most 16; so the value of a column or a tally column in a pass lies within ±32,640, the value of a pair within ±2,774,400, the
offset term within ±524,288, and every reconstructed partial, stood in or converted, in either encoding, forward or transpose,
within ±3,298,688. -/
def Obligations.PartialsStayInBound : Prop :=
  (∀ held lsb, (codeOf held lsb).natAbs ≤ 255)
  ∧ (∀ (s : State) (core cluster row col : Nat) (standIn : Bool) (ds : List (List Int)),
      let x := s.xbRun core cluster row col standIn ds
      (∀ m ∈ x.wins, m ≤ 8) ∧ ∀ l ∈ x.lsbs, l.length ≤ 8 ∧ ∀ n ∈ l, n ≤ 16)
  ∧ ∀ (x : XbRun) (cells : XbCells) (cs : List XbCharges) (transpose : Bool) (ds : List (List Int)),
    (∀ m ∈ x.wins, m ≤ 8) → (∀ l ∈ x.lsbs, ∀ n ∈ l, n ≤ 16) →
    let ws := x.convert cells cs transpose ds
    (∀ pass j, (passValue ws pass j).natAbs ≤ 32640) ∧ (∀ pass g, (tallyValue ws pass g).natAbs ≤ 32640)
    ∧ (∀ j, (pairValue (valuesOf ws) j).natAbs ≤ 2774400)
    ∧ (∀ diff q base i, (∀ e ∈ q, e.natAbs ≤ 128) → (transposePartial ws diff q base i).natAbs ≤ 3298688)
    ∧ (∀ (core cluster : Nat) (v : Vector) (c : ObjContent),
        (∀ b, nth none v.blocks x.row = some b → b.elems.length ≤ 512 ∧ ∀ q ∈ b.elems, q.natAbs ≤ 128) →
        (8 * sumI (v.rowElems x.row)).natAbs ≤ 524288
        ∧ (∀ p, (rawPartial (valuesOf ws) false (sumI (v.rowElems x.row)) p).natAbs ≤ 3298688)
        ∧ ∀ p ∈ (xbResult core cluster v c cs x).partials, p.natAbs ≤ 3298688)
end

