-- ==== Sys2Proof/Laws/Keeps.lean ====
section
/-! SUPPORT. What every operation keeps: the queue of commands stays as it was, and the canonical forms of the register
table and of the memories stay.  `Keeps u s` is stated once of each shared operation in the files Laws/Keeps….lean. -/

set_option Elab.async false
set_option linter.all false

namespace Sys2Proof.Machine

/-- A table's listed keys stay in order when one is taken out. -/
theorem SMap.wfFrom_mono {α : Type} [DecidableEq α] (d : α) (m : SMap α) (lo hi : Nat) (h : lo ≤ hi)
    (w : SMap.wfFrom d hi m = true) : SMap.wfFrom d lo m = true := by
  cases m with
  | nil => rfl
  | cons e t => simp_all [SMap.wfFrom]; omega

theorem SMap.wfFrom_erase {α : Type} [DecidableEq α] (d : α) (m : SMap α) (lo k : Nat) (w : SMap.wfFrom d lo m = true) :
    SMap.wfFrom d lo (SMap.erase m k) = true := by
  induction m generalizing lo with
  | nil => rfl
  | cons e t ih =>
    obtain ⟨a, v⟩ := e
    simp only [SMap.wfFrom, Bool.and_eq_true, decide_eq_true_eq] at w
    unfold SMap.erase
    split
    · exact SMap.wfFrom_mono d _ lo (a + 1) (by omega) (ih _ w.2)
    · simp [SMap.wfFrom, w.1.1, w.1.2, ih _ w.2]

theorem SMap.wfFrom_insert {α : Type} [DecidableEq α] (d : α) (m : SMap α) (lo k : Nat) (v : α) (hk : lo ≤ k) (hv : v ≠ d)
    (w : SMap.wfFrom d lo m = true) : SMap.wfFrom d lo (SMap.insert m k v) = true := by
  induction m generalizing lo with
  | nil => simp [SMap.insert, SMap.wfFrom, hk, hv]
  | cons e t ih =>
    obtain ⟨a, x⟩ := e
    simp only [SMap.wfFrom, Bool.and_eq_true, decide_eq_true_eq] at w
    unfold SMap.insert
    split
    · simp [SMap.wfFrom, hk, hv, w.1.2, w.2]; omega
    · split
      · simp_all [SMap.wfFrom]
      · have := ih (a + 1) (by omega) w.2
        simp_all [SMap.wfFrom]

/-- A write keeps the canonical form. -/
theorem SMap.wf_put {α : Type} [DecidableEq α] (d : α) (m : SMap α) (k : Nat) (v : α) (w : SMap.wf d m = true) :
    SMap.wf d (SMap.put d m k v) = true := by
  unfold SMap.put
  split
  · exact SMap.wfFrom_erase d m 0 k w
  · exact SMap.wfFrom_insert d m 0 k v (Nat.zero_le _) ‹_› w

theorem SMap.risesFrom_mono {α : Type} (m : SMap α) (lo hi : Nat) (h : lo ≤ hi) (w : SMap.risesFrom hi m = true) :
    SMap.risesFrom lo m = true := by
  cases m with
  | nil => rfl
  | cons e t => simp_all [SMap.risesFrom]; omega

theorem SMap.risesFrom_erase {α : Type} (m : SMap α) (lo k : Nat) (w : SMap.risesFrom lo m = true) :
    SMap.risesFrom lo (SMap.erase m k) = true := by
  induction m generalizing lo with
  | nil => rfl
  | cons e t ih =>
    obtain ⟨a, v⟩ := e
    simp only [SMap.risesFrom, Bool.and_eq_true, decide_eq_true_eq] at w
    unfold SMap.erase
    split
    · exact SMap.risesFrom_mono _ lo (a + 1) (by omega) (ih _ w.2)
    · simp [SMap.risesFrom, w.1, ih _ w.2]

theorem SMap.risesFrom_insert {α : Type} (m : SMap α) (lo k : Nat) (v : α) (hk : lo ≤ k)
    (w : SMap.risesFrom lo m = true) : SMap.risesFrom lo (SMap.insert m k v) = true := by
  induction m generalizing lo with
  | nil => simp [SMap.insert, SMap.risesFrom, hk]
  | cons e t ih =>
    obtain ⟨a, x⟩ := e
    simp only [SMap.risesFrom, Bool.and_eq_true, decide_eq_true_eq] at w
    unfold SMap.insert
    split
    · simp [SMap.risesFrom, hk, w.2]; omega
    · split
      · simp_all [SMap.risesFrom]
      · have := ih (a + 1) (by omega) w.2
        simp_all [SMap.risesFrom]

/-- A write keeps the order of the keys. -/
theorem SMap.rises_put {α : Type} [DecidableEq α] (d : α) (m : SMap α) (k : Nat) (v : α) (w : SMap.rises m = true) :
    SMap.rises (SMap.put d m k v) = true := by
  unfold SMap.put
  split
  · exact SMap.risesFrom_erase m 0 k w
  · exact SMap.risesFrom_insert m 0 k v (Nat.zero_le _) w

theorem SMap.risesFrom_filter {α : Type} (m : SMap α) (lo : Nat) (p : Nat × α → Bool) (w : SMap.risesFrom lo m = true) :
    SMap.risesFrom lo (m.filter p) = true := by
  induction m generalizing lo with
  | nil => rfl
  | cons e t ih =>
    obtain ⟨a, v⟩ := e
    simp only [SMap.risesFrom, Bool.and_eq_true, decide_eq_true_eq] at w
    by_cases hp : p (a, v) = true
    · simp [hp, SMap.risesFrom, w.1, ih _ w.2]
    · simp [hp, SMap.risesFrom_mono _ lo (a + 1) (by omega) (ih _ w.2)]

/-- A selection of a table's entries keeps the order of the keys. -/
theorem SMap.rises_filter {α : Type} (m : SMap α) (p : Nat × α → Bool) (w : SMap.rises m = true) :
    SMap.rises (m.filter p) = true := SMap.risesFrom_filter m 0 p w

theorem SMap.wfFrom_filter {α : Type} [DecidableEq α] (d : α) (m : SMap α) (lo : Nat) (p : Nat × α → Bool)
    (w : SMap.wfFrom d lo m = true) : SMap.wfFrom d lo (m.filter p) = true := by
  induction m generalizing lo with
  | nil => rfl
  | cons e t ih =>
    obtain ⟨a, v⟩ := e
    simp only [SMap.wfFrom, Bool.and_eq_true, decide_eq_true_eq] at w
    by_cases hp : p (a, v) = true
    · simp [hp, SMap.wfFrom, w.1.1, w.1.2, ih _ w.2]
    · simp [hp, SMap.wfFrom_mono d _ lo (a + 1) (by omega) (ih _ w.2)]

/-- A selection of a memory's bytes keeps the canonical form. -/
theorem SMap.wf_filter {α : Type} [DecidableEq α] (d : α) (m : SMap α) (p : Nat × α → Bool) (w : SMap.wf d m = true) :
    SMap.wf d (m.filter p) = true := SMap.wfFrom_filter d m 0 p w

/-- From `u` to `s` the queue of commands has stayed, and so have the canonical forms. -/
structure Keeps (u s : State) : Prop where
  pending : s.pending = u.pending
  regs : u.regsRise → s.regsRise
  mem : u.mem.wf → s.mem.wf

theorem Keeps.refl (u : State) : Keeps u u := ⟨rfl, id, id⟩

/-- A change of other sub-records keeps. -/
theorem Keeps.rest {u s : State} (h : Keeps u s) (a : List ShWrite) (b : List (Nat × List ShWrite)) (c : TimeSt) (p : SMap Arbiter) (d : HifSt)
    (e : ServeSt) (f : LstSt) (g : CtlSt) (i : SmsSt) (j : FabSt) (k : LnkSt) (l : PtmSt) (m : PwrSt) (n : MgtSt) (o : Nat) :
    Keeps u ⟨s.pending, s.regs, a, b, c, p, d, e, f, g, s.mem, i, j, k, l, m, n, o⟩ := ⟨h.1, h.2, h.3⟩

/-- The canonical form of the memories, byte tables alone. -/
theorem MemSt.wf_iff (m : MemSt) :
    m.wf ↔ Memory.wf m.cst = true ∧ Memory.wf m.tierA = true ∧ Memory.wf m.tierB = true := Iff.rfl

/-- A fold keeps what each of its steps keeps. -/
theorem forEach_keeps {α : Type} {u : State} (l : List α) (f : State → α → State) (hf : ∀ s x, Keeps u s → Keeps u (f s x)) :
    ∀ s, Keeps u s → Keeps u (forEach l s f) := by
  unfold forEach
  induction l with
  | nil => exact fun s h => h
  | cons a t ih => exact fun s h => ih _ (hf s a h)

/-- A plain fold keeps what each of its steps keeps. -/
theorem foldl_keeps {α : Type} {u : State} (l : List α) (f : State → α → State) (hf : ∀ s x, Keeps u s → Keeps u (f s x)) :
    ∀ s, Keeps u s → Keeps u (l.foldl f s) := forEach_keeps l f hf

/-- A command keeps: its next state does. -/
def KeepsO (u : State) : Host.Outcome State Fault Refusal → Prop
  | .next t => Keeps u t
  | .fault _ => True
  | .refused _ => True

theorem KeepsO.next {u t : State} : KeepsO u (.next t) ↔ Keeps u t := Iff.rfl

theorem State.wr_keeps {u s : State} (h : Keeps u s) (f : Fld) (v bank : Nat) : Keeps u (s.wr f v bank) :=
  ⟨h.1, fun w => SMap.rises_put _ _ _ _ (h.2 w), h.3⟩

end Sys2Proof.Machine
end

