-- ==== Sys2Proof/Laws/KeepsServing.lean ====
section
/-! SUPPORT. What the operations keep, in the order of the model's files, from Ops to Submit: one lemma an operation, cited
in place of its unfolding. -/

set_option Elab.async false
set_option linter.all false

namespace Sys2Proof.Machine

theorem State.count_keeps {u s : State} (h : Keeps u s) (a1 a2 a3) :
    Keeps u (State.count s a1 a2 a3) := by
  unfold State.count
  grind [State.wr_keeps, Keeps.rest]

theorem State.setBit_keeps {u s : State} (h : Keeps u s) (a1 a2) :
    Keeps u (State.setBit s a1 a2) := by
  unfold State.setBit
  grind [State.wr_keeps, Keeps.rest]

theorem State.wrBit_keeps {u s : State} (h : Keeps u s) (a1 a2 a3) :
    Keeps u (State.wrBit s a1 a2 a3) := by
  unfold State.wrBit
  grind [State.wr_keeps, Keeps.rest]

theorem State.clearAll_keeps {u s : State} (h : Keeps u s) (l : List Fld) (bank : Nat) : Keeps u (s.clearAll l bank) := by
  unfold State.clearAll
  exact foldl_keeps l _ (fun s f h => State.wr_keeps h f 0 bank) s h

theorem State.advance_keeps {u s : State} (h : Keeps u s) (a1) :
    Keeps u (State.advance s a1) := by
  unfold State.advance
  grind [Keeps.rest]

theorem State.draw_keeps {u s : State} (h : Keeps u s) :
    Keeps u (State.draw s).2 := by
  unfold State.draw
  grind [Keeps.rest]

theorem State.withTime_keeps {u s : State} (h : Keeps u s) (a1) :
    Keeps u (State.withTime s a1) := by
  unfold State.withTime
  grind [Keeps.rest]

theorem State.withHif_keeps {u s : State} (h : Keeps u s) (a1) :
    Keeps u (State.withHif s a1) := by
  unfold State.withHif
  grind [Keeps.rest]

theorem State.withServe_keeps {u s : State} (h : Keeps u s) (a1) :
    Keeps u (State.withServe s a1) := by
  unfold State.withServe
  grind [Keeps.rest]

theorem State.withLst_keeps {u s : State} (h : Keeps u s) (a1) :
    Keeps u (State.withLst s a1) := by
  unfold State.withLst
  grind [Keeps.rest]

theorem State.withCtl_keeps {u s : State} (h : Keeps u s) (a1) :
    Keeps u (State.withCtl s a1) := by
  unfold State.withCtl
  grind [Keeps.rest]

theorem State.withMem_keeps {u s : State} (h : Keeps u s) (m : MemSt) (hm : s.mem.wf → m.wf) : Keeps u (s.withMem m) :=
  ⟨h.1, h.2, fun w => hm (h.3 w)⟩

theorem State.withFab_keeps {u s : State} (h : Keeps u s) (a1) :
    Keeps u (State.withFab s a1) := by
  unfold State.withFab
  grind [Keeps.rest]

theorem State.withLnk_keeps {u s : State} (h : Keeps u s) (a1) :
    Keeps u (State.withLnk s a1) := by
  unfold State.withLnk
  grind [Keeps.rest]

theorem State.withPtm_keeps {u s : State} (h : Keeps u s) (a1) :
    Keeps u (State.withPtm s a1) := by
  unfold State.withPtm
  grind [Keeps.rest]

theorem State.withPwr_keeps {u s : State} (h : Keeps u s) (a1) :
    Keeps u (State.withPwr s a1) := by
  unfold State.withPwr
  grind [Keeps.rest]

theorem State.withMgt_keeps {u s : State} (h : Keeps u s) (a1) :
    Keeps u (State.withMgt s a1) := by
  unfold State.withMgt
  grind [Keeps.rest]

theorem State.when_keeps {u s : State} (h : Keeps u s) (a1 a2) (h2 : ∀ s, Keeps u s → Keeps u (a2 s)) :
    Keeps u (State.when s a1 a2) := by
  unfold State.when
  grind [Keeps.rest]

theorem State.writeByte_keeps {u s : State} (h : Keeps u s) (sp : Space) (a : Nat) (v : Byte) : Keeps u (s.writeByte sp a v) := by
  unfold State.writeByte
  cases sp <;> refine State.withMem_keeps h _ fun w => ?_
  · exact ⟨SMap.wf_put _ _ _ _ w.1, w.2⟩
  · exact ⟨w.1, SMap.wf_put _ _ _ _ w.2.1, w.2.2⟩
  · exact ⟨w.1, w.2.1, SMap.wf_put _ _ _ _ w.2.2⟩

theorem State.writeBytes_keeps {u s : State} (h : Keeps u s) (sp : Space) (a : Nat) (l : List Byte) :
    Keeps u (s.writeBytes sp a l) := by
  induction l generalizing s a with
  | nil => exact h
  | cons b t ih => exact ih (State.writeByte_keeps h sp a b) (a + 1)

theorem State.withArbs_keeps {u s : State} (h : Keeps u s) (a1) :
    Keeps u (State.withArbs s a1) := by
  unfold State.withArbs
  grind [Keeps.rest]

theorem State.setArb_keeps {u s : State} (h : Keeps u s) (a1 a2) :
    Keeps u (State.setArb s a1 a2) := by
  unfold State.setArb
  grind [State.withArbs_keeps, Keeps.rest]

theorem State.settleArbs_keeps {u s : State} (h : Keeps u s) :
    Keeps u (State.settleArbs s) := by
  unfold State.settleArbs
  grind [State.withArbs_keeps, Keeps.rest]

theorem State.renewArbs_keeps {u s : State} (h : Keeps u s) :
    Keeps u (State.renewArbs s) := by
  unfold State.renewArbs
  grind [State.withArbs_keeps, Keeps.rest]

theorem State.useArb_keeps {u s : State} (h : Keeps u s) (a1 a2) :
    Keeps u (State.useArb s a1 a2) := by
  unfold State.useArb
  grind [State.setArb_keeps, Keeps.rest]

theorem State.askAll_keeps {u s : State} (h : Keeps u s) (a1 a2 a3 a4 a5) :
    Keeps u (State.askAll s a1 a2 a3 a4 a5) := by
  unfold State.askAll
  grind [State.withArbs_keeps, Keeps.rest]

theorem State.useCst_keeps {u s : State} (h : Keeps u s) (a1 a2 a3 a4 a5) :
    Keeps u (State.useCst s a1 a2 a3 a4 a5) := by
  unfold State.useCst
  grind [State.askAll_keeps, Keeps.rest]

theorem State.stage_keeps {u s : State} (h : Keeps u s) (a1 a2 a3 a4) :
    Keeps u (State.stage s a1 a2 a3 a4) := by
  unfold State.stage
  grind [State.useCst_keeps, Keeps.rest]

theorem State.useTier_keeps {u s : State} (h : Keeps u s) (a1 a2 a3 a4 a5) :
    Keeps u (State.useTier s a1 a2 a3 a4 a5) := by
  unfold State.useTier
  grind [State.askAll_keeps, Keeps.rest]

theorem State.holdFn_keeps {u s : State} (h : Keeps u s) (a1 a2) :
    Keeps u (State.holdFn s a1 a2) := by
  unfold State.holdFn
  grind [State.withArbs_keeps, Keeps.rest]

theorem State.chargeTier_keeps {u s : State} (h : Keeps u s) (a1 a2 a3) :
    Keeps u (State.chargeTier s a1 a2 a3) := by
  unfold State.chargeTier
  grind [State.count_keeps, State.holdFn_keeps, State.when_keeps, State.withMem_keeps, Keeps.rest, MemSt.wf_iff, State.when]

theorem State.setQueue_keeps {u s : State} (h : Keeps u s) (a1 a2) :
    Keeps u (State.setQueue s a1 a2) := by
  unfold State.setQueue
  grind [Keeps.rest]

theorem State.setFn_keeps {u s : State} (h : Keeps u s) (a1 a2) :
    Keeps u (State.setFn s a1 a2) := by
  unfold State.setFn
  grind [Keeps.rest]

theorem State.setVec_keeps {u s : State} (h : Keeps u s) (a1 a2 a3) :
    Keeps u (State.setVec s a1 a2 a3) := by
  unfold State.setVec
  grind [Keeps.rest]

theorem State.hostMove_keeps {u s : State} (h : Keeps u s) (a1 a2 a3) :
    Keeps u (State.hostMove s a1 a2 a3) := by
  unfold State.hostMove
  grind [State.stage_keeps, Keeps.rest]

theorem State.post_keeps {u s : State} (h : Keeps u s) (a1) :
    Keeps u (State.post s a1) := by
  unfold State.post
  grind [Keeps.rest]

theorem State.signal_keeps {u s : State} (h : Keeps u s) (a1 a2) :
    Keeps u (State.signal s a1 a2) := by
  unfold State.signal
  grind [State.post_keeps, State.setVec_keeps, Keeps.rest]

theorem State.statusWrite_keeps {u s : State} (h : Keeps u s) (a1) :
    Keeps u (State.statusWrite s a1) := by
  unfold State.statusWrite
  grind [State.post_keeps, Keeps.rest]

theorem State.ringSignal_keeps {u s : State} (h : Keeps u s) (a1 a2) :
    Keeps u (State.ringSignal s a1 a2) := by
  unfold State.ringSignal
  grind [State.setQueue_keeps, State.signal_keeps, Keeps.rest]

theorem State.ringWrote_keeps {u s : State} (h : Keeps u s) (a1 a2) :
    Keeps u (State.ringWrote s a1 a2) := by
  unfold State.ringWrote
  grind [State.ringSignal_keeps, State.setQueue_keeps, State.statusWrite_keeps, Keeps.rest]

theorem State.entryDone_keeps {u s : State} (h : Keeps u s) (a1 a2) :
    Keeps u (State.entryDone s a1 a2) := by
  unfold State.entryDone
  grind [State.setQueue_keeps, Keeps.rest]

theorem State.writeCompletion_keeps {u s : State} (h : Keeps u s) (a1 a2) :
    Keeps u (State.writeCompletion s a1 a2) := by
  unfold State.writeCompletion
  grind [State.post_keeps, State.ringWrote_keeps, State.setQueue_keeps, Keeps.rest]

theorem State.writeToken_keeps {u s : State} (h : Keeps u s) (a1 a2) :
    Keeps u (State.writeToken s a1 a2) := by
  unfold State.writeToken
  grind [State.post_keeps, State.ringWrote_keeps, State.setQueue_keeps, Keeps.rest]

theorem State.runFences_keeps {u s : State} (h : Keeps u s) (q : Nat) : Keeps u (s.runFences q) := by
  unfold State.runFences
  refine foldl_keeps _ _ (fun s e h => ?_) s h
  obtain ⟨a, b⟩ := e
  grind [State.setQueue_keeps, State.writeCompletion_keeps, State.entryDone_keeps]

theorem State.finishEntry_keeps {u s : State} (h : Keeps u s) (a1 a2 a3) :
    Keeps u (State.finishEntry s a1 a2 a3) := by
  unfold State.finishEntry
  grind [State.entryDone_keeps, State.hostMove_keeps, State.runFences_keeps, State.writeCompletion_keeps, Keeps.rest]

theorem State.complete_keeps {u s : State} (h : Keeps u s) (a1 a2 a3) :
    Keeps u (State.complete s a1 a2 a3) := by
  unfold State.complete
  grind [State.finishEntry_keeps, State.setQueue_keeps, Keeps.rest]

theorem State.putToken_keeps {u s : State} (h : Keeps u s) (a1 a2 a3) :
    Keeps u (State.putToken s a1 a2 a3) := by
  unfold State.putToken
  grind [State.hostMove_keeps, State.writeToken_keeps, Keeps.rest]

theorem State.releaseToken_keeps {u s : State} (h : Keeps u s) (a1 a2 a3) :
    Keeps u (State.releaseToken s a1 a2 a3) := by
  unfold State.releaseToken
  grind [State.count_keeps, State.putToken_keeps, State.setQueue_keeps, Keeps.rest]

theorem State.drainItems_keeps {u s : State} (h : Keeps u s) (q : Nat) (l kept : List RingItem) :
    Keeps u (s.drainItems q l kept).1 := by
  fun_induction State.drainItems s q l kept <;> grind [State.putToken_keeps, State.finishEntry_keeps]

theorem State.drainWaiting_keeps {u s : State} (h : Keeps u s) (a1) :
    Keeps u (State.drainWaiting s a1) := by
  unfold State.drainWaiting
  grind [State.drainItems_keeps, State.setQueue_keeps, Keeps.rest]

theorem State.eventSignal_keeps {u s : State} (h : Keeps u s) (a1 a2) :
    Keeps u (State.eventSignal s a1 a2) := by
  unfold State.eventSignal
  grind [State.signal_keeps, Keeps.rest]

theorem State.pfEvent_keeps {u s : State} (h : Keeps u s) (a1) :
    Keeps u (State.pfEvent s a1) := by
  unfold State.pfEvent
  grind [State.eventSignal_keeps, Keeps.rest]

theorem State.raise_keeps {u s : State} (h : Keeps u s) (a1 a2 a3) :
    Keeps u (State.raise s a1 a2 a3) := by
  unfold State.raise
  grind [State.pfEvent_keeps, State.setBit_keeps, State.when_keeps, Keeps.rest, State.when]

theorem State.twsEvent_keeps {u s : State} (h : Keeps u s) (a1 a2) :
    Keeps u (State.twsEvent s a1 a2) := by
  unfold State.twsEvent
  grind [State.raise_keeps, Keeps.rest]

theorem State.hifEvent_keeps {u s : State} (h : Keeps u s) (a1) :
    Keeps u (State.hifEvent s a1) := by
  unfold State.hifEvent
  grind [State.eventSignal_keeps, State.pfEvent_keeps, Keeps.rest]

theorem State.mbxEvent_keeps {u s : State} (h : Keeps u s) (a1) :
    Keeps u (State.mbxEvent s a1) := by
  unfold State.mbxEvent
  grind [State.eventSignal_keeps, State.pfEvent_keeps, Keeps.rest]

theorem State.setQuality_keeps {u s : State} (h : Keeps u s) (a1) :
    Keeps u (State.setQuality s a1) := by
  unfold State.setQuality
  grind [State.twsEvent_keeps, State.wr_keeps, Keeps.rest]

theorem State.aer_keeps {u s : State} (h : Keeps u s) (a1 a2) :
    Keeps u (State.aer s a1 a2) := by
  unfold State.aer
  grind [State.withHif_keeps, Keeps.rest]

theorem State.setSessions_keeps {u s : State} (h : Keeps u s) (a1) :
    Keeps u (State.setSessions s a1) := by
  unfold State.setSessions
  grind [Keeps.rest]

theorem State.setSess_keeps {u s : State} (h : Keeps u s) (a1) :
    Keeps u (State.setSess s a1) := by
  unfold State.setSess
  grind [State.setSessions_keeps, Keeps.rest]

theorem State.markPages_keeps {u s : State} (h : Keeps u s) (a1 a2 a3) :
    Keeps u (State.markPages s a1 a2 a3) := by
  unfold State.markPages
  grind [Keeps.rest]

theorem State.takePage_keeps {u s : State} (h : Keeps u s) (a1) :
    Keeps u (State.takePage s a1).2 := by
  unfold State.takePage
  grind [State.draw_keeps, State.markPages_keeps, Keeps.rest]

theorem State.takePages_keeps {u s : State} (h : Keeps u s) (tierB : Bool) (n : Nat) : Keeps u (s.takePages tierB n).2 := by
  induction n generalizing s with
  | zero => exact h
  | succ n ih => unfold State.takePages; grind [State.takePage_keeps]

theorem State.freeColumn_keeps {u s : State} (h : Keeps u s) (a1) :
    Keeps u (State.freeColumn s a1) := by
  unfold State.freeColumn
  grind [State.markPages_keeps, Keeps.rest]

theorem State.withTier_keeps {u s : State} (h : Keeps u s) (tierB : Bool) (l : List Host.Cell)
    (hl : s.mem.wf → Memory.wf l = true) : Keeps u (s.withTier tierB l) := by
  unfold State.withTier
  refine State.withMem_keeps h _ fun w => ?_
  split
  · exact ⟨w.1, w.2.1, hl w⟩
  · exact ⟨w.1, hl w, w.2.2⟩

theorem State.copyPage_keeps {u s : State} (h : Keeps u s) (fromB : Bool) (p : Nat) (toB : Bool) (q : Nat) :
    Keeps u (s.copyPage fromB p toB q) := by
  unfold State.copyPage
  refine State.withTier_keeps h _ _ fun w => ?_
  have k : Memory.wf (s.tierCells toB) = true := by
    unfold State.tierCells
    split
    · exact w.2.2
    · exact w.2.1
  generalize (s.tierCells fromB).filter _ = src
  have k := SMap.wf_filter 0#8 _ (fun e => e.1 / 65536 != q) k
  revert k
  generalize (s.tierCells toB).filter _ = kept
  intro k
  induction src generalizing kept with
  | nil => exact k
  | cons e t ih => exact ih _ (SMap.wf_put _ _ _ _ k)

theorem State.copyPages_keeps {u s : State} (h : Keeps u s) (a1 a2 a3 a4 a5) :
    Keeps u (State.copyPages s a1 a2 a3 a4 a5) := by
  unfold State.copyPages
  grind [State.chargeTier_keeps, State.copyPage_keeps, State.stage_keeps, State.useTier_keeps, forEach_keeps, Keeps.rest]

theorem State.writeTokens_keeps {u s : State} (h : Keeps u s) (x : Session) (i : Nat) (l : List Nat) :
    Keeps u (s.writeTokens x i l) := by
  induction l generalizing s i with
  | nil => exact h
  | cons b t ih => exact ih (State.writeBytes_keeps h _ _ _) (i + 1)

theorem State.settleCopies_keeps {u s : State} (h : Keeps u s) :
    Keeps u (State.settleCopies s) := by
  unfold State.settleCopies
  grind [State.withServe_keeps, Keeps.rest]

theorem State.useCopy_keeps {u s : State} (h : Keeps u s) (a1 a2) :
    Keeps u (State.useCopy s a1 a2) := by
  unfold State.useCopy
  grind [State.withServe_keeps, Keeps.rest]

theorem State.chargeCst_keeps {u s : State} (h : Keeps u s) (a1 a2 a3) :
    Keeps u (State.chargeCst s a1 a2 a3) := by
  unfold State.chargeCst
  grind [Keeps.rest]

theorem State.evictColumn_keeps {u s : State} (h : Keeps u s) (a1 a2) :
    Keeps u (State.evictColumn s a1 a2) := by
  unfold State.evictColumn
  grind [State.count_keeps, State.freeColumn_keeps, State.setSess_keeps, Keeps.rest]

theorem State.demoteNow_keeps {u s : State} (h : Keeps u s) (a1 a2) :
    Keeps u (State.demoteNow s a1 a2) := by
  unfold State.demoteNow
  grind [State.copyPages_keeps, State.count_keeps, State.markPages_keeps, State.setSess_keeps, State.takePages_keeps, State.useCopy_keeps, Keeps.rest]

theorem State.relieve_keeps {u s : State} (h : Keeps u s) (tierB : Bool) (only : Option Nat) (waiting : List Nat)
    (enough : State → Bool) (k : Nat) : Keeps u (s.relieve tierB only waiting enough k) := by
  induction k generalizing s with
  | zero => exact h
  | succ k ih => unfold State.relieve; grind [State.demoteNow_keeps, State.evictColumn_keeps]

theorem State.makeRoom_keeps {u s : State} (h : Keeps u s) (a1 a2 a3 a4) :
    Keeps u (State.makeRoom s a1 a2 a3 a4).2 := by
  unfold State.makeRoom
  grind [State.relieve_keeps, Keeps.rest]

theorem State.makeRoom2_keeps {u s : State} (h : Keeps u s) (a1 a2 a3 a4) :
    Keeps u (State.makeRoom2 s a1 a2 a3 a4).2 := by
  unfold State.makeRoom2
  grind [State.makeRoom_keeps, Keeps.rest]

theorem State.placeExtents_keeps {u s : State} (h : Keeps u s) (busy : List (Nat × Nat)) (l : List Nat) :
    Keeps u (s.placeExtents busy l).2 := by
  induction l generalizing s busy with
  | nil => exact h
  | cons n t ih => unfold State.placeExtents; grind [State.draw_keeps]

theorem State.tableRoom_keeps {u s : State} (h : Keeps u s) (a1 a2 a3) :
    Keeps u (State.tableRoom s a1 a2 a3).2 := by
  unfold State.tableRoom
  grind [State.placeExtents_keeps, Keeps.rest]

theorem State.addColumns_keeps {u s : State} (h : Keeps u s) (a1 a2 a3 a4) :
    Keeps u (State.addColumns s a1 a2 a3 a4) := by
  unfold State.addColumns
  grind [State.setSess_keeps, State.takePages_keeps, forEach_keeps, Keeps.rest]

theorem State.allocStep_keeps {u s : State} (h : Keeps u s) (a1 a2 a3 a4 a5 a6) :
    Keeps u (State.allocStep s a1 a2 a3 a4 a5 a6).2 := by
  unfold State.allocStep
  grind (splits := 40) (gen := 20) (ematch := 20) [State.addColumns_keeps, State.makeRoom2_keeps, State.setSess_keeps, State.tableRoom_keeps, State.takePages_keeps, Keeps.rest]

theorem State.freeColumns_keeps {u s : State} (h : Keeps u s) (a1 a2) :
    Keeps u (State.freeColumns s a1 a2) := by
  unfold State.freeColumns
  grind [State.freeColumn_keeps, State.setSess_keeps, forEach_keeps, Keeps.rest]

theorem State.freeOld_keeps {u s : State} (h : Keeps u s) (a1) :
    Keeps u (State.freeOld s a1) := by
  unfold State.freeOld
  grind [State.freeColumn_keeps, State.setSess_keeps, forEach_keeps, Keeps.rest]

theorem State.settle_keeps {u s : State} (h : Keeps u s) (a1) :
    Keeps u (State.settle s a1) := by
  unfold State.settle
  grind [State.count_keeps, State.freeColumns_keeps, State.setSess_keeps, Keeps.rest]

theorem State.pruneJobs_keeps {u s : State} (h : Keeps u s) :
    Keeps u (State.pruneJobs s) := by
  unfold State.pruneJobs
  grind [Keeps.rest]

theorem State.dropSession_keeps {u s : State} (h : Keeps u s) (a1) :
    Keeps u (State.dropSession s a1) := by
  unfold State.dropSession
  grind (splits := 40) (gen := 20) (ematch := 20) [State.freeColumns_keeps, State.freeOld_keeps, State.markPages_keeps, State.pruneJobs_keeps, State.setSessions_keeps, Keeps.rest]

theorem State.smsEvent_keeps {u s : State} (h : Keeps u s) (a1) :
    Keeps u (State.smsEvent s a1) := by
  unfold State.smsEvent
  grind [State.raise_keeps, Keeps.rest]

theorem State.ptmEvent_keeps {u s : State} (h : Keeps u s) (a1) :
    Keeps u (State.ptmEvent s a1) := by
  unfold State.ptmEvent
  grind [State.raise_keeps, Keeps.rest]

theorem State.appendLog_keeps {u s : State} (h : Keeps u s) (a1) :
    Keeps u (State.appendLog s a1) := by
  unfold State.appendLog
  grind [Keeps.rest]

theorem State.logEvent_keeps {u s : State} (h : Keeps u s) (a1) :
    Keeps u (State.logEvent s a1) := by
  unfold State.logEvent
  grind [State.appendLog_keeps, State.count_keeps, State.smsEvent_keeps, Keeps.rest]

theorem State.mgtSend_keeps {u s : State} (h : Keeps u s) (a1) :
    Keeps u (State.mgtSend s a1) := by
  unfold State.mgtSend
  grind [State.withMgt_keeps, Keeps.rest]

theorem State.mgtEvent_keeps {u s : State} (h : Keeps u s) (a1 a2) :
    Keeps u (State.mgtEvent s a1 a2) := by
  unfold State.mgtEvent
  grind [State.mgtSend_keeps, State.when_keeps, State.withMgt_keeps, Keeps.rest, State.when]

theorem State.setJob_keeps {u s : State} (h : Keeps u s) (a1) :
    Keeps u (State.setJob s a1) := by
  unfold State.setJob
  grind [Keeps.rest]

theorem State.setLaunches_keeps {u s : State} (h : Keeps u s) (a1) :
    Keeps u (State.setLaunches s a1) := by
  unfold State.setLaunches
  grind [Keeps.rest]

theorem State.idleNow_keeps {u s : State} (h : Keeps u s) (a1) :
    Keeps u (State.idleNow s a1) := by
  unfold State.idleNow
  grind [Keeps.rest]

theorem State.checkStores_keeps {u s : State} (h : Keeps u s) :
    Keeps u (State.checkStores s) := by
  unfold State.checkStores
  grind [State.withCtl_keeps, Keeps.rest]

theorem State.dropLaunch_keeps {u s : State} (h : Keeps u s) (a1) :
    Keeps u (State.dropLaunch s a1) := by
  unfold State.dropLaunch
  grind [State.chargeCst_keeps, State.checkStores_keeps, State.idleNow_keeps, State.setLaunches_keeps, State.withLnk_keeps, Keeps.rest]

theorem State.setReq_keeps {u s : State} (h : Keeps u s) (a1 a2) :
    Keeps u (State.setReq s a1 a2) := by
  unfold State.setReq
  grind [State.setSess_keeps, Keeps.rest]

theorem State.completeReq_keeps {u s : State} (h : Keeps u s) (a1 a2 a3 a4 a5) :
    Keeps u (State.completeReq s a1 a2 a3 a4 a5) := by
  unfold State.completeReq
  grind [State.complete_keeps, State.setSess_keeps, Keeps.rest]

theorem State.refuseReq_keeps {u s : State} (h : Keeps u s) (a1 a2 a3) :
    Keeps u (State.refuseReq s a1 a2 a3) := by
  unfold State.refuseReq
  grind [State.complete_keeps, State.setSess_keeps, Keeps.rest]

theorem State.dropHeld_keeps {u s : State} (h : Keeps u s) (a1) :
    Keeps u (State.dropHeld s a1) := by
  unfold State.dropHeld
  grind [Keeps.rest]

theorem State.rollback_keeps {u s : State} (h : Keeps u s) (a1 a2 a3) :
    Keeps u (State.rollback s a1 a2 a3) := by
  unfold State.rollback
  grind [State.freeColumns_keeps, State.setSess_keeps, State.settle_keeps, Keeps.rest]

theorem State.endReq_keeps {u s : State} (h : Keeps u s) (a1 a2 a3 a4 a5) :
    Keeps u (State.endReq s a1 a2 a3 a4 a5) := by
  unfold State.endReq
  grind [State.completeReq_keeps, State.dropHeld_keeps, State.rollback_keeps, State.setReq_keeps, Keeps.rest]

theorem State.endWhere_keeps {u s : State} (h : Keeps u s) (a1 a2 a3 a4) :
    Keeps u (State.endWhere s a1 a2 a3 a4) := by
  unfold State.endWhere
  grind [State.endReq_keeps, forEach_keeps, Keeps.rest]

theorem State.markFaulted_keeps {u s : State} (h : Keeps u s) (a1 a2) :
    Keeps u (State.markFaulted s a1 a2) := by
  unfold State.markFaulted
  grind [State.setSessions_keeps, Keeps.rest]

theorem State.releaseOld_keeps {u s : State} (h : Keeps u s) (a1) :
    Keeps u (State.releaseOld s a1) := by
  unfold State.releaseOld
  grind [State.count_keeps, State.freeOld_keeps, Keeps.rest]

theorem State.abortClones_keeps {u s : State} (h : Keeps u s) (a1 a2) :
    Keeps u (State.abortClones s a1 a2) := by
  unfold State.abortClones
  grind [State.complete_keeps, State.dropSession_keeps, State.releaseOld_keeps, State.setSess_keeps, forEach_keeps, Keeps.rest]

theorem State.endJobIdle_keeps {u s : State} (h : Keeps u s) (a1 a2 a3) :
    Keeps u (State.endJobIdle s a1 a2 a3) := by
  unfold State.endJobIdle
  grind [State.abortClones_keeps, State.endWhere_keeps, forEach_keeps, Keeps.rest]

theorem State.unplan_keeps {u s : State} (h : Keeps u s) (a1) :
    Keeps u (State.unplan s a1) := by
  unfold State.unplan
  grind [State.dropLaunch_keeps, State.setSess_keeps, forEach_keeps, Keeps.rest]

theorem State.jobDown_keeps {u s : State} (h : Keeps u s) (a1 a2) :
    Keeps u (State.jobDown s a1 a2) := by
  unfold State.jobDown
  grind [State.count_keeps, State.endJobIdle_keeps, State.markFaulted_keeps, State.setJob_keeps, State.setLaunches_keeps, State.smsEvent_keeps, State.unplan_keeps, Keeps.rest]

theorem State.faultJob_keeps {u s : State} (h : Keeps u s) (a1 a2 a3 a4) :
    Keeps u (State.faultJob s a1 a2 a3 a4) := by
  unfold State.faultJob
  grind [State.jobDown_keeps, State.logEvent_keeps, Keeps.rest]

theorem State.faultCore_keeps {u s : State} (h : Keeps u s) (a1 a2 a3) :
    Keeps u (State.faultCore s a1 a2 a3) := by
  unfold State.faultCore
  grind [State.faultJob_keeps, State.logEvent_keeps, Keeps.rest]

theorem State.setHealth_keeps {u s : State} (h : Keeps u s) (a1 a2) :
    Keeps u (State.setHealth s a1 a2) := by
  unfold State.setHealth
  grind [Keeps.rest]

theorem State.moduleFault_keeps {u s : State} (h : Keeps u s) (a1) :
    Keeps u (State.moduleFault s a1) := by
  unfold State.moduleFault
  grind [State.faultJob_keeps, State.logEvent_keeps, State.mgtEvent_keeps, State.setBit_keeps, State.smsEvent_keeps, State.withCtl_keeps, forEach_keeps, Keeps.rest]

theorem State.markRetire_keeps {u s : State} (h : Keeps u s) (a1) :
    Keeps u (State.markRetire s a1) := by
  unfold State.markRetire
  grind (splits := 40) (gen := 20) (ematch := 20) [State.count_keeps, State.logEvent_keeps, State.moduleFault_keeps, State.setHealth_keeps, State.smsEvent_keeps, Keeps.rest]

theorem State.suspect_keeps {u s : State} (h : Keeps u s) (a1 a2 a3) :
    Keeps u (State.suspect s a1 a2 a3) := by
  unfold State.suspect
  grind [State.count_keeps, State.markRetire_keeps, State.setHealth_keeps, State.smsEvent_keeps, Keeps.rest]

theorem State.rampCore_keeps {u s : State} (h : Keeps u s) (a1 a2) :
    Keeps u (State.rampCore s a1 a2) := by
  unfold State.rampCore
  grind [State.setHealth_keeps, Keeps.rest]

theorem State.applyMargins_keeps {u s : State} (h : Keeps u s) :
    Keeps u (State.applyMargins s) := by
  unfold State.applyMargins
  grind [State.count_keeps, State.logEvent_keeps, State.rampCore_keeps, State.setHealth_keeps, State.smsEvent_keeps, forEach_keeps, Keeps.rest]

theorem State.newEntry_keeps {u s : State} (h : Keeps u s) (a1) :
    Keeps u (State.newEntry s a1).2 := by
  unfold State.newEntry
  grind [State.hostMove_keeps, State.setQueue_keeps, Keeps.rest]

theorem State.answer_keeps {u s : State} (h : Keeps u s) (a1 a2 a3 a4 a5 a6) :
    Keeps u (State.answer s a1 a2 a3 a4 a5 a6) := by
  unfold State.answer
  grind [State.complete_keeps, Keeps.rest]

theorem State.takeNumber_keeps {u s : State} (h : Keeps u s) :
    Keeps u (State.takeNumber s).2 := by
  unfold State.takeNumber
  grind [State.draw_keeps, Keeps.rest]

theorem State.moveFailed_keeps {u s : State} (h : Keeps u s) (a1 a2) :
    Keeps u (State.moveFailed s a1 a2) := by
  unfold State.moveFailed
  grind [State.setSess_keeps, Keeps.rest]

theorem State.beginMove_keeps {u s : State} (h : Keeps u s) (a1 a2) :
    Keeps u (State.beginMove s a1 a2) := by
  unfold State.beginMove
  grind [State.makeRoom2_keeps, State.moveFailed_keeps, State.setSess_keeps, State.takePages_keeps, Keeps.rest]

theorem State.startMove_keeps {u s : State} (h : Keeps u s) (num k : Nat) : Keeps u (s.startMove num k) := by
  induction k generalizing s with
  | zero => exact h
  | succ k ih => unfold State.startMove; grind [State.beginMove_keeps]

theorem State.goMoves_keeps {u s : State} (h : Keeps u s) (a1) :
    Keeps u (State.goMoves s a1) := by
  unfold State.goMoves
  grind [State.startMove_keeps, Keeps.rest]

theorem State.goOn_keeps {u s : State} (h : Keeps u s) (a1) :
    Keeps u (State.goOn s a1) := by
  unfold State.goOn
  grind [State.count_keeps, State.goMoves_keeps, State.when_keeps, Keeps.rest, State.when]

theorem State.stopMoves_keeps {u s : State} (h : Keeps u s) (a1) :
    Keeps u (State.stopMoves s a1) := by
  unfold State.stopMoves
  grind [State.markPages_keeps, State.setSess_keeps, forEach_keeps, Keeps.rest]

theorem State.acceptPause_keeps {u s : State} (h : Keeps u s) (a1 a2 a3) :
    Keeps u (State.acceptPause s a1 a2 a3) := by
  unfold State.acceptPause
  grind [State.completeReq_keeps, State.goOn_keeps, State.refuseReq_keeps, State.setSess_keeps, Keeps.rest]

theorem State.acceptResume_keeps {u s : State} (h : Keeps u s) (a1 a2) :
    Keeps u (State.acceptResume s a1 a2) := by
  unfold State.acceptResume
  grind [State.completeReq_keeps, State.goOn_keeps, State.setSess_keeps, State.stopMoves_keeps, Keeps.rest]

theorem State.copyColumns_keeps {u s : State} (h : Keeps u s) (fn : Nat) (l : List (Column × Nat)) :
    Keeps u (s.copyColumns fn l).2 := by
  induction l generalizing s with
  | nil => exact h
  | cons c t ih =>
    obtain ⟨c, b⟩ := c
    unfold State.copyColumns
    exact ih (State.copyPages_keeps (State.takePages_keeps h _ _) _ _ _ _ _)

theorem State.cloneQuota_keeps {u s : State} (h : Keeps u s) (a1 a2) :
    Keeps u (State.cloneQuota s a1 a2) := by
  unfold State.cloneQuota
  grind [State.count_keeps, State.refuseReq_keeps, Keeps.rest]

theorem State.startClone_keeps {u s : State} (h : Keeps u s) (a1 a2 a3 a4 a5 a6 a7) :
    Keeps u (State.startClone s a1 a2 a3 a4 a5 a6 a7) := by
  unfold State.startClone
  grind [State.copyColumns_keeps, State.copyPages_keeps, State.setSess_keeps, State.setSessions_keeps, State.takeNumber_keeps, State.takePages_keeps, Keeps.rest]

theorem State.acceptClone_keeps {u s : State} (h : Keeps u s) (a1 a2 a3 a4 a5) :
    Keeps u (State.acceptClone s a1 a2 a3 a4 a5) := by
  unfold State.acceptClone
  grind [State.cloneQuota_keeps, State.makeRoom2_keeps, State.placeExtents_keeps, State.refuseReq_keeps, State.startClone_keeps, Keeps.rest]

theorem State.acceptHead_keeps {u s : State} (h : Keeps u s) (a1 a2) :
    Keeps u (State.acceptHead s a1 a2) := by
  unfold State.acceptHead
  grind [State.acceptClone_keeps, State.acceptPause_keeps, State.acceptResume_keeps, State.completeReq_keeps, State.refuseReq_keeps, State.setReq_keeps, Keeps.rest]

theorem State.submitSession_keeps {u s : State} (h : Keeps u s) (a1 a2) :
    Keeps u (State.submitSession s a1 a2) := by
  unfold State.submitSession
  grind [State.acceptHead_keeps, State.answer_keeps, State.newEntry_keeps, State.setSess_keeps, Keeps.rest]

theorem State.submitOpen_keeps {u s : State} (h : Keeps u s) (a1 a2 a3) :
    Keeps u (State.submitOpen s a1 a2 a3) := by
  unfold State.submitOpen
  grind [State.answer_keeps, State.newEntry_keeps, State.setSessions_keeps, State.takeNumber_keeps, Keeps.rest]

theorem State.unplanReq_keeps {u s : State} (h : Keeps u s) (a1) :
    Keeps u (State.unplanReq s a1) := by
  unfold State.unplanReq
  grind [State.dropLaunch_keeps, State.setLaunches_keeps, forEach_keeps, Keeps.rest]

end Sys2Proof.Machine
end

