-- ==== Sys2Proof/Laws/KeepsPath.lean ====
section
/-! SUPPORT. What the operations keep, in the order of the model's files, from Submit to Loader: one lemma an operation, cited
in place of its unfolding. -/

set_option Elab.async false
set_option linter.all false

namespace Sys2Proof.Machine

theorem State.cancelReq_keeps {u s : State} (h : Keeps u s) (a1 a2 a3) :
    Keeps u (State.cancelReq s a1 a2 a3) := by
  unfold State.cancelReq
  grind [State.endReq_keeps, State.setReq_keeps, State.unplanReq_keeps, Keeps.rest]

theorem State.submitCancel_keeps {u s : State} (h : Keeps u s) (a1 a2) :
    Keeps u (State.submitCancel s a1 a2) := by
  unfold State.submitCancel
  grind [State.answer_keeps, State.cancelReq_keeps, State.newEntry_keeps, Keeps.rest]

theorem State.finishClose_keeps {u s : State} (h : Keeps u s) (a1) :
    Keeps u (State.finishClose s a1) := by
  unfold State.finishClose
  grind (splits := 40) (gen := 20) (ematch := 20) [State.complete_keeps, State.dropSession_keeps, State.freeColumns_keeps, State.freeOld_keeps, State.markPages_keeps, State.setSess_keeps, Keeps.rest]

theorem State.submitClose_keeps {u s : State} (h : Keeps u s) (a1) :
    Keeps u (State.submitClose s a1) := by
  unfold State.submitClose
  grind (splits := 40) (gen := 20) (ematch := 20) [State.abortClones_keeps, State.answer_keeps, State.cancelReq_keeps, State.completeReq_keeps, State.finishClose_keeps, State.newEntry_keeps, State.setSess_keeps, State.stopMoves_keeps, forEach_keeps, Keeps.rest]

theorem State.submitNop_keeps {u s : State} (h : Keeps u s) (a1) :
    Keeps u (State.submitNop s a1) := by
  unfold State.submitNop
  grind [State.answer_keeps, State.newEntry_keeps, Keeps.rest]

theorem State.submitFence_keeps {u s : State} (h : Keeps u s) (a1) :
    Keeps u (State.submitFence s a1) := by
  unfold State.submitFence
  grind [State.answer_keeps, State.newEntry_keeps, State.runFences_keeps, State.setQueue_keeps, Keeps.rest]

theorem State.submitUnknown_keeps {u s : State} (h : Keeps u s) (a1 a2) :
    Keeps u (State.submitUnknown s a1 a2) := by
  unfold State.submitUnknown
  grind [State.answer_keeps, State.newEntry_keeps, Keeps.rest]

theorem State.place_keeps {u s : State} (h : Keeps u s) (a1 a2 a3 a4 a5) :
    Keeps u (State.place s a1 a2 a3 a4 a5) := by
  unfold State.place
  grind [State.chargeCst_keeps, State.setLaunches_keeps, State.setReq_keeps, State.withLnk_keeps, Keeps.rest]

theorem State.regenerate_keeps {u s : State} (h : Keeps u s) (a1 a2) :
    Keeps u (State.regenerate s a1 a2) := by
  unfold State.regenerate
  grind [State.count_keeps, State.freeColumn_keeps, State.setSess_keeps, forEach_keeps, Keeps.rest]

theorem State.restore_keeps {u s : State} (h : Keeps u s) (a1) :
    Keeps u (State.restore s a1) := by
  unfold State.restore
  grind [State.markPages_keeps, State.setSess_keeps, forEach_keeps, Keeps.rest]

theorem State.countRegen_keeps {u s : State} (h : Keeps u s) (a1 a2) :
    Keeps u (State.countRegen s a1 a2) := by
  unfold State.countRegen
  grind [State.count_keeps, Keeps.rest]

theorem State.placeNext_keeps {u s : State} (h : Keeps u s) (a1 a2 a3 a4 a5) :
    Keeps u (State.placeNext s a1 a2 a3 a4 a5) := by
  unfold State.placeNext
  grind (splits := 40) (gen := 20) (ematch := 20) [State.allocStep_keeps, State.countRegen_keeps, State.count_keeps, State.place_keeps, State.refuseReq_keeps, State.restore_keeps, State.setReq_keeps, State.setSess_keeps, Keeps.rest]

theorem State.admitOne_keeps {u s : State} (h : Keeps u s) (a1 a2 a3) :
    Keeps u (State.admitOne s a1 a2 a3) := by
  unfold State.admitOne
  grind [State.aer_keeps, State.endReq_keeps, State.hostMove_keeps, State.placeNext_keeps, State.refuseReq_keeps, State.regenerate_keeps, Keeps.rest]

theorem State.emitToken_keeps {u s : State} (h : Keeps u s) (a1 a2 a3 a4 a5) :
    Keeps u (State.emitToken s a1 a2 a3 a4 a5) := by
  unfold State.emitToken
  grind [State.releaseToken_keeps, Keeps.rest]

theorem State.endStep_keeps {u s : State} (h : Keeps u s) (a1 a2 a3) :
    Keeps u (State.endStep s a1 a2 a3) := by
  unfold State.endStep
  grind [State.endReq_keeps, Keeps.rest]

theorem State.emitAll_keeps {u s : State} (h : Keeps u s) (x : Session) (o : GenerateOps) (final : Bool) (e : Nat)
    (r : Request) (l : List (Nat × Bool × Bool)) : Keeps u (s.emitAll x o final e r l).1 := by
  induction l generalizing s r with
  | nil => exact h
  | cons a t ih =>
    obtain ⟨b, c, d⟩ := a
    unfold State.emitAll
    grind [State.when, State.count_keeps, State.emitToken_keeps]

theorem State.endInternal_keeps {u s : State} (h : Keeps u s) (a1 a2) :
    Keeps u (State.endInternal s a1 a2) := by
  unfold State.endInternal
  grind [State.endReq_keeps, State.logEvent_keeps, State.settle_keeps, Keeps.rest]

theorem State.decodeDone_keeps {u s : State} (h : Keeps u s) (a1 a2 a3 a4) :
    Keeps u (State.decodeDone s a1 a2 a3 a4) := by
  unfold State.decodeDone
  grind [State.emitAll_keeps, State.endReq_keeps, State.setReq_keeps, State.setSess_keeps, State.settle_keeps, State.writeTokens_keeps, Keeps.rest]

theorem State.numericJob_keeps {u s : State} (h : Keeps u s) (a1) :
    Keeps u (State.numericJob s a1) := by
  unfold State.numericJob
  grind [State.markFaulted_keeps, State.setJob_keeps, State.setLaunches_keeps, State.unplan_keeps, Keeps.rest]

theorem State.numericEnd_keeps {u s : State} (h : Keeps u s) (a1 a2) :
    Keeps u (State.numericEnd s a1 a2) := by
  unfold State.numericEnd
  grind [State.endReq_keeps, State.settle_keeps, Keeps.rest]

theorem State.stampStep_keeps {u s : State} (h : Keeps u s) (a1 a2) :
    Keeps u (State.stampStep s a1 a2) := by
  unfold State.stampStep
  grind [State.setSess_keeps, Keeps.rest]

theorem State.carriedDone_keeps {u s : State} (h : Keeps u s) (a1) :
    Keeps u (State.carriedDone s a1) := by
  unfold State.carriedDone
  grind [State.setSess_keeps, State.settle_keeps, Keeps.rest]

theorem State.stepEntry_keeps {u s : State} (h : Keeps u s) (a1 a2 a3 a4) :
    Keeps u (State.stepEntry s a1 a2 a3 a4) := by
  unfold State.stepEntry
  grind (splits := 40) (gen := 20) (ematch := 20) [State.carriedDone_keeps, State.decodeDone_keeps, State.endInternal_keeps, State.endStep_keeps, State.numericEnd_keeps, State.setReq_keeps, State.settle_keeps, State.stampStep_keeps, Keeps.rest]

theorem State.recomputeDone_keeps {u s : State} (h : Keeps u s) (a1 a2 a3 a4) :
    Keeps u (State.recomputeDone s a1 a2 a3 a4) := by
  unfold State.recomputeDone
  grind [State.count_keeps, State.setReq_keeps, State.setSess_keeps, Keeps.rest]

theorem State.prefillDone_keeps {u s : State} (h : Keeps u s) (a1 a2 a3 a4) :
    Keeps u (State.prefillDone s a1 a2 a3 a4) := by
  unfold State.prefillDone
  grind (splits := 40) (gen := 20) (ematch := 20) [State.emitToken_keeps, State.endInternal_keeps, State.endReq_keeps, State.setReq_keeps, State.setSess_keeps, State.settle_keeps, State.writeTokens_keeps, Keeps.rest]

theorem State.applyTune_keeps {u s : State} (h : Keeps u s) (a1 a2 a3) :
    Keeps u (State.applyTune s a1 a2 a3) := by
  unfold State.applyTune
  grind [State.withLst_keeps, Keeps.rest]

theorem State.tuneDone_keeps {u s : State} (h : Keeps u s) (a1 a2 a3 a4 a5 a6) :
    Keeps u (State.tuneDone s a1 a2 a3 a4 a5 a6) := by
  unfold State.tuneDone
  grind (splits := 40) (gen := 20) (ematch := 20) [State.aer_keeps, State.applyTune_keeps, State.endInternal_keeps, State.endReq_keeps, State.hostMove_keeps, State.post_keeps, State.setReq_keeps, State.settle_keeps, Keeps.rest]

theorem State.chunkEntry_keeps {u s : State} (h : Keeps u s) (a1 a2 a3 a4 a5) :
    Keeps u (State.chunkEntry s a1 a2 a3 a4 a5) := by
  unfold State.chunkEntry
  grind [State.carriedDone_keeps, State.endStep_keeps, State.numericEnd_keeps, State.prefillDone_keeps, State.recomputeDone_keeps, State.settle_keeps, State.stampStep_keeps, State.tuneDone_keeps, Keeps.rest]

theorem State.endLaunch_keeps {u s : State} (h : Keeps u s) (a1) :
    Keeps u (State.endLaunch s a1) := by
  unfold State.endLaunch
  grind [State.dropLaunch_keeps, State.endJobIdle_keeps, State.finishClose_keeps, State.goMoves_keeps, State.setJob_keeps, State.setSessions_keeps, State.withFab_keeps, forEach_keeps, Keeps.rest]

theorem State.clearMarks_keeps {u s : State} (h : Keeps u s) (a1) :
    Keeps u (State.clearMarks s a1) := by
  unfold State.clearMarks
  grind [State.withFab_keeps, Keeps.rest]

theorem State.endEntries_keeps {u s : State} (h : Keeps u s) (a1 a2 a3) (h3 : ∀ s y0 y1, Keeps u s → Keeps u (a3 s y0 y1)) :
    Keeps u (State.endEntries s a1 a2 a3) := by
  unfold State.endEntries
  grind [State.clearMarks_keeps, State.endLaunch_keeps, State.numericJob_keeps, forEach_keeps, Keeps.rest]

theorem State.stepComplete_keeps {u s : State} (h : Keeps u s) (a1 a2) :
    Keeps u (State.stepComplete s a1 a2) := by
  unfold State.stepComplete
  grind [State.endEntries_keeps, State.stepEntry_keeps, Keeps.rest]

theorem State.chunkComplete_keeps {u s : State} (h : Keeps u s) (a1 a2) :
    Keeps u (State.chunkComplete s a1 a2) := by
  unfold State.chunkComplete
  grind [State.chunkEntry_keeps, State.endEntries_keeps, Keeps.rest]

theorem State.finishHeld_keeps {u s : State} (h : Keeps u s) (a1 a2) :
    Keeps u (State.finishHeld s a1 a2) := by
  unfold State.finishHeld
  grind [State.completeReq_keeps, State.finishClose_keeps, Keeps.rest]

theorem State.tokenRelease_keeps {u s : State} (h : Keeps u s) (a1 a2) :
    Keeps u (State.tokenRelease s a1 a2) := by
  unfold State.tokenRelease
  grind [State.finishHeld_keeps, State.releaseToken_keeps, Keeps.rest]

theorem State.setCore_keeps {u s : State} (h : Keeps u s) (a1 a2) :
    Keeps u (State.setCore s a1 a2) := by
  unfold State.setCore
  grind [State.withCtl_keeps, Keeps.rest]

theorem State.setEntry_keeps {u s : State} (h : Keeps u s) (a1 a2) :
    Keeps u (State.setEntry s a1 a2) := by
  unfold State.setEntry
  grind [State.withCtl_keeps, Keeps.rest]

theorem State.setBank_keeps {u s : State} (h : Keeps u s) (a1 a2 a3 a4) :
    Keeps u (State.setBank s a1 a2 a3 a4) := by
  unfold State.setBank
  grind [State.withFab_keeps, Keeps.rest]

theorem State.coreJobFault_keeps {u s : State} (h : Keeps u s) (a1 a2 a3 a4 a5 a6) :
    Keeps u (State.coreJobFault s a1 a2 a3 a4 a5 a6) := by
  unfold State.coreJobFault
  grind [State.faultCore_keeps, Keeps.rest]

theorem State.unitCheck_keeps {u s : State} (h : Keeps u s) (a1 a2 a3) :
    Keeps u (State.unitCheck s a1 a2 a3) := by
  unfold State.unitCheck
  grind [State.coreJobFault_keeps, State.count_keeps, State.suspect_keeps, Keeps.rest]

theorem State.seqFault_keeps {u s : State} (h : Keeps u s) (a1) :
    Keeps u (State.seqFault s a1) := by
  unfold State.seqFault
  grind [State.coreJobFault_keeps, State.count_keeps, State.setCore_keeps, Keeps.rest]

theorem State.nextEntry_keeps {u s : State} (h : Keeps u s) (a1) :
    Keeps u (State.nextEntry s a1) := by
  unfold State.nextEntry
  grind [State.setCore_keeps, Keeps.rest]

theorem State.stallCore_keeps {u s : State} (h : Keeps u s) (a1 a2) :
    Keeps u (State.stallCore s a1 a2) := by
  unfold State.stallCore
  grind [State.count_keeps, State.setCore_keeps, State.when_keeps, Keeps.rest, State.when]

theorem State.reach_keeps {u s : State} (h : Keeps u s) (a1 a2 a3 a4 a5) :
    Keeps u (State.reach s a1 a2 a3 a4 a5).2 := by
  unfold State.reach
  grind [State.setCore_keeps, State.stallCore_keeps, Keeps.rest]

theorem State.resume_keeps {u s : State} (h : Keeps u s) (a1) :
    Keeps u (State.resume s a1) := by
  unfold State.resume
  grind [State.setCore_keeps, forEach_keeps, Keeps.rest]

theorem State.consume_keeps {u s : State} (h : Keeps u s) (a1) :
    Keeps u (State.consume s a1) := by
  unfold State.consume
  grind [State.setEntry_keeps, Keeps.rest]

theorem State.writeEntry_keeps {u s : State} (h : Keeps u s) (a1 a2 a3 a4 a5 a6) :
    Keeps u (State.writeEntry s a1 a2 a3 a4 a5 a6) := by
  unfold State.writeEntry
  grind [State.faultJob_keeps, State.resume_keeps, State.setEntry_keeps, State.writeBytes_keeps, Keeps.rest]

theorem State.showEntries_keeps {u s : State} (h : Keeps u s) :
    Keeps u (State.showEntries s) := by
  unfold State.showEntries
  grind [State.resume_keeps, State.setEntry_keeps, State.stallCore_keeps, forEach_keeps, Keeps.rest]

theorem State.barFault_keeps {u s : State} (h : Keeps u s) (a1 a2 a3) :
    Keeps u (State.barFault s a1 a2 a3) := by
  unfold State.barFault
  grind [State.coreJobFault_keeps, State.count_keeps, State.setCore_keeps, Keeps.rest]

theorem State.arrive_keeps {u s : State} (h : Keeps u s) (a1 a2 a3 a4) :
    Keeps u (State.arrive s a1 a2 a3 a4) := by
  unfold State.arrive
  grind [State.barFault_keeps, State.setCore_keeps, Keeps.rest]

theorem State.tidyWaits_keeps {u s : State} (h : Keeps u s) (a1) :
    Keeps u (State.tidyWaits s a1) := by
  unfold State.tidyWaits
  grind [State.setCore_keeps, Keeps.rest]

theorem State.clearCore_keeps {u s : State} (h : Keeps u s) (a1) :
    Keeps u (State.clearCore s a1) := by
  unfold State.clearCore
  grind [State.setCore_keeps, Keeps.rest]

theorem State.drawShadow_keeps {u s : State} (h : Keeps u s) (a1) :
    Keeps u (State.drawShadow s a1) := by
  unfold State.drawShadow
  grind [State.withFab_keeps, Keeps.rest]

theorem State.startProgram_keeps {u s : State} (h : Keeps u s) (a1 a2 a3) :
    Keeps u (State.startProgram s a1 a2 a3) := by
  unfold State.startProgram
  grind [State.drawShadow_keeps, State.reach_keeps, State.setCore_keeps, Keeps.rest]

theorem State.nameCore_keeps {u s : State} (h : Keeps u s) (a1 a2 a3) :
    Keeps u (State.nameCore s a1 a2 a3) := by
  unfold State.nameCore
  grind [State.setCore_keeps, State.startProgram_keeps, Keeps.rest]

theorem State.nextProgram_keeps {u s : State} (h : Keeps u s) (a1) :
    Keeps u (State.nextProgram s a1) := by
  unfold State.nextProgram
  grind [State.setCore_keeps, State.startProgram_keeps, Keeps.rest]

theorem execQueueStallTimeout_keeps {u s : State} (h : Keeps u s) (a0 a1) :
    KeepsO u (execQueueStallTimeout a0 a1 s) := by
  unfold execQueueStallTimeout
  grind (splits := 40) (gen := 20) (ematch := 20) [State.advance_keeps, State.coreJobFault_keeps, State.nextProgram_keeps, State.setCore_keeps, Keeps.rest, KeepsO.next]

theorem execSequencerStepEnd_keeps {u s : State} (h : Keeps u s) (a0 a1) :
    KeepsO u (execSequencerStepEnd a0 a1 s) := by
  unfold execSequencerStepEnd
  grind [State.advance_keeps, State.consume_keeps, State.nextProgram_keeps, State.setCore_keeps, Keeps.rest, KeepsO.next]

theorem State.push_keeps {u s : State} (h : Keeps u s) (a1 a2) :
    Keeps u (State.push s a1 a2) := by
  unfold State.push
  grind [State.nextEntry_keeps, State.setCore_keeps, State.tidyWaits_keeps, Keeps.rest]

theorem execEnginePush_keeps {u s : State} (h : Keeps u s) (a0 a1 a2 a3) :
    KeepsO u (execEnginePush a0 a1 a2 a3 s) := by
  unfold execEnginePush
  grind [State.advance_keeps, State.push_keeps, State.seqFault_keeps, State.unitCheck_keeps, Keeps.rest, KeepsO.next]

theorem execBarCfg_keeps {u s : State} (h : Keeps u s) (a0 a1 a2 a3) :
    KeepsO u (execBarCfg a0 a1 a2 a3 s) := by
  unfold execBarCfg
  grind [State.advance_keeps, State.nextEntry_keeps, State.seqFault_keeps, State.setCore_keeps, Keeps.rest, KeepsO.next]

theorem execWaitQ_keeps {u s : State} (h : Keeps u s) (a0 a1 a2 a3) :
    KeepsO u (execWaitQ a0 a1 a2 a3 s) := by
  unfold execWaitQ
  grind [State.advance_keeps, State.nextEntry_keeps, State.reach_keeps, Keeps.rest, KeepsO.next]

theorem execEnd_keeps {u s : State} (h : Keeps u s) (a0 a1) :
    KeepsO u (execEnd a0 a1 s) := by
  unfold execEnd
  grind [State.advance_keeps, State.setCore_keeps, Keeps.rest, KeepsO.next]

theorem execEngineEntryStart_keeps {u s : State} (h : Keeps u s) (a0 a1 a2) :
    KeepsO u (execEngineEntryStart a0 a1 a2 s) := by
  unfold execEngineEntryStart
  grind [State.advance_keeps, State.push_keeps, State.setCore_keeps, State.tidyWaits_keeps, Keeps.rest, KeepsO.next]

theorem execEngineEntryComplete_keeps {u s : State} (h : Keeps u s) (a0 a1 a2 a3) :
    KeepsO u (execEngineEntryComplete a0 a1 a2 a3 s) := by
  unfold execEngineEntryComplete
  grind [State.advance_keeps, State.arrive_keeps, State.setCore_keeps, State.tidyWaits_keeps, State.unitCheck_keeps, Keeps.rest, KeepsO.next]

theorem execBarrierHang_keeps {u s : State} (h : Keeps u s) (a0 a1 a2) :
    KeepsO u (execBarrierHang a0 a1 a2 s) := by
  unfold execBarrierHang
  grind [State.advance_keeps, State.coreJobFault_keeps, State.count_keeps, State.logEvent_keeps, State.setCore_keeps, State.smsEvent_keeps, Keeps.rest, KeepsO.next]

theorem State.forceBar_keeps {u s : State} (h : Keeps u s) (a1 a2 a3) :
    Keeps u (State.forceBar s a1 a2 a3) := by
  unfold State.forceBar
  grind (splits := 40) (gen := 20) (ematch := 20) [State.count_keeps, State.logEvent_keeps, State.setCore_keeps, State.setJob_keeps, State.tidyWaits_keeps, Keeps.rest]

theorem execCpxBarForceRelease_keeps {u s : State} (h : Keeps u s) (a0 a1 a2) :
    KeepsO u (execCpxBarForceRelease a0 a1 a2 s) := by
  unfold execCpxBarForceRelease
  grind [State.advance_keeps, State.forceBar_keeps, Keeps.rest, KeepsO.next]

theorem execCpxBarForceSet_keeps {u s : State} (h : Keeps u s) (a0 a1 a2) :
    KeepsO u (execCpxBarForceSet a0 a1 a2 s) := by
  unfold execCpxBarForceSet
  grind [State.advance_keeps, State.forceBar_keeps, Keeps.rest, KeepsO.next]

theorem State.setObj_keeps {u s : State} (h : Keeps u s) (a1 a2) :
    Keeps u (State.setObj s a1 a2) := by
  unfold State.setObj
  grind [State.withLst_keeps, Keeps.rest]

theorem State.remapNow_keeps {u s : State} (h : Keeps u s) :
    Keeps u (State.remapNow s) := by
  unfold State.remapNow
  grind [State.withLst_keeps, Keeps.rest]

theorem State.setBuf_keeps {u s : State} (h : Keeps u s) (a1 a2 a3) :
    Keeps u (State.setBuf s a1 a2 a3) := by
  unfold State.setBuf
  grind [State.withFab_keeps, Keeps.rest]

theorem State.markOob_keeps {u s : State} (h : Keeps u s) (a1) :
    Keeps u (State.markOob s a1) := by
  unfold State.markOob
  grind [State.withFab_keeps, Keeps.rest]

theorem State.markNumeric_keeps {u s : State} (h : Keeps u s) (a1) :
    Keeps u (State.markNumeric s a1) := by
  unfold State.markNumeric
  grind [State.withFab_keeps, Keeps.rest]

theorem State.streamTile_keeps {u s : State} (h : Keeps u s) (a1 a2 a3 a4) :
    Keeps u (State.streamTile s a1 a2 a3 a4) := by
  unfold State.streamTile
  grind [State.chargeTier_keeps, State.stage_keeps, State.useTier_keeps, State.withFab_keeps, Keeps.rest]

theorem State.countPasses_keeps {u s : State} (h : Keeps u s) (a1 a2 a3 a4) :
    Keeps u (State.countPasses s a1 a2 a3 a4) := by
  unfold State.countPasses
  grind [State.count_keeps, State.wr_keeps, Keeps.rest]

theorem State.bookEnergy_keeps {u s : State} (h : Keeps u s) (a1 a2 a3 a4 a5) :
    Keeps u (State.bookEnergy s a1 a2 a3 a4 a5) := by
  unfold State.bookEnergy
  grind [State.withFab_keeps, Keeps.rest]

theorem State.nextVector_keeps {u s : State} (h : Keeps u s) :
    Keeps u (State.nextVector s) := by
  unfold State.nextVector
  grind [State.withFab_keeps, Keeps.rest]

theorem State.occupy_keeps {u s : State} (h : Keeps u s) (a1 a2 a3) :
    Keeps u (State.occupy s a1 a2 a3) := by
  unfold State.occupy
  grind [State.withFab_keeps, Keeps.rest]

theorem State.standIns_keeps {u s : State} (h : Keeps u s) (a1 a2 a3 a4 a5 a6) :
    Keeps u (State.standIns s a1 a2 a3 a4 a5 a6) := by
  unfold State.standIns
  grind [State.coreJobFault_keeps, State.count_keeps, State.streamTile_keeps, forEach_keeps, Keeps.rest]

theorem State.takeResidual_keeps {u s : State} (h : Keeps u s) (a1 a2 a3 a4) :
    Keeps u (State.takeResidual s a1 a2 a3 a4) := by
  unfold State.takeResidual
  grind [State.setEntry_keeps, Keeps.rest]

theorem State.loadInto_keeps {u s : State} (h : Keeps u s) (a1 a2 a3 a4 a5 a6 a7) :
    Keeps u (State.loadInto s a1 a2 a3 a4 a5 a6 a7) := by
  unfold State.loadInto
  grind (splits := 40) (gen := 20) (ematch := 20) [State.bookEnergy_keeps, State.countPasses_keeps, State.count_keeps, State.markNumeric_keeps, State.occupy_keeps, State.setBank_keeps, State.standIns_keeps, State.takeResidual_keeps, State.withFab_keeps, forEach_keeps, Keeps.rest]

theorem State.loadForward_keeps {u s : State} (h : Keeps u s) (a1 a2) :
    Keeps u (State.loadForward s a1 a2) := by
  unfold State.loadForward
  grind [State.coreJobFault_keeps, State.loadInto_keeps, Keeps.rest]

theorem State.fillLog_keeps {u s : State} (h : Keeps u s) (core k : Nat) (p : LogPair) : Keeps u (s.fillLog core k p) := by
  unfold State.fillLog
  exact State.wr_keeps (foldl_keeps _ _ (fun s e h => State.wr_keeps h _ _ _) s h) _ _ _

theorem State.logPair_keeps {u s : State} (h : Keeps u s) (a1 a2 a3) :
    Keeps u (State.logPair s a1 a2 a3) := by
  unfold State.logPair
  grind [State.fillLog_keeps, State.withFab_keeps, Keeps.rest]

theorem State.holdLog_keeps {u s : State} (h : Keeps u s) (a1 a2) :
    Keeps u (State.holdLog s a1 a2) := by
  unfold State.holdLog
  grind [State.withFab_keeps, Keeps.rest]

theorem State.releaseLog_keeps {u s : State} (h : Keeps u s) (a1 a2) :
    Keeps u (State.releaseLog s a1 a2) := by
  unfold State.releaseLog
  grind [State.fillLog_keeps, State.withFab_keeps, Keeps.rest]

theorem State.dropLogs_keeps {u s : State} (h : Keeps u s) (a1) :
    Keeps u (State.dropLogs s a1) := by
  unfold State.dropLogs
  grind [State.withFab_keeps, Keeps.rest]

theorem State.tallyFail_keeps {u s : State} (h : Keeps u s) (a1 a2 a3 a4 a5 a6 a7) :
    Keeps u (State.tallyFail s a1 a2 a3 a4 a5 a6 a7) := by
  unfold State.tallyFail
  grind [State.count_keeps, State.faultCore_keeps, State.logEvent_keeps, State.logPair_keeps, State.suspect_keeps, Keeps.rest]

theorem State.satLog_keeps {u s : State} (h : Keeps u s) (a1 a2 a3 a4 a5 a6 a7 a8) :
    Keeps u (State.satLog s a1 a2 a3 a4 a5 a6 a7 a8) := by
  unfold State.satLog
  grind (splits := 40) (gen := 20) (ematch := 20) [State.count_keeps, State.wr_keeps, Keeps.rest]

theorem State.satEvent_keeps {u s : State} (h : Keeps u s) (a1 a2 a3 a4 a5 a6 a7 a8) :
    Keeps u (State.satEvent s a1 a2 a3 a4 a5 a6 a7 a8) := by
  unfold State.satEvent
  grind [State.logEvent_keeps, State.satLog_keeps, State.suspect_keeps, Keeps.rest]

theorem State.settleBank_keeps {u s : State} (h : Keeps u s) (a1 a2 a3) :
    Keeps u (State.settleBank s a1 a2 a3) := by
  unfold State.settleBank
  grind [State.setBank_keeps, Keeps.rest]

theorem State.checkResults_keeps {u s : State} (h : Keeps u s) (a1 a2 a3 a4) :
    Keeps u (State.checkResults s a1 a2 a3 a4) := by
  unfold State.checkResults
  grind [State.satEvent_keeps, State.tallyFail_keeps, forEach_keeps, Keeps.rest]

theorem State.arriveFlow_keeps {u s : State} (h : Keeps u s) (a1 a2 a3 a4) :
    Keeps u (State.arriveFlow s a1 a2 a3 a4) := by
  unfold State.arriveFlow
  grind [State.checkResults_keeps, State.setBank_keeps, State.withFab_keeps, Keeps.rest]

theorem execColumnFlowArrive_keeps {u s : State} (h : Keeps u s) (a0 a1 a2 a3 a4 a5) :
    KeepsO u (execColumnFlowArrive a0 a1 a2 a3 a4 a5 s) := by
  unfold execColumnFlowArrive
  grind [State.advance_keeps, State.arriveFlow_keeps, State.settleBank_keeps, State.unitCheck_keeps, Keeps.rest, KeepsO.next]

theorem execSaturationRescue_keeps {u s : State} (h : Keeps u s) (a0 a1 a2 a3 a4 a5 a6) :
    KeepsO u (execSaturationRescue a0 a1 a2 a3 a4 a5 a6 s) := by
  unfold execSaturationRescue
  grind [State.advance_keeps, State.count_keeps, State.setBank_keeps, State.settleBank_keeps, Keeps.rest, KeepsO.next]

theorem execWeltWorkComplete_keeps {u s : State} (h : Keeps u s) (a0 a1 a2 a3 a4) :
    KeepsO u (execWeltWorkComplete a0 a1 a2 a3 a4 s) := by
  unfold execWeltWorkComplete
  grind [State.advance_keeps, State.count_keeps, State.setBank_keeps, State.settleBank_keeps, State.unitCheck_keeps, Keeps.rest, KeepsO.next]

theorem State.shadowFail_keeps {u s : State} (h : Keeps u s) (a1) :
    Keeps u (State.shadowFail s a1) := by
  unfold State.shadowFail
  grind [State.count_keeps, State.faultJob_keeps, State.logEvent_keeps, State.logPair_keeps, State.suspect_keeps, Keeps.rest]

theorem execShadowCheck_keeps {u s : State} (h : Keeps u s) (a0 a1 a2 a3 a4 a5) :
    KeepsO u (execShadowCheck a0 a1 a2 a3 a4 a5 s) := by
  unfold execShadowCheck
  grind [State.advance_keeps, State.count_keeps, State.shadowFail_keeps, State.withFab_keeps, Keeps.rest, KeepsO.next]

theorem State.rowSums_keeps {u s : State} (h : Keeps u s) (core cluster : Nat) (v : Vector) (c : ObjContent) (r : ClusterRec)
    (cs : List XbCharges) : Keeps u (s.rowSums core cluster v c r cs) := by
  unfold State.rowSums
  exact State.withFab_keeps (State.setBank_keeps (State.setBank_keeps (forEach_keeps _ _
    (fun s x h => forEach_keeps _ _ (fun s g h => State.satEvent_keeps h _ _ _ _ _ _ _ _) _ h) _ h) _ _ _ _) _ _ _ _) _

theorem State.loadTranspose_keeps {u s : State} (h : Keeps u s) (a1 a2 a3) :
    Keeps u (State.loadTranspose s a1 a2 a3) := by
  unfold State.loadTranspose
  grind (splits := 40) (gen := 20) (ematch := 20) [State.bookEnergy_keeps, State.countPasses_keeps, State.markNumeric_keeps, State.nextVector_keeps, State.occupy_keeps, State.rowSums_keeps, State.standIns_keeps, Keeps.rest]

theorem State.makeLoad_keeps {u s : State} (h : Keeps u s) (a1) :
    Keeps u (State.makeLoad s a1) := by
  unfold State.makeLoad
  grind [State.loadForward_keeps, State.loadTranspose_keeps, Keeps.rest]

theorem State.setProbe_keeps {u s : State} (h : Keeps u s) (a1 a2 a3) :
    Keeps u (State.setProbe s a1 a2 a3) := by
  unfold State.setProbe
  grind [State.withFab_keeps, Keeps.rest]

theorem State.grantPass_keeps {u s : State} (h : Keeps u s) (a1 a2) :
    Keeps u (State.grantPass s a1 a2) := by
  unfold State.grantPass
  grind [State.occupy_keeps, State.setArb_keeps, State.setProbe_keeps, Keeps.rest]

theorem State.recallPasses_keeps {u s : State} (h : Keeps u s) (a1 a2) :
    Keeps u (State.recallPasses s a1 a2) := by
  unfold State.recallPasses
  grind [State.occupy_keeps, State.setProbe_keeps, Keeps.rest]

theorem State.grantLoad_keeps {u s : State} (h : Keeps u s) (a1) :
    Keeps u (State.grantLoad s a1) := by
  unfold State.grantLoad
  grind [State.makeLoad_keeps, State.setArb_keeps, State.setProbe_keeps, State.withFab_keeps, Keeps.rest]

theorem State.goCluster_keeps {u s : State} (h : Keeps u s) (core cluster fuel : Nat) :
    Keeps u (s.goCluster core cluster fuel) := by
  induction fuel generalizing s with
  | zero => exact h
  | succ k ih =>
    unfold State.goCluster
    grind [State.grantLoad_keeps, State.grantPass_keeps, State.reach_keeps]

theorem State.goWaiting_keeps {u s : State} (h : Keeps u s) (a1 a2) :
    Keeps u (State.goWaiting s a1 a2) := by
  unfold State.goWaiting
  grind [State.goCluster_keeps, State.recallPasses_keeps, Keeps.rest]

theorem State.goLoads_keeps {u s : State} (h : Keeps u s) :
    Keeps u (State.goLoads s) := by
  unfold State.goLoads
  grind [State.goWaiting_keeps, forEach_keeps, Keeps.rest]

theorem State.tryLoad_keeps {u s : State} (h : Keeps u s) (a1) :
    Keeps u (State.tryLoad s a1) := by
  unfold State.tryLoad
  grind [State.count_keeps, State.goWaiting_keeps, State.withFab_keeps, Keeps.rest]

theorem execVectorLoad_keeps {u s : State} (h : Keeps u s) (a0 a1) :
    KeepsO u (execVectorLoad a0 a1 s) := by
  unfold execVectorLoad
  grind [State.advance_keeps, State.tryLoad_keeps, Keeps.rest, KeepsO.next]

theorem execTransposeVector_keeps {u s : State} (h : Keeps u s) (a0 a1 a2) :
    KeepsO u (execTransposeVector a0 a1 a2 s) := by
  unfold execTransposeVector
  grind [State.advance_keeps, State.tryLoad_keeps, Keeps.rest, KeepsO.next]

theorem State.putEntry_keeps {u s : State} (h : Keeps u s) (a1 a2 a3 a4 a5 a6) :
    Keeps u (State.putEntry s a1 a2 a3 a4 a5 a6) := by
  unfold State.putEntry
  grind [State.goLoads_keeps, State.writeEntry_keeps, Keeps.rest]

theorem execQueueEntryWrite_keeps {u s : State} (h : Keeps u s) (a0 a1 a2 a3 a4 a5) :
    KeepsO u (execQueueEntryWrite a0 a1 a2 a3 a4 a5 s) := by
  unfold execQueueEntryWrite
  grind [State.advance_keeps, State.putEntry_keeps, Keeps.rest, KeepsO.next]

theorem State.dropLoads_keeps {u s : State} (h : Keeps u s) (a1) :
    Keeps u (State.dropLoads s a1) := by
  unfold State.dropLoads
  grind [State.count_keeps, State.withFab_keeps, Keeps.rest]

theorem State.resetCore_keeps {u s : State} (h : Keeps u s) (a1) :
    Keeps u (State.resetCore s a1) := by
  unfold State.resetCore
  grind [State.clearCore_keeps, State.dropLoads_keeps, State.withFab_keeps, Keeps.rest]

theorem State.setTrk_keeps {u s : State} (h : Keeps u s) (a1 a2) :
    Keeps u (State.setTrk s a1 a2) := by
  unfold State.setTrk
  grind [State.withFab_keeps, Keeps.rest]

theorem State.setCorr_keeps {u s : State} (h : Keeps u s) (a1 a2) :
    Keeps u (State.setCorr s a1 a2) := by
  unfold State.setCorr
  grind [State.withFab_keeps, Keeps.rest]

theorem State.trackUpdate_keeps {u s : State} (h : Keeps u s) (a1 a2 a3) :
    Keeps u (State.trackUpdate s a1 a2 a3) := by
  unfold State.trackUpdate
  grind [State.count_keeps, State.logEvent_keeps, State.setTrk_keeps, State.suspect_keeps, Keeps.rest]

theorem State.applyTracking_keeps {u s : State} (h : Keeps u s) :
    Keeps u (State.applyTracking s) := by
  unfold State.applyTracking
  grind [State.withFab_keeps, State.withPtm_keeps, Keeps.rest]

theorem State.trackNow_keeps {u s : State} (h : Keeps u s) :
    Keeps u (State.trackNow s) := by
  unfold State.trackNow
  grind [State.applyTracking_keeps, Keeps.rest]

theorem execTrackVisit_keeps {u s : State} (h : Keeps u s) (a0 a1 a2) :
    KeepsO u (execTrackVisit a0 a1 a2 s) := by
  unfold execTrackVisit
  grind [State.advance_keeps, State.setTrk_keeps, State.trackNow_keeps, State.trackUpdate_keeps, Keeps.rest, KeepsO.next]

theorem State.respare_keeps {u s : State} (h : Keeps u s) (a1) :
    Keeps u (State.respare s a1) := by
  unfold State.respare
  grind [State.setBank_keeps, forEach_keeps, Keeps.rest]

theorem execTrackSwapIn_keeps {u s : State} (h : Keeps u s) (a0 a1) :
    KeepsO u (execTrackSwapIn a0 a1 s) := by
  unfold execTrackSwapIn
  grind [State.advance_keeps, State.respare_keeps, State.setTrk_keeps, Keeps.rest, KeepsO.next]

theorem State.roundDone_keeps {u s : State} (h : Keeps u s) (a1) :
    Keeps u (State.roundDone s a1) := by
  unfold State.roundDone
  grind [State.count_keeps, State.setTrk_keeps, State.withFab_keeps, State.withPtm_keeps, Keeps.rest]

theorem execTrackSwapOut_keeps {u s : State} (h : Keeps u s) (a0 a1 a2) :
    KeepsO u (execTrackSwapOut a0 a1 a2 s) := by
  unfold execTrackSwapOut
  grind (splits := 40) (gen := 20) (ematch := 20) [State.advance_keeps, State.respare_keeps, State.roundDone_keeps, State.setTrk_keeps, State.trackNow_keeps, State.trackUpdate_keeps, Keeps.rest, KeepsO.next]

theorem State.askRefresh_keeps {u s : State} (h : Keeps u s) (a1 a2 a3 a4) :
    Keeps u (State.askRefresh s a1 a2 a3 a4) := by
  unfold State.askRefresh
  grind [State.withLst_keeps, Keeps.rest]

theorem State.recomputeDrift_keeps {u s : State} (h : Keeps u s) (a1) :
    Keeps u (State.recomputeDrift s a1) := by
  unfold State.recomputeDrift
  grind [State.askRefresh_keeps, State.setCorr_keeps, Keeps.rest]

theorem execWltDriftUpdate_keeps {u s : State} (h : Keeps u s) (a0) :
    KeepsO u (execWltDriftUpdate a0 s) := by
  unfold execWltDriftUpdate
  grind [State.advance_keeps, State.recomputeDrift_keeps, State.trackNow_keeps, State.withFab_keeps, forEach_keeps, Keeps.rest, KeepsO.next]

theorem State.answerOwner_keeps {u s : State} (h : Keeps u s) (a1 a2 a3 a4 a5) :
    Keeps u (State.answerOwner s a1 a2 a3 a4 a5) := by
  unfold State.answerOwner
  grind [State.complete_keeps, Keeps.rest]

theorem State.sendReads_keeps {u s : State} (h : Keeps u s) (a1 a2) :
    Keeps u (State.sendReads s a1 a2) := by
  unfold State.sendReads
  grind [State.withLnk_keeps, Keeps.rest]

theorem State.flushReads_keeps {u s : State} (h : Keeps u s) (a1) :
    Keeps u (State.flushReads s a1) := by
  unfold State.flushReads
  grind [State.withLnk_keeps, Keeps.rest]

theorem State.dropHeldReads_keeps {u s : State} (h : Keeps u s) (a1 a2) :
    Keeps u (State.dropHeldReads s a1 a2) := by
  unfold State.dropHeldReads
  grind [State.withLnk_keeps, Keeps.rest]

theorem State.pumpReads_keeps {u s : State} (h : Keeps u s) (a1 a2) :
    Keeps u (State.pumpReads s a1 a2) := by
  unfold State.pumpReads
  grind [State.flushReads_keeps, State.sendReads_keeps, State.setObj_keeps, State.withLnk_keeps, Keeps.rest]

theorem State.endLoad_keeps {u s : State} (h : Keeps u s) (a1 a2 a3 a4) :
    Keeps u (State.endLoad s a1 a2 a3 a4) := by
  unfold State.endLoad
  grind [State.answerOwner_keeps, State.pumpReads_keeps, State.setObj_keeps, State.withLst_keeps, Keeps.rest]

theorem State.loadBad_keeps {u s : State} (h : Keeps u s) (a1) :
    Keeps u (State.loadBad s a1) := by
  unfold State.loadBad
  grind [State.count_keeps, State.endLoad_keeps, Keeps.rest]

end Sys2Proof.Machine
end

