-- ==== Sys2Proof/Laws/KeepsWeights.lean ====
section
/-! SUPPORT. What the operations keep, in the order of the model's files, from Loader to Links: one lemma an operation, cited
in place of its unfolding. -/

set_option Elab.async false
set_option linter.all false

namespace Sys2Proof.Machine

theorem State.loadEmpty_keeps {u s : State} (h : Keeps u s) (a1 a2) :
    Keeps u (State.loadEmpty s a1 a2) := by
  unfold State.loadEmpty
  grind [State.endLoad_keeps, Keeps.rest]

theorem State.submitLoad_keeps {u s : State} (h : Keeps u s) (a1 a2) :
    Keeps u (State.submitLoad s a1 a2) := by
  unfold State.submitLoad
  grind [State.answer_keeps, State.newEntry_keeps, State.pumpReads_keeps, State.setObj_keeps, State.withLst_keeps, Keeps.rest]

theorem State.manifestStep_keeps {u s : State} (h : Keeps u s) (n : Nat) (l : Loading) : Keeps u (s.manifestStep n l) := by
  unfold State.manifestStep
  extract_lets o b m
  repeat' split
  all_goals first
    | exact State.loadBad_keeps h n
    | exact State.loadEmpty_keeps h n _
    | exact State.setObj_keeps h n _

theorem State.sectionSteps_keeps {u s : State} (h : Keeps u s) (n : Nat) (l : List DirEntry) : Keeps u (s.sectionSteps n l) := by
  induction l generalizing s with
  | nil => exact h
  | cons d t ih => unfold State.sectionSteps; grind [State.loadBad_keeps, State.setObj_keeps]

theorem State.writeObj_keeps {u s : State} (h : Keeps u s) (a1 a2 a3) :
    Keeps u (State.writeObj s a1 a2 a3) := by
  unfold State.writeObj
  grind [State.writeByte_keeps, forEach_keeps, Keeps.rest]

theorem State.loadBytes_keeps {u s : State} (h : Keeps u s) (a1 a2) :
    Keeps u (State.loadBytes s a1 a2) := by
  unfold State.loadBytes
  grind (splits := 40) (gen := 20) (ematch := 20) [State.chargeTier_keeps, State.manifestStep_keeps, State.pumpReads_keeps, State.sectionSteps_keeps, State.setObj_keeps, State.stage_keeps, State.useTier_keeps, State.writeObj_keeps, Keeps.rest]

theorem State.checkComplete_keeps {u s : State} (h : Keeps u s) (a1) :
    Keeps u (State.checkComplete s a1) := by
  unfold State.checkComplete
  grind [State.endLoad_keeps, State.loadBad_keeps, Keeps.rest]

theorem State.qpError_keeps {u s : State} (h : Keeps u s) (a1 a2 a3) :
    Keeps u (State.qpError s a1 a2 a3) := by
  unfold State.qpError
  grind [State.dropHeldReads_keeps, State.loadEmpty_keeps, State.wr_keeps, forEach_keeps, Keeps.rest]

theorem State.copyEmbedding_keeps {u s : State} (h : Keeps u s) (a1) :
    Keeps u (State.copyEmbedding s a1) := by
  unfold State.copyEmbedding
  grind [State.writeBytes_keeps, Keeps.rest]

theorem State.submitBind_keeps {u s : State} (h : Keeps u s) (a1 a2 a3 a4) :
    Keeps u (State.submitBind s a1 a2 a3 a4) := by
  unfold State.submitBind
  grind [State.answer_keeps, State.copyEmbedding_keeps, State.count_keeps, State.newEntry_keeps, State.withFab_keeps, State.withLst_keeps, Keeps.rest]

theorem State.submitSwap_keeps {u s : State} (h : Keeps u s) (a1 a2 a3) :
    Keeps u (State.submitSwap s a1 a2 a3) := by
  unfold State.submitSwap
  grind [State.answer_keeps, State.newEntry_keeps, State.withLst_keeps, Keeps.rest]

theorem State.submitAdapter_keeps {u s : State} (h : Keeps u s) (a1 a2) :
    Keeps u (State.submitAdapter s a1 a2) := by
  unfold State.submitAdapter
  grind [State.answer_keeps, State.newEntry_keeps, State.setObj_keeps, State.withLst_keeps, Keeps.rest]

theorem State.unloadDone_keeps {u s : State} (h : Keeps u s) (a1) :
    Keeps u (State.unloadDone s a1) := by
  unfold State.unloadDone
  grind [State.answerOwner_keeps, State.setObj_keeps, State.withLst_keeps, Keeps.rest]

theorem State.submitUnload_keeps {u s : State} (h : Keeps u s) (a1) :
    Keeps u (State.submitUnload s a1) := by
  unfold State.submitUnload
  grind [State.answer_keeps, State.newEntry_keeps, State.withLst_keeps, Keeps.rest]

theorem State.setModes_keeps {u s : State} (h : Keeps u s) (a1 a2) :
    Keeps u (State.setModes s a1 a2) := by
  unfold State.setModes
  grind [State.wr_keeps, forEach_keeps, Keeps.rest]

theorem State.toBoundary_keeps {u s : State} (h : Keeps u s) :
    Keeps u (State.toBoundary s) := by
  unfold State.toBoundary
  grind [State.advance_keeps, Keeps.rest]

theorem State.bindComplete_keeps {u s : State} (h : Keeps u s) :
    Keeps u (State.bindComplete s) := by
  unfold State.bindComplete
  grind (splits := 40) (gen := 20) (ematch := 20) [State.answerOwner_keeps, State.setModes_keeps, State.setObj_keeps, State.toBoundary_keeps, State.withLst_keeps, Keeps.rest]

theorem State.swapPrepared_keeps {u s : State} (h : Keeps u s) :
    Keeps u (State.swapPrepared s) := by
  unfold State.swapPrepared
  grind [State.copyEmbedding_keeps, State.setObj_keeps, State.withLst_keeps, forEach_keeps, Keeps.rest]

theorem State.switchNow_keeps {u s : State} (h : Keeps u s) :
    Keeps u (State.switchNow s) := by
  unfold State.switchNow
  grind [State.draw_keeps, State.setModes_keeps, State.setObj_keeps, State.withLst_keeps, Keeps.rest]

theorem State.announceSwitch_keeps {u s : State} (h : Keeps u s) :
    Keeps u (State.announceSwitch s) := by
  unfold State.announceSwitch
  grind [State.withLst_keeps, Keeps.rest]

theorem State.swapSwitch_keeps {u s : State} (h : Keeps u s) :
    Keeps u (State.swapSwitch s) := by
  unfold State.swapSwitch
  grind [State.announceSwitch_keeps, State.switchNow_keeps, State.toBoundary_keeps, Keeps.rest]

theorem State.swapEnd_keeps {u s : State} (h : Keeps u s) :
    Keeps u (State.swapEnd s) := by
  unfold State.swapEnd
  grind [State.answerOwner_keeps, State.setObj_keeps, State.unloadDone_keeps, State.withLst_keeps, forEach_keeps, Keeps.rest]

theorem execLoadObject_keeps {u s : State} (h : Keeps u s) (a0 a1 a2) :
    KeepsO u (execLoadObject a0 a1 a2 s) := by
  unfold execLoadObject
  grind [State.advance_keeps, State.submitLoad_keeps, Keeps.rest, KeepsO.next]

theorem execBindWeights_keeps {u s : State} (h : Keeps u s) (a0 a1 a2 a3 a4) :
    KeepsO u (execBindWeights a0 a1 a2 a3 a4 s) := by
  unfold execBindWeights
  grind [State.advance_keeps, State.submitBind_keeps, Keeps.rest, KeepsO.next]

theorem execSwapWeights_keeps {u s : State} (h : Keeps u s) (a0 a1 a2 a3) :
    KeepsO u (execSwapWeights a0 a1 a2 a3 s) := by
  unfold execSwapWeights
  grind [State.advance_keeps, State.submitSwap_keeps, Keeps.rest, KeepsO.next]

theorem execAdapterLoad_keeps {u s : State} (h : Keeps u s) (a0 a1 a2) :
    KeepsO u (execAdapterLoad a0 a1 a2 s) := by
  unfold execAdapterLoad
  grind [State.advance_keeps, State.submitAdapter_keeps, Keeps.rest, KeepsO.next]

theorem execAdapterUnload_keeps {u s : State} (h : Keeps u s) (a0 a1) :
    KeepsO u (execAdapterUnload a0 a1 s) := by
  unfold execAdapterUnload
  grind [State.advance_keeps, State.submitUnload_keeps, Keeps.rest, KeepsO.next]

theorem execAdapterUnloadComplete_keeps {u s : State} (h : Keeps u s) (a0 a1 a2) :
    KeepsO u (execAdapterUnloadComplete a0 a1 a2 s) := by
  unfold execAdapterUnloadComplete
  grind [State.advance_keeps, State.unloadDone_keeps, Keeps.rest, KeepsO.next]

theorem execObjectCheckComplete_keeps {u s : State} (h : Keeps u s) (a0 a1) :
    KeepsO u (execObjectCheckComplete a0 a1 s) := by
  unfold execObjectCheckComplete
  grind [State.advance_keeps, State.checkComplete_keeps, Keeps.rest, KeepsO.next]

theorem execBindComplete_keeps {u s : State} (h : Keeps u s) (a0) :
    KeepsO u (execBindComplete a0 s) := by
  unfold execBindComplete
  grind [State.advance_keeps, State.bindComplete_keeps, Keeps.rest, KeepsO.next]

theorem execSwapPrepareComplete_keeps {u s : State} (h : Keeps u s) (a0) :
    KeepsO u (execSwapPrepareComplete a0 s) := by
  unfold execSwapPrepareComplete
  grind [State.advance_keeps, State.swapPrepared_keeps, Keeps.rest, KeepsO.next]

theorem execSwapSwitch_keeps {u s : State} (h : Keeps u s) (a0) :
    KeepsO u (execSwapSwitch a0 s) := by
  unfold execSwapSwitch
  grind [State.advance_keeps, State.swapSwitch_keeps, Keeps.rest, KeepsO.next]

theorem execSwapEnd_keeps {u s : State} (h : Keeps u s) (a0) :
    KeepsO u (execSwapEnd a0 s) := by
  unfold execSwapEnd
  grind [State.advance_keeps, State.swapEnd_keeps, Keeps.rest, KeepsO.next]

theorem State.wear_keeps {u s : State} (h : Keeps u s) (a1) :
    Keeps u (State.wear s a1) := by
  unfold State.wear
  grind [State.withLst_keeps, Keeps.rest]

theorem State.loadTiles_keeps {u s : State} (h : Keeps u s) (a1) :
    Keeps u (State.loadTiles s a1) := by
  unfold State.loadTiles
  grind [State.stage_keeps, State.useTier_keeps, State.withFab_keeps, forEach_keeps, Keeps.rest]

theorem State.enduranceMove_keeps {u s : State} (h : Keeps u s) (a1) :
    Keeps u (State.enduranceMove s a1) := by
  unfold State.enduranceMove
  grind [State.count_keeps, State.logEvent_keeps, State.withLst_keeps, Keeps.rest]

theorem State.keepMap_keeps {u s : State} (h : Keeps u s) (a1) :
    Keeps u (State.keepMap s a1) := by
  unfold State.keepMap
  grind [State.withLst_keeps, Keeps.rest]

theorem State.mapNow_keeps {u s : State} (h : Keeps u s) (a1) :
    Keeps u (State.mapNow s a1) := by
  unfold State.mapNow
  grind [State.withLst_keeps, Keeps.rest]

theorem State.startLasting_keeps {u s : State} (h : Keeps u s) (a1 a2 a3) :
    Keeps u (State.startLasting s a1 a2 a3) := by
  unfold State.startLasting
  grind [State.enduranceMove_keeps, State.keepMap_keeps, State.loadTiles_keeps, State.withLst_keeps, Keeps.rest]

theorem State.tryLasting_keeps {u s : State} (h : Keeps u s) (a1) :
    Keeps u (State.tryLasting s a1) := by
  unfold State.tryLasting
  grind [State.startLasting_keeps, Keeps.rest]

theorem State.lastRows_keeps {u s : State} (h : Keeps u s) (phys : Nat) (l : List (Nat × Nat)) :
    Keeps u (s.lastRows phys l).1 := by
  induction l generalizing s with
  | nil => exact h
  | cons d t ih =>
    obtain ⟨a, b⟩ := d
    unfold State.lastRows
    grind [State.withLst_keeps, State.count_keeps]

theorem State.setLasting_keeps {u s : State} (h : Keeps u s) (a1) :
    Keeps u (State.setLasting s a1) := by
  unfold State.setLasting
  grind [State.withLst_keeps, Keeps.rest]

theorem State.dropLasting_keeps {u s : State} (h : Keeps u s) (a1) :
    Keeps u (State.dropLasting s a1) := by
  unfold State.dropLasting
  grind [State.withLst_keeps, Keeps.rest]

theorem State.retireSite_keeps {u s : State} (h : Keeps u s) (a1 a2) :
    Keeps u (State.retireSite s a1 a2) := by
  unfold State.retireSite
  grind [State.markRetire_keeps, State.setHealth_keeps, State.withLst_keeps, Keeps.rest]

theorem State.lastMove_keeps {u s : State} (h : Keeps u s) (a1) :
    Keeps u (State.lastMove s a1) := by
  unfold State.lastMove
  grind [State.count_keeps, State.dropLasting_keeps, State.mapNow_keeps, State.retireSite_keeps, State.setLasting_keeps, State.wear_keeps, State.withLst_keeps, Keeps.rest]

theorem State.lasted_keeps {u s : State} (h : Keeps u s) (a1 a2) :
    Keeps u (State.lasted s a1 a2) := by
  unfold State.lasted
  grind [State.count_keeps, State.setCorr_keeps, State.wear_keeps, State.withLst_keeps, Keeps.rest]

theorem State.lastDone_keeps {u s : State} (h : Keeps u s) (a1) :
    Keeps u (State.lastDone s a1) := by
  unfold State.lastDone
  grind [State.count_keeps, State.dropLasting_keeps, State.lasted_keeps, State.mapNow_keeps, State.setHealth_keeps, State.withLst_keeps, Keeps.rest]

theorem execLastingComplete_keeps {u s : State} (h : Keeps u s) (a0 a1 a2) :
    KeepsO u (execLastingComplete a0 a1 a2 s) := by
  unfold execLastingComplete
  grind (splits := 40) (gen := 20) (ematch := 20) [State.advance_keeps, State.lastDone_keeps, State.lastMove_keeps, State.lastRows_keeps, State.setLasting_keeps, State.wear_keeps, Keeps.rest, KeepsO.next]

theorem execLastingWatchdog_keeps {u s : State} (h : Keeps u s) (a0 a1) :
    KeepsO u (execLastingWatchdog a0 a1 s) := by
  unfold execLastingWatchdog
  grind [State.advance_keeps, State.count_keeps, State.lastMove_keeps, Keeps.rest, KeepsO.next]

theorem State.runProbe_keeps {u s : State} (h : Keeps u s) (a1 a2 a3) :
    Keeps u (State.runProbe s a1 a2 a3) := by
  unfold State.runProbe
  grind [State.count_keeps, State.goCluster_keeps, State.satLog_keeps, State.setProbe_keeps, forEach_keeps, Keeps.rest]

theorem State.probeTaken_keeps {u s : State} (h : Keeps u s) (a1 a2) :
    Keeps u (State.probeTaken s a1 a2) := by
  unfold State.probeTaken
  grind [State.withLst_keeps, Keeps.rest]

theorem State.probeResult_keeps {u s : State} (h : Keeps u s) (a1 a2 a3 a4) :
    Keeps u (State.probeResult s a1 a2 a3 a4) := by
  unfold State.probeResult
  grind (splits := 40) (gen := 20) (ematch := 20) [State.askRefresh_keeps, State.count_keeps, State.logEvent_keeps, State.recomputeDrift_keeps, State.setCorr_keeps, State.suspect_keeps, State.trackNow_keeps, State.withLst_keeps, Keeps.rest]

theorem execLehrProbe_keeps {u s : State} (h : Keeps u s) (a0 a1 a2) :
    KeepsO u (execLehrProbe a0 a1 a2 s) := by
  unfold execLehrProbe
  grind [State.advance_keeps, State.probeResult_keeps, State.probeTaken_keeps, State.runProbe_keeps, Keeps.rest, KeepsO.next]

theorem execLehrRefresh_keeps {u s : State} (h : Keeps u s) (a0 a1) :
    KeepsO u (execLehrRefresh a0 a1 s) := by
  unfold execLehrRefresh
  grind [State.advance_keeps, State.startLasting_keeps, State.toBoundary_keeps, State.withLst_keeps, Keeps.rest, KeepsO.next]

theorem State.retireSlice_keeps {u s : State} (h : Keeps u s) (a1 a2) :
    Keeps u (State.retireSlice s a1 a2) := by
  unfold State.retireSlice
  grind [State.respare_keeps, State.setTrk_keeps, Keeps.rest]

theorem State.applyMove_keeps {u s : State} (h : Keeps u s) (a1) :
    Keeps u (State.applyMove s a1) := by
  unfold State.applyMove
  grind [State.resetCore_keeps, State.retireSlice_keeps, State.setHealth_keeps, State.withLst_keeps, Keeps.rest]

theorem State.showTrip_keeps {u s : State} (h : Keeps u s) :
    Keeps u (State.showTrip s) := by
  unfold State.showTrip
  grind [State.wr_keeps, Keeps.rest]

theorem State.mainReset_keeps {u s : State} (h : Keeps u s) : Keeps u s.mainReset := by
  have k : ∀ (hif : HifSt) lnk lst fab sms ptm pwr mgt free ctl, Keeps u { State.reset with
      pending := s.pending, free := free, hif := hif, lnk := lnk, lst := lst, fab := fab, sms := sms, ptm := ptm, pwr := pwr, mgt := mgt, ctl := ctl } :=
    fun _ _ _ _ _ _ _ _ _ _ => ⟨h.1, fun _ => rfl, fun _ => ⟨rfl, rfl, rfl⟩⟩
  unfold State.mainReset State.when
  dsimp only
  split
  · exact State.mgtEvent_keeps (State.showTrip_keeps (State.wr_keeps (k _ _ _ _ _ _ _ _ _ _) _ _ _)) _ _
  · exact State.showTrip_keeps (State.wr_keeps (k _ _ _ _ _ _ _ _ _ _) _ _ _)

theorem State.railsDown_keeps {u s : State} (h : Keeps u s) :
    Keeps u (State.railsDown s) := by
  unfold State.railsDown
  grind [State.mainReset_keeps, State.withCtl_keeps, State.withMgt_keeps, State.withPwr_keeps, Keeps.rest]

theorem State.trip_keeps {u s : State} (h : Keeps u s) (a1 a2 a3 a4) :
    Keeps u (State.trip s a1 a2 a3 a4) := by
  unfold State.trip
  grind [State.logEvent_keeps, State.mgtEvent_keeps, State.railsDown_keeps, State.withPwr_keeps, Keeps.rest]

theorem State.setDiode_keeps {u s : State} (h : Keeps u s) (a1 a2) :
    Keeps u (State.setDiode s a1 a2) := by
  unfold State.setDiode
  grind [State.withPtm_keeps, Keeps.rest]

theorem State.setGroup_keeps {u s : State} (h : Keeps u s) (a1 a2) :
    Keeps u (State.setGroup s a1 a2) := by
  unfold State.setGroup
  grind [State.withPtm_keeps, Keeps.rest]

theorem State.groupOn_keeps {u s : State} (h : Keeps u s) (a1 a2) :
    Keeps u (State.groupOn s a1 a2) := by
  unfold State.groupOn
  grind [State.count_keeps, State.mgtEvent_keeps, State.ptmEvent_keeps, State.setGroup_keeps, State.when_keeps, Keeps.rest, State.when]

theorem State.groupOff_keeps {u s : State} (h : Keeps u s) (a1) :
    Keeps u (State.groupOff s a1) := by
  unfold State.groupOff
  grind [State.mgtEvent_keeps, State.ptmEvent_keeps, State.setGroup_keeps, State.when_keeps, Keeps.rest, State.when]

theorem State.throttleStep_keeps {u s : State} (h : Keeps u s) (a1) :
    Keeps u (State.throttleStep s a1) := by
  unfold State.throttleStep
  grind [State.groupOff_keeps, State.groupOn_keeps, State.setGroup_keeps, Keeps.rest]

theorem State.ptmBoundary_keeps {u s : State} (h : Keeps u s) :
    Keeps u (State.ptmBoundary s) := by
  unfold State.ptmBoundary
  grind [State.withPtm_keeps, Keeps.rest]

theorem State.ptmNow_keeps {u s : State} (h : Keeps u s) :
    Keeps u (State.ptmNow s) := by
  unfold State.ptmNow
  grind [State.ptmBoundary_keeps, State.trackNow_keeps, Keeps.rest]

theorem State.publish_keeps {u s : State} (h : Keeps u s) (a1) :
    Keeps u (State.publish s a1) := by
  unfold State.publish
  grind [State.withPtm_keeps, Keeps.rest]

theorem State.publishAll_keeps {u s : State} (h : Keeps u s) :
    Keeps u (State.publishAll s) := by
  unfold State.publishAll
  grind [State.publish_keeps, forEach_keeps, Keeps.rest]

theorem State.checkModel_keeps {u s : State} (h : Keeps u s) :
    Keeps u (State.checkModel s) := by
  unfold State.checkModel
  grind [State.trip_keeps, Keeps.rest]

theorem State.enqueue_keeps {u s : State} (h : Keeps u s) (a1 a2) :
    Keeps u (State.enqueue s a1 a2) := by
  unfold State.enqueue
  grind [State.count_keeps, State.ptmEvent_keeps, State.withPtm_keeps, Keeps.rest]

theorem State.memoryWindow_keeps {u s : State} (h : Keeps u s) (a1) :
    Keeps u (State.memoryWindow s a1) := by
  unfold State.memoryWindow
  grind [State.groupOn_keeps, State.ptmEvent_keeps, Keeps.rest]

theorem State.convert_keeps {u s : State} (h : Keeps u s) (a1 a2 a3) :
    Keeps u (State.convert s a1 a2 a3) := by
  unfold State.convert
  grind [State.count_keeps, State.memoryWindow_keeps, State.withPtm_keeps, Keeps.rest]

theorem State.convertAll_keeps {u s : State} (h : Keeps u s) (a1 a2 a3 a4) :
    Keeps u (State.convertAll s a1 a2 a3 a4) := by
  unfold State.convertAll
  grind [State.convert_keeps, State.enqueue_keeps, forEach_keeps, Keeps.rest]

theorem State.advanceModel_keeps {u s : State} (h : Keeps u s) :
    Keeps u (State.advanceModel s) := by
  unfold State.advanceModel
  grind [State.draw_keeps, State.withPtm_keeps, Keeps.rest]

theorem State.sumRound_keeps {u s : State} (h : Keeps u s) (a1) :
    Keeps u (State.sumRound s a1) := by
  unfold State.sumRound
  grind [State.withPtm_keeps, Keeps.rest]

theorem execFastRound_keeps {u s : State} (h : Keeps u s) (a0 a1 a2 a3 a4 a5) :
    KeepsO u (execFastRound a0 a1 a2 a3 a4 a5 s) := by
  unfold execFastRound
  grind (splits := 40) (gen := 20) (ematch := 20) [State.advanceModel_keeps, State.advance_keeps, State.checkModel_keeps, State.convertAll_keeps, State.ptmNow_keeps, State.publishAll_keeps, State.sumRound_keeps, State.withPtm_keeps, Keeps.rest, KeepsO.next]

theorem State.correct_keeps {u s : State} (h : Keeps u s) (a1 a2) :
    Keeps u (State.correct s a1 a2) := by
  unfold State.correct
  grind [State.withPtm_keeps, Keeps.rest]

theorem State.diodeFail_keeps {u s : State} (h : Keeps u s) (a1) :
    Keeps u (State.diodeFail s a1) := by
  unfold State.diodeFail
  grind [State.count_keeps, State.logEvent_keeps, State.ptmEvent_keeps, State.setDiode_keeps, Keeps.rest]

theorem State.useDiode_keeps {u s : State} (h : Keeps u s) (d : Nat) (v : Int) : Keeps u (s.useDiode d v) := by
  unfold State.useDiode
  extract_lets x T far
  split
  · exact h
  split
  · exact State.diodeFail_keeps h d
  split
  · exact forEach_keeps _ _ (fun s i h => State.withPtm_keeps h _) _ h
  split
  · exact State.diodeFail_keeps h d
  · exact forEach_keeps _ _ (fun s i h => State.correct_keeps h _ _) _ (State.setDiode_keeps h _ _)

theorem State.useStack_keeps {u s : State} (h : Keeps u s) (a1 a2) :
    Keeps u (State.useStack s a1 a2) := by
  unfold State.useStack
  grind [State.correct_keeps, State.withPtm_keeps, Keeps.rest]

theorem State.startModel_keeps {u s : State} (h : Keeps u s) :
    Keeps u (State.startModel s) := by
  unfold State.startModel
  grind [State.draw_keeps, State.withPtm_keeps, forEach_keeps, Keeps.rest]

theorem State.govern_keeps {u s : State} (h : Keeps u s) :
    Keeps u (State.govern s) := by
  unfold State.govern
  grind [State.count_keeps, State.ptmEvent_keeps, State.withPtm_keeps, State.wr_keeps, forEach_keeps, Keeps.rest]

theorem State.checkMemory_keeps {u s : State} (h : Keeps u s) :
    Keeps u (State.checkMemory s) := by
  unfold State.checkMemory
  grind [State.trip_keeps, Keeps.rest]

theorem execSlowRound_keeps {u s : State} (h : Keeps u s) (a0 a1 a2 a3 a4 a5) :
    KeepsO u (execSlowRound a0 a1 a2 a3 a4 a5 s) := by
  unfold execSlowRound
  grind (splits := 40) (gen := 20) (ematch := 20) [State.advance_keeps, State.checkMemory_keeps, State.checkModel_keeps, State.convertAll_keeps, State.govern_keeps, State.ptmNow_keeps, State.publishAll_keeps, State.startModel_keeps, State.throttleStep_keeps, State.useDiode_keeps, State.useStack_keeps, State.withPtm_keeps, forEach_keeps, Keeps.rest, KeepsO.next]

theorem State.railFault_keeps {u s : State} (h : Keeps u s) (a1 a2) :
    Keeps u (State.railFault s a1 a2) := by
  unfold State.railFault
  grind [State.faultJob_keeps, State.logEvent_keeps, State.withPtm_keeps, forEach_keeps, Keeps.rest]

theorem State.coreWindow_keeps {u s : State} (h : Keeps u s) (a1) :
    Keeps u (State.coreWindow s a1) := by
  unfold State.coreWindow
  grind [State.groupOn_keeps, State.setGroup_keeps, State.suspect_keeps, Keeps.rest]

theorem State.diodeWindow_keeps {u s : State} (h : Keeps u s) (a1 a2) :
    Keeps u (State.diodeWindow s a1 a2) := by
  unfold State.diodeWindow
  grind [State.checkModel_keeps, State.trip_keeps, State.useDiode_keeps, Keeps.rest]

theorem execInjectedSequence_keeps {u s : State} (h : Keeps u s) (a0 a1 a2 a3 a4) :
    KeepsO u (execInjectedSequence a0 a1 a2 a3 a4 s) := by
  unfold execInjectedSequence
  grind (splits := 40) (gen := 20) (ematch := 20) [State.advance_keeps, State.convertAll_keeps, State.coreWindow_keeps, State.count_keeps, State.diodeWindow_keeps, State.enqueue_keeps, State.ptmEvent_keeps, State.ptmNow_keeps, State.railFault_keeps, State.withPtm_keeps, Keeps.rest, KeepsO.next]

theorem execMonitorTrackVisit_keeps {u s : State} (h : Keeps u s) (a0 a1 a2) :
    KeepsO u (execMonitorTrackVisit a0 a1 a2 s) := by
  unfold execMonitorTrackVisit
  grind [State.advance_keeps, State.logEvent_keeps, State.moduleFault_keeps, State.withPtm_keeps, Keeps.rest, KeepsO.next]

theorem State.enterMp1_keeps {u s : State} (h : Keeps u s) :
    Keeps u (State.enterMp1 s) := by
  unfold State.enterMp1
  grind [State.setBit_keeps, State.wr_keeps, Keeps.rest]

theorem State.returnMp0_keeps {u s : State} (h : Keeps u s) :
    Keeps u (State.returnMp0 s) := by
  unfold State.returnMp0
  grind [State.withFab_keeps, State.withPtm_keeps, State.wr_keeps, Keeps.rest]

theorem State.leaveMp1_keeps {u s : State} (h : Keeps u s) :
    Keeps u (State.leaveMp1 s) := by
  unfold State.leaveMp1
  grind [State.returnMp0_keeps, State.wr_keeps, Keeps.rest]

theorem execPtmPstateEnterMp1_keeps {u s : State} (h : Keeps u s) (a0 a1) :
    KeepsO u (execPtmPstateEnterMp1 a0 a1 s) := by
  unfold execPtmPstateEnterMp1
  grind [State.advance_keeps, State.enterMp1_keeps, State.when_keeps, Keeps.rest, KeepsO.next, State.when]

theorem execPtmPstateExitMp1_keeps {u s : State} (h : Keeps u s) (a0 a1) :
    KeepsO u (execPtmPstateExitMp1 a0 a1 s) := by
  unfold execPtmPstateExitMp1
  grind [State.advance_keeps, State.leaveMp1_keeps, State.when_keeps, Keeps.rest, KeepsO.next, State.when]

theorem execMp1EntryComplete_keeps {u s : State} (h : Keeps u s) (a0) :
    KeepsO u (execMp1EntryComplete a0 s) := by
  unfold execMp1EntryComplete
  grind [State.advance_keeps, State.returnMp0_keeps, State.wr_keeps, Keeps.rest, KeepsO.next]

theorem execMp0ReturnComplete_keeps {u s : State} (h : Keeps u s) (a0 a1) :
    KeepsO u (execMp0ReturnComplete a0 a1 s) := by
  unfold execMp0ReturnComplete
  grind (splits := 40) (gen := 20) (ematch := 20) [State.advance_keeps, State.count_keeps, State.withLst_keeps, State.withPtm_keeps, State.wr_keeps, Keeps.rest, KeepsO.next]

theorem execStandbySample_keeps {u s : State} (h : Keeps u s) (a0 a1 a2) :
    KeepsO u (execStandbySample a0 a1 a2 s) := by
  unfold execStandbySample
  grind [State.advance_keeps, State.withPwr_keeps, Keeps.rest, KeepsO.next]

theorem State.checkUnlock_keeps {u s : State} (h : Keeps u s) :
    Keeps u (State.checkUnlock s) := by
  unfold State.checkUnlock
  grind [State.twsEvent_keeps, State.when_keeps, State.withTime_keeps, Keeps.rest, State.when]

theorem State.setErr_keeps {u s : State} (h : Keeps u s) (a1 a2) :
    Keeps u (State.setErr s a1 a2) := by
  unfold State.setErr
  grind [State.checkUnlock_keeps, State.withTime_keeps, Keeps.rest]

theorem State.requality_keeps {u s : State} (h : Keeps u s) :
    Keeps u (State.requality s) := by
  unfold State.requality
  grind [State.count_keeps, State.draw_keeps, State.setErr_keeps, State.setQuality_keeps, Keeps.rest]

theorem State.stepTime_keeps {u s : State} (h : Keeps u s) (a1) :
    Keeps u (State.stepTime s a1) := by
  unfold State.stepTime
  grind [State.withFab_keeps, State.withLst_keeps, State.withMgt_keeps, State.withTime_keeps, State.wr_keeps, Keeps.rest]

theorem State.slewTo_keeps {u s : State} (h : Keeps u s) (a1) :
    Keeps u (State.slewTo s a1) := by
  unfold State.slewTo
  grind [State.setBit_keeps, State.twsEvent_keeps, State.withTime_keeps, State.wr_keeps, Keeps.rest]

theorem State.measured_keeps {u s : State} (h : Keeps u s) (a1) :
    Keeps u (State.measured s a1) := by
  unfold State.measured
  grind [State.wr_keeps, Keeps.rest]

theorem State.discipline_keeps {u s : State} (h : Keeps u s) (a1) :
    Keeps u (State.discipline s a1) := by
  unfold State.discipline
  grind [State.slewTo_keeps, State.stepTime_keeps, Keeps.rest]

theorem State.setTime_keeps {u s : State} (h : Keeps u s) (a1) :
    Keeps u (State.setTime s a1) := by
  unfold State.setTime
  grind [State.setErr_keeps, State.setQuality_keeps, State.slewTo_keeps, State.stepTime_keeps, State.withTime_keeps, Keeps.rest]

theorem execTwsTimeSet_keeps {u s : State} (h : Keeps u s) (a0 a1 a2) :
    KeepsO u (execTwsTimeSet a0 a1 a2 s) := by
  unfold execTwsTimeSet
  grind [State.advance_keeps, State.setTime_keeps, State.when_keeps, State.withTime_keeps, Keeps.rest, KeepsO.next, State.when]

theorem execPpsEdge_keeps {u s : State} (h : Keeps u s) (a0 a1) :
    KeepsO u (execPpsEdge a0 a1 s) := by
  unfold execPpsEdge
  grind (splits := 40) (gen := 20) (ematch := 20) [State.advance_keeps, State.discipline_keeps, State.measured_keeps, State.requality_keeps, State.setBit_keeps, State.withTime_keeps, Keeps.rest, KeepsO.next]

theorem execPpsLoss_keeps {u s : State} (h : Keeps u s) (a0) :
    KeepsO u (execPpsLoss a0 s) := by
  unfold execPpsLoss
  grind [State.advance_keeps, State.requality_keeps, State.withTime_keeps, State.wr_keeps, Keeps.rest, KeepsO.next]

theorem State.ptpLost_keeps {u s : State} (h : Keeps u s) :
    Keeps u (State.ptpLost s) := by
  unfold State.ptpLost
  grind [State.requality_keeps, State.withTime_keeps, State.wr_keeps, Keeps.rest]

theorem State.chooseMaster_keeps {u s : State} (h : Keeps u s) :
    Keeps u (State.chooseMaster s) := by
  unfold State.chooseMaster
  grind [State.ptpLost_keeps, State.withTime_keeps, State.wr_keeps, Keeps.rest]

theorem execPtpAnnounce_keeps {u s : State} (h : Keeps u s) (a0 a1 a2 a3) :
    KeepsO u (execPtpAnnounce a0 a1 a2 a3 s) := by
  unfold execPtpAnnounce
  grind [State.advance_keeps, State.chooseMaster_keeps, State.withTime_keeps, Keeps.rest, KeepsO.next]

theorem execPtpAnnounceTimeout_keeps {u s : State} (h : Keeps u s) (a0 a1 a2) :
    KeepsO u (execPtpAnnounceTimeout a0 a1 a2 s) := by
  unfold execPtpAnnounceTimeout
  grind [State.advance_keeps, State.chooseMaster_keeps, State.withTime_keeps, Keeps.rest, KeepsO.next]

theorem execPtpSync_keeps {u s : State} (h : Keeps u s) (a0 a1 a2 a3 a4 a5) :
    KeepsO u (execPtpSync a0 a1 a2 a3 a4 a5 s) := by
  unfold execPtpSync
  grind [State.advance_keeps, State.count_keeps, State.discipline_keeps, State.measured_keeps, State.requality_keeps, State.setBit_keeps, State.withTime_keeps, Keeps.rest, KeepsO.next]

theorem execPtpDelayReq_keeps {u s : State} (h : Keeps u s) (a0 a1) :
    KeepsO u (execPtpDelayReq a0 a1 s) := by
  unfold execPtpDelayReq
  grind [State.advance_keeps, State.withLnk_keeps, State.withTime_keeps, Keeps.rest, KeepsO.next]

theorem execPtpDelayResp_keeps {u s : State} (h : Keeps u s) (a0 a1 a2 a3 a4) :
    KeepsO u (execPtpDelayResp a0 a1 a2 a3 a4 s) := by
  unfold execPtpDelayResp
  grind [State.advance_keeps, State.withTime_keeps, Keeps.rest, KeepsO.next]

theorem execPtpLoss_keeps {u s : State} (h : Keeps u s) (a0) :
    KeepsO u (execPtpLoss a0 s) := by
  unfold execPtpLoss
  grind [State.advance_keeps, State.ptpLost_keeps, Keeps.rest, KeepsO.next]

theorem execTrefLoss_keeps {u s : State} (h : Keeps u s) (a0) :
    KeepsO u (execTrefLoss a0 s) := by
  unfold execTrefLoss
  grind [State.advance_keeps, State.wr_keeps, Keeps.rest, KeepsO.next]

theorem execTrefReturn_keeps {u s : State} (h : Keeps u s) (a0) :
    KeepsO u (execTrefReturn a0 s) := by
  unfold execTrefReturn
  grind [State.advance_keeps, State.setBit_keeps, State.when_keeps, Keeps.rest, KeepsO.next, State.when]

theorem execErrorEstimateUnlock_keeps {u s : State} (h : Keeps u s) (a0) :
    KeepsO u (execErrorEstimateUnlock a0 s) := by
  unfold execErrorEstimateUnlock
  grind [State.advance_keeps, State.checkUnlock_keeps, Keeps.rest, KeepsO.next]

theorem State.retime_keeps {u s : State} (h : Keeps u s) :
    Keeps u (State.retime s) := by
  unfold State.retime
  grind [State.checkUnlock_keeps, State.requality_keeps, State.wr_keeps, Keeps.rest]

theorem State.setTport_keeps {u s : State} (h : Keeps u s) (a1 a2) :
    Keeps u (State.setTport s a1 a2) := by
  unfold State.setTport
  grind [State.withLnk_keeps, Keeps.rest]

theorem State.setRoutesUp_keeps {u s : State} (h : Keeps u s) :
    Keeps u (State.setRoutesUp s) := by
  unfold State.setRoutesUp
  grind [State.wrBit_keeps, Keeps.rest]

theorem State.sendFlit_keeps {u s : State} (h : Keeps u s) (a1 a2 a3) :
    Keeps u (State.sendFlit s a1 a2 a3) := by
  unfold State.sendFlit
  grind [State.setTport_keeps, State.withLnk_keeps, Keeps.rest]

theorem State.sendIdle_keeps {u s : State} (h : Keeps u s) (a1) :
    Keeps u (State.sendIdle s a1) := by
  unfold State.sendIdle
  grind [State.withLnk_keeps, Keeps.rest]

theorem State.sendControl_keeps {u s : State} (h : Keeps u s) (a1 a2 a3 a4 a5) :
    Keeps u (State.sendControl s a1 a2 a3 a4 a5) := by
  unfold State.sendControl
  grind [State.setTport_keeps, State.sendFlit_keeps, Keeps.rest]

theorem State.pumpControl_keeps {u s : State} (h : Keeps u s) (p k : Nat) : Keeps u (s.pumpControl p k) := by
  induction k generalizing s with
  | zero => exact h
  | succ k ih =>
    unfold State.pumpControl
    extract_lets t
    split
    · exact h
    · split
      · exact h
      · exact ih (State.sendFlit_keeps (State.setTport_keeps h _ _) _ _ _)

theorem State.giveCredit_keeps {u s : State} (h : Keeps u s) (a1 a2 a3) :
    Keeps u (State.giveCredit s a1 a2 a3) := by
  unfold State.giveCredit
  grind [State.sendControl_keeps, Keeps.rest]

theorem State.pumpPort_keeps {u s : State} (h : Keeps u s) (p k : Nat) : Keeps u (s.pumpPort p k) := by
  induction k generalizing s with
  | zero => exact h
  | succ k ih =>
    unfold State.pumpPort
    extract_lets t a heads rest
    have hr : Keeps u rest := State.setArb_keeps h _ _
    clear_value rest
    split
    · exact h
    · split
      · exact hr
      · split
        · exact hr
        · split
          · exact hr
          · have h2 := State.sendFlit_keeps (State.setTport_keeps (State.setArb_keeps h (arbLink p) (a.take ‹_› 1 (a.ends + arbBeat (arbLink p)))) p (t.left ‹_›)) p (Sending.flit ‹_›) (a.ends / 120)
            refine ih ?_
            split
            · exact State.giveCredit_keeps h2 _ _ _
            · exact h2

theorem State.goPort_keeps {u s : State} (h : Keeps u s) (a1) :
    Keeps u (State.goPort s a1) := by
  unfold State.goPort
  grind [State.pumpControl_keeps, State.pumpPort_keeps, Keeps.rest]

theorem State.queueFlits_keeps {u s : State} (h : Keeps u s) (a1 a2) :
    Keeps u (State.queueFlits s a1 a2) := by
  unfold State.queueFlits
  grind [State.goPort_keeps, State.setTport_keeps, Keeps.rest]

theorem State.route_keeps {u s : State} (h : Keeps u s) (a1 a2 a3 a4 a5) :
    Keeps u (State.route s a1 a2 a3 a4 a5) := by
  unfold State.route
  grind [State.queueFlits_keeps, State.withLnk_keeps, Keeps.rest]

theorem State.sendMessage_keeps {u s : State} (h : Keeps u s) (a1 a2 a3 a4 a5 a6 a7 a8 a9 a10) :
    Keeps u (State.sendMessage s a1 a2 a3 a4 a5 a6 a7 a8 a9 a10) := by
  unfold State.sendMessage
  grind [State.count_keeps, State.route_keeps, Keeps.rest]

theorem State.coreCst_keeps {u s : State} (h : Keeps u s) (a1 a2 a3 a4) :
    Keeps u (State.coreCst s a1 a2 a3 a4) := by
  unfold State.coreCst
  grind [State.useCst_keeps, Keeps.rest]

theorem State.takeEntry_keeps {u s : State} (h : Keeps u s) (a1 a2 a3) :
    Keeps u (State.takeEntry s a1 a2 a3) := by
  unfold State.takeEntry
  grind [State.consume_keeps, State.coreCst_keeps, Keeps.rest]

theorem State.sendBytes_keeps {u s : State} (h : Keeps u s) (a1 a2 a3 a4 a5 a6 a7) :
    Keeps u (State.sendBytes s a1 a2 a3 a4 a5 a6 a7) := by
  unfold State.sendBytes
  grind [State.coreCst_keeps, State.putEntry_keeps, State.sendMessage_keeps, State.useArb_keeps, Keeps.rest]

end Sys2Proof.Machine
end

