-- ==== Sys2Proof/Laws/KeepsUpkeep.lean ====
section
/-! SUPPORT. What the operations keep, in the order of the model's files, from Links to Boot: one lemma an operation, cited
in place of its unfolding. -/

set_option Elab.async false
set_option linter.all false

namespace Sys2Proof.Machine

theorem State.faultPartition_keeps {u s : State} (h : Keeps u s) (a1) :
    Keeps u (State.faultPartition s a1) := by
  unfold State.faultPartition
  grind [State.faultJob_keeps, forEach_keeps, Keeps.rest]

theorem State.clearPort_keeps {u s : State} (h : Keeps u s) (a1) :
    Keeps u (State.clearPort s a1) := by
  unfold State.clearPort
  grind [State.giveCredit_keeps, State.setArb_keeps, State.setTport_keeps, forEach_keeps, Keeps.rest]

theorem State.portDown_keeps {u s : State} (h : Keeps u s) (a1) :
    Keeps u (State.portDown s a1) := by
  unfold State.portDown
  grind (splits := 40) (gen := 20) (ematch := 20) [State.clearPort_keeps, State.count_keeps, State.faultPartition_keeps, State.logEvent_keeps, State.setRoutesUp_keeps, State.wr_keeps, Keeps.rest]

theorem State.takeAck_keeps {u s : State} (h : Keeps u s) (a1 a2) :
    Keeps u (State.takeAck s a1 a2) := by
  unfold State.takeAck
  grind [State.goPort_keeps, State.setTport_keeps, Keeps.rest]

theorem State.replayFrom_keeps {u s : State} (h : Keeps u s) (a1 a2) :
    Keeps u (State.replayFrom s a1 a2) := by
  unfold State.replayFrom
  grind [State.count_keeps, State.portDown_keeps, State.setTport_keeps, State.withLnk_keeps, Keeps.rest]

theorem State.sendNak_keeps {u s : State} (h : Keeps u s) (a1) :
    Keeps u (State.sendNak s a1) := by
  unfold State.sendNak
  grind [State.sendControl_keeps, State.setTport_keeps, Keeps.rest]

theorem State.takeSeq_keeps {u s : State} (h : Keeps u s) (a1 a2) :
    Keeps u (State.takeSeq s a1 a2).2 := by
  unfold State.takeSeq
  grind [State.sendNak_keeps, State.setTport_keeps, Keeps.rest]

theorem State.beginMessage_keeps {u s : State} (h : Keeps u s) (a1 a2) :
    Keeps u (State.beginMessage s a1 a2).2 := by
  unfold State.beginMessage
  grind [State.withLnk_keeps, Keeps.rest]

theorem State.messageCame_keeps {u s : State} (h : Keeps u s) (a1 a2 a3) :
    Keeps u (State.messageCame s a1 a2 a3) := by
  unfold State.messageCame
  grind [State.giveCredit_keeps, State.withLnk_keeps, Keeps.rest]

theorem State.dataFlit_keeps {u s : State} (h : Keeps u s) (a1 a2) :
    Keeps u (State.dataFlit s a1 a2) := by
  unfold State.dataFlit
  grind [State.beginMessage_keeps, State.giveCredit_keeps, State.messageCame_keeps, State.queueFlits_keeps, State.setTport_keeps, Keeps.rest]

theorem State.recvFlit_keeps {u s : State} (h : Keeps u s) (a1 a2 a3) (h3 : ∀ s y0, Keeps u s → Keeps u (a3 s y0)) :
    Keeps u (State.recvFlit s a1 a2 a3) := by
  unfold State.recvFlit
  grind [State.count_keeps, State.sendNak_keeps, Keeps.rest]

theorem State.inOrder_keeps {u s : State} (h : Keeps u s) (a1 a2 a3) (h3 : ∀ s, Keeps u s → Keeps u (a3 s)) :
    Keeps u (State.inOrder s a1 a2 a3) := by
  unfold State.inOrder
  grind [State.sendIdle_keeps, State.takeAck_keeps, State.takeSeq_keeps, Keeps.rest]

theorem State.recvControl_keeps {u s : State} (h : Keeps u s) (a1 a2 a3 a4) (h4 : ∀ s y0, Keeps u s → Keeps u (a4 s y0)) :
    Keeps u (State.recvControl s a1 a2 a3 a4) := by
  unfold State.recvControl
  grind [State.inOrder_keeps, State.recvFlit_keeps, Keeps.rest]

theorem State.trainPort_keeps {u s : State} (h : Keeps u s) (a1) :
    Keeps u (State.trainPort s a1) := by
  unfold State.trainPort
  grind [State.clearPort_keeps, State.sendControl_keeps, State.wr_keeps, Keeps.rest]

theorem execDataFlit_keeps {u s : State} (h : Keeps u s) (a0 a1 a2) :
    KeepsO u (execDataFlit a0 a1 a2 s) := by
  unfold execDataFlit
  grind [State.advance_keeps, State.dataFlit_keeps, State.inOrder_keeps, State.recvFlit_keeps, Keeps.rest, KeepsO.next]

theorem execIdleFlit_keeps {u s : State} (h : Keeps u s) (a0 a1 a2) :
    KeepsO u (execIdleFlit a0 a1 a2 s) := by
  unfold execIdleFlit
  grind [State.advance_keeps, State.recvFlit_keeps, State.sendNak_keeps, State.takeAck_keeps, Keeps.rest, KeepsO.next]

theorem execNak_keeps {u s : State} (h : Keeps u s) (a0 a1 a2) :
    KeepsO u (execNak a0 a1 a2 s) := by
  unfold execNak
  grind [State.advance_keeps, State.portDown_keeps, State.recvControl_keeps, State.replayFrom_keeps, State.setTport_keeps, Keeps.rest, KeepsO.next]

theorem execCredit_keeps {u s : State} (h : Keeps u s) (a0 a1 a2) :
    KeepsO u (execCredit a0 a1 a2 s) := by
  unfold execCredit
  grind [State.advance_keeps, State.goPort_keeps, State.recvControl_keeps, State.setTport_keeps, Keeps.rest, KeepsO.next]

theorem execTrain_keeps {u s : State} (h : Keeps u s) (a0 a1 a2 a3) :
    KeepsO u (execTrain a0 a1 a2 a3 s) := by
  unfold execTrain
  grind [State.advance_keeps, State.logEvent_keeps, State.recvControl_keeps, State.setRoutesUp_keeps, State.setTport_keeps, State.wr_keeps, Keeps.rest, KeepsO.next]

theorem execReplayTimeout_keeps {u s : State} (h : Keeps u s) (a0 a1) :
    KeepsO u (execReplayTimeout a0 a1 s) := by
  unfold execReplayTimeout
  grind [State.advance_keeps, State.replayFrom_keeps, Keeps.rest, KeepsO.next]

theorem execTorusPortDown_keeps {u s : State} (h : Keeps u s) (a0 a1) :
    KeepsO u (execTorusPortDown a0 a1 s) := by
  unfold execTorusPortDown
  grind [State.advance_keeps, State.portDown_keeps, Keeps.rest, KeepsO.next]

theorem execTorusPortRetrain_keeps {u s : State} (h : Keeps u s) (a0 a1) :
    KeepsO u (execTorusPortRetrain a0 a1 s) := by
  unfold execTorusPortRetrain
  grind [State.advance_keeps, State.trainPort_keeps, Keeps.rest, KeepsO.next]

theorem State.windowFault_keeps {u s : State} (h : Keeps u s) :
    Keeps u (State.windowFault s) := by
  unfold State.windowFault
  grind [State.count_keeps, State.faultPartition_keeps, Keeps.rest]

theorem State.deliver_keeps {u s : State} (h : Keeps u s) (a1) :
    Keeps u (State.deliver s a1) := by
  unfold State.deliver
  grind [State.count_keeps, State.putEntry_keeps, State.useCst_keeps, State.windowFault_keeps, Keeps.rest]

theorem State.takeMessage_keeps {u s : State} (h : Keeps u s) (k : Nat) (e : List Byte × State) (he : s.takeMessage k = some e) :
    Keeps u e.2 := by
  unfold State.takeMessage at he
  grind [State.withLnk_keeps, State.giveCredit_keeps]

theorem execQueueWrite_keeps {u s : State} (h : Keeps u s) (t : Nat) : KeepsO u (execQueueWrite t s) := by
  unfold execQueueWrite
  extract_lets s1
  have h1 : Keeps u s1 := State.advance_keeps h t
  split
  · exact h1
  · exact State.deliver_keeps (State.takeMessage_keeps h1 _ _ ‹_›) _

theorem execCollective_keeps {u s : State} (h : Keeps u s) (t : Nat) : KeepsO u (execCollective t s) := by
  unfold execCollective
  extract_lets s1
  have h1 : Keeps u s1 := State.advance_keeps h t
  split
  · exact h1
  · exact State.deliver_keeps (State.takeMessage_keeps h1 _ _ ‹_›) _

theorem State.carryIn_keeps {u s : State} (h : Keeps u s) (a1) :
    Keeps u (State.carryIn s a1) := by
  unfold State.carryIn
  grind [State.setSess_keeps, State.setSessions_keeps, State.takeNumber_keeps, State.withServe_keeps, Keeps.rest]

theorem State.firmwareRecord_keeps {u s : State} (h : Keeps u s) (a1) :
    Keeps u (State.firmwareRecord s a1) := by
  unfold State.firmwareRecord
  grind [State.carryIn_keeps, State.finishClose_keeps, State.jobDown_keeps, State.setSess_keeps, State.unplan_keeps, State.withLnk_keeps, State.withLst_keeps, Keeps.rest]

theorem execControl_keeps {u s : State} (h : Keeps u s) (t : Nat) : KeepsO u (execControl t s) := by
  unfold execControl
  extract_lets s1
  have h1 : Keeps u s1 := State.advance_keeps h t
  split
  · exact h1
  · have h2 := State.takeMessage_keeps h1 _ _ ‹_›
    split
    · exact State.count_keeps h2 _ _ _
    · extract_lets off n
      split
      · exact State.windowFault_keeps h2
      · have h3 := State.writeBytes_keeps (State.useCst_keeps (State.count_keeps h2 LNK_MSG_RX_CNT_COUNT 1 0) whoLnk 32 7 off n) .cst off
        split
        · exact State.firmwareRecord_keeps (State.withLnk_keeps (h3 _) _) _
        · exact State.withLnk_keeps (h3 _) _

theorem State.tell_keeps {u s : State} (h : Keeps u s) (a1 a2) :
    Keeps u (State.tell s a1 a2) := by
  unfold State.tell
  grind [State.sendMessage_keeps, forEach_keeps, Keeps.rest]

theorem State.tellPeers_keeps {u s : State} (h : Keeps u s) (a1) :
    Keeps u (State.tellPeers s a1) := by
  unfold State.tellPeers
  grind (splits := 40) (gen := 20) (ematch := 20) [State.tell_keeps, State.withLnk_keeps, forEach_keeps, Keeps.rest]

theorem State.switchAtBoundary_keeps {u s : State} (h : Keeps u s) (a1) :
    Keeps u (State.switchAtBoundary s a1) := by
  unfold State.switchAtBoundary
  grind [State.switchNow_keeps, Keeps.rest]

theorem State.linkOn_keeps {u s : State} (h : Keeps u s) :
    Keeps u (State.linkOn s) := by
  unfold State.linkOn
  grind [State.setBit_keeps, State.setRoutesUp_keeps, State.trainPort_keeps, State.wrBit_keeps, State.wr_keeps, forEach_keeps, Keeps.rest]

theorem State.linkOff_keeps {u s : State} (h : Keeps u s) :
    Keeps u (State.linkOff s) := by
  unfold State.linkOff
  grind [State.clearPort_keeps, State.setRoutesUp_keeps, State.withLnk_keeps, State.wr_keeps, forEach_keeps, Keeps.rest]

theorem execLnkCtrlEn_keeps {u s : State} (h : Keeps u s) (a0 a1 a2) :
    KeepsO u (execLnkCtrlEn a0 a1 a2 s) := by
  unfold execLnkCtrlEn
  grind [State.advance_keeps, State.linkOff_keeps, State.linkOn_keeps, State.setBit_keeps, Keeps.rest, KeepsO.next]

theorem State.sendCnp_keeps {u s : State} (h : Keeps u s) (a1 a2) :
    Keeps u (State.sendCnp s a1 a2) := by
  unfold State.sendCnp
  grind [State.count_keeps, State.withLnk_keeps, Keeps.rest]

theorem execStorageReadResponse_keeps {u s : State} (h : Keeps u s) (a0 a1 a2 a3 a4 a5 a6 a7 a8) :
    KeepsO u (execStorageReadResponse a0 a1 a2 a3 a4 a5 a6 a7 a8 s) := by
  unfold execStorageReadResponse
  grind (splits := 40) (gen := 20) (ematch := 20) [State.advance_keeps, State.count_keeps, State.flushReads_keeps, State.loadBytes_keeps, State.sendCnp_keeps, State.withLnk_keeps, Keeps.rest, KeepsO.next]

theorem execStorageNak_keeps {u s : State} (h : Keeps u s) (a0 a1 a2 a3) :
    KeepsO u (execStorageNak a0 a1 a2 a3 s) := by
  unfold execStorageNak
  grind [State.advance_keeps, State.qpError_keeps, Keeps.rest, KeepsO.next]

theorem execRdmaRetryTimeout_keeps {u s : State} (h : Keeps u s) (a0 a1 a2) :
    KeepsO u (execRdmaRetryTimeout a0 a1 a2 s) := by
  unfold execRdmaRetryTimeout
  grind (splits := 40) (gen := 20) (ematch := 20) [State.advance_keeps, State.count_keeps, State.dropHeldReads_keeps, State.flushReads_keeps, State.qpError_keeps, State.sendReads_keeps, State.withLnk_keeps, Keeps.rest, KeepsO.next]

theorem execInboundRequestDiscard_keeps {u s : State} (h : Keeps u s) (a0 a1) :
    KeepsO u (execInboundRequestDiscard a0 a1 s) := by
  unfold execInboundRequestDiscard
  grind [State.advance_keeps, State.count_keeps, Keeps.rest, KeepsO.next]

theorem State.storageDown_keeps {u s : State} (h : Keeps u s) (a1) :
    Keeps u (State.storageDown s a1) := by
  unfold State.storageDown
  grind [State.qpError_keeps, forEach_keeps, Keeps.rest]

theorem execStorageLinkDown_keeps {u s : State} (h : Keeps u s) (a0 a1) :
    KeepsO u (execStorageLinkDown a0 a1 s) := by
  unfold execStorageLinkDown
  grind [State.advance_keeps, State.chooseMaster_keeps, State.storageDown_keeps, State.wr_keeps, Keeps.rest, KeepsO.next]

theorem execStorageLinkUp_keeps {u s : State} (h : Keeps u s) (a0 a1) :
    KeepsO u (execStorageLinkUp a0 a1 s) := by
  unfold execStorageLinkUp
  grind [State.advance_keeps, State.chooseMaster_keeps, State.flushReads_keeps, State.setBit_keeps, Keeps.rest, KeepsO.next]

theorem execStoragePortDisable_keeps {u s : State} (h : Keeps u s) (a0 a1 a2) :
    KeepsO u (execStoragePortDisable a0 a1 a2 s) := by
  unfold execStoragePortDisable
  grind (splits := 40) (gen := 20) (ematch := 20) [State.advance_keeps, State.chooseMaster_keeps, State.storageDown_keeps, State.wr_keeps, Keeps.rest, KeepsO.next]

theorem execQpReset_keeps {u s : State} (h : Keeps u s) (a0 a1 a2 a3) :
    KeepsO u (execQpReset a0 a1 a2 a3 s) := by
  unfold execQpReset
  grind [State.advance_keeps, State.dropHeldReads_keeps, State.loadEmpty_keeps, State.withLnk_keeps, State.wr_keeps, forEach_keeps, Keeps.rest, KeepsO.next]

theorem execQpRts_keeps {u s : State} (h : Keeps u s) (a0 a1 a2 a3) :
    KeepsO u (execQpRts a0 a1 a2 a3 s) := by
  unfold execQpRts
  grind [State.advance_keeps, State.withLnk_keeps, State.wr_keeps, Keeps.rest, KeepsO.next]

theorem execPfcFrame_keeps {u s : State} (h : Keeps u s) (a0 a1 a2 a3) :
    KeepsO u (execPfcFrame a0 a1 a2 a3 s) := by
  unfold execPfcFrame
  grind [State.advance_keeps, State.flushReads_keeps, State.withLnk_keeps, Keeps.rest, KeepsO.next]

theorem State.putParts_keeps {u s : State} (h : Keeps u s) (a1 a2 a3 a4 a5) :
    Keeps u (State.putParts s a1 a2 a3 a4 a5) := by
  unfold State.putParts
  grind [State.coreCst_keeps, State.count_keeps, State.putEntry_keeps, State.sendBytes_keeps, State.setBuf_keeps, Keeps.rest]

theorem State.freeBank_keeps {u s : State} (h : Keeps u s) (a1 a2 a3) :
    Keeps u (State.freeBank s a1 a2 a3) := by
  unfold State.freeBank
  grind [State.goWaiting_keeps, State.setBank_keeps, Keeps.rest]

theorem State.drainMatrix_keeps {u s : State} (h : Keeps u s) (a1 a2 a3 a4 a5) :
    Keeps u (State.drainMatrix s a1 a2 a3 a4 a5) := by
  unfold State.drainMatrix
  grind [State.markNumeric_keeps, State.putParts_keeps, forEach_keeps, Keeps.rest]

theorem execDrain_keeps {u s : State} (h : Keeps u s) (a0 a1 a2 a3 a4 a5) :
    KeepsO u (execDrain a0 a1 a2 a3 a4 a5 s) := by
  unfold execDrain
  grind [State.advance_keeps, State.count_keeps, State.drainMatrix_keeps, State.freeBank_keeps, State.unitCheck_keeps, forEach_keeps, Keeps.rest, KeepsO.next]

theorem State.forcedDrain_keeps {u s : State} (h : Keeps u s) (a1 a2 a3) :
    Keeps u (State.forcedDrain s a1 a2 a3) := by
  unfold State.forcedDrain
  grind [State.count_keeps, State.logEvent_keeps, State.setBit_keeps, State.wrBit_keeps, State.wr_keeps, State.writeBytes_keeps, Keeps.rest]

theorem execAcrDbgDrain_keeps {u s : State} (h : Keeps u s) (a0 a1 a2 a3 a4) :
    KeepsO u (execAcrDbgDrain a0 a1 a2 a3 a4 s) := by
  unfold execAcrDbgDrain
  grind [State.advance_keeps, State.forcedDrain_keeps, Keeps.rest, KeepsO.next]

theorem State.takeRescue_keeps {u s : State} (h : Keeps u s) (a1 a2 a3 a4) :
    Keeps u (State.takeRescue s a1 a2 a3 a4).2 := by
  unfold State.takeRescue
  grind [State.withFab_keeps, Keeps.rest]

theorem State.takeRescues_keeps {u s : State} (h : Keeps u s) (core first : Nat) (recs : List (PartRec × Bool))
    (l : List (Folded × Nat)) : Keeps u (s.takeRescues core first recs l).2 := by
  induction l generalizing s with
  | nil => exact h
  | cons b t ih =>
    obtain ⟨e, i⟩ := b
    unfold State.takeRescues
    exact ih (State.takeRescue_keeps h _ _ _ _)

theorem State.foldInto_keeps {u s : State} (h : Keeps u s) (a1 a2 a3 a4 a5 a6) :
    Keeps u (State.foldInto s a1 a2 a3 a4 a5 a6) := by
  unfold State.foldInto
  grind [State.count_keeps, State.markNumeric_keeps, State.markOob_keeps, State.setBuf_keeps, State.takeRescues_keeps, Keeps.rest]

theorem execFold_keeps {u s : State} (h : Keeps u s) (a0 a1 a2 a3 a4 a5 a6) :
    KeepsO u (execFold a0 a1 a2 a3 a4 a5 a6 s) := by
  unfold execFold
  grind [State.advance_keeps, State.coreJobFault_keeps, State.foldInto_keeps, State.reach_keeps, State.takeEntry_keeps, forEach_keeps, Keeps.rest, KeepsO.next]

theorem execCancelRescue_keeps {u s : State} (h : Keeps u s) (a0 a1 a2 a3) :
    KeepsO u (execCancelRescue a0 a1 a2 a3 s) := by
  unfold execCancelRescue
  grind (splits := 40) (gen := 20) (ematch := 20) [State.advance_keeps, State.count_keeps, State.markNumeric_keeps, State.setBuf_keeps, Keeps.rest, KeepsO.next]

theorem State.putVec_keeps {u s : State} (h : Keeps u s) (a1 a2 a3 a4 a5 a6 a7) :
    Keeps u (State.putVec s a1 a2 a3 a4 a5 a6 a7) := by
  unfold State.putVec
  grind [State.markNumeric_keeps, State.setBuf_keeps, Keeps.rest]

theorem execTopk_keeps {u s : State} (h : Keeps u s) (a0 a1 a2 a3 a4 a5) :
    KeepsO u (execTopk a0 a1 a2 a3 a4 a5 s) := by
  unfold execTopk
  grind [State.advance_keeps, State.count_keeps, State.markNumeric_keeps, State.setBuf_keeps, Keeps.rest, KeepsO.next]

theorem State.addSample_keeps {u s : State} (h : Keeps u s) (a1) :
    Keeps u (State.addSample s a1) := by
  unfold State.addSample
  grind [State.withFab_keeps, Keeps.rest]

theorem State.sampleFrom_keeps {u s : State} (h : Keeps u s) (a1 a2 a3 a4 a5 a6) :
    Keeps u (State.sampleFrom s a1 a2 a3 a4 a5 a6) := by
  unfold State.sampleFrom
  grind [State.addSample_keeps, State.count_keeps, State.markNumeric_keeps, State.setBuf_keeps, Keeps.rest]

theorem State.tuneTarget_keeps {u s : State} (h : Keeps u s) (a1 a2 a3 a4 a5) :
    Keeps u (State.tuneTarget s a1 a2 a3 a4 a5) := by
  unfold State.tuneTarget
  grind [State.putVec_keeps, State.withFab_keeps, Keeps.rest]

theorem execSample_keeps {u s : State} (h : Keeps u s) (a0 a1 a2 a3 a4 a5) :
    KeepsO u (execSample a0 a1 a2 a3 a4 a5 s) := by
  unfold execSample
  grind [State.advance_keeps, State.reach_keeps, State.sampleFrom_keeps, State.takeEntry_keeps, State.tuneTarget_keeps, forEach_keeps, Keeps.rest, KeepsO.next]

theorem execRmsnorm_keeps {u s : State} (h : Keeps u s) (a0 a1 a2 a3 a4) :
    KeepsO u (execRmsnorm a0 a1 a2 a3 a4 s) := by
  unfold execRmsnorm
  grind [State.advance_keeps, State.putVec_keeps, Keeps.rest, KeepsO.next]

theorem execLayernorm_keeps {u s : State} (h : Keeps u s) (a0 a1 a2 a3 a4) :
    KeepsO u (execLayernorm a0 a1 a2 a3 a4 s) := by
  unfold execLayernorm
  grind [State.advance_keeps, State.putVec_keeps, Keeps.rest, KeepsO.next]

theorem State.gate_keeps {u s : State} (h : Keeps u s) (a1 a2 a3 a4 a5) :
    Keeps u (State.gate s a1 a2 a3 a4 a5) := by
  unfold State.gate
  grind [State.putVec_keeps, Keeps.rest]

theorem execSiluGate_keeps {u s : State} (h : Keeps u s) (a0 a1 a2 a3 a4) :
    KeepsO u (execSiluGate a0 a1 a2 a3 a4 s) := by
  unfold execSiluGate
  grind [State.advance_keeps, State.gate_keeps, Keeps.rest, KeepsO.next]

theorem execGeluGate_keeps {u s : State} (h : Keeps u s) (a0 a1 a2 a3 a4) :
    KeepsO u (execGeluGate a0 a1 a2 a3 a4 s) := by
  unfold execGeluGate
  grind [State.advance_keeps, State.gate_keeps, Keeps.rest, KeepsO.next]

theorem execRotary_keeps {u s : State} (h : Keeps u s) (a0 a1 a2 a3 a4 a5) :
    KeepsO u (execRotary a0 a1 a2 a3 a4 a5 s) := by
  unfold execRotary
  grind [State.advance_keeps, State.putVec_keeps, Keeps.rest, KeepsO.next]

theorem execExpSum_keeps {u s : State} (h : Keeps u s) (a0 a1 a2 a3 a4 a5 a6) :
    KeepsO u (execExpSum a0 a1 a2 a3 a4 a5 a6 s) := by
  unfold execExpSum
  grind [State.advance_keeps, State.putVec_keeps, Keeps.rest, KeepsO.next]

theorem execQuantA8_keeps {u s : State} (h : Keeps u s) (a0 a1 a2 a3 a4) :
    KeepsO u (execQuantA8 a0 a1 a2 a3 a4 s) := by
  unfold execQuantA8
  grind [State.advance_keeps, State.markNumeric_keeps, State.nextVector_keeps, State.setBuf_keeps, Keeps.rest, KeepsO.next]

theorem State.addClamps_keeps {u s : State} (h : Keeps u s) (a1 a2) :
    Keeps u (State.addClamps s a1 a2) := by
  unfold State.addClamps
  grind [State.withFab_keeps, Keeps.rest]

theorem execToBf16_keeps {u s : State} (h : Keeps u s) (a0 a1 a2 a3 a4) :
    KeepsO u (execToBf16 a0 a1 a2 a3 a4 s) := by
  unfold execToBf16
  grind [State.addClamps_keeps, State.advance_keeps, State.markNumeric_keeps, State.setBuf_keeps, Keeps.rest, KeepsO.next]

theorem execQRecordWrite_keeps {u s : State} (h : Keeps u s) (a0 a1 a2 a3) :
    KeepsO u (execQRecordWrite a0 a1 a2 a3 s) := by
  unfold execQRecordWrite
  grind [State.advance_keeps, State.markNumeric_keeps, State.setBuf_keeps, Keeps.rest, KeepsO.next]

theorem execExpertCombine_keeps {u s : State} (h : Keeps u s) (a0 a1 a2 a3 a4 a5 a6) :
    KeepsO u (execExpertCombine a0 a1 a2 a3 a4 a5 a6 s) := by
  unfold execExpertCombine
  grind [State.advance_keeps, State.markNumeric_keeps, State.setBuf_keeps, Keeps.rest, KeepsO.next]

theorem State.setMbox_keeps {u s : State} (h : Keeps u s) (a1 a2 a3) :
    Keeps u (State.setMbox s a1 a2 a3) := by
  unfold State.setMbox
  grind [State.withCtl_keeps, Keeps.rest]

theorem State.mbxInterrupt_keeps {u s : State} (h : Keeps u s) (a1) :
    Keeps u (State.mbxInterrupt s a1) := by
  unfold State.mbxInterrupt
  grind [State.mbxEvent_keeps, Keeps.rest]

theorem State.mbxGo_keeps {u s : State} (h : Keeps u s) (a1 a2) :
    Keeps u (State.mbxGo s a1 a2) := by
  unfold State.mbxGo
  grind [State.count_keeps, State.mbxInterrupt_keeps, State.setMbox_keeps, Keeps.rest]

theorem State.mbxDone_keeps {u s : State} (h : Keeps u s) (a1 a2) :
    Keeps u (State.mbxDone s a1 a2) := by
  unfold State.mbxDone
  grind [State.mbxInterrupt_keeps, State.setMbox_keeps, Keeps.rest]

theorem State.mbxAbort_keeps {u s : State} (h : Keeps u s) (a1 a2) :
    Keeps u (State.mbxAbort s a1 a2) := by
  unfold State.mbxAbort
  grind [State.count_keeps, State.mbxInterrupt_keeps, State.setMbox_keeps, Keeps.rest]

theorem State.mbxClear_keeps {u s : State} (h : Keeps u s) (a1 a2) :
    Keeps u (State.mbxClear s a1 a2) := by
  unfold State.mbxClear
  grind [State.setMbox_keeps, Keeps.rest]

theorem State.mbxReset_keeps {u s : State} (h : Keeps u s) (a1) :
    Keeps u (State.mbxReset s a1) := by
  unfold State.mbxReset
  grind [State.mbxAbort_keeps, State.mbxClear_keeps, forEach_keeps, Keeps.rest]

theorem State.mbxResetHost_keeps {u s : State} (h : Keeps u s) :
    Keeps u (State.mbxResetHost s) := by
  unfold State.mbxResetHost
  grind [State.mbxAbort_keeps, State.mbxClear_keeps, forEach_keeps, Keeps.rest]

theorem execMbxSGo_keeps {u s : State} (h : Keeps u s) (a0 a1 a2 a3) :
    KeepsO u (execMbxSGo a0 a1 a2 a3 s) := by
  unfold execMbxSGo
  grind [State.advance_keeps, State.mbxGo_keeps, State.setMbox_keeps, Keeps.rest, KeepsO.next]

theorem execMbxRDone_keeps {u s : State} (h : Keeps u s) (a0 a1 a2) :
    KeepsO u (execMbxRDone a0 a1 a2 s) := by
  unfold execMbxRDone
  grind [State.advance_keeps, State.mbxDone_keeps, Keeps.rest, KeepsO.next]

theorem State.faultReq_keeps {u s : State} (h : Keeps u s) (a1 a2) :
    Keeps u (State.faultReq s a1 a2) := by
  unfold State.faultReq
  grind [State.endReq_keeps, State.setReq_keeps, Keeps.rest]

theorem State.noteRestart_keeps {u s : State} (h : Keeps u s) (a1) :
    Keeps u (State.noteRestart s a1) := by
  unfold State.noteRestart
  grind [State.count_keeps, State.logEvent_keeps, Keeps.rest]

theorem State.restartNow_keeps {u s : State} (h : Keeps u s) (a1) :
    Keeps u (State.restartNow s a1) := by
  unfold State.restartNow
  grind [State.faultReq_keeps, State.mbxReset_keeps, State.moduleFault_keeps, State.noteRestart_keeps, State.unplan_keeps, State.when_keeps, State.withCtl_keeps, State.wr_keeps, forEach_keeps, Keeps.rest, State.when]

theorem State.firmwareRestart_keeps {u s : State} (h : Keeps u s) (a1) :
    Keeps u (State.firmwareRestart s a1) := by
  unfold State.firmwareRestart
  grind [State.restartNow_keeps, Keeps.rest]

theorem execFirmwareRestart_keeps {u s : State} (h : Keeps u s) (a0 a1) :
    KeepsO u (execFirmwareRestart a0 a1 s) := by
  unfold execFirmwareRestart
  grind [State.advance_keeps, State.count_keeps, State.firmwareRestart_keeps, State.when_keeps, Keeps.rest, KeepsO.next, State.when]

theorem execControlWatchdog_keeps {u s : State} (h : Keeps u s) (a0 a1) :
    KeepsO u (execControlWatchdog a0 a1 s) := by
  unfold execControlWatchdog
  grind [State.advance_keeps, State.firmwareRestart_keeps, Keeps.rest, KeepsO.next]

theorem State.retireFrame_keeps {u s : State} (h : Keeps u s) (a1 a2) :
    Keeps u (State.retireFrame s a1 a2) := by
  unfold State.retireFrame
  grind [State.withMem_keeps, Keeps.rest, MemSt.wf_iff]

theorem State.evictUpTo_keeps {u s : State} (h : Keeps u s) (a1 a2) :
    Keeps u (State.evictUpTo s a1 a2) := by
  unfold State.evictUpTo
  grind (splits := 40) (gen := 20) (ematch := 20) [State.evictColumn_keeps, State.setSess_keeps, forEach_keeps, Keeps.rest]

theorem State.evictOrWait_keeps {u s : State} (h : Keeps u s) (a1 a2) :
    Keeps u (State.evictOrWait s a1 a2) := by
  unfold State.evictOrWait
  grind [State.evictUpTo_keeps, State.withMem_keeps, Keeps.rest, MemSt.wf_iff]

theorem State.moveFrame_keeps {u s : State} (h : Keeps u s) (a1 a2) :
    Keeps u (State.moveFrame s a1 a2) := by
  unfold State.moveFrame
  grind [State.copyPages_keeps, State.markPages_keeps, State.retireFrame_keeps, State.setSess_keeps, State.takePage_keeps, State.takePages_keeps, Keeps.rest]

theorem State.memRepair_keeps {u s : State} (h : Keeps u s) :
    Keeps u (State.memRepair s) := by
  unfold State.memRepair
  grind [State.evictOrWait_keeps, State.moveFrame_keeps, State.withMem_keeps, forEach_keeps, Keeps.rest, MemSt.wf_iff]

theorem State.closeLost_keeps {u s : State} (h : Keeps u s) (a1) :
    Keeps u (State.closeLost s a1) := by
  unfold State.closeLost
  grind (splits := 40) (gen := 20) (ematch := 20) [State.abortClones_keeps, State.completeReq_keeps, State.faultReq_keeps, State.finishClose_keeps, State.setSess_keeps, State.stopMoves_keeps, forEach_keeps, Keeps.rest]

theorem State.rewriteEmbedding_keeps {u s : State} (h : Keeps u s) :
    Keeps u (State.rewriteEmbedding s) := by
  unfold State.rewriteEmbedding
  grind [State.writeBytes_keeps, Keeps.rest]

theorem State.loadErrLog_keeps {u s : State} (h : Keeps u s) (a1) :
    Keeps u (State.loadErrLog s a1) := by
  unfold State.loadErrLog
  grind [State.setBit_keeps, State.wrBit_keeps, State.wr_keeps, Keeps.rest]

theorem State.corrected_keeps {u s : State} (h : Keeps u s) (a1) :
    Keeps u (State.corrected s a1) := by
  unfold State.corrected
  grind [State.count_keeps, State.memRepair_keeps, State.withMem_keeps, Keeps.rest, MemSt.wf_iff]

theorem State.testFailed_keeps {u s : State} (h : Keeps u s) (a1) :
    Keeps u (State.testFailed s a1) := by
  unfold State.testFailed
  grind [State.moduleFault_keeps, State.retireFrame_keeps, State.withMem_keeps, Keeps.rest, MemSt.wf_iff]

theorem State.uncorrected_keeps {u s : State} (h : Keeps u s) (a1 a2) (h2 : ∀ s y0, Keeps u s → Keeps u (a2 s y0)) :
    Keeps u (State.uncorrected s a1 a2) := by
  unfold State.uncorrected
  grind [State.closeLost_keeps, State.evictOrWait_keeps, State.faultJob_keeps, State.firmwareRestart_keeps, State.logEvent_keeps, State.rewriteEmbedding_keeps, State.setObj_keeps, forEach_keeps, Keeps.rest]

theorem State.memError_keeps {u s : State} (h : Keeps u s) (a1 a2) (h2 : ∀ s y0, Keeps u s → Keeps u (a2 s y0)) :
    Keeps u (State.memError s a1 a2) := by
  unfold State.memError
  grind [State.corrected_keeps, State.count_keeps, State.loadErrLog_keeps, State.testFailed_keeps, State.uncorrected_keeps, Keeps.rest]

theorem State.coreErrors_keeps {u s : State} (h : Keeps u s) (a1 a2) :
    Keeps u (State.coreErrors s a1 a2).2 := by
  unfold State.coreErrors
  grind [State.faultCore_keeps, State.memError_keeps, forEach_keeps, Keeps.rest]

theorem State.copyErrors_keeps {u s : State} (h : Keeps u s) (a1 a2 a3) :
    Keeps u (State.copyErrors s a1 a2 a3).2 := by
  unfold State.copyErrors
  grind [State.faultJob_keeps, State.memError_keeps, forEach_keeps, Keeps.rest]

theorem State.scrubBegin_keeps {u s : State} (h : Keeps u s) :
    Keeps u (State.scrubBegin s) := by
  unfold State.scrubBegin
  grind [State.withMem_keeps, Keeps.rest, MemSt.wf_iff]

theorem execScrubRead_keeps {u s : State} (h : Keeps u s) (a0 a1 a2 a3) :
    KeepsO u (execScrubRead a0 a1 a2 a3 s) := by
  unfold execScrubRead
  grind [State.advance_keeps, State.logEvent_keeps, State.memError_keeps, State.scrubBegin_keeps, State.stage_keeps, State.useTier_keeps, State.withMem_keeps, State.wrBit_keeps, forEach_keeps, Keeps.rest, KeepsO.next, MemSt.wf_iff]

theorem State.finishRows_keeps {u s : State} (h : Keeps u s) (a1 a2) :
    Keeps u (State.finishRows s a1 a2) := by
  unfold State.finishRows
  grind [State.count_keeps, State.markNumeric_keeps, State.setBuf_keeps, State.writeBytes_keeps, forEach_keeps, Keeps.rest]

theorem State.attend_keeps {u s : State} (h : Keeps u s) (a1 a2 a3 a4 a5) :
    Keeps u (State.attend s a1 a2 a3 a4 a5) := by
  unfold State.attend
  grind [State.coreCst_keeps, State.count_keeps, State.finishRows_keeps, State.markNumeric_keeps, State.putEntry_keeps, State.setBuf_keeps, Keeps.rest]

theorem State.chargeKv_keeps {u s : State} (h : Keeps u s) (a1 a2 a3 a4) :
    Keeps u (State.chargeKv s a1 a2 a3 a4) := by
  unfold State.chargeKv
  grind [State.chargeTier_keeps, State.stage_keeps, State.useTier_keeps, forEach_keeps, Keeps.rest]

theorem State.feedWait_keeps {u s : State} (h : Keeps u s) (a1) :
    Keeps u (State.feedWait s a1) := by
  unfold State.feedWait
  grind [State.count_keeps, State.withFab_keeps, Keeps.rest]

theorem State.attnStart_keeps {u s : State} (h : Keeps u s) (a1 a2 a3) :
    Keeps u (State.attnStart s a1 a2 a3).2 := by
  unfold State.attnStart
  grind [State.chargeKv_keeps, State.coreErrors_keeps, State.coreJobFault_keeps, State.feedWait_keeps, Keeps.rest]

theorem execAttentionForward_keeps {u s : State} (h : Keeps u s) (a0 a1 a2 a3 a4 a5) :
    KeepsO u (execAttentionForward a0 a1 a2 a3 a4 a5 s) := by
  unfold execAttentionForward
  grind [State.advance_keeps, State.attend_keeps, State.attnStart_keeps, State.unitCheck_keeps, Keeps.rest, KeepsO.next]

theorem execSegmentMerge_keeps {u s : State} (h : Keeps u s) (a0 a1 a2 a3 a4) :
    KeepsO u (execSegmentMerge a0 a1 a2 a3 a4 s) := by
  unfold execSegmentMerge
  grind (splits := 40) (gen := 20) (ematch := 20) [State.advance_keeps, State.count_keeps, State.finishRows_keeps, State.reach_keeps, State.setBuf_keeps, State.takeEntry_keeps, Keeps.rest, KeepsO.next]

theorem State.attendBack_keeps {u s : State} (h : Keeps u s) (a1 a2 a3 a4) :
    Keeps u (State.attendBack s a1 a2 a3 a4) := by
  unfold State.attendBack
  grind [State.count_keeps, State.markNumeric_keeps, State.setBuf_keeps, Keeps.rest]

theorem execAttentionBackward_keeps {u s : State} (h : Keeps u s) (a0 a1 a2 a3 a4) :
    KeepsO u (execAttentionBackward a0 a1 a2 a3 a4 s) := by
  unfold execAttentionBackward
  grind [State.advance_keeps, State.attendBack_keeps, State.attnStart_keeps, State.unitCheck_keeps, Keeps.rest, KeepsO.next]

theorem State.setSlot_keeps {u s : State} (h : Keeps u s) (a1 a2) :
    Keeps u (State.setSlot s a1 a2) := by
  unfold State.setSlot
  grind [State.withMgt_keeps, Keeps.rest]

theorem State.measHold_keeps {u s : State} (h : Keeps u s) :
    Keeps u (State.measHold s) := by
  unfold State.measHold
  grind [State.withMgt_keeps, Keeps.rest]

theorem State.trainLink_keeps {u s : State} (h : Keeps u s) (a1) :
    Keeps u (State.trainLink s a1) := by
  unfold State.trainLink
  grind [State.wrBit_keeps, State.wr_keeps, Keeps.rest]

theorem State.runSlot_keeps {u s : State} (h : Keeps u s) (a1 a2) :
    Keeps u (State.runSlot s a1 a2) := by
  unfold State.runSlot
  grind [State.withMgt_keeps, State.wr_keeps, Keeps.rest]

theorem State.noSlot_keeps {u s : State} (h : Keeps u s) :
    Keeps u (State.noSlot s) := by
  unfold State.noSlot
  grind [State.mgtEvent_keeps, State.wr_keeps, Keeps.rest]

theorem State.slotFailed_keeps {u s : State} (h : Keeps u s) (a1) :
    Keeps u (State.slotFailed s a1) := by
  unfold State.slotFailed
  grind [State.logEvent_keeps, State.setSlot_keeps, State.withMgt_keeps, Keeps.rest]

theorem State.runConfirmed_keeps {u s : State} (h : Keeps u s) (a1 a2) :
    Keeps u (State.runConfirmed s a1 a2) := by
  unfold State.runConfirmed
  grind [State.noSlot_keeps, State.runSlot_keeps, State.slotFailed_keeps, Keeps.rest]

theorem State.trySlot_keeps {u s : State} (h : Keeps u s) (a1 a2 a3) :
    Keeps u (State.trySlot s a1 a2 a3) := by
  unfold State.trySlot
  grind [State.runConfirmed_keeps, State.runSlot_keeps, State.slotFailed_keeps, Keeps.rest]

theorem State.chooseConfirmed_keeps {u s : State} (h : Keeps u s) (a1) :
    Keeps u (State.chooseConfirmed s a1) := by
  unfold State.chooseConfirmed
  grind [State.noSlot_keeps, State.trySlot_keeps, Keeps.rest]

theorem State.bootChoice_keeps {u s : State} (h : Keeps u s) (a1) :
    Keeps u (State.bootChoice s a1) := by
  unfold State.bootChoice
  grind [State.chooseConfirmed_keeps, State.mgtEvent_keeps, State.setSlot_keeps, State.trySlot_keeps, State.when_keeps, State.withMgt_keeps, Keeps.rest, State.when]

theorem State.ledgerEvent_keeps {u s : State} (h : Keeps u s) (a1 a2) :
    Keeps u (State.ledgerEvent s a1 a2) := by
  unfold State.ledgerEvent
  grind [State.logEvent_keeps, Keeps.rest]

theorem State.readCalibration_keeps {u s : State} (h : Keeps u s) (a1 a2) :
    Keeps u (State.readCalibration s a1 a2) := by
  unfold State.readCalibration
  grind [State.ledgerEvent_keeps, State.moduleFault_keeps, State.smsEvent_keeps, Keeps.rest]

theorem State.healthLost_keeps {u s : State} (h : Keeps u s) (a1) :
    Keeps u (State.healthLost s a1) := by
  unfold State.healthLost
  grind [State.ledgerEvent_keeps, State.setHealth_keeps, State.withFab_keeps, State.withLst_keeps, Keeps.rest]

theorem State.enduranceLost_keeps {u s : State} (h : Keeps u s) (a1) :
    Keeps u (State.enduranceLost s a1) := by
  unfold State.enduranceLost
  grind [State.ledgerEvent_keeps, State.withLst_keeps, forEach_keeps, Keeps.rest]

theorem State.useHealth_keeps {u s : State} (h : Keeps u s) (a1) :
    Keeps u (State.useHealth s a1) := by
  unfold State.useHealth
  grind [State.withFab_keeps, State.withLst_keeps, Keeps.rest]

theorem State.migrateLedger_keeps {u s : State} (h : Keeps u s) :
    Keeps u (State.migrateLedger s) := by
  unfold State.migrateLedger
  grind [State.enduranceLost_keeps, State.healthLost_keeps, State.moduleFault_keeps, State.useHealth_keeps, State.when_keeps, State.withLst_keeps, forEach_keeps, Keeps.rest, State.when]

theorem State.readLedger_keeps {u s : State} (h : Keeps u s) (a1) :
    Keeps u (State.readLedger s a1) := by
  unfold State.readLedger
  grind [State.enduranceLost_keeps, State.healthLost_keeps, State.migrateLedger_keeps, State.readCalibration_keeps, forEach_keeps, Keeps.rest]

theorem State.start_keeps {u s : State} (h : Keeps u s) (a1) :
    Keeps u (State.start s a1) := by
  unfold State.start
  grind (splits := 40) (gen := 20) (ematch := 20) [State.mainReset_keeps, State.trainLink_keeps, State.withCtl_keeps, State.withMgt_keeps, State.withPwr_keeps, State.wr_keeps, Keeps.rest]

end Sys2Proof.Machine
end

