-- ==== Sys2Proof/Laws/KeepsLinks.lean ====
section
/-! SUPPORT. What the operations keep, in the order of the model's files, from Boot to Wheel: one lemma an operation, cited
in place of its unfolding. -/

set_option Elab.async false
set_option linter.all false

namespace Sys2Proof.Machine

theorem State.bootRom_keeps {u s : State} (h : Keeps u s) :
    Keeps u (State.bootRom s) := by
  unfold State.bootRom
  grind [State.bootChoice_keeps, State.readLedger_keeps, State.withCtl_keeps, Keeps.rest]

theorem State.railsUp_keeps {u s : State} (h : Keeps u s) :
    Keeps u (State.railsUp s) := by
  unfold State.railsUp
  grind [State.withPwr_keeps, Keeps.rest]

theorem execStandbyApply_keeps {u s : State} (h : Keeps u s) (a0 a1) :
    KeepsO u (execStandbyApply a0 a1 s) := by
  unfold execStandbyApply
  grind (splits := 40) (gen := 20) (ematch := 20) [State.advance_keeps, State.railsUp_keeps, State.withMgt_keeps, State.withPwr_keeps, State.wr_keeps, Keeps.rest, KeepsO.next]

theorem execStandbyRemove_keeps {u s : State} (h : Keeps u s) (a0) :
    KeepsO u (execStandbyRemove a0 s) := by
  unfold execStandbyRemove
  grind [State.advance_keeps, State.railsDown_keeps, State.when_keeps, State.withPwr_keeps, Keeps.rest, KeepsO.next, State.when]

theorem execPwrEnRise_keeps {u s : State} (h : Keeps u s) (a0 a1) :
    KeepsO u (execPwrEnRise a0 a1 s) := by
  unfold execPwrEnRise
  grind [State.advance_keeps, State.railsUp_keeps, State.withPwr_keeps, Keeps.rest, KeepsO.next]

theorem execPwrGoodRise_keeps {u s : State} (h : Keeps u s) (a0 a1) :
    KeepsO u (execPwrGoodRise a0 a1 s) := by
  unfold execPwrGoodRise
  grind [State.advance_keeps, State.start_keeps, State.withPwr_keeps, Keeps.rest, KeepsO.next]

theorem execPwrEnFall_keeps {u s : State} (h : Keeps u s) (a0 a1) :
    KeepsO u (execPwrEnFall a0 a1 s) := by
  unfold execPwrEnFall
  grind [State.advance_keeps, State.railsDown_keeps, State.when_keeps, State.withPwr_keeps, Keeps.rest, KeepsO.next, State.when]

theorem execPerstNAssert_keeps {u s : State} (h : Keeps u s) (a0 a1) :
    KeepsO u (execPerstNAssert a0 a1 s) := by
  unfold execPerstNAssert
  grind [State.advance_keeps, State.mainReset_keeps, State.start_keeps, State.withPwr_keeps, Keeps.rest, KeepsO.next]

theorem execPerstNRelease_keeps {u s : State} (h : Keeps u s) (a0 a1) :
    KeepsO u (execPerstNRelease a0 a1 s) := by
  unfold execPerstNRelease
  grind [State.advance_keeps, State.start_keeps, State.withPwr_keeps, Keeps.rest, KeepsO.next]

theorem execPeRefclkLoss_keeps {u s : State} (h : Keeps u s) (a0 a1) :
    KeepsO u (execPeRefclkLoss a0 a1 s) := by
  unfold execPeRefclkLoss
  grind [State.advance_keeps, State.mainReset_keeps, State.start_keeps, State.withPwr_keeps, Keeps.rest, KeepsO.next]

theorem State.storeFailed_keeps {u s : State} (h : Keeps u s) (a1) :
    Keeps u (State.storeFailed s a1) := by
  unfold State.storeFailed
  grind [State.markRetire_keeps, State.setHealth_keeps, Keeps.rest]

theorem State.readyFaults_keeps {u s : State} (h : Keeps u s) :
    Keeps u (State.readyFaults s) := by
  unfold State.readyFaults
  grind [State.moduleFault_keeps, State.railFault_keeps, State.when_keeps, State.withCtl_keeps, State.withPtm_keeps, forEach_keeps, Keeps.rest, State.when]

theorem State.loadStores_keeps {u s : State} (h : Keeps u s) (a1) :
    Keeps u (State.loadStores s a1) := by
  unfold State.loadStores
  grind [State.checkStores_keeps, State.storeFailed_keeps, State.withCtl_keeps, forEach_keeps, Keeps.rest]

theorem State.becomeReady_keeps {u s : State} (h : Keeps u s) (a1) :
    Keeps u (State.becomeReady s a1) := by
  unfold State.becomeReady
  grind [State.drainWaiting_keeps, State.loadStores_keeps, State.readyFaults_keeps, State.when_keeps, State.withCtl_keeps, State.withMgt_keeps, State.wr_keeps, forEach_keeps, Keeps.rest, State.when]

theorem execFirmwareReady_keeps {u s : State} (h : Keeps u s) (a0 a1) :
    KeepsO u (execFirmwareReady a0 a1 s) := by
  unfold execFirmwareReady
  grind [State.advance_keeps, State.becomeReady_keeps, State.bootRom_keeps, State.logEvent_keeps, State.noSlot_keeps, Keeps.rest, KeepsO.next]

theorem State.releaseLedger_keeps {u s : State} (h : Keeps u s) :
    Keeps u (State.releaseLedger s) := by
  unfold State.releaseLedger
  grind [Keeps.rest]

theorem execTrialConfirm_keeps {u s : State} (h : Keeps u s) (a0) :
    KeepsO u (execTrialConfirm a0 s) := by
  unfold execTrialConfirm
  grind [State.advance_keeps, State.releaseLedger_keeps, State.setSlot_keeps, State.withMgt_keeps, Keeps.rest, KeepsO.next]

theorem State.fallLedger_keeps {u s : State} (h : Keeps u s) :
    Keeps u (State.fallLedger s) := by
  unfold State.fallLedger
  grind [Keeps.rest]

theorem execFallback_keeps {u s : State} (h : Keeps u s) (a0 a1) :
    KeepsO u (execFallback a0 a1 s) := by
  unfold execFallback
  grind (splits := 40) (gen := 20) (ematch := 20) [State.advance_keeps, State.fallLedger_keeps, State.mgtEvent_keeps, State.restartNow_keeps, State.runConfirmed_keeps, State.setSlot_keeps, State.withCtl_keeps, State.withMgt_keeps, Keeps.rest, KeepsO.next]

theorem execMcWatchdog_keeps {u s : State} (h : Keeps u s) (a0) :
    KeepsO u (execMcWatchdog a0 s) := by
  unfold execMcWatchdog
  grind [State.advance_keeps, State.mbxReset_keeps, State.withMgt_keeps, Keeps.rest, KeepsO.next]

theorem State.loadBuf_keeps {u s : State} (h : Keeps u s) (a1 a2 a3 a4 a5) :
    Keeps u (State.loadBuf s a1 a2 a3 a4 a5) := by
  unfold State.loadBuf
  grind [State.nextVector_keeps, State.setBuf_keeps, Keeps.rest]

theorem State.putPlace_keeps {u s : State} (h : Keeps u s) (a1 a2 a3 a4) :
    Keeps u (State.putPlace s a1 a2 a3 a4) := by
  unfold State.putPlace
  grind [State.coreCst_keeps, State.putEntry_keeps, State.sendBytes_keeps, State.setBuf_keeps, Keeps.rest]

theorem State.embeddingRow_keeps {u s : State} (h : Keeps u s) (a1 a2 a3 a4 a5 a6) :
    Keeps u (State.embeddingRow s a1 a2 a3 a4 a5 a6) := by
  unfold State.embeddingRow
  grind [State.chargeTier_keeps, State.putEntry_keeps, State.useCst_keeps, State.useTier_keeps, Keeps.rest]

theorem State.writeHead_keeps {u s : State} (h : Keeps u s) (a1 a2 a3 a4 a5 a6) :
    Keeps u (State.writeHead s a1 a2 a3 a4 a5 a6) := by
  unfold State.writeHead
  grind [State.writeBytes_keeps, Keeps.rest]

theorem State.writeKv_keeps {u s : State} (h : Keeps u s) (a1 a2 a3 a4 a5 a6 a7 a8) :
    Keeps u (State.writeKv s a1 a2 a3 a4 a5 a6 a7 a8) := by
  unfold State.writeKv
  grind (splits := 40) (gen := 20) (ematch := 20) [State.chargeTier_keeps, State.stage_keeps, State.useTier_keeps, State.writeHead_keeps, forEach_keeps, Keeps.rest]

theorem State.dma_keeps {u s : State} (h : Keeps u s) (a1 a2 a3) :
    Keeps u (State.dma s a1 a2 a3) := by
  unfold State.dma
  grind [State.coreCst_keeps, State.embeddingRow_keeps, State.loadBuf_keeps, State.putPlace_keeps, State.reach_keeps, State.sendBytes_keeps, State.takeEntry_keeps, State.writeBytes_keeps, State.writeKv_keeps, Keeps.rest]

theorem execDma_keeps {u s : State} (h : Keeps u s) (a0 a1 a2 a3 a4) :
    KeepsO u (execDma a0 a1 a2 a3 a4 s) := by
  unfold execDma
  grind [State.advance_keeps, State.coreErrors_keeps, State.dma_keeps, Keeps.rest, KeepsO.next]

theorem execExpertDispatch_keeps {u s : State} (h : Keeps u s) (a0 a1 a2 a3 a4) :
    KeepsO u (execExpertDispatch a0 a1 a2 a3 a4 s) := by
  unfold execExpertDispatch
  grind [State.advance_keeps, State.putPlace_keeps, forEach_keeps, Keeps.rest, KeepsO.next]

theorem State.faultDie_keeps {u s : State} (h : Keeps u s) (a1 a2) :
    Keeps u (State.faultDie s a1 a2) := by
  unfold State.faultDie
  grind [State.faultJob_keeps, State.logEvent_keeps, forEach_keeps, Keeps.rest]

theorem execBridgeFlitReceive_keeps {u s : State} (h : Keeps u s) (a0 a1 a2 a3) :
    KeepsO u (execBridgeFlitReceive a0 a1 a2 a3 s) := by
  unfold execBridgeFlitReceive
  grind [State.advance_keeps, State.faultDie_keeps, State.withLnk_keeps, Keeps.rest, KeepsO.next]

theorem execBridgeRetrain_keeps {u s : State} (h : Keeps u s) (a0 a1) :
    KeepsO u (execBridgeRetrain a0 a1 s) := by
  unfold execBridgeRetrain
  grind [State.advance_keeps, State.withLnk_keeps, Keeps.rest, KeepsO.next]

theorem State.bellRefused_keeps {u s : State} (h : Keeps u s) (a1) :
    Keeps u (State.bellRefused s a1) := by
  unfold State.bellRefused
  grind [State.count_keeps, State.hifEvent_keeps, State.setBit_keeps, Keeps.rest]

theorem State.doorbell_keeps {u s : State} (h : Keeps u s) (fn q : Nat) (b : Bell) (x : Nat) : Keeps u (s.doorbell fn q b x) := by
  unfold State.doorbell
  extract_lets st y s'
  have hs : Keeps u s' := State.setQueue_keeps h _ _
  clear_value s' y
  split
  · exact h
  split
  · exact State.bellRefused_keeps h _
  split
  · exact h
  cases b with
  | sqTail => exact State.leaveMp1_keeps hs
  | cqHead => exact hs
  | tqHead => exact State.drainWaiting_keeps hs _

theorem execSqTail_keeps {u s : State} (h : Keeps u s) (a0 a1 a2 a3) :
    KeepsO u (execSqTail a0 a1 a2 a3 s) := by
  unfold execSqTail
  grind [State.advance_keeps, State.doorbell_keeps, Keeps.rest, KeepsO.next]

theorem execCqHead_keeps {u s : State} (h : Keeps u s) (a0 a1 a2 a3) :
    KeepsO u (execCqHead a0 a1 a2 a3 s) := by
  unfold execCqHead
  grind [State.advance_keeps, State.doorbell_keeps, Keeps.rest, KeepsO.next]

theorem execTqHead_keeps {u s : State} (h : Keeps u s) (a0 a1 a2 a3) :
    KeepsO u (execTqHead a0 a1 a2 a3 s) := by
  unfold execTqHead
  grind [State.advance_keeps, State.doorbell_keeps, Keeps.rest, KeepsO.next]

theorem State.queueEnable_keeps {u s : State} (h : Keeps u s) (a1) :
    Keeps u (State.queueEnable s a1) := by
  unfold State.queueEnable
  grind [State.setBit_keeps, State.setQueue_keeps, State.wr_keeps, Keeps.rest]

theorem State.queueDisable_keeps {u s : State} (h : Keeps u s) (a1) :
    Keeps u (State.queueDisable s a1) := by
  unfold State.queueDisable
  grind [State.wr_keeps, Keeps.rest]

theorem execHifQEnable_keeps {u s : State} (h : Keeps u s) (a0 a1 a2) :
    KeepsO u (execHifQEnable a0 a1 a2 s) := by
  unfold execHifQEnable
  grind [State.advance_keeps, State.queueEnable_keeps, State.when_keeps, Keeps.rest, KeepsO.next, State.when]

theorem execHifQDisable_keeps {u s : State} (h : Keeps u s) (a0 a1 a2) :
    KeepsO u (execHifQDisable a0 a1 a2 s) := by
  unfold execHifQDisable
  grind [State.advance_keeps, State.queueDisable_keeps, State.when_keeps, Keeps.rest, KeepsO.next, State.when]

theorem execQueueDrained_keeps {u s : State} (h : Keeps u s) (a0 a1) :
    KeepsO u (execQueueDrained a0 a1 s) := by
  unfold execQueueDrained
  grind [State.advance_keeps, State.when_keeps, State.wr_keeps, Keeps.rest, KeepsO.next, State.when]

theorem State.writeFnQueues_keeps {u s : State} (h : Keeps u s) (a1) :
    Keeps u (State.writeFnQueues s a1) := by
  unfold State.writeFnQueues
  grind [State.setBit_keeps, State.when_keeps, State.wr_keeps, forEach_keeps, Keeps.rest, State.when]

theorem execHifFnQueues_keeps {u s : State} (h : Keeps u s) (a0 a1 a2) :
    KeepsO u (execHifFnQueues a0 a1 a2 s) := by
  unfold execHifFnQueues
  grind [State.advance_keeps, State.when_keeps, State.writeFnQueues_keeps, Keeps.rest, KeepsO.next, State.when]

theorem execRingSignal_keeps {u s : State} (h : Keeps u s) (a0 a1 a2) :
    KeepsO u (execRingSignal a0 a1 a2 s) := by
  unfold execRingSignal
  grind [State.advance_keeps, State.ringSignal_keeps, State.statusWrite_keeps, State.when_keeps, Keeps.rest, KeepsO.next, State.when]

theorem State.msixFlush_keeps {u s : State} (h : Keeps u s) (a1) :
    Keeps u (State.msixFlush s a1) := by
  unfold State.msixFlush
  grind [State.post_keeps, State.setVec_keeps, forEach_keeps, Keeps.rest]

theorem State.msixMask_keeps {u s : State} (h : Keeps u s) (a1 a2) :
    Keeps u (State.msixMask s a1 a2) := by
  unfold State.msixMask
  grind [State.msixFlush_keeps, State.setFn_keeps, State.setVec_keeps, Keeps.rest]

theorem execMsixUnmask_keeps {u s : State} (h : Keeps u s) (a0 a1 a2) :
    KeepsO u (execMsixUnmask a0 a1 a2 s) := by
  unfold execMsixUnmask
  grind [State.advance_keeps, State.msixMask_keeps, State.when_keeps, Keeps.rest, KeepsO.next, State.when]

theorem State.resetSession_keeps {u s : State} (h : Keeps u s) (a1) :
    Keeps u (State.resetSession s a1) := by
  unfold State.resetSession
  grind (splits := 40) (gen := 20) (ematch := 20) [State.abortClones_keeps, State.complete_keeps, State.endReq_keeps, State.setSess_keeps, forEach_keeps, Keeps.rest]

theorem State.resetQueue_keeps {u s : State} (h : Keeps u s) (a1) :
    Keeps u (State.resetQueue s a1) := by
  unfold State.resetQueue
  grind [State.complete_keeps, State.drainWaiting_keeps, State.setQueue_keeps, forEach_keeps, Keeps.rest]

theorem State.resetObjects_keeps {u s : State} (h : Keeps u s) (a1) :
    Keeps u (State.resetObjects s a1) := by
  unfold State.resetObjects
  grind (splits := 40) (gen := 20) (ematch := 20) [State.answerOwner_keeps, State.loadEmpty_keeps, State.withLst_keeps, forEach_keeps, Keeps.rest]

theorem State.beginReset_keeps {u s : State} (h : Keeps u s) (a1 a2) :
    Keeps u (State.beginReset s a1 a2) := by
  unfold State.beginReset
  grind [State.count_keeps, State.resetObjects_keeps, State.resetQueue_keeps, State.resetSession_keeps, State.setFn_keeps, State.setLaunches_keeps, State.unplan_keeps, forEach_keeps, Keeps.rest]

theorem State.startReset_keeps {u s : State} (h : Keeps u s) (a1 a2) :
    Keeps u (State.startReset s a1 a2) := by
  unfold State.startReset
  grind [State.beginReset_keeps, State.mbxReset_keeps, Keeps.rest]

theorem State.closeSessions_keeps {u s : State} (h : Keeps u s) (a1) :
    Keeps u (State.closeSessions s a1) := by
  unfold State.closeSessions
  grind [State.abortClones_keeps, State.finishClose_keeps, State.setSess_keeps, State.stopMoves_keeps, forEach_keeps, Keeps.rest]

theorem State.emptySlotOf_keeps {u s : State} (h : Keeps u s) (a1) :
    Keeps u (State.emptySlotOf s a1) := by
  unfold State.emptySlotOf
  grind [State.setObj_keeps, State.withLst_keeps, Keeps.rest]

theorem State.emptyObjects_keeps {u s : State} (h : Keeps u s) (a1 a2) :
    Keeps u (State.emptyObjects s a1 a2) := by
  unfold State.emptyObjects
  grind [State.emptySlotOf_keeps, State.withLst_keeps, forEach_keeps, Keeps.rest]

theorem State.resetVectors_keeps {u s : State} (h : Keeps u s) (f : Nat) : Keeps u (s.resetVectors f) := by
  unfold State.resetVectors
  refine forEach_keeps _ _ (fun s q h => ?_) _ ?_
  · exact foldl_keeps _ _ (fun s r h => State.wr_keeps h _ _ _) _ (State.setQueue_keeps h _ _)
  · exact foldl_keeps _ _ (fun s r h => State.wr_keeps h _ _ _) _ (State.setFn_keeps (State.withHif_keeps h _) _ _)

theorem State.emptyFn_keeps {u s : State} (h : Keeps u s) (a1) :
    Keeps u (State.emptyFn s a1) := by
  unfold State.emptyFn
  grind [State.closeSessions_keeps, State.emptyObjects_keeps, State.setFn_keeps, Keeps.rest]

theorem State.emptyFns_keeps {u s : State} (h : Keeps u s) :
    Keeps u (State.emptyFns s) := by
  unfold State.emptyFns
  grind [State.emptyFn_keeps, forEach_keeps, Keeps.rest]

theorem State.finishReset_keeps {u s : State} (h : Keeps u s) (a1) :
    Keeps u (State.finishReset s a1) := by
  unfold State.finishReset
  grind [State.emptyFn_keeps, State.resetVectors_keeps, State.setFn_keeps, Keeps.rest]

theorem State.pfReset_keeps {u s : State} (h : Keeps u s) : Keeps u s.pfReset := by
  unfold State.pfReset
  extract_lets link other s1 s2 s3
  have h1 : Keeps u s1 := ⟨h.1, fun w => SMap.rises_filter _ _ (h.2 w), h.3⟩
  have h2 : Keeps u s2 := State.wr_keeps (State.wr_keeps (State.wr_keeps h1 _ _ _) _ _ _) _ _ _
  exact State.withLst_keeps (State.withHif_keeps h2 _) _

theorem State.resetReady_keeps {u s : State} (h : Keeps u s) (a1) :
    Keeps u (State.resetReady s a1) := by
  unfold State.resetReady
  grind [State.advance_keeps, State.emptyFns_keeps, State.finishReset_keeps, State.pfReset_keeps, forEach_keeps, Keeps.rest]

theorem State.clearVfs_keeps {u s : State} (h : Keeps u s) :
    Keeps u (State.clearVfs s) := by
  unfold State.clearVfs
  grind [State.startReset_keeps, State.withHif_keeps, forEach_keeps, Keeps.rest]

theorem State.startPfFlr_keeps {u s : State} (h : Keeps u s) :
    Keeps u (State.startPfFlr s) := by
  unfold State.startPfFlr
  grind [State.beginReset_keeps, State.clearVfs_keeps, State.mbxResetHost_keeps, State.setFn_keeps, forEach_keeps, Keeps.rest]

theorem execVfFlr_keeps {u s : State} (h : Keeps u s) (a0 a1) :
    KeepsO u (execVfFlr a0 a1 s) := by
  unfold execVfFlr
  grind [State.advance_keeps, State.startReset_keeps, State.when_keeps, Keeps.rest, KeepsO.next, State.when]

theorem execFunctionResetReady_keeps {u s : State} (h : Keeps u s) (a0 a1) :
    KeepsO u (execFunctionResetReady a0 a1 s) := by
  unfold execFunctionResetReady
  grind [State.advance_keeps, State.resetReady_keeps, Keeps.rest, KeepsO.next]

theorem State.writeFnReset_keeps {u s : State} (h : Keeps u s) (a1) :
    Keeps u (State.writeFnReset s a1) := by
  unfold State.writeFnReset
  grind [State.startReset_keeps, Keeps.rest]

theorem execHifFnResetFlr_keeps {u s : State} (h : Keeps u s) (a0 a1) :
    KeepsO u (execHifFnResetFlr a0 a1 s) := by
  unfold execHifFnResetFlr
  grind [State.advance_keeps, State.when_keeps, State.writeFnReset_keeps, Keeps.rest, KeepsO.next, State.when]

theorem execHifFnResetServe_keeps {u s : State} (h : Keeps u s) (a0 a1) :
    KeepsO u (execHifFnResetServe a0 a1 s) := by
  unfold execHifFnResetServe
  grind [State.advance_keeps, State.when_keeps, State.writeFnReset_keeps, Keeps.rest, KeepsO.next, State.when]

theorem execHifCtrlServeReset_keeps {u s : State} (h : Keeps u s) (a0 a1) :
    KeepsO u (execHifCtrlServeReset a0 a1 s) := by
  unfold execHifCtrlServeReset
  grind [State.advance_keeps, State.startReset_keeps, State.when_keeps, Keeps.rest, KeepsO.next, State.when]

theorem execHifVfCtrlServeReset_keeps {u s : State} (h : Keeps u s) (a0 a1) :
    KeepsO u (execHifVfCtrlServeReset a0 a1 s) := by
  unfold execHifVfCtrlServeReset
  grind [State.advance_keeps, State.startReset_keeps, State.when_keeps, Keeps.rest, KeepsO.next, State.when]

theorem execVfEnableClear_keeps {u s : State} (h : Keeps u s) (a0) :
    KeepsO u (execVfEnableClear a0 s) := by
  unfold execVfEnableClear
  grind [State.advance_keeps, State.clearVfs_keeps, State.when_keeps, Keeps.rest, KeepsO.next, State.when]

theorem execVfEnableSet_keeps {u s : State} (h : Keeps u s) (a0 a1 a2) :
    KeepsO u (execVfEnableSet a0 a1 a2 s) := by
  unfold execVfEnableSet
  grind [State.advance_keeps, State.withHif_keeps, Keeps.rest, KeepsO.next]

theorem execPfFlr_keeps {u s : State} (h : Keeps u s) (a0) :
    KeepsO u (execPfFlr a0 s) := by
  unfold execPfFlr
  grind [State.advance_keeps, State.startPfFlr_keeps, State.when_keeps, Keeps.rest, KeepsO.next, State.when]

theorem execFunctionPowerState_keeps {u s : State} (h : Keeps u s) (a0 a1 a2) :
    KeepsO u (execFunctionPowerState a0 a1 a2 s) := by
  unfold execFunctionPowerState
  grind [State.advance_keeps, State.msixFlush_keeps, State.setFn_keeps, State.when_keeps, Keeps.rest, KeepsO.next, State.when]

theorem State.fetchError_keeps {u s : State} (h : Keeps u s) (a1) :
    Keeps u (State.fetchError s a1) := by
  unfold State.fetchError
  grind [State.count_keeps, State.hifEvent_keeps, State.setBit_keeps, State.wr_keeps, Keeps.rest]

theorem State.bufferError_keeps {u s : State} (h : Keeps u s) (f n : Nat) (t : State) (ht : s.bufferError f n = some t) :
    Keeps u t := by
  unfold State.bufferError at ht
  grind [State.endReq_keeps]

theorem execCompletionTimeout_keeps {u s : State} (h : Keeps u s) (t : Nat) (r : TimedRead) :
    KeepsO u (execCompletionTimeout t r s) := by
  unfold execCompletionTimeout
  extract_lets s1
  have h1 : Keeps u s1 := State.advance_keeps h t
  split
  · split
    · exact h1
    · exact State.aer_keeps (State.count_keeps (State.fetchError_keeps h1 _) _ _ _) _ _
  · split
    · exact h1
    · exact State.aer_keeps (State.count_keeps (State.bufferError_keeps h1 _ _ _ ‹_›) _ _ _) _ _

theorem execHifUncorrectable_keeps {u s : State} (h : Keeps u s) (a0 a1) :
    KeepsO u (execHifUncorrectable a0 a1 s) := by
  unfold execHifUncorrectable
  grind (splits := 40) (gen := 20) (ematch := 20) [State.advance_keeps, State.aer_keeps, State.logEvent_keeps, State.setLaunches_keeps, State.withHif_keeps, Keeps.rest, KeepsO.next]

theorem State.submitEntry_keeps {u s : State} (h : Keeps u s) (a1 a2 a3) :
    Keeps u (State.submitEntry s a1 a2 a3) := by
  unfold State.submitEntry
  grind [State.submitAdapter_keeps, State.submitBind_keeps, State.submitCancel_keeps, State.submitClose_keeps, State.submitFence_keeps, State.submitLoad_keeps, State.submitNop_keeps, State.submitOpen_keeps, State.submitSession_keeps, State.submitSwap_keeps, State.submitUnknown_keeps, State.submitUnload_keeps, Keeps.rest]

theorem execNop_keeps {u s : State} (h : Keeps u s) (a0 a1) :
    KeepsO u (execNop a0 a1 s) := by
  unfold execNop
  grind [State.advance_keeps, State.submitNop_keeps, Keeps.rest, KeepsO.next]

theorem execSessionOpen_keeps {u s : State} (h : Keeps u s) (a0 a1 a2 a3) :
    KeepsO u (execSessionOpen a0 a1 a2 a3 s) := by
  unfold execSessionOpen
  grind [State.advance_keeps, State.submitOpen_keeps, Keeps.rest, KeepsO.next]

theorem execPrefill_keeps {u s : State} (h : Keeps u s) (a0 a1 a2) :
    KeepsO u (execPrefill a0 a1 a2 s) := by
  unfold execPrefill
  grind [State.advance_keeps, State.submitSession_keeps, Keeps.rest, KeepsO.next]

theorem execAppend_keeps {u s : State} (h : Keeps u s) (a0 a1 a2) :
    KeepsO u (execAppend a0 a1 a2 s) := by
  unfold execAppend
  grind [State.advance_keeps, State.submitSession_keeps, Keeps.rest, KeepsO.next]

theorem execGenerate_keeps {u s : State} (h : Keeps u s) (a0 a1 a2) :
    KeepsO u (execGenerate a0 a1 a2 s) := by
  unfold execGenerate
  grind [State.advance_keeps, State.submitSession_keeps, Keeps.rest, KeepsO.next]

theorem execPause_keeps {u s : State} (h : Keeps u s) (a0 a1 a2) :
    KeepsO u (execPause a0 a1 a2 s) := by
  unfold execPause
  grind [State.advance_keeps, State.submitSession_keeps, Keeps.rest, KeepsO.next]

theorem execResume_keeps {u s : State} (h : Keeps u s) (a0 a1) :
    KeepsO u (execResume a0 a1 s) := by
  unfold execResume
  grind [State.advance_keeps, State.submitSession_keeps, Keeps.rest, KeepsO.next]

theorem execClone_keeps {u s : State} (h : Keeps u s) (a0 a1 a2 a3 a4) :
    KeepsO u (execClone a0 a1 a2 a3 a4 s) := by
  unfold execClone
  grind [State.advance_keeps, State.submitSession_keeps, Keeps.rest, KeepsO.next]

theorem execCancel_keeps {u s : State} (h : Keeps u s) (a0 a1 a2) :
    KeepsO u (execCancel a0 a1 a2 s) := by
  unfold execCancel
  grind [State.advance_keeps, State.submitCancel_keeps, Keeps.rest, KeepsO.next]

theorem execClose_keeps {u s : State} (h : Keeps u s) (a0 a1) :
    KeepsO u (execClose a0 a1 s) := by
  unfold execClose
  grind [State.advance_keeps, State.submitClose_keeps, Keeps.rest, KeepsO.next]

theorem execAdapterTune_keeps {u s : State} (h : Keeps u s) (a0 a1 a2) :
    KeepsO u (execAdapterTune a0 a1 a2 s) := by
  unfold execAdapterTune
  grind [State.advance_keeps, State.submitSession_keeps, Keeps.rest, KeepsO.next]

theorem execFence_keeps {u s : State} (h : Keeps u s) (a0 a1) :
    KeepsO u (execFence a0 a1 s) := by
  unfold execFence
  grind [State.advance_keeps, State.submitFence_keeps, Keeps.rest, KeepsO.next]

theorem execSubmissionFetch_keeps {u s : State} (h : Keeps u s) (a0 a1 a2 a3) :
    KeepsO u (execSubmissionFetch a0 a1 a2 a3 s) := by
  unfold execSubmissionFetch
  grind (splits := 40) (gen := 20) (ematch := 20) [State.advance_keeps, State.aer_keeps, State.fetchError_keeps, State.setQueue_keeps, State.submitEntry_keeps, State.withHif_keeps, Keeps.rest, KeepsO.next]

theorem execSessionQueueAccept_keeps {u s : State} (h : Keeps u s) (a0 a1 a2) :
    KeepsO u (execSessionQueueAccept a0 a1 a2 s) := by
  unfold execSessionQueueAccept
  grind [State.acceptHead_keeps, State.advance_keeps, Keeps.rest, KeepsO.next]

theorem execRequestAdmit_keeps {u s : State} (h : Keeps u s) (a0 a1 a2 a3) :
    KeepsO u (execRequestAdmit a0 a1 a2 a3 s) := by
  unfold execRequestAdmit
  grind [State.admitOne_keeps, State.advance_keeps, Keeps.rest, KeepsO.next]

theorem execStepComplete_keeps {u s : State} (h : Keeps u s) (a0 a1 a2) :
    KeepsO u (execStepComplete a0 a1 a2 s) := by
  unfold execStepComplete
  grind [State.advance_keeps, State.memRepair_keeps, State.stepComplete_keeps, Keeps.rest, KeepsO.next]

theorem execChunkComplete_keeps {u s : State} (h : Keeps u s) (a0 a1 a2) :
    KeepsO u (execChunkComplete a0 a1 a2 s) := by
  unfold execChunkComplete
  grind [State.advance_keeps, State.chunkComplete_keeps, State.memRepair_keeps, Keeps.rest, KeepsO.next]

theorem execTokenRelease_keeps {u s : State} (h : Keeps u s) (a0 a1 a2) :
    KeepsO u (execTokenRelease a0 a1 a2 s) := by
  unfold execTokenRelease
  grind [State.advance_keeps, State.tokenRelease_keeps, Keeps.rest, KeepsO.next]

theorem State.moved_keeps {u s : State} (h : Keeps u s) (a1 a2 a3 a4) :
    Keeps u (State.moved s a1 a2 a3 a4) := by
  unfold State.moved
  grind [State.copyPages_keeps, State.count_keeps, State.markPages_keeps, State.setSess_keeps, State.useCopy_keeps, Keeps.rest]

theorem State.moveSettled_keeps {u s : State} (h : Keeps u s) (a1) :
    Keeps u (State.moveSettled s a1) := by
  unfold State.moveSettled
  grind [State.completeReq_keeps, State.setSess_keeps, Keeps.rest]

theorem State.dropMove_keeps {u s : State} (h : Keeps u s) (a1 a2) :
    Keeps u (State.dropMove s a1 a2) := by
  unfold State.dropMove
  grind [State.markPages_keeps, State.moveFailed_keeps, State.setSess_keeps, forEach_keeps, Keeps.rest]

theorem State.moveNext_keeps {u s : State} (h : Keeps u s) (a1 a2 a3 a4) :
    Keeps u (State.moveNext s a1 a2 a3 a4) := by
  unfold State.moveNext
  grind (splits := 40) (gen := 20) (ematch := 20) [State.copyErrors_keeps, State.dropMove_keeps, State.goMoves_keeps, State.goOn_keeps, State.memRepair_keeps, State.moveSettled_keeps, State.moved_keeps, Keeps.rest]

theorem execDemoteColumn_keeps {u s : State} (h : Keeps u s) (a0 a1 a2 a3) :
    KeepsO u (execDemoteColumn a0 a1 a2 a3 s) := by
  unfold execDemoteColumn
  grind [State.advance_keeps, State.moveNext_keeps, Keeps.rest, KeepsO.next]

theorem execPromoteColumn_keeps {u s : State} (h : Keeps u s) (a0 a1 a2 a3) :
    KeepsO u (execPromoteColumn a0 a1 a2 a3 s) := by
  unfold execPromoteColumn
  grind [State.advance_keeps, State.moveNext_keeps, Keeps.rest, KeepsO.next]

theorem execMigrationRetry_keeps {u s : State} (h : Keeps u s) (a0 a1 a2) :
    KeepsO u (execMigrationRetry a0 a1 a2 s) := by
  unfold execMigrationRetry
  grind (splits := 40) (gen := 20) (ematch := 20) [State.advance_keeps, State.beginMove_keeps, Keeps.rest, KeepsO.next]

theorem State.expire_keeps {u s : State} (h : Keeps u s) (a1) :
    Keeps u (State.expire s a1) := by
  unfold State.expire
  grind (splits := 40) (gen := 20) (ematch := 20) [State.count_keeps, State.evictColumn_keeps, State.setSess_keeps, forEach_keeps, Keeps.rest]

theorem State.applyExpiries_keeps {u s : State} (h : Keeps u s) (a1) :
    Keeps u (State.applyExpiries s a1) := by
  unfold State.applyExpiries
  grind [State.expire_keeps, forEach_keeps, Keeps.rest]

theorem execTtlExpire_keeps {u s : State} (h : Keeps u s) (a0 a1 a2) :
    KeepsO u (execTtlExpire a0 a1 a2 s) := by
  unfold execTtlExpire
  grind [State.advance_keeps, State.expire_keeps, Keeps.rest, KeepsO.next]

theorem State.letGo_keeps {u s : State} (h : Keeps u s) (a1 a2) :
    Keeps u (State.letGo s a1 a2) := by
  unfold State.letGo
  grind [State.goMoves_keeps, State.memRepair_keeps, State.releaseOld_keeps, State.setSess_keeps, Keeps.rest]

theorem execCloneComplete_keeps {u s : State} (h : Keeps u s) (a0 a1 a2 a3) :
    KeepsO u (execCloneComplete a0 a1 a2 a3 s) := by
  unfold execCloneComplete
  grind (splits := 40) (gen := 20) (ematch := 20) [State.advance_keeps, State.complete_keeps, State.copyErrors_keeps, State.count_keeps, State.dropSession_keeps, State.letGo_keeps, State.setSess_keeps, State.useCopy_keeps, Keeps.rest, KeepsO.next]

theorem State.applyWrite_keeps {u s : State} (h : Keeps u s) (w : ShWrite) : Keeps u (s.applyWrite w) := by
  unfold State.applyWrite
  extract_lets s0 s1
  have h0 : Keeps u s0 := by
    unfold s0 State.when
    split
    · exact State.settleCopies_keeps h
    · exact h
  have h1 : Keeps u s1 := ⟨h0.1, fun r => SMap.rises_put _ _ _ _ (h0.2 r), h0.3⟩
  repeat' split
  all_goals first
    | exact h1
    | exact State.logEvent_keeps h1 _

theorem State.applyShadow_keeps {u s : State} (h : Keeps u s) (l : List ShWrite) : Keeps u (s.applyShadow l) := by
  unfold State.applyShadow
  split
  · exact h
  · refine State.retime_keeps (State.renewArbs_keeps (foldl_keeps l _ (fun s w h => State.applyWrite_keeps h w) _
      (State.settleArbs_keeps (forEach_keeps _ _ (fun s p h => State.goPort_keeps h p) _ ?_))))
    split
    · exact State.withTime_keeps h _
    · exact h

theorem State.commit_keeps {u s : State} (h : Keeps u s) (a1) :
    Keeps u (State.commit s a1) := by
  unfold State.commit
  grind [State.applyShadow_keeps, Keeps.rest]

theorem State.applyAll_keeps {u s : State} (h : Keeps u s) :
    Keeps u (State.applyAll s) := by
  unfold State.applyAll
  grind [State.applyShadow_keeps, Keeps.rest]

theorem State.applyLatched_keeps {u s : State} (h : Keeps u s) (a1) :
    Keeps u (State.applyLatched s a1) := by
  unfold State.applyLatched
  grind [State.applyShadow_keeps, Keeps.rest]

theorem State.runStart_keeps {u s : State} (h : Keeps u s) :
    Keeps u (State.runStart s) := by
  unfold State.runStart
  grind [State.setBit_keeps, State.withTime_keeps, Keeps.rest]

theorem State.runStop_keeps {u s : State} (h : Keeps u s) :
    Keeps u (State.runStop s) := by
  unfold State.runStop
  grind (splits := 40) (gen := 20) (ematch := 20) [State.applyAll_keeps, State.applyMargins_keeps, State.applyTracking_keeps, State.ptmBoundary_keeps, State.remapNow_keeps, State.setBit_keeps, State.tellPeers_keeps, State.withTime_keeps, State.wr_keeps, Keeps.rest]

theorem State.jobStart_keeps {u s : State} (h : Keeps u s) (a1) :
    Keeps u (State.jobStart s a1) := by
  unfold State.jobStart
  grind [State.applyMove_keeps, State.resetCore_keeps, State.setJob_keeps, State.withFab_keeps, forEach_keeps, Keeps.rest]

theorem State.writeLen_keeps {u s : State} (h : Keeps u s) (a1) :
    Keeps u (State.writeLen s a1) := by
  unfold State.writeLen
  grind [State.setSess_keeps, State.writeBytes_keeps, Keeps.rest]

theorem State.pruneLaunch_keeps {u s : State} (h : Keeps u s) (a1) :
    Keeps u (State.pruneLaunch s a1) := by
  unfold State.pruneLaunch
  grind [State.dropLaunch_keeps, State.setLaunches_keeps, State.setSess_keeps, forEach_keeps, Keeps.rest]

theorem State.launchOne_keeps {u s : State} (h : Keeps u s) (a1 a2) :
    Keeps u (State.launchOne s a1 a2) := by
  unfold State.launchOne
  grind [State.jobStart_keeps, State.nameCore_keeps, State.setLaunches_keeps, State.setSessions_keeps, State.writeLen_keeps, forEach_keeps, Keeps.rest]

theorem State.launchRow_keeps {u s : State} (h : Keeps u s) (a1) :
    Keeps u (State.launchRow s a1) := by
  unfold State.launchRow
  grind [State.launchOne_keeps, State.pruneLaunch_keeps, State.setLaunches_keeps, forEach_keeps, Keeps.rest]

theorem State.emptySlot_keeps {u s : State} (h : Keeps u s) (a1) :
    Keeps u (State.emptySlot s a1) := by
  unfold State.emptySlot
  grind [State.count_keeps, State.setLaunches_keeps, State.twsEvent_keeps, Keeps.rest]

theorem State.testPauses_keeps {u s : State} (h : Keeps u s) (a1) :
    Keeps u (State.testPauses s a1) := by
  unfold State.testPauses
  grind [State.count_keeps, State.setHealth_keeps, forEach_keeps, Keeps.rest]

theorem State.pauseCores_keeps {u s : State} (h : Keeps u s) (a1) :
    Keeps u (State.pauseCores s a1) := by
  unfold State.pauseCores
  grind [State.count_keeps, State.withCtl_keeps, Keeps.rest]

theorem State.settleCredit_keeps {u s : State} (h : Keeps u s) (a1 a2) :
    Keeps u (State.settleCredit s a1 a2) := by
  unfold State.settleCredit
  grind [State.setFn_keeps, forEach_keeps, Keeps.rest]

theorem State.resetFaulted_keeps {u s : State} (h : Keeps u s) :
    Keeps u (State.resetFaulted s) := by
  unfold State.resetFaulted
  grind [State.faultJob_keeps, State.resetCore_keeps, forEach_keeps, Keeps.rest]

theorem State.slotBoundary_keeps {u s : State} (h : Keeps u s) (a1 a2) :
    Keeps u (State.slotBoundary s a1 a2) := by
  unfold State.slotBoundary
  grind (splits := 40) (gen := 20) (ematch := 20) [State.applyExpiries_keeps, State.applyLatched_keeps, State.applyMargins_keeps, State.applyTracking_keeps, State.emptyFns_keeps, State.emptySlot_keeps, State.goLoads_keeps, State.launchRow_keeps, State.pauseCores_keeps, State.ptmBoundary_keeps, State.remapNow_keeps, State.resetFaulted_keeps, State.settleCredit_keeps, State.showEntries_keeps, State.switchAtBoundary_keeps, State.tellPeers_keeps, State.testPauses_keeps, State.tryLasting_keeps, State.withMem_keeps, State.withTime_keeps, forEach_keeps, Keeps.rest, MemSt.wf_iff]

theorem execSlotBoundary_keeps {u s : State} (h : Keeps u s) (a0 a1 a2) :
    KeepsO u (execSlotBoundary a0 a1 a2 s) := by
  unfold execSlotBoundary
  grind [State.advance_keeps, State.slotBoundary_keeps, Keeps.rest, KeepsO.next]

theorem execTwsRunStart_keeps {u s : State} (h : Keeps u s) (a0 a1) :
    KeepsO u (execTwsRunStart a0 a1 s) := by
  unfold execTwsRunStart
  grind [State.advance_keeps, State.runStart_keeps, State.when_keeps, Keeps.rest, KeepsO.next, State.when]

theorem execTwsRunStop_keeps {u s : State} (h : Keeps u s) (a0 a1) :
    KeepsO u (execTwsRunStop a0 a1 s) := by
  unfold execTwsRunStop
  grind [State.advance_keeps, State.runStop_keeps, State.when_keeps, Keeps.rest, KeepsO.next, State.when]

theorem State.commitWrite_keeps {u s : State} (h : Keeps u s) (a1 a2 a3) :
    Keeps u (State.commitWrite s a1 a2 a3) := by
  unfold State.commitWrite
  grind [State.advance_keeps, State.commit_keeps, State.when_keeps, Keeps.rest, State.when]

theorem execAmfCommit_keeps {u s : State} (h : Keeps u s) (a0 a1) :
    KeepsO u (execAmfCommit a0 a1 s) := by
  unfold execAmfCommit
  grind [State.commitWrite_keeps, Keeps.rest, KeepsO.next]

theorem execCcvCommit_keeps {u s : State} (h : Keeps u s) (a0 a1) :
    KeepsO u (execCcvCommit a0 a1 s) := by
  unfold execCcvCommit
  grind [State.commitWrite_keeps, Keeps.rest, KeepsO.next]

theorem execWltCommit_keeps {u s : State} (h : Keeps u s) (a0 a1) :
    KeepsO u (execWltCommit a0 a1 s) := by
  unfold execWltCommit
  grind [State.commitWrite_keeps, Keeps.rest, KeepsO.next]

theorem execAcrCommit_keeps {u s : State} (h : Keeps u s) (a0 a1) :
    KeepsO u (execAcrCommit a0 a1 s) := by
  unfold execAcrCommit
  grind [State.commitWrite_keeps, Keeps.rest, KeepsO.next]

theorem execAtnCommit_keeps {u s : State} (h : Keeps u s) (a0 a1) :
    KeepsO u (execAtnCommit a0 a1 s) := by
  unfold execAtnCommit
  grind [State.commitWrite_keeps, Keeps.rest, KeepsO.next]

end Sys2Proof.Machine
end

