-- ==== Sys2Proof/Laws/KeepsAccess.lean ====
section
/-! SUPPORT. What the operations keep, in the order of the model's files, from Wheel to Reply: one lemma an operation, cited
in place of its unfolding. -/

set_option Elab.async false
set_option linter.all false

namespace Sys2Proof.Machine

theorem execKvmCommit_keeps {u s : State} (h : Keeps u s) (a0 a1) :
    KeepsO u (execKvmCommit a0 a1 s) := by
  unfold execKvmCommit
  grind [State.commitWrite_keeps, Keeps.rest, KeepsO.next]

theorem execLstCommit_keeps {u s : State} (h : Keeps u s) (a0 a1) :
    KeepsO u (execLstCommit a0 a1 s) := by
  unfold execLstCommit
  grind [State.commitWrite_keeps, Keeps.rest, KeepsO.next]

theorem execTwsCommit_keeps {u s : State} (h : Keeps u s) (a0 a1) :
    KeepsO u (execTwsCommit a0 a1 s) := by
  unfold execTwsCommit
  grind [State.commitWrite_keeps, Keeps.rest, KeepsO.next]

theorem execHifCommit_keeps {u s : State} (h : Keeps u s) (a0 a1) :
    KeepsO u (execHifCommit a0 a1 s) := by
  unfold execHifCommit
  grind [State.commitWrite_keeps, Keeps.rest, KeepsO.next]

theorem execCpxCommit_keeps {u s : State} (h : Keeps u s) (a0 a1) :
    KeepsO u (execCpxCommit a0 a1 s) := by
  unfold execCpxCommit
  grind [State.commitWrite_keeps, Keeps.rest, KeepsO.next]

theorem execCstCommit_keeps {u s : State} (h : Keeps u s) (a0 a1) :
    KeepsO u (execCstCommit a0 a1 s) := by
  unfold execCstCommit
  grind [State.commitWrite_keeps, Keeps.rest, KeepsO.next]

theorem execMemCommit_keeps {u s : State} (h : Keeps u s) (a0 a1) :
    KeepsO u (execMemCommit a0 a1 s) := by
  unfold execMemCommit
  grind [State.commitWrite_keeps, Keeps.rest, KeepsO.next]

theorem execPtmCommit_keeps {u s : State} (h : Keeps u s) (a0 a1) :
    KeepsO u (execPtmCommit a0 a1 s) := by
  unfold execPtmCommit
  grind [State.commitWrite_keeps, Keeps.rest, KeepsO.next]

theorem execSmsCommit_keeps {u s : State} (h : Keeps u s) (a0 a1) :
    KeepsO u (execSmsCommit a0 a1 s) := by
  unfold execSmsCommit
  grind [State.commitWrite_keeps, Keeps.rest, KeepsO.next]

theorem State.sliceFailed_keeps {u s : State} (h : Keeps u s) (a1 a2) :
    Keeps u (State.sliceFailed s a1 a2) := by
  unfold State.sliceFailed
  grind [State.count_keeps, State.logEvent_keeps, State.smsEvent_keeps, State.suspect_keeps, Keeps.rest]

theorem State.slicePassed_keeps {u s : State} (h : Keeps u s) (a1) :
    Keeps u (State.slicePassed s a1) := by
  unfold State.slicePassed
  grind [State.count_keeps, State.setHealth_keeps, Keeps.rest]

theorem State.siteSlice_keeps {u s : State} (h : Keeps u s) (a1 a2 a3) :
    Keeps u (State.siteSlice s a1 a2 a3) := by
  unfold State.siteSlice
  grind [State.count_keeps, State.logEvent_keeps, State.setHealth_keeps, State.smsEvent_keeps, Keeps.rest]

theorem execIftSlice_keeps {u s : State} (h : Keeps u s) (a0 a1 a2 a3) :
    KeepsO u (execIftSlice a0 a1 a2 a3 s) := by
  unfold execIftSlice
  grind [State.advance_keeps, State.idleNow_keeps, State.setHealth_keeps, State.siteSlice_keeps, State.sliceFailed_keeps, State.slicePassed_keeps, Keeps.rest, KeepsO.next]

theorem execIftOverdue_keeps {u s : State} (h : Keeps u s) (a0 a1) :
    KeepsO u (execIftOverdue a0 a1 s) := by
  unfold execIftOverdue
  grind [State.advance_keeps, State.setHealth_keeps, Keeps.rest, KeepsO.next]

theorem execMarginDecay_keeps {u s : State} (h : Keeps u s) (a0 a1) :
    KeepsO u (execMarginDecay a0 a1 s) := by
  unfold execMarginDecay
  grind [State.advance_keeps, State.setHealth_keeps, Keeps.rest, KeepsO.next]

theorem State.port_keeps {u s : State} (h : Keeps u s) (a1 a2) (h2 : ∀ s, Keeps u s → Keeps u (a2 s)) :
    KeepsO u (State.port s a1 a2) := by
  unfold State.port
  grind [State.advance_keeps, State.withMgt_keeps, Keeps.rest, KeepsO.next]

theorem State.setAddress_keeps {u s : State} (h : Keeps u s) (a1) :
    Keeps u (State.setAddress s a1) := by
  unfold State.setAddress
  grind [State.mgtSend_keeps, State.withMgt_keeps, Keeps.rest]

theorem execI3cSetdasa_keeps {u s : State} (h : Keeps u s) (a0 a1 a2) :
    KeepsO u (execI3cSetdasa a0 a1 a2 s) := by
  unfold execI3cSetdasa
  grind [State.advance_keeps, State.setAddress_keeps, State.when_keeps, Keeps.rest, KeepsO.next, State.when]

theorem execI3cEntdaa_keeps {u s : State} (h : Keeps u s) (a0 a1) :
    KeepsO u (execI3cEntdaa a0 a1 s) := by
  unfold execI3cEntdaa
  grind [State.advance_keeps, State.setAddress_keeps, State.when_keeps, Keeps.rest, KeepsO.next, State.when]

theorem execSetEndpointId_keeps {u s : State} (h : Keeps u s) (a0 a1) :
    KeepsO u (execSetEndpointId a0 a1 s) := by
  unfold execSetEndpointId
  grind [State.mgtSend_keeps, State.port_keeps, State.withMgt_keeps, Keeps.rest, KeepsO.next]

theorem execGetEndpointId_keeps {u s : State} (h : Keeps u s) (a0) :
    KeepsO u (execGetEndpointId a0 s) := by
  unfold execGetEndpointId
  grind [State.mgtSend_keeps, State.port_keeps, Keeps.rest, KeepsO.next]

theorem execGetEndpointUuid_keeps {u s : State} (h : Keeps u s) (a0) :
    KeepsO u (execGetEndpointUuid a0 s) := by
  unfold execGetEndpointUuid
  grind [State.mgtSend_keeps, State.port_keeps, Keeps.rest, KeepsO.next]

theorem execGetMctpVersionSupport_keeps {u s : State} (h : Keeps u s) (a0) :
    KeepsO u (execGetMctpVersionSupport a0 s) := by
  unfold execGetMctpVersionSupport
  grind [State.mgtSend_keeps, State.port_keeps, Keeps.rest, KeepsO.next]

theorem execGetMessageTypeSupport_keeps {u s : State} (h : Keeps u s) (a0) :
    KeepsO u (execGetMessageTypeSupport a0 s) := by
  unfold execGetMessageTypeSupport
  grind [State.mgtSend_keeps, State.port_keeps, Keeps.rest, KeepsO.next]

theorem State.spdmAt_keeps {u s : State} (h : Keeps u s) (a1 a2) (h2 : ∀ s, Keeps u s → Keeps u (a2 s)) :
    Keeps u (State.spdmAt s a1 a2) := by
  unfold State.spdmAt
  grind [State.mgtSend_keeps, Keeps.rest]

theorem State.spdmSign_keeps {u s : State} (h : Keeps u s) :
    Keeps u (State.spdmSign s).2 := by
  unfold State.spdmSign
  grind [State.count_keeps, State.draw_keeps, Keeps.rest]

theorem execSpdmGetVersion_keeps {u s : State} (h : Keeps u s) (a0) :
    KeepsO u (execSpdmGetVersion a0 s) := by
  unfold execSpdmGetVersion
  grind [State.mgtSend_keeps, State.port_keeps, State.withMgt_keeps, Keeps.rest, KeepsO.next]

theorem execGetCapabilities_keeps {u s : State} (h : Keeps u s) (a0) :
    KeepsO u (execGetCapabilities a0 s) := by
  unfold execGetCapabilities
  grind [State.mgtSend_keeps, State.port_keeps, State.spdmAt_keeps, State.withMgt_keeps, Keeps.rest, KeepsO.next]

theorem execNegotiateAlgorithms_keeps {u s : State} (h : Keeps u s) (a0 a1) :
    KeepsO u (execNegotiateAlgorithms a0 a1 s) := by
  unfold execNegotiateAlgorithms
  grind [State.mgtSend_keeps, State.port_keeps, State.spdmAt_keeps, State.withMgt_keeps, Keeps.rest, KeepsO.next]

theorem execGetDigests_keeps {u s : State} (h : Keeps u s) (a0) :
    KeepsO u (execGetDigests a0 s) := by
  unfold execGetDigests
  grind [State.mgtSend_keeps, State.port_keeps, State.spdmAt_keeps, Keeps.rest, KeepsO.next]

theorem execGetCertificate_keeps {u s : State} (h : Keeps u s) (a0 a1 a2 a3) :
    KeepsO u (execGetCertificate a0 a1 a2 a3 s) := by
  unfold execGetCertificate
  grind [State.mgtSend_keeps, State.port_keeps, State.spdmAt_keeps, Keeps.rest, KeepsO.next]

theorem execChallenge_keeps {u s : State} (h : Keeps u s) (a0 a1 a2) :
    KeepsO u (execChallenge a0 a1 a2 s) := by
  unfold execChallenge
  grind [State.mgtSend_keeps, State.port_keeps, State.spdmAt_keeps, State.spdmSign_keeps, Keeps.rest, KeepsO.next]

theorem execGetMeasurements_keeps {u s : State} (h : Keeps u s) (a0 a1 a2 a3) :
    KeepsO u (execGetMeasurements a0 a1 a2 a3 s) := by
  unfold execGetMeasurements
  grind [State.mgtSend_keeps, State.port_keeps, State.spdmAt_keeps, State.spdmSign_keeps, Keeps.rest, KeepsO.next]

theorem execGettid_keeps {u s : State} (h : Keeps u s) (a0) :
    KeepsO u (execGettid a0 s) := by
  unfold execGettid
  grind [State.mgtSend_keeps, State.port_keeps, Keeps.rest, KeepsO.next]

theorem execSettid_keeps {u s : State} (h : Keeps u s) (a0 a1) :
    KeepsO u (execSettid a0 a1 s) := by
  unfold execSettid
  grind [State.mgtSend_keeps, State.port_keeps, State.withMgt_keeps, Keeps.rest, KeepsO.next]

theorem execGetpldmversion_keeps {u s : State} (h : Keeps u s) (a0 a1) :
    KeepsO u (execGetpldmversion a0 a1 s) := by
  unfold execGetpldmversion
  grind [State.mgtSend_keeps, State.port_keeps, Keeps.rest, KeepsO.next]

theorem execGetpldmtypes_keeps {u s : State} (h : Keeps u s) (a0) :
    KeepsO u (execGetpldmtypes a0 s) := by
  unfold execGetpldmtypes
  grind [State.mgtSend_keeps, State.port_keeps, Keeps.rest, KeepsO.next]

theorem execGetpldmcommands_keeps {u s : State} (h : Keeps u s) (a0 a1) :
    KeepsO u (execGetpldmcommands a0 a1 s) := by
  unfold execGetpldmcommands
  grind [State.mgtSend_keeps, State.port_keeps, Keeps.rest, KeepsO.next]

theorem execGetpdrrepositoryinfo_keeps {u s : State} (h : Keeps u s) (a0) :
    KeepsO u (execGetpdrrepositoryinfo a0 s) := by
  unfold execGetpdrrepositoryinfo
  grind [State.mgtSend_keeps, State.port_keeps, Keeps.rest, KeepsO.next]

theorem execGetpdr_keeps {u s : State} (h : Keeps u s) (a0 a1) :
    KeepsO u (execGetpdr a0 a1 s) := by
  unfold execGetpdr
  grind [State.mgtSend_keeps, State.port_keeps, Keeps.rest, KeepsO.next]

theorem execGetsensorreading_keeps {u s : State} (h : Keeps u s) (a0 a1) :
    KeepsO u (execGetsensorreading a0 a1 s) := by
  unfold execGetsensorreading
  grind [State.mgtSend_keeps, State.port_keeps, Keeps.rest, KeepsO.next]

theorem execGetstatesensorreadings_keeps {u s : State} (h : Keeps u s) (a0 a1) :
    KeepsO u (execGetstatesensorreadings a0 a1 s) := by
  unfold execGetstatesensorreadings
  grind [State.mgtSend_keeps, State.port_keeps, Keeps.rest, KeepsO.next]

theorem State.sendEvent_keeps {u s : State} (h : Keeps u s) :
    Keeps u (State.sendEvent s) := by
  unfold State.sendEvent
  grind [State.mgtSend_keeps, Keeps.rest]

theorem execSeteventreceiver_keeps {u s : State} (h : Keeps u s) (a0 a1) :
    KeepsO u (execSeteventreceiver a0 a1 s) := by
  unfold execSeteventreceiver
  grind [State.mgtSend_keeps, State.port_keeps, State.sendEvent_keeps, State.withMgt_keeps, Keeps.rest, KeepsO.next]

theorem execPollforplatformeventmessage_keeps {u s : State} (h : Keeps u s) (a0) :
    KeepsO u (execPollforplatformeventmessage a0 s) := by
  unfold execPollforplatformeventmessage
  grind [State.mgtSend_keeps, State.port_keeps, State.withMgt_keeps, Keeps.rest, KeepsO.next]

theorem execPlatformeventmessageAck_keeps {u s : State} (h : Keeps u s) (a0) :
    KeepsO u (execPlatformeventmessageAck a0 s) := by
  unfold execPlatformeventmessageAck
  grind [State.port_keeps, State.sendEvent_keeps, State.withMgt_keeps, Keeps.rest, KeepsO.next]

theorem State.inUpdate_keeps {u s : State} (h : Keeps u s) (a1 a2 a3) (h3 : ∀ s y0, Keeps u s → Keeps u (a3 s y0)) :
    Keeps u (State.inUpdate s a1 a2 a3) := by
  unfold State.inUpdate
  grind [State.mgtSend_keeps, Keeps.rest]

theorem State.setUpdate_keeps {u s : State} (h : Keeps u s) (a1) :
    Keeps u (State.setUpdate s a1) := by
  unfold State.setUpdate
  grind [State.withMgt_keeps, Keeps.rest]

theorem execQuerydeviceidentifiers_keeps {u s : State} (h : Keeps u s) (a0) :
    KeepsO u (execQuerydeviceidentifiers a0 s) := by
  unfold execQuerydeviceidentifiers
  grind [State.mgtSend_keeps, State.port_keeps, Keeps.rest, KeepsO.next]

theorem execGetfirmwareparameters_keeps {u s : State} (h : Keeps u s) (a0) :
    KeepsO u (execGetfirmwareparameters a0 s) := by
  unfold execGetfirmwareparameters
  grind [State.mgtSend_keeps, State.port_keeps, Keeps.rest, KeepsO.next]

theorem execRequestupdate_keeps {u s : State} (h : Keeps u s) (a0 a1) :
    KeepsO u (execRequestupdate a0 a1 s) := by
  unfold execRequestupdate
  grind [State.mgtSend_keeps, State.port_keeps, State.setUpdate_keeps, State.withMgt_keeps, Keeps.rest, KeepsO.next]

theorem execPasscomponenttable_keeps {u s : State} (h : Keeps u s) (a0 a1) :
    KeepsO u (execPasscomponenttable a0 a1 s) := by
  unfold execPasscomponenttable
  grind [State.inUpdate_keeps, State.mgtSend_keeps, State.port_keeps, State.setUpdate_keeps, Keeps.rest, KeepsO.next]

theorem State.askData_keeps {u s : State} (h : Keeps u s) (a1) :
    Keeps u (State.askData s a1) := by
  unfold State.askData
  grind [State.mgtSend_keeps, Keeps.rest]

theorem execUpdatecomponent_keeps {u s : State} (h : Keeps u s) (a0 a1 a2) :
    KeepsO u (execUpdatecomponent a0 a1 a2 s) := by
  unfold execUpdatecomponent
  grind [State.askData_keeps, State.inUpdate_keeps, State.mgtSend_keeps, State.port_keeps, State.setSlot_keeps, State.setUpdate_keeps, Keeps.rest, KeepsO.next]

theorem State.refuseImage_keeps {u s : State} (h : Keeps u s) (a1 a2) :
    Keeps u (State.refuseImage s a1 a2) := by
  unfold State.refuseImage
  grind [State.count_keeps, State.mgtSend_keeps, State.setUpdate_keeps, Keeps.rest]

theorem State.verifyImage_keeps {u s : State} (h : Keeps u s) (a1) :
    Keeps u (State.verifyImage s a1) := by
  unfold State.verifyImage
  grind [State.mgtSend_keeps, State.refuseImage_keeps, State.setSlot_keeps, State.setUpdate_keeps, Keeps.rest]

theorem execFirmwareDataReceive_keeps {u s : State} (h : Keeps u s) (a0 a1 a2) :
    KeepsO u (execFirmwareDataReceive a0 a1 a2 s) := by
  unfold execFirmwareDataReceive
  grind [State.askData_keeps, State.inUpdate_keeps, State.port_keeps, State.refuseImage_keeps, State.setUpdate_keeps, State.verifyImage_keeps, Keeps.rest, KeepsO.next]

theorem execActivatefirmware_keeps {u s : State} (h : Keeps u s) (a0 a1) :
    KeepsO u (execActivatefirmware a0 a1 s) := by
  unfold execActivatefirmware
  grind [State.inUpdate_keeps, State.mgtSend_keeps, State.port_keeps, State.setSlot_keeps, State.setUpdate_keeps, Keeps.rest, KeepsO.next]

theorem execGetstatus_keeps {u s : State} (h : Keeps u s) (a0) :
    KeepsO u (execGetstatus a0 s) := by
  unfold execGetstatus
  grind [State.mgtSend_keeps, State.port_keeps, Keeps.rest, KeepsO.next]

theorem State.dropImage_keeps {u s : State} (h : Keeps u s) (a1) :
    Keeps u (State.dropImage s a1) := by
  unfold State.dropImage
  grind [State.setSlot_keeps, Keeps.rest]

theorem execCancelupdatecomponent_keeps {u s : State} (h : Keeps u s) (a0 a1) :
    KeepsO u (execCancelupdatecomponent a0 a1 s) := by
  unfold execCancelupdatecomponent
  grind [State.dropImage_keeps, State.inUpdate_keeps, State.mgtSend_keeps, State.port_keeps, State.setUpdate_keeps, Keeps.rest, KeepsO.next]

theorem execCancelupdate_keeps {u s : State} (h : Keeps u s) (a0 a1) :
    KeepsO u (execCancelupdate a0 a1 s) := by
  unfold execCancelupdate
  grind [State.dropImage_keeps, State.inUpdate_keeps, State.mgtSend_keeps, State.port_keeps, State.setUpdate_keeps, Keeps.rest, KeepsO.next]

theorem State.debugWord_keeps {u s : State} (h : Keeps u s) (a1) :
    Keeps u (State.debugWord s a1).2 := by
  unfold State.debugWord
  grind [State.draw_keeps, Keeps.rest]

theorem State.debugRead_keeps {u s : State} (h : Keeps u s) :
    Keeps u (State.debugRead s).2 := by
  unfold State.debugRead
  grind [State.debugWord_keeps, State.setBit_keeps, State.wr_keeps, Keeps.rest]

theorem State.logRead_keeps {u s : State} (h : Keeps u s) (a1 a2) :
    Keeps u (State.logRead s a1 a2) := by
  unfold State.logRead
  grind [State.holdLog_keeps, State.releaseLog_keeps, Keeps.rest]

theorem State.readPlace_keeps {u s : State} (h : Keeps u s) (a1 a2) :
    Keeps u (State.readPlace s a1 a2).2 := by
  unfold State.readPlace
  grind [State.debugRead_keeps, State.logRead_keeps, State.measHold_keeps, Keeps.rest]

theorem State.readWord_keeps {u s : State} (h : Keeps u s) (a1 a2 a3) :
    Keeps u (State.readWord s a1 a2 a3).2 := by
  unfold State.readWord
  grind [State.readPlace_keeps, Keeps.rest]

theorem State.read4_keeps {u s : State} (h : Keeps u s) (a1 a2 a3) :
    Keeps u (State.read4 s a1 a2 a3).2 := by
  unfold State.read4
  grind [State.readWord_keeps, State.withHif_keeps, Keeps.rest]

theorem State.readWords_keeps {u s : State} (h : Keeps u s) (fn bar off n : Nat) : Keeps u (s.readWords fn bar off n).2 := by
  induction n generalizing s off with
  | zero => exact h
  | succ n ih => unfold State.readWords; grind [State.readWord_keeps]

theorem State.barRead_keeps {u s : State} (h : Keeps u s) (a1 a2 a3 a4) :
    Keeps u (State.barRead s a1 a2 a3 a4).2 := by
  unfold State.barRead
  grind [State.draw_keeps, State.read4_keeps, State.readWords_keeps, Keeps.rest]

theorem State.readDone_keeps {u : State} (r : Nat × State) (h : Keeps u r.2) : Keeps u (State.readDone r) :=
  State.withHif_keeps h _

theorem execHalfLatchRead_keeps {u s : State} (h : Keeps u s) (a0 a1 a2 a3 a4) :
    KeepsO u (execHalfLatchRead a0 a1 a2 a3 a4 s) := by
  unfold execHalfLatchRead
  grind [State.advance_keeps, State.barRead_keeps, State.readDone_keeps, Keeps.rest, KeepsO.next]

theorem execCpxDbgDataRead_keeps {u s : State} (h : Keeps u s) (a0 a1) :
    KeepsO u (execCpxDbgDataRead a0 a1 s) := by
  unfold execCpxDbgDataRead
  grind [State.advance_keeps, State.barRead_keeps, State.readDone_keeps, Keeps.rest, KeepsO.next]

theorem State.clearEverywhere_keeps {u s : State} (h : Keeps u s) (l : List Fld) : Keeps u (s.clearEverywhere l) :=
  ⟨h.1, fun w => SMap.rises_filter _ _ (h.2 w), h.3⟩

theorem State.clearCounters_keeps {u s : State} (h : Keeps u s) (a1) :
    Keeps u (State.clearCounters s a1) := by
  unfold State.clearCounters
  grind [State.clearEverywhere_keeps, State.dropLogs_keeps, Keeps.rest]

theorem State.counterClear_keeps {u s : State} (h : Keeps u s) (a1 a2 a3) :
    Keeps u (State.counterClear s a1 a2 a3) := by
  unfold State.counterClear
  grind [State.advance_keeps, State.clearCounters_keeps, State.when_keeps, Keeps.rest, State.when]

theorem execAmfCntClr_keeps {u s : State} (h : Keeps u s) (a0 a1) :
    KeepsO u (execAmfCntClr a0 a1 s) := by
  unfold execAmfCntClr
  grind [State.counterClear_keeps, Keeps.rest, KeepsO.next]

theorem execCcvCntClr_keeps {u s : State} (h : Keeps u s) (a0 a1) :
    KeepsO u (execCcvCntClr a0 a1 s) := by
  unfold execCcvCntClr
  grind [State.counterClear_keeps, Keeps.rest, KeepsO.next]

theorem execWltCntClr_keeps {u s : State} (h : Keeps u s) (a0 a1) :
    KeepsO u (execWltCntClr a0 a1 s) := by
  unfold execWltCntClr
  grind [State.counterClear_keeps, Keeps.rest, KeepsO.next]

theorem execAcrCntClr_keeps {u s : State} (h : Keeps u s) (a0 a1) :
    KeepsO u (execAcrCntClr a0 a1 s) := by
  unfold execAcrCntClr
  grind [State.counterClear_keeps, Keeps.rest, KeepsO.next]

theorem execAtnCntClr_keeps {u s : State} (h : Keeps u s) (a0 a1) :
    KeepsO u (execAtnCntClr a0 a1 s) := by
  unfold execAtnCntClr
  grind [State.counterClear_keeps, Keeps.rest, KeepsO.next]

theorem execKvmCntClr_keeps {u s : State} (h : Keeps u s) (a0 a1) :
    KeepsO u (execKvmCntClr a0 a1 s) := by
  unfold execKvmCntClr
  grind [State.counterClear_keeps, Keeps.rest, KeepsO.next]

theorem execLstCntClr_keeps {u s : State} (h : Keeps u s) (a0 a1) :
    KeepsO u (execLstCntClr a0 a1 s) := by
  unfold execLstCntClr
  grind [State.counterClear_keeps, Keeps.rest, KeepsO.next]

theorem execTwsCntClr_keeps {u s : State} (h : Keeps u s) (a0 a1) :
    KeepsO u (execTwsCntClr a0 a1 s) := by
  unfold execTwsCntClr
  grind [State.counterClear_keeps, Keeps.rest, KeepsO.next]

theorem execHifCntClr_keeps {u s : State} (h : Keeps u s) (a0 a1) :
    KeepsO u (execHifCntClr a0 a1 s) := by
  unfold execHifCntClr
  grind [State.counterClear_keeps, Keeps.rest, KeepsO.next]

theorem execLnkCntClr_keeps {u s : State} (h : Keeps u s) (a0 a1) :
    KeepsO u (execLnkCntClr a0 a1 s) := by
  unfold execLnkCntClr
  grind [State.counterClear_keeps, Keeps.rest, KeepsO.next]

theorem execCpxCntClr_keeps {u s : State} (h : Keeps u s) (a0 a1) :
    KeepsO u (execCpxCntClr a0 a1 s) := by
  unfold execCpxCntClr
  grind [State.counterClear_keeps, Keeps.rest, KeepsO.next]

theorem execCstCntClr_keeps {u s : State} (h : Keeps u s) (a0 a1) :
    KeepsO u (execCstCntClr a0 a1 s) := by
  unfold execCstCntClr
  grind [State.counterClear_keeps, Keeps.rest, KeepsO.next]

theorem execMemCntClr_keeps {u s : State} (h : Keeps u s) (a0 a1) :
    KeepsO u (execMemCntClr a0 a1 s) := by
  unfold execMemCntClr
  grind [State.counterClear_keeps, Keeps.rest, KeepsO.next]

theorem execPtmCntClr_keeps {u s : State} (h : Keeps u s) (a0 a1) :
    KeepsO u (execPtmCntClr a0 a1 s) := by
  unfold execPtmCntClr
  grind [State.counterClear_keeps, Keeps.rest, KeepsO.next]

theorem execSmsCntClr_keeps {u s : State} (h : Keeps u s) (a0 a1) :
    KeepsO u (execSmsCntClr a0 a1 s) := by
  unfold execSmsCntClr
  grind [State.counterClear_keeps, Keeps.rest, KeepsO.next]

theorem execSmsIdCntClr_keeps {u s : State} (h : Keeps u s) (a0 a1) :
    KeepsO u (execSmsIdCntClr a0 a1 s) := by
  unfold execSmsIdCntClr
  grind [State.counterClear_keeps, Keeps.rest, KeepsO.next]

theorem State.kvmEnable_keeps {u s : State} (h : Keeps u s) :
    Keeps u (State.kvmEnable s) := by
  unfold State.kvmEnable
  grind [State.setBit_keeps, Keeps.rest]

theorem State.lstEnable_keeps {u s : State} (h : Keeps u s) :
    Keeps u (State.lstEnable s) := by
  unfold State.lstEnable
  (repeat' split) <;> simp_all [State.setBit_keeps, Keeps.rest]

theorem execKvmCtrlEn_keeps {u s : State} (h : Keeps u s) (a0 a1) :
    KeepsO u (execKvmCtrlEn a0 a1 s) := by
  unfold execKvmCtrlEn
  grind [State.advance_keeps, State.kvmEnable_keeps, State.when_keeps, Keeps.rest, KeepsO.next, State.when]

theorem execLstCtrlEn_keeps {u s : State} (h : Keeps u s) (a0 a1) :
    KeepsO u (execLstCtrlEn a0 a1 s) := by
  unfold execLstCtrlEn
  grind [State.advance_keeps, State.lstEnable_keeps, State.when_keeps, Keeps.rest, KeepsO.next, State.when]

theorem execLstTrustLock_keeps {u s : State} (h : Keeps u s) (a0 a1) :
    KeepsO u (execLstTrustLock a0 a1 s) := by
  unfold execLstTrustLock
  grind [State.advance_keeps, State.setBit_keeps, State.when_keeps, Keeps.rest, KeepsO.next, State.when]

theorem after_keeps {u s : State} (h : Keeps u s) (o : Host.Outcome State Fault Refusal) (k : KeepsO u o) : Keeps u (after s o) := by
  cases o <;> simp_all [after, KeepsO]

theorem State.writeField_keeps {u s : State} (h : Keeps u s) (a1 a2 a3 a4) :
    Keeps u (State.writeField s a1 a2 a3 a4) := by
  unfold State.writeField
  grind [State.wr_keeps, Keeps.rest]

theorem State.writeFields_keeps {u s : State} (h : Keeps u s) (a1 a2 a3 a4) :
    Keeps u (State.writeFields s a1 a2 a3 a4) := by
  unfold State.writeFields
  grind [State.writeField_keeps, forEach_keeps, Keeps.rest]

theorem State.writeEnable_keeps {u s : State} (h : Keeps u s) (a1 a2 a3 a4) :
    Keeps u (State.writeEnable s a1 a2 a3 a4) := by
  unfold State.writeEnable
  grind [State.pfEvent_keeps, State.when_keeps, State.writeFields_keeps, Keeps.rest, State.when]

theorem State.writeTrust_keeps {u s : State} (h : Keeps u s) (a1) :
    Keeps u (State.writeTrust s a1) := by
  unfold State.writeTrust
  grind [State.withLst_keeps, Keeps.rest]

theorem State.writeMeasSel_keeps {u s : State} (h : Keeps u s) (a1) :
    Keeps u (State.writeMeasSel s a1) := by
  unfold State.writeMeasSel
  grind [State.withMgt_keeps, State.writeFields_keeps, Keeps.rest]

theorem State.writePortCtrl_keeps {u s : State} (h : Keeps u s) (a1 a2) :
    Keeps u (State.writePortCtrl s a1 a2) := by
  unfold State.writePortCtrl
  grind [State.setBit_keeps, State.writeFields_keeps, after_keeps, execStoragePortDisable_keeps, Keeps.rest]

theorem State.writeQpCtrl_keeps {u s : State} (h : Keeps u s) (a1 a2) :
    Keeps u (State.writeQpCtrl s a1 a2) := by
  unfold State.writeQpCtrl
  grind [State.writeFields_keeps, after_keeps, execQpReset_keeps, execQpRts_keeps, Keeps.rest]

theorem State.writePstate_keeps {u s : State} (h : Keeps u s) (a1) :
    Keeps u (State.writePstate s a1) := by
  unfold State.writePstate
  grind [State.enterMp1_keeps, State.leaveMp1_keeps, State.writeFields_keeps, Keeps.rest]

theorem State.writeTwsCtrl_keeps {u s : State} (h : Keeps u s) (a1) :
    Keeps u (State.writeTwsCtrl s a1) := by
  unfold State.writeTwsCtrl
  grind [State.runStart_keeps, State.runStop_keeps, State.writeFields_keeps, Keeps.rest]

theorem State.writeLnkCtrl_keeps {u s : State} (h : Keeps u s) (a1) :
    Keeps u (State.writeLnkCtrl s a1) := by
  unfold State.writeLnkCtrl
  grind [State.writeFields_keeps, after_keeps, execLnkCtrlEn_keeps, Keeps.rest]

theorem State.writeBarForce_keeps {u s : State} (h : Keeps u s) (a1 a2) :
    Keeps u (State.writeBarForce s a1 a2) := by
  unfold State.writeBarForce
  grind [after_keeps, execCpxBarForceRelease_keeps, execCpxBarForceSet_keeps, Keeps.rest]

theorem pfActions_keep (c : Nat × (State → Nat → Nat → State)) (hc : c ∈ pfActions) {u s : State} (h : Keeps u s)
    (bank w : Nat) : Keeps u (c.2 s bank w) := by
  unfold pfActions at hc
  simp only [List.mem_cons, List.not_mem_nil, or_false] at hc
  rcases hc with rfl | rfl | rfl | rfl | rfl | rfl | rfl | rfl | rfl | rfl | rfl | rfl | rfl | rfl | rfl | rfl | rfl | rfl | rfl |
    rfl | rfl
  all_goals grind [State.when, State.writeTwsCtrl_keeps, State.withTime_keeps, State.setTime_keeps, State.writeEnable_keeps,
    State.writeFields_keeps, State.kvmEnable_keeps, State.lstEnable_keeps, State.setBit_keeps, State.writeTrust_keeps,
    State.startReset_keeps, State.writeFnQueues_keeps, State.writeFnReset_keeps, State.writeLnkCtrl_keeps,
    State.writePortCtrl_keeps, State.writeQpCtrl_keeps, State.chooseMaster_keeps, State.writePstate_keeps,
    State.writeBarForce_keeps, State.forcedDrain_keeps, State.writeMeasSel_keeps]

theorem State.writeReg_keeps {u s : State} (h : Keeps u s) (a bank w : Nat) : Keeps u (s.writeReg a bank w) := by
  unfold State.writeReg
  split
  · grind [State.when, State.commit_keeps]
  · grind [State.when, State.clearCounters_keeps]
  · exact pfActions_keep _ (List.mem_of_find?_eq_some ‹_›) h bank w
  · grind [State.writeFields_keeps]

theorem State.writeQueueReg_keeps {u s : State} (h : Keeps u s) (a1 a2 a3 a4) :
    Keeps u (State.writeQueueReg s a1 a2 a3 a4) := by
  unfold State.writeQueueReg
  grind [State.queueDisable_keeps, State.queueEnable_keeps, State.writeFields_keeps, Keeps.rest]

theorem State.writeMsix_keeps {u s : State} (h : Keeps u s) (a1 a2 a3 a4) :
    Keeps u (State.writeMsix s a1 a2 a3 a4) := by
  unfold State.writeMsix
  grind [State.msixMask_keeps, State.setVec_keeps, Keeps.rest]

theorem State.writeSend_keeps {u s : State} (h : Keeps u s) (a1 a2 a3 a4) :
    Keeps u (State.writeSend s a1 a2 a3 a4) := by
  unfold State.writeSend
  grind [State.mbxGo_keeps, State.setMbox_keeps, State.when_keeps, Keeps.rest, State.when]

theorem State.writePlace_keeps {u s : State} (h : Keeps u s) (a1 a2 a3) :
    Keeps u (State.writePlace s a1 a2 a3) := by
  unfold State.writePlace
  grind [State.doorbell_keeps, State.mbxDone_keeps, State.startReset_keeps, State.when_keeps, State.writeFields_keeps, State.writeMsix_keeps, State.writeQueueReg_keeps, State.writeReg_keeps, State.writeSend_keeps, Keeps.rest, State.when]

theorem State.writeWord_keeps {u s : State} (h : Keeps u s) (a1 a2 a3 a4) :
    Keeps u (State.writeWord s a1 a2 a3 a4) := by
  unfold State.writeWord
  grind [State.writePlace_keeps, Keeps.rest]

theorem State.badWrite_keeps {u s : State} (h : Keeps u s) (a1) :
    Keeps u (State.badWrite s a1) := by
  unfold State.badWrite
  grind [State.count_keeps, State.when_keeps, Keeps.rest, State.when]

theorem State.bellWrite_keeps {u s : State} (h : Keeps u s) (a1 a2 a3) :
    Keeps u (State.bellWrite s a1 a2 a3) := by
  unfold State.bellWrite
  grind [State.badWrite_keeps, State.writeWord_keeps, Keeps.rest]

theorem State.barWrite_keeps {u s : State} (h : Keeps u s) (a1 a2 a3 a4 a5 a6) :
    Keeps u (State.barWrite s a1 a2 a3 a4 a5 a6) := by
  unfold State.barWrite
  grind [State.aer_keeps, State.badWrite_keeps, State.bellWrite_keeps, State.writeWord_keeps, Keeps.rest]

theorem execRegisterWrite_keeps {u s : State} (h : Keeps u s) (a0 a1 a2 a3 a4 a5 a6) :
    KeepsO u (execRegisterWrite a0 a1 a2 a3 a4 a5 a6 s) := by
  unfold execRegisterWrite
  grind [State.advance_keeps, State.barWrite_keeps, Keeps.rest, KeepsO.next]

theorem State.answerMail_keeps {u s : State} (h : Keeps u s) (me sender : Nat) (cmds : Nat → Bool)
    (f : State → Nat → List Word → State × Status × List Nat) (hf : ∀ s a b, Keeps u s → Keeps u (f s a b).1) :
    Keeps u (s.answerMail me sender cmds f) := by
  unfold State.answerMail
  split
  · exact h
  · dsimp only
    split
    · exact h
    · exact State.mbxGo_keeps (State.setMbox_keeps (hf _ _ _ (State.mbxDone_keeps h _ _)) _ _ _) _ _

theorem execFwGetVersion_keeps {u s : State} (h : Keeps u s) (a0 a1) :
    KeepsO u (execFwGetVersion a0 a1 s) := by
  unfold execFwGetVersion
  grind [State.advance_keeps, State.answerMail_keeps, State.when_keeps, Keeps.rest, KeepsO.next, State.when]

theorem execSetTime_keeps {u s : State} (h : Keeps u s) (a0 a1) :
    KeepsO u (execSetTime a0 a1 s) := by
  unfold execSetTime
  grind [State.advance_keeps, State.answerMail_keeps, State.setTime_keeps, State.when_keeps, Keeps.rest, KeepsO.next, State.when]

theorem execReadLog_keeps {u s : State} (h : Keeps u s) (a0 a1) :
    KeepsO u (execReadLog a0 a1 s) := by
  unfold execReadLog
  grind [State.advance_keeps, State.answerMail_keeps, State.when_keeps, Keeps.rest, KeepsO.next, State.when]

theorem State.answerMc_keeps {u s : State} (h : Keeps u s) (a1 a2 a3) :
    Keeps u (State.answerMc s a1 a2 a3) := by
  unfold State.answerMc
  grind [State.answerMail_keeps, Keeps.rest]

theorem execMcGetVersion_keeps {u s : State} (h : Keeps u s) (a0 a1) :
    KeepsO u (execMcGetVersion a0 a1 s) := by
  unfold execMcGetVersion
  grind [State.advance_keeps, State.answerMc_keeps, Keeps.rest, KeepsO.next]

theorem execGetIdentity_keeps {u s : State} (h : Keeps u s) (a0 a1) :
    KeepsO u (execGetIdentity a0 a1 s) := by
  unfold execGetIdentity
  grind [State.advance_keeps, State.answerMc_keeps, Keeps.rest, KeepsO.next]

theorem execGetMeasurement_keeps {u s : State} (h : Keeps u s) (a0 a1) :
    KeepsO u (execGetMeasurement a0 a1 s) := by
  unfold execGetMeasurement
  grind [State.advance_keeps, State.answerMc_keeps, Keeps.rest, KeepsO.next]

theorem execGetSensor_keeps {u s : State} (h : Keeps u s) (a0 a1) :
    KeepsO u (execGetSensor a0 a1 s) := by
  unfold execGetSensor
  grind [State.advance_keeps, State.answerMc_keeps, Keeps.rest, KeepsO.next]

theorem execGetFwSlots_keeps {u s : State} (h : Keeps u s) (a0 a1) :
    KeepsO u (execGetFwSlots a0 a1 s) := by
  unfold execGetFwSlots
  grind [State.advance_keeps, State.answerMc_keeps, Keeps.rest, KeepsO.next]

end Sys2Proof.Machine
end

