-- ==== Sys2Proof/Laws/State.lean ====
section
/-! SUPPORT. The fields of the state after each elementary update, one lemma a field and update, and the register table's
read after a write. -/

set_option Elab.async false
set_option linter.all false

namespace Sys2Proof.Machine

/-- A table read where it was written. -/
@[simp] theorem SMap.get_put_same {α : Type} [DecidableEq α] (d : α) (m : SMap α) (k : Nat) (v : α) :
    SMap.get d (SMap.put d m k v) k = v := by
  unfold SMap.put
  induction m with
  | nil => grind [SMap.get, SMap.erase, SMap.insert]
  | cons e t ih => grind [SMap.get, SMap.erase, SMap.insert]

/-- A table read elsewhere than it was written. -/
theorem SMap.get_put_ne {α : Type} [DecidableEq α] (d c : α) (m : SMap α) (k j : Nat) (v : α) (h : j ≠ k) :
    SMap.get d (SMap.put c m k v) j = SMap.get d m j := by
  unfold SMap.put
  induction m with
  | nil => grind [SMap.get, SMap.erase, SMap.insert]
  | cons e t ih => grind [SMap.get, SMap.erase, SMap.insert]

/-- A field read where it was written. -/
@[simp] theorem State.rd_wr_same (s : State) (f : Fld) (v b : Nat) : (s.wr f v b).rd f b = v % 2 ^ f.width :=
  SMap.get_put_same _ _ _ _

/-- A field at another place than the one written. -/
theorem State.rd_wr_ne (s : State) (f g : Fld) (v b c : Nat) (h : f.key b ≠ g.key c) : (s.wr g v c).rd f b = s.rd f b :=
  SMap.get_put_ne _ _ _ _ _ _ h

/-- A next state's property is the outcome's. -/
@[simp] theorem ends_next (t : State) (P : State → Prop) : Ends (.next t) P ↔ P t :=
  ⟨fun ⟨_, e, h⟩ => (Host.Outcome.next.inj e) ▸ h, fun h => ⟨t, rfl, h⟩⟩

@[simp] theorem State.withTime_pending (s : State) (v : TimeSt) : (s.withTime v).pending = s.pending := rfl
@[simp] theorem State.withTime_regs (s : State) (v : TimeSt) : (s.withTime v).regs = s.regs := rfl
@[simp] theorem State.withTime_shadow (s : State) (v : TimeSt) : (s.withTime v).shadow = s.shadow := rfl
@[simp] theorem State.withTime_commits (s : State) (v : TimeSt) : (s.withTime v).commits = s.commits := rfl
@[simp] theorem State.withTime_time (s : State) (v : TimeSt) : (s.withTime v).time = v := rfl
@[simp] theorem State.withTime_arbs (s : State) (v : TimeSt) : (s.withTime v).arbs = s.arbs := rfl
@[simp] theorem State.withTime_hif (s : State) (v : TimeSt) : (s.withTime v).hif = s.hif := rfl
@[simp] theorem State.withTime_serve (s : State) (v : TimeSt) : (s.withTime v).serve = s.serve := rfl
@[simp] theorem State.withTime_lst (s : State) (v : TimeSt) : (s.withTime v).lst = s.lst := rfl
@[simp] theorem State.withTime_ctl (s : State) (v : TimeSt) : (s.withTime v).ctl = s.ctl := rfl
@[simp] theorem State.withTime_mem (s : State) (v : TimeSt) : (s.withTime v).mem = s.mem := rfl
@[simp] theorem State.withTime_sms (s : State) (v : TimeSt) : (s.withTime v).sms = s.sms := rfl
@[simp] theorem State.withTime_fab (s : State) (v : TimeSt) : (s.withTime v).fab = s.fab := rfl
@[simp] theorem State.withTime_lnk (s : State) (v : TimeSt) : (s.withTime v).lnk = s.lnk := rfl
@[simp] theorem State.withTime_ptm (s : State) (v : TimeSt) : (s.withTime v).ptm = s.ptm := rfl
@[simp] theorem State.withTime_pwr (s : State) (v : TimeSt) : (s.withTime v).pwr = s.pwr := rfl
@[simp] theorem State.withTime_mgt (s : State) (v : TimeSt) : (s.withTime v).mgt = s.mgt := rfl
@[simp] theorem State.withTime_free (s : State) (v : TimeSt) : (s.withTime v).free = s.free := rfl
@[simp] theorem State.withTime_rd (s : State) (v : TimeSt) (k : Fld) (i : Nat) : (s.withTime v).rd k i = s.rd k i := rfl
@[simp] theorem State.withTime_bit (s : State) (v : TimeSt) (k : Fld) (i : Nat) : (s.withTime v).bit k i = s.bit k i := rfl

@[simp] theorem State.withArbs_pending (s : State) (v : SMap Arbiter) : (s.withArbs v).pending = s.pending := rfl
@[simp] theorem State.withArbs_regs (s : State) (v : SMap Arbiter) : (s.withArbs v).regs = s.regs := rfl
@[simp] theorem State.withArbs_shadow (s : State) (v : SMap Arbiter) : (s.withArbs v).shadow = s.shadow := rfl
@[simp] theorem State.withArbs_commits (s : State) (v : SMap Arbiter) : (s.withArbs v).commits = s.commits := rfl
@[simp] theorem State.withArbs_time (s : State) (v : SMap Arbiter) : (s.withArbs v).time = s.time := rfl
@[simp] theorem State.withArbs_arbs (s : State) (v : SMap Arbiter) : (s.withArbs v).arbs = v := rfl
@[simp] theorem State.withArbs_hif (s : State) (v : SMap Arbiter) : (s.withArbs v).hif = s.hif := rfl
@[simp] theorem State.withArbs_serve (s : State) (v : SMap Arbiter) : (s.withArbs v).serve = s.serve := rfl
@[simp] theorem State.withArbs_lst (s : State) (v : SMap Arbiter) : (s.withArbs v).lst = s.lst := rfl
@[simp] theorem State.withArbs_ctl (s : State) (v : SMap Arbiter) : (s.withArbs v).ctl = s.ctl := rfl
@[simp] theorem State.withArbs_mem (s : State) (v : SMap Arbiter) : (s.withArbs v).mem = s.mem := rfl
@[simp] theorem State.withArbs_sms (s : State) (v : SMap Arbiter) : (s.withArbs v).sms = s.sms := rfl
@[simp] theorem State.withArbs_fab (s : State) (v : SMap Arbiter) : (s.withArbs v).fab = s.fab := rfl
@[simp] theorem State.withArbs_lnk (s : State) (v : SMap Arbiter) : (s.withArbs v).lnk = s.lnk := rfl
@[simp] theorem State.withArbs_ptm (s : State) (v : SMap Arbiter) : (s.withArbs v).ptm = s.ptm := rfl
@[simp] theorem State.withArbs_pwr (s : State) (v : SMap Arbiter) : (s.withArbs v).pwr = s.pwr := rfl
@[simp] theorem State.withArbs_mgt (s : State) (v : SMap Arbiter) : (s.withArbs v).mgt = s.mgt := rfl
@[simp] theorem State.withArbs_free (s : State) (v : SMap Arbiter) : (s.withArbs v).free = s.free := rfl
@[simp] theorem State.withArbs_rd (s : State) (v : SMap Arbiter) (k : Fld) (i : Nat) :
    (s.withArbs v).rd k i = s.rd k i := rfl
@[simp] theorem State.withArbs_bit (s : State) (v : SMap Arbiter) (k : Fld) (i : Nat) :
    (s.withArbs v).bit k i = s.bit k i := rfl
@[simp] theorem State.withArbs_now (s : State) (v : SMap Arbiter) : (s.withArbs v).now = s.now := rfl

@[simp] theorem State.withHif_pending (s : State) (v : HifSt) : (s.withHif v).pending = s.pending := rfl
@[simp] theorem State.withHif_regs (s : State) (v : HifSt) : (s.withHif v).regs = s.regs := rfl
@[simp] theorem State.withHif_shadow (s : State) (v : HifSt) : (s.withHif v).shadow = s.shadow := rfl
@[simp] theorem State.withHif_commits (s : State) (v : HifSt) : (s.withHif v).commits = s.commits := rfl
@[simp] theorem State.withHif_time (s : State) (v : HifSt) : (s.withHif v).time = s.time := rfl
@[simp] theorem State.withHif_arbs (s : State) (v : HifSt) : (s.withHif v).arbs = s.arbs := rfl
@[simp] theorem State.withHif_hif (s : State) (v : HifSt) : (s.withHif v).hif = v := rfl
@[simp] theorem State.withHif_serve (s : State) (v : HifSt) : (s.withHif v).serve = s.serve := rfl
@[simp] theorem State.withHif_lst (s : State) (v : HifSt) : (s.withHif v).lst = s.lst := rfl
@[simp] theorem State.withHif_ctl (s : State) (v : HifSt) : (s.withHif v).ctl = s.ctl := rfl
@[simp] theorem State.withHif_mem (s : State) (v : HifSt) : (s.withHif v).mem = s.mem := rfl
@[simp] theorem State.withHif_sms (s : State) (v : HifSt) : (s.withHif v).sms = s.sms := rfl
@[simp] theorem State.withHif_fab (s : State) (v : HifSt) : (s.withHif v).fab = s.fab := rfl
@[simp] theorem State.withHif_lnk (s : State) (v : HifSt) : (s.withHif v).lnk = s.lnk := rfl
@[simp] theorem State.withHif_ptm (s : State) (v : HifSt) : (s.withHif v).ptm = s.ptm := rfl
@[simp] theorem State.withHif_pwr (s : State) (v : HifSt) : (s.withHif v).pwr = s.pwr := rfl
@[simp] theorem State.withHif_mgt (s : State) (v : HifSt) : (s.withHif v).mgt = s.mgt := rfl
@[simp] theorem State.withHif_free (s : State) (v : HifSt) : (s.withHif v).free = s.free := rfl
@[simp] theorem State.withHif_rd (s : State) (v : HifSt) (k : Fld) (i : Nat) : (s.withHif v).rd k i = s.rd k i := rfl
@[simp] theorem State.withHif_bit (s : State) (v : HifSt) (k : Fld) (i : Nat) : (s.withHif v).bit k i = s.bit k i := rfl
@[simp] theorem State.withHif_now (s : State) (v : HifSt) : (s.withHif v).now = s.now := rfl

@[simp] theorem State.withServe_pending (s : State) (v : ServeSt) : (s.withServe v).pending = s.pending := rfl
@[simp] theorem State.withServe_regs (s : State) (v : ServeSt) : (s.withServe v).regs = s.regs := rfl
@[simp] theorem State.withServe_shadow (s : State) (v : ServeSt) : (s.withServe v).shadow = s.shadow := rfl
@[simp] theorem State.withServe_commits (s : State) (v : ServeSt) : (s.withServe v).commits = s.commits := rfl
@[simp] theorem State.withServe_time (s : State) (v : ServeSt) : (s.withServe v).time = s.time := rfl
@[simp] theorem State.withServe_arbs (s : State) (v : ServeSt) : (s.withServe v).arbs = s.arbs := rfl
@[simp] theorem State.withServe_hif (s : State) (v : ServeSt) : (s.withServe v).hif = s.hif := rfl
@[simp] theorem State.withServe_serve (s : State) (v : ServeSt) : (s.withServe v).serve = v := rfl
@[simp] theorem State.withServe_lst (s : State) (v : ServeSt) : (s.withServe v).lst = s.lst := rfl
@[simp] theorem State.withServe_ctl (s : State) (v : ServeSt) : (s.withServe v).ctl = s.ctl := rfl
@[simp] theorem State.withServe_mem (s : State) (v : ServeSt) : (s.withServe v).mem = s.mem := rfl
@[simp] theorem State.withServe_sms (s : State) (v : ServeSt) : (s.withServe v).sms = s.sms := rfl
@[simp] theorem State.withServe_fab (s : State) (v : ServeSt) : (s.withServe v).fab = s.fab := rfl
@[simp] theorem State.withServe_lnk (s : State) (v : ServeSt) : (s.withServe v).lnk = s.lnk := rfl
@[simp] theorem State.withServe_ptm (s : State) (v : ServeSt) : (s.withServe v).ptm = s.ptm := rfl
@[simp] theorem State.withServe_pwr (s : State) (v : ServeSt) : (s.withServe v).pwr = s.pwr := rfl
@[simp] theorem State.withServe_mgt (s : State) (v : ServeSt) : (s.withServe v).mgt = s.mgt := rfl
@[simp] theorem State.withServe_free (s : State) (v : ServeSt) : (s.withServe v).free = s.free := rfl
@[simp] theorem State.withServe_rd (s : State) (v : ServeSt) (k : Fld) (i : Nat) : (s.withServe v).rd k i = s.rd k i := rfl
@[simp] theorem State.withServe_bit (s : State) (v : ServeSt) (k : Fld) (i : Nat) :
    (s.withServe v).bit k i = s.bit k i := rfl
@[simp] theorem State.withServe_now (s : State) (v : ServeSt) : (s.withServe v).now = s.now := rfl

@[simp] theorem State.withLst_pending (s : State) (v : LstSt) : (s.withLst v).pending = s.pending := rfl
@[simp] theorem State.withLst_regs (s : State) (v : LstSt) : (s.withLst v).regs = s.regs := rfl
@[simp] theorem State.withLst_shadow (s : State) (v : LstSt) : (s.withLst v).shadow = s.shadow := rfl
@[simp] theorem State.withLst_commits (s : State) (v : LstSt) : (s.withLst v).commits = s.commits := rfl
@[simp] theorem State.withLst_time (s : State) (v : LstSt) : (s.withLst v).time = s.time := rfl
@[simp] theorem State.withLst_arbs (s : State) (v : LstSt) : (s.withLst v).arbs = s.arbs := rfl
@[simp] theorem State.withLst_hif (s : State) (v : LstSt) : (s.withLst v).hif = s.hif := rfl
@[simp] theorem State.withLst_serve (s : State) (v : LstSt) : (s.withLst v).serve = s.serve := rfl
@[simp] theorem State.withLst_lst (s : State) (v : LstSt) : (s.withLst v).lst = v := rfl
@[simp] theorem State.withLst_ctl (s : State) (v : LstSt) : (s.withLst v).ctl = s.ctl := rfl
@[simp] theorem State.withLst_mem (s : State) (v : LstSt) : (s.withLst v).mem = s.mem := rfl
@[simp] theorem State.withLst_sms (s : State) (v : LstSt) : (s.withLst v).sms = s.sms := rfl
@[simp] theorem State.withLst_fab (s : State) (v : LstSt) : (s.withLst v).fab = s.fab := rfl
@[simp] theorem State.withLst_lnk (s : State) (v : LstSt) : (s.withLst v).lnk = s.lnk := rfl
@[simp] theorem State.withLst_ptm (s : State) (v : LstSt) : (s.withLst v).ptm = s.ptm := rfl
@[simp] theorem State.withLst_pwr (s : State) (v : LstSt) : (s.withLst v).pwr = s.pwr := rfl
@[simp] theorem State.withLst_mgt (s : State) (v : LstSt) : (s.withLst v).mgt = s.mgt := rfl
@[simp] theorem State.withLst_free (s : State) (v : LstSt) : (s.withLst v).free = s.free := rfl
@[simp] theorem State.withLst_rd (s : State) (v : LstSt) (k : Fld) (i : Nat) : (s.withLst v).rd k i = s.rd k i := rfl
@[simp] theorem State.withLst_bit (s : State) (v : LstSt) (k : Fld) (i : Nat) : (s.withLst v).bit k i = s.bit k i := rfl
@[simp] theorem State.withLst_now (s : State) (v : LstSt) : (s.withLst v).now = s.now := rfl

@[simp] theorem State.withCtl_pending (s : State) (v : CtlSt) : (s.withCtl v).pending = s.pending := rfl
@[simp] theorem State.withCtl_regs (s : State) (v : CtlSt) : (s.withCtl v).regs = s.regs := rfl
@[simp] theorem State.withCtl_shadow (s : State) (v : CtlSt) : (s.withCtl v).shadow = s.shadow := rfl
@[simp] theorem State.withCtl_commits (s : State) (v : CtlSt) : (s.withCtl v).commits = s.commits := rfl
@[simp] theorem State.withCtl_time (s : State) (v : CtlSt) : (s.withCtl v).time = s.time := rfl
@[simp] theorem State.withCtl_arbs (s : State) (v : CtlSt) : (s.withCtl v).arbs = s.arbs := rfl
@[simp] theorem State.withCtl_hif (s : State) (v : CtlSt) : (s.withCtl v).hif = s.hif := rfl
@[simp] theorem State.withCtl_serve (s : State) (v : CtlSt) : (s.withCtl v).serve = s.serve := rfl
@[simp] theorem State.withCtl_lst (s : State) (v : CtlSt) : (s.withCtl v).lst = s.lst := rfl
@[simp] theorem State.withCtl_ctl (s : State) (v : CtlSt) : (s.withCtl v).ctl = v := rfl
@[simp] theorem State.withCtl_mem (s : State) (v : CtlSt) : (s.withCtl v).mem = s.mem := rfl
@[simp] theorem State.withCtl_sms (s : State) (v : CtlSt) : (s.withCtl v).sms = s.sms := rfl
@[simp] theorem State.withCtl_fab (s : State) (v : CtlSt) : (s.withCtl v).fab = s.fab := rfl
@[simp] theorem State.withCtl_lnk (s : State) (v : CtlSt) : (s.withCtl v).lnk = s.lnk := rfl
@[simp] theorem State.withCtl_ptm (s : State) (v : CtlSt) : (s.withCtl v).ptm = s.ptm := rfl
@[simp] theorem State.withCtl_pwr (s : State) (v : CtlSt) : (s.withCtl v).pwr = s.pwr := rfl
@[simp] theorem State.withCtl_mgt (s : State) (v : CtlSt) : (s.withCtl v).mgt = s.mgt := rfl
@[simp] theorem State.withCtl_free (s : State) (v : CtlSt) : (s.withCtl v).free = s.free := rfl
@[simp] theorem State.withCtl_rd (s : State) (v : CtlSt) (k : Fld) (i : Nat) : (s.withCtl v).rd k i = s.rd k i := rfl
@[simp] theorem State.withCtl_bit (s : State) (v : CtlSt) (k : Fld) (i : Nat) : (s.withCtl v).bit k i = s.bit k i := rfl
@[simp] theorem State.withCtl_now (s : State) (v : CtlSt) : (s.withCtl v).now = s.now := rfl

@[simp] theorem State.withMem_pending (s : State) (v : MemSt) : (s.withMem v).pending = s.pending := rfl
@[simp] theorem State.withMem_regs (s : State) (v : MemSt) : (s.withMem v).regs = s.regs := rfl
@[simp] theorem State.withMem_shadow (s : State) (v : MemSt) : (s.withMem v).shadow = s.shadow := rfl
@[simp] theorem State.withMem_commits (s : State) (v : MemSt) : (s.withMem v).commits = s.commits := rfl
@[simp] theorem State.withMem_time (s : State) (v : MemSt) : (s.withMem v).time = s.time := rfl
@[simp] theorem State.withMem_arbs (s : State) (v : MemSt) : (s.withMem v).arbs = s.arbs := rfl
@[simp] theorem State.withMem_hif (s : State) (v : MemSt) : (s.withMem v).hif = s.hif := rfl
@[simp] theorem State.withMem_serve (s : State) (v : MemSt) : (s.withMem v).serve = s.serve := rfl
@[simp] theorem State.withMem_lst (s : State) (v : MemSt) : (s.withMem v).lst = s.lst := rfl
@[simp] theorem State.withMem_ctl (s : State) (v : MemSt) : (s.withMem v).ctl = s.ctl := rfl
@[simp] theorem State.withMem_mem (s : State) (v : MemSt) : (s.withMem v).mem = v := rfl
@[simp] theorem State.withMem_sms (s : State) (v : MemSt) : (s.withMem v).sms = s.sms := rfl
@[simp] theorem State.withMem_fab (s : State) (v : MemSt) : (s.withMem v).fab = s.fab := rfl
@[simp] theorem State.withMem_lnk (s : State) (v : MemSt) : (s.withMem v).lnk = s.lnk := rfl
@[simp] theorem State.withMem_ptm (s : State) (v : MemSt) : (s.withMem v).ptm = s.ptm := rfl
@[simp] theorem State.withMem_pwr (s : State) (v : MemSt) : (s.withMem v).pwr = s.pwr := rfl
@[simp] theorem State.withMem_mgt (s : State) (v : MemSt) : (s.withMem v).mgt = s.mgt := rfl
@[simp] theorem State.withMem_free (s : State) (v : MemSt) : (s.withMem v).free = s.free := rfl
@[simp] theorem State.withMem_rd (s : State) (v : MemSt) (k : Fld) (i : Nat) : (s.withMem v).rd k i = s.rd k i := rfl
@[simp] theorem State.withMem_bit (s : State) (v : MemSt) (k : Fld) (i : Nat) : (s.withMem v).bit k i = s.bit k i := rfl
@[simp] theorem State.withMem_now (s : State) (v : MemSt) : (s.withMem v).now = s.now := rfl

@[simp] theorem State.withFab_pending (s : State) (v : FabSt) : (s.withFab v).pending = s.pending := rfl
@[simp] theorem State.withFab_regs (s : State) (v : FabSt) : (s.withFab v).regs = s.regs := rfl
@[simp] theorem State.withFab_shadow (s : State) (v : FabSt) : (s.withFab v).shadow = s.shadow := rfl
@[simp] theorem State.withFab_commits (s : State) (v : FabSt) : (s.withFab v).commits = s.commits := rfl
@[simp] theorem State.withFab_time (s : State) (v : FabSt) : (s.withFab v).time = s.time := rfl
@[simp] theorem State.withFab_arbs (s : State) (v : FabSt) : (s.withFab v).arbs = s.arbs := rfl
@[simp] theorem State.withFab_hif (s : State) (v : FabSt) : (s.withFab v).hif = s.hif := rfl
@[simp] theorem State.withFab_serve (s : State) (v : FabSt) : (s.withFab v).serve = s.serve := rfl
@[simp] theorem State.withFab_lst (s : State) (v : FabSt) : (s.withFab v).lst = s.lst := rfl
@[simp] theorem State.withFab_ctl (s : State) (v : FabSt) : (s.withFab v).ctl = s.ctl := rfl
@[simp] theorem State.withFab_mem (s : State) (v : FabSt) : (s.withFab v).mem = s.mem := rfl
@[simp] theorem State.withFab_sms (s : State) (v : FabSt) : (s.withFab v).sms = s.sms := rfl
@[simp] theorem State.withFab_fab (s : State) (v : FabSt) : (s.withFab v).fab = v := rfl
@[simp] theorem State.withFab_lnk (s : State) (v : FabSt) : (s.withFab v).lnk = s.lnk := rfl
@[simp] theorem State.withFab_ptm (s : State) (v : FabSt) : (s.withFab v).ptm = s.ptm := rfl
@[simp] theorem State.withFab_pwr (s : State) (v : FabSt) : (s.withFab v).pwr = s.pwr := rfl
@[simp] theorem State.withFab_mgt (s : State) (v : FabSt) : (s.withFab v).mgt = s.mgt := rfl
@[simp] theorem State.withFab_free (s : State) (v : FabSt) : (s.withFab v).free = s.free := rfl
@[simp] theorem State.withFab_rd (s : State) (v : FabSt) (k : Fld) (i : Nat) : (s.withFab v).rd k i = s.rd k i := rfl
@[simp] theorem State.withFab_bit (s : State) (v : FabSt) (k : Fld) (i : Nat) : (s.withFab v).bit k i = s.bit k i := rfl
@[simp] theorem State.withFab_now (s : State) (v : FabSt) : (s.withFab v).now = s.now := rfl

@[simp] theorem State.withLnk_pending (s : State) (v : LnkSt) : (s.withLnk v).pending = s.pending := rfl
@[simp] theorem State.withLnk_regs (s : State) (v : LnkSt) : (s.withLnk v).regs = s.regs := rfl
@[simp] theorem State.withLnk_shadow (s : State) (v : LnkSt) : (s.withLnk v).shadow = s.shadow := rfl
@[simp] theorem State.withLnk_commits (s : State) (v : LnkSt) : (s.withLnk v).commits = s.commits := rfl
@[simp] theorem State.withLnk_time (s : State) (v : LnkSt) : (s.withLnk v).time = s.time := rfl
@[simp] theorem State.withLnk_arbs (s : State) (v : LnkSt) : (s.withLnk v).arbs = s.arbs := rfl
@[simp] theorem State.withLnk_hif (s : State) (v : LnkSt) : (s.withLnk v).hif = s.hif := rfl
@[simp] theorem State.withLnk_serve (s : State) (v : LnkSt) : (s.withLnk v).serve = s.serve := rfl
@[simp] theorem State.withLnk_lst (s : State) (v : LnkSt) : (s.withLnk v).lst = s.lst := rfl
@[simp] theorem State.withLnk_ctl (s : State) (v : LnkSt) : (s.withLnk v).ctl = s.ctl := rfl
@[simp] theorem State.withLnk_mem (s : State) (v : LnkSt) : (s.withLnk v).mem = s.mem := rfl
@[simp] theorem State.withLnk_sms (s : State) (v : LnkSt) : (s.withLnk v).sms = s.sms := rfl
@[simp] theorem State.withLnk_fab (s : State) (v : LnkSt) : (s.withLnk v).fab = s.fab := rfl
@[simp] theorem State.withLnk_lnk (s : State) (v : LnkSt) : (s.withLnk v).lnk = v := rfl
@[simp] theorem State.withLnk_ptm (s : State) (v : LnkSt) : (s.withLnk v).ptm = s.ptm := rfl
@[simp] theorem State.withLnk_pwr (s : State) (v : LnkSt) : (s.withLnk v).pwr = s.pwr := rfl
@[simp] theorem State.withLnk_mgt (s : State) (v : LnkSt) : (s.withLnk v).mgt = s.mgt := rfl
@[simp] theorem State.withLnk_free (s : State) (v : LnkSt) : (s.withLnk v).free = s.free := rfl
@[simp] theorem State.withLnk_rd (s : State) (v : LnkSt) (k : Fld) (i : Nat) : (s.withLnk v).rd k i = s.rd k i := rfl
@[simp] theorem State.withLnk_bit (s : State) (v : LnkSt) (k : Fld) (i : Nat) : (s.withLnk v).bit k i = s.bit k i := rfl
@[simp] theorem State.withLnk_now (s : State) (v : LnkSt) : (s.withLnk v).now = s.now := rfl

@[simp] theorem State.withPtm_pending (s : State) (v : PtmSt) : (s.withPtm v).pending = s.pending := rfl
@[simp] theorem State.withPtm_regs (s : State) (v : PtmSt) : (s.withPtm v).regs = s.regs := rfl
@[simp] theorem State.withPtm_shadow (s : State) (v : PtmSt) : (s.withPtm v).shadow = s.shadow := rfl
@[simp] theorem State.withPtm_commits (s : State) (v : PtmSt) : (s.withPtm v).commits = s.commits := rfl
@[simp] theorem State.withPtm_time (s : State) (v : PtmSt) : (s.withPtm v).time = s.time := rfl
@[simp] theorem State.withPtm_arbs (s : State) (v : PtmSt) : (s.withPtm v).arbs = s.arbs := rfl
@[simp] theorem State.withPtm_hif (s : State) (v : PtmSt) : (s.withPtm v).hif = s.hif := rfl
@[simp] theorem State.withPtm_serve (s : State) (v : PtmSt) : (s.withPtm v).serve = s.serve := rfl
@[simp] theorem State.withPtm_lst (s : State) (v : PtmSt) : (s.withPtm v).lst = s.lst := rfl
@[simp] theorem State.withPtm_ctl (s : State) (v : PtmSt) : (s.withPtm v).ctl = s.ctl := rfl
@[simp] theorem State.withPtm_mem (s : State) (v : PtmSt) : (s.withPtm v).mem = s.mem := rfl
@[simp] theorem State.withPtm_sms (s : State) (v : PtmSt) : (s.withPtm v).sms = s.sms := rfl
@[simp] theorem State.withPtm_fab (s : State) (v : PtmSt) : (s.withPtm v).fab = s.fab := rfl
@[simp] theorem State.withPtm_lnk (s : State) (v : PtmSt) : (s.withPtm v).lnk = s.lnk := rfl
@[simp] theorem State.withPtm_ptm (s : State) (v : PtmSt) : (s.withPtm v).ptm = v := rfl
@[simp] theorem State.withPtm_pwr (s : State) (v : PtmSt) : (s.withPtm v).pwr = s.pwr := rfl
@[simp] theorem State.withPtm_mgt (s : State) (v : PtmSt) : (s.withPtm v).mgt = s.mgt := rfl
@[simp] theorem State.withPtm_free (s : State) (v : PtmSt) : (s.withPtm v).free = s.free := rfl
@[simp] theorem State.withPtm_rd (s : State) (v : PtmSt) (k : Fld) (i : Nat) : (s.withPtm v).rd k i = s.rd k i := rfl
@[simp] theorem State.withPtm_bit (s : State) (v : PtmSt) (k : Fld) (i : Nat) : (s.withPtm v).bit k i = s.bit k i := rfl
@[simp] theorem State.withPtm_now (s : State) (v : PtmSt) : (s.withPtm v).now = s.now := rfl

@[simp] theorem State.withPwr_pending (s : State) (v : PwrSt) : (s.withPwr v).pending = s.pending := rfl
@[simp] theorem State.withPwr_regs (s : State) (v : PwrSt) : (s.withPwr v).regs = s.regs := rfl
@[simp] theorem State.withPwr_shadow (s : State) (v : PwrSt) : (s.withPwr v).shadow = s.shadow := rfl
@[simp] theorem State.withPwr_commits (s : State) (v : PwrSt) : (s.withPwr v).commits = s.commits := rfl
@[simp] theorem State.withPwr_time (s : State) (v : PwrSt) : (s.withPwr v).time = s.time := rfl
@[simp] theorem State.withPwr_arbs (s : State) (v : PwrSt) : (s.withPwr v).arbs = s.arbs := rfl
@[simp] theorem State.withPwr_hif (s : State) (v : PwrSt) : (s.withPwr v).hif = s.hif := rfl
@[simp] theorem State.withPwr_serve (s : State) (v : PwrSt) : (s.withPwr v).serve = s.serve := rfl
@[simp] theorem State.withPwr_lst (s : State) (v : PwrSt) : (s.withPwr v).lst = s.lst := rfl
@[simp] theorem State.withPwr_ctl (s : State) (v : PwrSt) : (s.withPwr v).ctl = s.ctl := rfl
@[simp] theorem State.withPwr_mem (s : State) (v : PwrSt) : (s.withPwr v).mem = s.mem := rfl
@[simp] theorem State.withPwr_sms (s : State) (v : PwrSt) : (s.withPwr v).sms = s.sms := rfl
@[simp] theorem State.withPwr_fab (s : State) (v : PwrSt) : (s.withPwr v).fab = s.fab := rfl
@[simp] theorem State.withPwr_lnk (s : State) (v : PwrSt) : (s.withPwr v).lnk = s.lnk := rfl
@[simp] theorem State.withPwr_ptm (s : State) (v : PwrSt) : (s.withPwr v).ptm = s.ptm := rfl
@[simp] theorem State.withPwr_pwr (s : State) (v : PwrSt) : (s.withPwr v).pwr = v := rfl
@[simp] theorem State.withPwr_mgt (s : State) (v : PwrSt) : (s.withPwr v).mgt = s.mgt := rfl
@[simp] theorem State.withPwr_free (s : State) (v : PwrSt) : (s.withPwr v).free = s.free := rfl
@[simp] theorem State.withPwr_rd (s : State) (v : PwrSt) (k : Fld) (i : Nat) : (s.withPwr v).rd k i = s.rd k i := rfl
@[simp] theorem State.withPwr_bit (s : State) (v : PwrSt) (k : Fld) (i : Nat) : (s.withPwr v).bit k i = s.bit k i := rfl
@[simp] theorem State.withPwr_now (s : State) (v : PwrSt) : (s.withPwr v).now = s.now := rfl

@[simp] theorem State.withMgt_pending (s : State) (v : MgtSt) : (s.withMgt v).pending = s.pending := rfl
@[simp] theorem State.withMgt_regs (s : State) (v : MgtSt) : (s.withMgt v).regs = s.regs := rfl
@[simp] theorem State.withMgt_shadow (s : State) (v : MgtSt) : (s.withMgt v).shadow = s.shadow := rfl
@[simp] theorem State.withMgt_commits (s : State) (v : MgtSt) : (s.withMgt v).commits = s.commits := rfl
@[simp] theorem State.withMgt_time (s : State) (v : MgtSt) : (s.withMgt v).time = s.time := rfl
@[simp] theorem State.withMgt_arbs (s : State) (v : MgtSt) : (s.withMgt v).arbs = s.arbs := rfl
@[simp] theorem State.withMgt_hif (s : State) (v : MgtSt) : (s.withMgt v).hif = s.hif := rfl
@[simp] theorem State.withMgt_serve (s : State) (v : MgtSt) : (s.withMgt v).serve = s.serve := rfl
@[simp] theorem State.withMgt_lst (s : State) (v : MgtSt) : (s.withMgt v).lst = s.lst := rfl
@[simp] theorem State.withMgt_ctl (s : State) (v : MgtSt) : (s.withMgt v).ctl = s.ctl := rfl
@[simp] theorem State.withMgt_mem (s : State) (v : MgtSt) : (s.withMgt v).mem = s.mem := rfl
@[simp] theorem State.withMgt_sms (s : State) (v : MgtSt) : (s.withMgt v).sms = s.sms := rfl
@[simp] theorem State.withMgt_fab (s : State) (v : MgtSt) : (s.withMgt v).fab = s.fab := rfl
@[simp] theorem State.withMgt_lnk (s : State) (v : MgtSt) : (s.withMgt v).lnk = s.lnk := rfl
@[simp] theorem State.withMgt_ptm (s : State) (v : MgtSt) : (s.withMgt v).ptm = s.ptm := rfl
@[simp] theorem State.withMgt_pwr (s : State) (v : MgtSt) : (s.withMgt v).pwr = s.pwr := rfl
@[simp] theorem State.withMgt_mgt (s : State) (v : MgtSt) : (s.withMgt v).mgt = v := rfl
@[simp] theorem State.withMgt_free (s : State) (v : MgtSt) : (s.withMgt v).free = s.free := rfl
@[simp] theorem State.withMgt_rd (s : State) (v : MgtSt) (k : Fld) (i : Nat) : (s.withMgt v).rd k i = s.rd k i := rfl
@[simp] theorem State.withMgt_bit (s : State) (v : MgtSt) (k : Fld) (i : Nat) : (s.withMgt v).bit k i = s.bit k i := rfl
@[simp] theorem State.withMgt_now (s : State) (v : MgtSt) : (s.withMgt v).now = s.now := rfl

@[simp] theorem State.wr_pending (s : State) (f : Fld) (v b : Nat) : (s.wr f v b).pending = s.pending := rfl
@[simp] theorem State.wr_regs (s : State) (f : Fld) (v b : Nat) :
    (s.wr f v b).regs = SMap.put f.reset s.regs (f.key b) (v % 2 ^ f.width) := rfl
@[simp] theorem State.wr_shadow (s : State) (f : Fld) (v b : Nat) : (s.wr f v b).shadow = s.shadow := rfl
@[simp] theorem State.wr_commits (s : State) (f : Fld) (v b : Nat) : (s.wr f v b).commits = s.commits := rfl
@[simp] theorem State.wr_time (s : State) (f : Fld) (v b : Nat) : (s.wr f v b).time = s.time := rfl
@[simp] theorem State.wr_arbs (s : State) (f : Fld) (v b : Nat) : (s.wr f v b).arbs = s.arbs := rfl
@[simp] theorem State.wr_hif (s : State) (f : Fld) (v b : Nat) : (s.wr f v b).hif = s.hif := rfl
@[simp] theorem State.wr_serve (s : State) (f : Fld) (v b : Nat) : (s.wr f v b).serve = s.serve := rfl
@[simp] theorem State.wr_lst (s : State) (f : Fld) (v b : Nat) : (s.wr f v b).lst = s.lst := rfl
@[simp] theorem State.wr_ctl (s : State) (f : Fld) (v b : Nat) : (s.wr f v b).ctl = s.ctl := rfl
@[simp] theorem State.wr_mem (s : State) (f : Fld) (v b : Nat) : (s.wr f v b).mem = s.mem := rfl
@[simp] theorem State.wr_sms (s : State) (f : Fld) (v b : Nat) : (s.wr f v b).sms = s.sms := rfl
@[simp] theorem State.wr_fab (s : State) (f : Fld) (v b : Nat) : (s.wr f v b).fab = s.fab := rfl
@[simp] theorem State.wr_lnk (s : State) (f : Fld) (v b : Nat) : (s.wr f v b).lnk = s.lnk := rfl
@[simp] theorem State.wr_ptm (s : State) (f : Fld) (v b : Nat) : (s.wr f v b).ptm = s.ptm := rfl
@[simp] theorem State.wr_pwr (s : State) (f : Fld) (v b : Nat) : (s.wr f v b).pwr = s.pwr := rfl
@[simp] theorem State.wr_mgt (s : State) (f : Fld) (v b : Nat) : (s.wr f v b).mgt = s.mgt := rfl
@[simp] theorem State.wr_free (s : State) (f : Fld) (v b : Nat) : (s.wr f v b).free = s.free := rfl
@[simp] theorem State.wr_now (s : State) (f : Fld) (v b : Nat) : (s.wr f v b).now = s.now := rfl

@[simp] theorem State.count_pending (s : State) (f : Fld) (n b : Nat) : (s.count f n b).pending = s.pending := rfl
@[simp] theorem State.count_shadow (s : State) (f : Fld) (n b : Nat) : (s.count f n b).shadow = s.shadow := rfl
@[simp] theorem State.count_commits (s : State) (f : Fld) (n b : Nat) : (s.count f n b).commits = s.commits := rfl
@[simp] theorem State.count_time (s : State) (f : Fld) (n b : Nat) : (s.count f n b).time = s.time := rfl
@[simp] theorem State.count_arbs (s : State) (f : Fld) (n b : Nat) : (s.count f n b).arbs = s.arbs := rfl
@[simp] theorem State.count_hif (s : State) (f : Fld) (n b : Nat) : (s.count f n b).hif = s.hif := rfl
@[simp] theorem State.count_serve (s : State) (f : Fld) (n b : Nat) : (s.count f n b).serve = s.serve := rfl
@[simp] theorem State.count_lst (s : State) (f : Fld) (n b : Nat) : (s.count f n b).lst = s.lst := rfl
@[simp] theorem State.count_ctl (s : State) (f : Fld) (n b : Nat) : (s.count f n b).ctl = s.ctl := rfl
@[simp] theorem State.count_mem (s : State) (f : Fld) (n b : Nat) : (s.count f n b).mem = s.mem := rfl
@[simp] theorem State.count_sms (s : State) (f : Fld) (n b : Nat) : (s.count f n b).sms = s.sms := rfl
@[simp] theorem State.count_fab (s : State) (f : Fld) (n b : Nat) : (s.count f n b).fab = s.fab := rfl
@[simp] theorem State.count_lnk (s : State) (f : Fld) (n b : Nat) : (s.count f n b).lnk = s.lnk := rfl
@[simp] theorem State.count_ptm (s : State) (f : Fld) (n b : Nat) : (s.count f n b).ptm = s.ptm := rfl
@[simp] theorem State.count_pwr (s : State) (f : Fld) (n b : Nat) : (s.count f n b).pwr = s.pwr := rfl
@[simp] theorem State.count_mgt (s : State) (f : Fld) (n b : Nat) : (s.count f n b).mgt = s.mgt := rfl
@[simp] theorem State.count_free (s : State) (f : Fld) (n b : Nat) : (s.count f n b).free = s.free := rfl
@[simp] theorem State.count_now (s : State) (f : Fld) (n b : Nat) : (s.count f n b).now = s.now := rfl

@[simp] theorem State.setBit_pending (s : State) (f : Fld) (b : Nat) : (s.setBit f b).pending = s.pending := rfl
@[simp] theorem State.setBit_shadow (s : State) (f : Fld) (b : Nat) : (s.setBit f b).shadow = s.shadow := rfl
@[simp] theorem State.setBit_commits (s : State) (f : Fld) (b : Nat) : (s.setBit f b).commits = s.commits := rfl
@[simp] theorem State.setBit_time (s : State) (f : Fld) (b : Nat) : (s.setBit f b).time = s.time := rfl
@[simp] theorem State.setBit_arbs (s : State) (f : Fld) (b : Nat) : (s.setBit f b).arbs = s.arbs := rfl
@[simp] theorem State.setBit_hif (s : State) (f : Fld) (b : Nat) : (s.setBit f b).hif = s.hif := rfl
@[simp] theorem State.setBit_serve (s : State) (f : Fld) (b : Nat) : (s.setBit f b).serve = s.serve := rfl
@[simp] theorem State.setBit_lst (s : State) (f : Fld) (b : Nat) : (s.setBit f b).lst = s.lst := rfl
@[simp] theorem State.setBit_ctl (s : State) (f : Fld) (b : Nat) : (s.setBit f b).ctl = s.ctl := rfl
@[simp] theorem State.setBit_mem (s : State) (f : Fld) (b : Nat) : (s.setBit f b).mem = s.mem := rfl
@[simp] theorem State.setBit_sms (s : State) (f : Fld) (b : Nat) : (s.setBit f b).sms = s.sms := rfl
@[simp] theorem State.setBit_fab (s : State) (f : Fld) (b : Nat) : (s.setBit f b).fab = s.fab := rfl
@[simp] theorem State.setBit_lnk (s : State) (f : Fld) (b : Nat) : (s.setBit f b).lnk = s.lnk := rfl
@[simp] theorem State.setBit_ptm (s : State) (f : Fld) (b : Nat) : (s.setBit f b).ptm = s.ptm := rfl
@[simp] theorem State.setBit_pwr (s : State) (f : Fld) (b : Nat) : (s.setBit f b).pwr = s.pwr := rfl
@[simp] theorem State.setBit_mgt (s : State) (f : Fld) (b : Nat) : (s.setBit f b).mgt = s.mgt := rfl
@[simp] theorem State.setBit_free (s : State) (f : Fld) (b : Nat) : (s.setBit f b).free = s.free := rfl
@[simp] theorem State.setBit_now (s : State) (f : Fld) (b : Nat) : (s.setBit f b).now = s.now := rfl

@[simp] theorem State.wrBit_pending (s : State) (f : Fld) (v : Bool) (b : Nat) : (s.wrBit f v b).pending = s.pending := rfl
@[simp] theorem State.wrBit_shadow (s : State) (f : Fld) (v : Bool) (b : Nat) : (s.wrBit f v b).shadow = s.shadow := rfl
@[simp] theorem State.wrBit_commits (s : State) (f : Fld) (v : Bool) (b : Nat) : (s.wrBit f v b).commits = s.commits := rfl
@[simp] theorem State.wrBit_time (s : State) (f : Fld) (v : Bool) (b : Nat) : (s.wrBit f v b).time = s.time := rfl
@[simp] theorem State.wrBit_arbs (s : State) (f : Fld) (v : Bool) (b : Nat) : (s.wrBit f v b).arbs = s.arbs := rfl
@[simp] theorem State.wrBit_hif (s : State) (f : Fld) (v : Bool) (b : Nat) : (s.wrBit f v b).hif = s.hif := rfl
@[simp] theorem State.wrBit_serve (s : State) (f : Fld) (v : Bool) (b : Nat) : (s.wrBit f v b).serve = s.serve := rfl
@[simp] theorem State.wrBit_lst (s : State) (f : Fld) (v : Bool) (b : Nat) : (s.wrBit f v b).lst = s.lst := rfl
@[simp] theorem State.wrBit_ctl (s : State) (f : Fld) (v : Bool) (b : Nat) : (s.wrBit f v b).ctl = s.ctl := rfl
@[simp] theorem State.wrBit_mem (s : State) (f : Fld) (v : Bool) (b : Nat) : (s.wrBit f v b).mem = s.mem := rfl
@[simp] theorem State.wrBit_sms (s : State) (f : Fld) (v : Bool) (b : Nat) : (s.wrBit f v b).sms = s.sms := rfl
@[simp] theorem State.wrBit_fab (s : State) (f : Fld) (v : Bool) (b : Nat) : (s.wrBit f v b).fab = s.fab := rfl
@[simp] theorem State.wrBit_lnk (s : State) (f : Fld) (v : Bool) (b : Nat) : (s.wrBit f v b).lnk = s.lnk := rfl
@[simp] theorem State.wrBit_ptm (s : State) (f : Fld) (v : Bool) (b : Nat) : (s.wrBit f v b).ptm = s.ptm := rfl
@[simp] theorem State.wrBit_pwr (s : State) (f : Fld) (v : Bool) (b : Nat) : (s.wrBit f v b).pwr = s.pwr := rfl
@[simp] theorem State.wrBit_mgt (s : State) (f : Fld) (v : Bool) (b : Nat) : (s.wrBit f v b).mgt = s.mgt := rfl
@[simp] theorem State.wrBit_free (s : State) (f : Fld) (v : Bool) (b : Nat) : (s.wrBit f v b).free = s.free := rfl
@[simp] theorem State.wrBit_now (s : State) (f : Fld) (v : Bool) (b : Nat) : (s.wrBit f v b).now = s.now := rfl

@[simp] theorem State.advance_pending (s : State) (t : Nat) : (s.advance t).pending = s.pending := rfl
@[simp] theorem State.advance_regs (s : State) (t : Nat) : (s.advance t).regs = s.regs := rfl
@[simp] theorem State.advance_shadow (s : State) (t : Nat) : (s.advance t).shadow = s.shadow := rfl
@[simp] theorem State.advance_commits (s : State) (t : Nat) : (s.advance t).commits = s.commits := rfl
@[simp] theorem State.advance_time (s : State) (t : Nat) :
    (s.advance t).time = { s.time with now := max s.time.now t } := rfl
@[simp] theorem State.advance_arbs (s : State) (t : Nat) : (s.advance t).arbs = s.arbs := rfl
@[simp] theorem State.advance_hif (s : State) (t : Nat) : (s.advance t).hif = s.hif := rfl
@[simp] theorem State.advance_serve (s : State) (t : Nat) : (s.advance t).serve = s.serve := rfl
@[simp] theorem State.advance_lst (s : State) (t : Nat) : (s.advance t).lst = s.lst := rfl
@[simp] theorem State.advance_ctl (s : State) (t : Nat) : (s.advance t).ctl = s.ctl := rfl
@[simp] theorem State.advance_mem (s : State) (t : Nat) : (s.advance t).mem = s.mem := rfl
@[simp] theorem State.advance_sms (s : State) (t : Nat) : (s.advance t).sms = s.sms := rfl
@[simp] theorem State.advance_fab (s : State) (t : Nat) : (s.advance t).fab = s.fab := rfl
@[simp] theorem State.advance_lnk (s : State) (t : Nat) : (s.advance t).lnk = s.lnk := rfl
@[simp] theorem State.advance_ptm (s : State) (t : Nat) : (s.advance t).ptm = s.ptm := rfl
@[simp] theorem State.advance_pwr (s : State) (t : Nat) : (s.advance t).pwr = s.pwr := rfl
@[simp] theorem State.advance_mgt (s : State) (t : Nat) : (s.advance t).mgt = s.mgt := rfl
@[simp] theorem State.advance_free (s : State) (t : Nat) : (s.advance t).free = s.free := rfl
@[simp] theorem State.advance_rd (s : State) (t : Nat) (k : Fld) (i : Nat) : (s.advance t).rd k i = s.rd k i := rfl
@[simp] theorem State.advance_bit (s : State) (t : Nat) (k : Fld) (i : Nat) : (s.advance t).bit k i = s.bit k i := rfl
@[simp] theorem State.advance_now (s : State) (t : Nat) : (s.advance t).now = max s.now t := rfl

@[simp] theorem State.post_pending (s : State) (w : HostWrite) : (s.post w).pending = s.pending := rfl
@[simp] theorem State.post_regs (s : State) (w : HostWrite) : (s.post w).regs = s.regs := rfl
@[simp] theorem State.post_shadow (s : State) (w : HostWrite) : (s.post w).shadow = s.shadow := rfl
@[simp] theorem State.post_commits (s : State) (w : HostWrite) : (s.post w).commits = s.commits := rfl
@[simp] theorem State.post_time (s : State) (w : HostWrite) : (s.post w).time = s.time := rfl
@[simp] theorem State.post_arbs (s : State) (w : HostWrite) : (s.post w).arbs = s.arbs := rfl
@[simp] theorem State.post_hif (s : State) (w : HostWrite) : (s.post w).hif = { s.hif with out := s.hif.out ++ [w] } := rfl
@[simp] theorem State.post_serve (s : State) (w : HostWrite) : (s.post w).serve = s.serve := rfl
@[simp] theorem State.post_lst (s : State) (w : HostWrite) : (s.post w).lst = s.lst := rfl
@[simp] theorem State.post_ctl (s : State) (w : HostWrite) : (s.post w).ctl = s.ctl := rfl
@[simp] theorem State.post_mem (s : State) (w : HostWrite) : (s.post w).mem = s.mem := rfl
@[simp] theorem State.post_sms (s : State) (w : HostWrite) : (s.post w).sms = s.sms := rfl
@[simp] theorem State.post_fab (s : State) (w : HostWrite) : (s.post w).fab = s.fab := rfl
@[simp] theorem State.post_lnk (s : State) (w : HostWrite) : (s.post w).lnk = s.lnk := rfl
@[simp] theorem State.post_ptm (s : State) (w : HostWrite) : (s.post w).ptm = s.ptm := rfl
@[simp] theorem State.post_pwr (s : State) (w : HostWrite) : (s.post w).pwr = s.pwr := rfl
@[simp] theorem State.post_mgt (s : State) (w : HostWrite) : (s.post w).mgt = s.mgt := rfl
@[simp] theorem State.post_free (s : State) (w : HostWrite) : (s.post w).free = s.free := rfl
@[simp] theorem State.post_rd (s : State) (w : HostWrite) (k : Fld) (i : Nat) : (s.post w).rd k i = s.rd k i := rfl
@[simp] theorem State.post_bit (s : State) (w : HostWrite) (k : Fld) (i : Nat) : (s.post w).bit k i = s.bit k i := rfl
@[simp] theorem State.post_now (s : State) (w : HostWrite) : (s.post w).now = s.now := rfl

@[simp] theorem State.setQueue_pending (s : State) (q : Nat) (v : QueueSt) : (s.setQueue q v).pending = s.pending := rfl
@[simp] theorem State.setQueue_regs (s : State) (q : Nat) (v : QueueSt) : (s.setQueue q v).regs = s.regs := rfl
@[simp] theorem State.setQueue_shadow (s : State) (q : Nat) (v : QueueSt) : (s.setQueue q v).shadow = s.shadow := rfl
@[simp] theorem State.setQueue_commits (s : State) (q : Nat) (v : QueueSt) : (s.setQueue q v).commits = s.commits := rfl
@[simp] theorem State.setQueue_time (s : State) (q : Nat) (v : QueueSt) : (s.setQueue q v).time = s.time := rfl
@[simp] theorem State.setQueue_arbs (s : State) (q : Nat) (v : QueueSt) : (s.setQueue q v).arbs = s.arbs := rfl
@[simp] theorem State.setQueue_hif (s : State) (q : Nat) (v : QueueSt) :
    (s.setQueue q v).hif = { s.hif with queues := SMap.put QueueSt.init s.hif.queues q v } := rfl
@[simp] theorem State.setQueue_serve (s : State) (q : Nat) (v : QueueSt) : (s.setQueue q v).serve = s.serve := rfl
@[simp] theorem State.setQueue_lst (s : State) (q : Nat) (v : QueueSt) : (s.setQueue q v).lst = s.lst := rfl
@[simp] theorem State.setQueue_ctl (s : State) (q : Nat) (v : QueueSt) : (s.setQueue q v).ctl = s.ctl := rfl
@[simp] theorem State.setQueue_mem (s : State) (q : Nat) (v : QueueSt) : (s.setQueue q v).mem = s.mem := rfl
@[simp] theorem State.setQueue_sms (s : State) (q : Nat) (v : QueueSt) : (s.setQueue q v).sms = s.sms := rfl
@[simp] theorem State.setQueue_fab (s : State) (q : Nat) (v : QueueSt) : (s.setQueue q v).fab = s.fab := rfl
@[simp] theorem State.setQueue_lnk (s : State) (q : Nat) (v : QueueSt) : (s.setQueue q v).lnk = s.lnk := rfl
@[simp] theorem State.setQueue_ptm (s : State) (q : Nat) (v : QueueSt) : (s.setQueue q v).ptm = s.ptm := rfl
@[simp] theorem State.setQueue_pwr (s : State) (q : Nat) (v : QueueSt) : (s.setQueue q v).pwr = s.pwr := rfl
@[simp] theorem State.setQueue_mgt (s : State) (q : Nat) (v : QueueSt) : (s.setQueue q v).mgt = s.mgt := rfl
@[simp] theorem State.setQueue_free (s : State) (q : Nat) (v : QueueSt) : (s.setQueue q v).free = s.free := rfl
@[simp] theorem State.setQueue_rd (s : State) (q : Nat) (v : QueueSt) (k : Fld) (i : Nat) :
    (s.setQueue q v).rd k i = s.rd k i := rfl
@[simp] theorem State.setQueue_bit (s : State) (q : Nat) (v : QueueSt) (k : Fld) (i : Nat) :
    (s.setQueue q v).bit k i = s.bit k i := rfl
@[simp] theorem State.setQueue_now (s : State) (q : Nat) (v : QueueSt) : (s.setQueue q v).now = s.now := rfl

@[simp] theorem State.setFn_pending (s : State) (f : Nat) (v : FnSt) : (s.setFn f v).pending = s.pending := rfl
@[simp] theorem State.setFn_regs (s : State) (f : Nat) (v : FnSt) : (s.setFn f v).regs = s.regs := rfl
@[simp] theorem State.setFn_shadow (s : State) (f : Nat) (v : FnSt) : (s.setFn f v).shadow = s.shadow := rfl
@[simp] theorem State.setFn_commits (s : State) (f : Nat) (v : FnSt) : (s.setFn f v).commits = s.commits := rfl
@[simp] theorem State.setFn_time (s : State) (f : Nat) (v : FnSt) : (s.setFn f v).time = s.time := rfl
@[simp] theorem State.setFn_arbs (s : State) (f : Nat) (v : FnSt) : (s.setFn f v).arbs = s.arbs := rfl
@[simp] theorem State.setFn_hif (s : State) (f : Nat) (v : FnSt) :
    (s.setFn f v).hif = { s.hif with fns := SMap.put FnSt.init s.hif.fns f v } := rfl
@[simp] theorem State.setFn_serve (s : State) (f : Nat) (v : FnSt) : (s.setFn f v).serve = s.serve := rfl
@[simp] theorem State.setFn_lst (s : State) (f : Nat) (v : FnSt) : (s.setFn f v).lst = s.lst := rfl
@[simp] theorem State.setFn_ctl (s : State) (f : Nat) (v : FnSt) : (s.setFn f v).ctl = s.ctl := rfl
@[simp] theorem State.setFn_mem (s : State) (f : Nat) (v : FnSt) : (s.setFn f v).mem = s.mem := rfl
@[simp] theorem State.setFn_sms (s : State) (f : Nat) (v : FnSt) : (s.setFn f v).sms = s.sms := rfl
@[simp] theorem State.setFn_fab (s : State) (f : Nat) (v : FnSt) : (s.setFn f v).fab = s.fab := rfl
@[simp] theorem State.setFn_lnk (s : State) (f : Nat) (v : FnSt) : (s.setFn f v).lnk = s.lnk := rfl
@[simp] theorem State.setFn_ptm (s : State) (f : Nat) (v : FnSt) : (s.setFn f v).ptm = s.ptm := rfl
@[simp] theorem State.setFn_pwr (s : State) (f : Nat) (v : FnSt) : (s.setFn f v).pwr = s.pwr := rfl
@[simp] theorem State.setFn_mgt (s : State) (f : Nat) (v : FnSt) : (s.setFn f v).mgt = s.mgt := rfl
@[simp] theorem State.setFn_free (s : State) (f : Nat) (v : FnSt) : (s.setFn f v).free = s.free := rfl
@[simp] theorem State.setFn_rd (s : State) (f : Nat) (v : FnSt) (k : Fld) (i : Nat) : (s.setFn f v).rd k i = s.rd k i := rfl
@[simp] theorem State.setFn_bit (s : State) (f : Nat) (v : FnSt) (k : Fld) (i : Nat) :
    (s.setFn f v).bit k i = s.bit k i := rfl
@[simp] theorem State.setFn_now (s : State) (f : Nat) (v : FnSt) : (s.setFn f v).now = s.now := rfl

@[simp] theorem State.setVec_pending (s : State) (f v : Nat) (m : MsixSt) : (s.setVec f v m).pending = s.pending := rfl
@[simp] theorem State.setVec_regs (s : State) (f v : Nat) (m : MsixSt) : (s.setVec f v m).regs = s.regs := rfl
@[simp] theorem State.setVec_shadow (s : State) (f v : Nat) (m : MsixSt) : (s.setVec f v m).shadow = s.shadow := rfl
@[simp] theorem State.setVec_commits (s : State) (f v : Nat) (m : MsixSt) : (s.setVec f v m).commits = s.commits := rfl
@[simp] theorem State.setVec_time (s : State) (f v : Nat) (m : MsixSt) : (s.setVec f v m).time = s.time := rfl
@[simp] theorem State.setVec_arbs (s : State) (f v : Nat) (m : MsixSt) : (s.setVec f v m).arbs = s.arbs := rfl
@[simp] theorem State.setVec_serve (s : State) (f v : Nat) (m : MsixSt) : (s.setVec f v m).serve = s.serve := rfl
@[simp] theorem State.setVec_lst (s : State) (f v : Nat) (m : MsixSt) : (s.setVec f v m).lst = s.lst := rfl
@[simp] theorem State.setVec_ctl (s : State) (f v : Nat) (m : MsixSt) : (s.setVec f v m).ctl = s.ctl := rfl
@[simp] theorem State.setVec_mem (s : State) (f v : Nat) (m : MsixSt) : (s.setVec f v m).mem = s.mem := rfl
@[simp] theorem State.setVec_sms (s : State) (f v : Nat) (m : MsixSt) : (s.setVec f v m).sms = s.sms := rfl
@[simp] theorem State.setVec_fab (s : State) (f v : Nat) (m : MsixSt) : (s.setVec f v m).fab = s.fab := rfl
@[simp] theorem State.setVec_lnk (s : State) (f v : Nat) (m : MsixSt) : (s.setVec f v m).lnk = s.lnk := rfl
@[simp] theorem State.setVec_ptm (s : State) (f v : Nat) (m : MsixSt) : (s.setVec f v m).ptm = s.ptm := rfl
@[simp] theorem State.setVec_pwr (s : State) (f v : Nat) (m : MsixSt) : (s.setVec f v m).pwr = s.pwr := rfl
@[simp] theorem State.setVec_mgt (s : State) (f v : Nat) (m : MsixSt) : (s.setVec f v m).mgt = s.mgt := rfl
@[simp] theorem State.setVec_free (s : State) (f v : Nat) (m : MsixSt) : (s.setVec f v m).free = s.free := rfl
@[simp] theorem State.setVec_rd (s : State) (f v : Nat) (m : MsixSt) (k : Fld) (i : Nat) :
    (s.setVec f v m).rd k i = s.rd k i := rfl
@[simp] theorem State.setVec_bit (s : State) (f v : Nat) (m : MsixSt) (k : Fld) (i : Nat) :
    (s.setVec f v m).bit k i = s.bit k i := rfl
@[simp] theorem State.setVec_now (s : State) (f v : Nat) (m : MsixSt) : (s.setVec f v m).now = s.now := rfl

@[simp] theorem State.setSessions_pending (s : State) (l : List Session) : (s.setSessions l).pending = s.pending := rfl
@[simp] theorem State.setSessions_regs (s : State) (l : List Session) : (s.setSessions l).regs = s.regs := rfl
@[simp] theorem State.setSessions_shadow (s : State) (l : List Session) : (s.setSessions l).shadow = s.shadow := rfl
@[simp] theorem State.setSessions_commits (s : State) (l : List Session) : (s.setSessions l).commits = s.commits := rfl
@[simp] theorem State.setSessions_time (s : State) (l : List Session) : (s.setSessions l).time = s.time := rfl
@[simp] theorem State.setSessions_arbs (s : State) (l : List Session) : (s.setSessions l).arbs = s.arbs := rfl
@[simp] theorem State.setSessions_hif (s : State) (l : List Session) : (s.setSessions l).hif = s.hif := rfl
@[simp] theorem State.setSessions_serve (s : State) (l : List Session) :
    (s.setSessions l).serve = { s.serve with sessions := l } := rfl
@[simp] theorem State.setSessions_lst (s : State) (l : List Session) : (s.setSessions l).lst = s.lst := rfl
@[simp] theorem State.setSessions_ctl (s : State) (l : List Session) : (s.setSessions l).ctl = s.ctl := rfl
@[simp] theorem State.setSessions_mem (s : State) (l : List Session) : (s.setSessions l).mem = s.mem := rfl
@[simp] theorem State.setSessions_sms (s : State) (l : List Session) : (s.setSessions l).sms = s.sms := rfl
@[simp] theorem State.setSessions_fab (s : State) (l : List Session) : (s.setSessions l).fab = s.fab := rfl
@[simp] theorem State.setSessions_lnk (s : State) (l : List Session) : (s.setSessions l).lnk = s.lnk := rfl
@[simp] theorem State.setSessions_ptm (s : State) (l : List Session) : (s.setSessions l).ptm = s.ptm := rfl
@[simp] theorem State.setSessions_pwr (s : State) (l : List Session) : (s.setSessions l).pwr = s.pwr := rfl
@[simp] theorem State.setSessions_mgt (s : State) (l : List Session) : (s.setSessions l).mgt = s.mgt := rfl
@[simp] theorem State.setSessions_free (s : State) (l : List Session) : (s.setSessions l).free = s.free := rfl
@[simp] theorem State.setSessions_rd (s : State) (l : List Session) (k : Fld) (i : Nat) :
    (s.setSessions l).rd k i = s.rd k i := rfl
@[simp] theorem State.setSessions_bit (s : State) (l : List Session) (k : Fld) (i : Nat) :
    (s.setSessions l).bit k i = s.bit k i := rfl
@[simp] theorem State.setSessions_now (s : State) (l : List Session) : (s.setSessions l).now = s.now := rfl

@[simp] theorem State.setSess_pending (s : State) (x : Session) : (s.setSess x).pending = s.pending := rfl
@[simp] theorem State.setSess_regs (s : State) (x : Session) : (s.setSess x).regs = s.regs := rfl
@[simp] theorem State.setSess_shadow (s : State) (x : Session) : (s.setSess x).shadow = s.shadow := rfl
@[simp] theorem State.setSess_commits (s : State) (x : Session) : (s.setSess x).commits = s.commits := rfl
@[simp] theorem State.setSess_time (s : State) (x : Session) : (s.setSess x).time = s.time := rfl
@[simp] theorem State.setSess_arbs (s : State) (x : Session) : (s.setSess x).arbs = s.arbs := rfl
@[simp] theorem State.setSess_hif (s : State) (x : Session) : (s.setSess x).hif = s.hif := rfl
@[simp] theorem State.setSess_lst (s : State) (x : Session) : (s.setSess x).lst = s.lst := rfl
@[simp] theorem State.setSess_ctl (s : State) (x : Session) : (s.setSess x).ctl = s.ctl := rfl
@[simp] theorem State.setSess_mem (s : State) (x : Session) : (s.setSess x).mem = s.mem := rfl
@[simp] theorem State.setSess_sms (s : State) (x : Session) : (s.setSess x).sms = s.sms := rfl
@[simp] theorem State.setSess_fab (s : State) (x : Session) : (s.setSess x).fab = s.fab := rfl
@[simp] theorem State.setSess_lnk (s : State) (x : Session) : (s.setSess x).lnk = s.lnk := rfl
@[simp] theorem State.setSess_ptm (s : State) (x : Session) : (s.setSess x).ptm = s.ptm := rfl
@[simp] theorem State.setSess_pwr (s : State) (x : Session) : (s.setSess x).pwr = s.pwr := rfl
@[simp] theorem State.setSess_mgt (s : State) (x : Session) : (s.setSess x).mgt = s.mgt := rfl
@[simp] theorem State.setSess_free (s : State) (x : Session) : (s.setSess x).free = s.free := rfl
@[simp] theorem State.setSess_rd (s : State) (x : Session) (k : Fld) (i : Nat) : (s.setSess x).rd k i = s.rd k i := rfl
@[simp] theorem State.setSess_bit (s : State) (x : Session) (k : Fld) (i : Nat) : (s.setSess x).bit k i = s.bit k i := rfl
@[simp] theorem State.setSess_now (s : State) (x : Session) : (s.setSess x).now = s.now := rfl

@[simp] theorem State.setLaunches_pending (s : State) (l : List Launch) : (s.setLaunches l).pending = s.pending := rfl
@[simp] theorem State.setLaunches_regs (s : State) (l : List Launch) : (s.setLaunches l).regs = s.regs := rfl
@[simp] theorem State.setLaunches_shadow (s : State) (l : List Launch) : (s.setLaunches l).shadow = s.shadow := rfl
@[simp] theorem State.setLaunches_commits (s : State) (l : List Launch) : (s.setLaunches l).commits = s.commits := rfl
@[simp] theorem State.setLaunches_time (s : State) (l : List Launch) : (s.setLaunches l).time = s.time := rfl
@[simp] theorem State.setLaunches_arbs (s : State) (l : List Launch) : (s.setLaunches l).arbs = s.arbs := rfl
@[simp] theorem State.setLaunches_hif (s : State) (l : List Launch) : (s.setLaunches l).hif = s.hif := rfl
@[simp] theorem State.setLaunches_serve (s : State) (l : List Launch) :
    (s.setLaunches l).serve = { s.serve with launches := l } := rfl
@[simp] theorem State.setLaunches_lst (s : State) (l : List Launch) : (s.setLaunches l).lst = s.lst := rfl
@[simp] theorem State.setLaunches_ctl (s : State) (l : List Launch) : (s.setLaunches l).ctl = s.ctl := rfl
@[simp] theorem State.setLaunches_mem (s : State) (l : List Launch) : (s.setLaunches l).mem = s.mem := rfl
@[simp] theorem State.setLaunches_sms (s : State) (l : List Launch) : (s.setLaunches l).sms = s.sms := rfl
@[simp] theorem State.setLaunches_fab (s : State) (l : List Launch) : (s.setLaunches l).fab = s.fab := rfl
@[simp] theorem State.setLaunches_lnk (s : State) (l : List Launch) : (s.setLaunches l).lnk = s.lnk := rfl
@[simp] theorem State.setLaunches_ptm (s : State) (l : List Launch) : (s.setLaunches l).ptm = s.ptm := rfl
@[simp] theorem State.setLaunches_pwr (s : State) (l : List Launch) : (s.setLaunches l).pwr = s.pwr := rfl
@[simp] theorem State.setLaunches_mgt (s : State) (l : List Launch) : (s.setLaunches l).mgt = s.mgt := rfl
@[simp] theorem State.setLaunches_free (s : State) (l : List Launch) : (s.setLaunches l).free = s.free := rfl
@[simp] theorem State.setLaunches_rd (s : State) (l : List Launch) (k : Fld) (i : Nat) :
    (s.setLaunches l).rd k i = s.rd k i := rfl
@[simp] theorem State.setLaunches_bit (s : State) (l : List Launch) (k : Fld) (i : Nat) :
    (s.setLaunches l).bit k i = s.bit k i := rfl
@[simp] theorem State.setLaunches_now (s : State) (l : List Launch) : (s.setLaunches l).now = s.now := rfl

@[simp] theorem State.setJob_pending (s : State) (j : Job) : (s.setJob j).pending = s.pending := rfl
@[simp] theorem State.setJob_regs (s : State) (j : Job) : (s.setJob j).regs = s.regs := rfl
@[simp] theorem State.setJob_shadow (s : State) (j : Job) : (s.setJob j).shadow = s.shadow := rfl
@[simp] theorem State.setJob_commits (s : State) (j : Job) : (s.setJob j).commits = s.commits := rfl
@[simp] theorem State.setJob_time (s : State) (j : Job) : (s.setJob j).time = s.time := rfl
@[simp] theorem State.setJob_arbs (s : State) (j : Job) : (s.setJob j).arbs = s.arbs := rfl
@[simp] theorem State.setJob_hif (s : State) (j : Job) : (s.setJob j).hif = s.hif := rfl
@[simp] theorem State.setJob_lst (s : State) (j : Job) : (s.setJob j).lst = s.lst := rfl
@[simp] theorem State.setJob_ctl (s : State) (j : Job) : (s.setJob j).ctl = s.ctl := rfl
@[simp] theorem State.setJob_mem (s : State) (j : Job) : (s.setJob j).mem = s.mem := rfl
@[simp] theorem State.setJob_sms (s : State) (j : Job) : (s.setJob j).sms = s.sms := rfl
@[simp] theorem State.setJob_fab (s : State) (j : Job) : (s.setJob j).fab = s.fab := rfl
@[simp] theorem State.setJob_lnk (s : State) (j : Job) : (s.setJob j).lnk = s.lnk := rfl
@[simp] theorem State.setJob_ptm (s : State) (j : Job) : (s.setJob j).ptm = s.ptm := rfl
@[simp] theorem State.setJob_pwr (s : State) (j : Job) : (s.setJob j).pwr = s.pwr := rfl
@[simp] theorem State.setJob_mgt (s : State) (j : Job) : (s.setJob j).mgt = s.mgt := rfl
@[simp] theorem State.setJob_free (s : State) (j : Job) : (s.setJob j).free = s.free := rfl
@[simp] theorem State.setJob_rd (s : State) (j : Job) (k : Fld) (i : Nat) : (s.setJob j).rd k i = s.rd k i := rfl
@[simp] theorem State.setJob_bit (s : State) (j : Job) (k : Fld) (i : Nat) : (s.setJob j).bit k i = s.bit k i := rfl
@[simp] theorem State.setJob_now (s : State) (j : Job) : (s.setJob j).now = s.now := rfl

@[simp] theorem State.setHealth_pending (s : State) (c : Nat) (h : Health) : (s.setHealth c h).pending = s.pending := rfl
@[simp] theorem State.setHealth_regs (s : State) (c : Nat) (h : Health) : (s.setHealth c h).regs = s.regs := rfl
@[simp] theorem State.setHealth_shadow (s : State) (c : Nat) (h : Health) : (s.setHealth c h).shadow = s.shadow := rfl
@[simp] theorem State.setHealth_commits (s : State) (c : Nat) (h : Health) : (s.setHealth c h).commits = s.commits := rfl
@[simp] theorem State.setHealth_time (s : State) (c : Nat) (h : Health) : (s.setHealth c h).time = s.time := rfl
@[simp] theorem State.setHealth_arbs (s : State) (c : Nat) (h : Health) : (s.setHealth c h).arbs = s.arbs := rfl
@[simp] theorem State.setHealth_hif (s : State) (c : Nat) (h : Health) : (s.setHealth c h).hif = s.hif := rfl
@[simp] theorem State.setHealth_serve (s : State) (c : Nat) (h : Health) : (s.setHealth c h).serve = s.serve := rfl
@[simp] theorem State.setHealth_lst (s : State) (c : Nat) (h : Health) : (s.setHealth c h).lst = s.lst := rfl
@[simp] theorem State.setHealth_ctl (s : State) (c : Nat) (h : Health) : (s.setHealth c h).ctl = s.ctl := rfl
@[simp] theorem State.setHealth_mem (s : State) (c : Nat) (h : Health) : (s.setHealth c h).mem = s.mem := rfl
@[simp] theorem State.setHealth_fab (s : State) (c : Nat) (h : Health) : (s.setHealth c h).fab = s.fab := rfl
@[simp] theorem State.setHealth_lnk (s : State) (c : Nat) (h : Health) : (s.setHealth c h).lnk = s.lnk := rfl
@[simp] theorem State.setHealth_ptm (s : State) (c : Nat) (h : Health) : (s.setHealth c h).ptm = s.ptm := rfl
@[simp] theorem State.setHealth_pwr (s : State) (c : Nat) (h : Health) : (s.setHealth c h).pwr = s.pwr := rfl
@[simp] theorem State.setHealth_mgt (s : State) (c : Nat) (h : Health) : (s.setHealth c h).mgt = s.mgt := rfl
@[simp] theorem State.setHealth_free (s : State) (c : Nat) (h : Health) : (s.setHealth c h).free = s.free := rfl
@[simp] theorem State.setHealth_rd (s : State) (c : Nat) (h : Health) (k : Fld) (i : Nat) :
    (s.setHealth c h).rd k i = s.rd k i := rfl
@[simp] theorem State.setHealth_bit (s : State) (c : Nat) (h : Health) (k : Fld) (i : Nat) :
    (s.setHealth c h).bit k i = s.bit k i := rfl
@[simp] theorem State.setHealth_now (s : State) (c : Nat) (h : Health) : (s.setHealth c h).now = s.now := rfl

@[simp] theorem State.setCore_pending (s : State) (n : Nat) (c : CoreCtl) : (s.setCore n c).pending = s.pending := rfl
@[simp] theorem State.setCore_regs (s : State) (n : Nat) (c : CoreCtl) : (s.setCore n c).regs = s.regs := rfl
@[simp] theorem State.setCore_shadow (s : State) (n : Nat) (c : CoreCtl) : (s.setCore n c).shadow = s.shadow := rfl
@[simp] theorem State.setCore_commits (s : State) (n : Nat) (c : CoreCtl) : (s.setCore n c).commits = s.commits := rfl
@[simp] theorem State.setCore_time (s : State) (n : Nat) (c : CoreCtl) : (s.setCore n c).time = s.time := rfl
@[simp] theorem State.setCore_arbs (s : State) (n : Nat) (c : CoreCtl) : (s.setCore n c).arbs = s.arbs := rfl
@[simp] theorem State.setCore_hif (s : State) (n : Nat) (c : CoreCtl) : (s.setCore n c).hif = s.hif := rfl
@[simp] theorem State.setCore_serve (s : State) (n : Nat) (c : CoreCtl) : (s.setCore n c).serve = s.serve := rfl
@[simp] theorem State.setCore_lst (s : State) (n : Nat) (c : CoreCtl) : (s.setCore n c).lst = s.lst := rfl
@[simp] theorem State.setCore_mem (s : State) (n : Nat) (c : CoreCtl) : (s.setCore n c).mem = s.mem := rfl
@[simp] theorem State.setCore_sms (s : State) (n : Nat) (c : CoreCtl) : (s.setCore n c).sms = s.sms := rfl
@[simp] theorem State.setCore_fab (s : State) (n : Nat) (c : CoreCtl) : (s.setCore n c).fab = s.fab := rfl
@[simp] theorem State.setCore_lnk (s : State) (n : Nat) (c : CoreCtl) : (s.setCore n c).lnk = s.lnk := rfl
@[simp] theorem State.setCore_ptm (s : State) (n : Nat) (c : CoreCtl) : (s.setCore n c).ptm = s.ptm := rfl
@[simp] theorem State.setCore_pwr (s : State) (n : Nat) (c : CoreCtl) : (s.setCore n c).pwr = s.pwr := rfl
@[simp] theorem State.setCore_mgt (s : State) (n : Nat) (c : CoreCtl) : (s.setCore n c).mgt = s.mgt := rfl
@[simp] theorem State.setCore_free (s : State) (n : Nat) (c : CoreCtl) : (s.setCore n c).free = s.free := rfl
@[simp] theorem State.setCore_rd (s : State) (n : Nat) (c : CoreCtl) (k : Fld) (i : Nat) :
    (s.setCore n c).rd k i = s.rd k i := rfl
@[simp] theorem State.setCore_bit (s : State) (n : Nat) (c : CoreCtl) (k : Fld) (i : Nat) :
    (s.setCore n c).bit k i = s.bit k i := rfl
@[simp] theorem State.setCore_now (s : State) (n : Nat) (c : CoreCtl) : (s.setCore n c).now = s.now := rfl

@[simp] theorem State.setEntry_pending (s : State) (a : Nat) (e : QEntry) : (s.setEntry a e).pending = s.pending := rfl
@[simp] theorem State.setEntry_regs (s : State) (a : Nat) (e : QEntry) : (s.setEntry a e).regs = s.regs := rfl
@[simp] theorem State.setEntry_shadow (s : State) (a : Nat) (e : QEntry) : (s.setEntry a e).shadow = s.shadow := rfl
@[simp] theorem State.setEntry_commits (s : State) (a : Nat) (e : QEntry) : (s.setEntry a e).commits = s.commits := rfl
@[simp] theorem State.setEntry_time (s : State) (a : Nat) (e : QEntry) : (s.setEntry a e).time = s.time := rfl
@[simp] theorem State.setEntry_arbs (s : State) (a : Nat) (e : QEntry) : (s.setEntry a e).arbs = s.arbs := rfl
@[simp] theorem State.setEntry_hif (s : State) (a : Nat) (e : QEntry) : (s.setEntry a e).hif = s.hif := rfl
@[simp] theorem State.setEntry_serve (s : State) (a : Nat) (e : QEntry) : (s.setEntry a e).serve = s.serve := rfl
@[simp] theorem State.setEntry_lst (s : State) (a : Nat) (e : QEntry) : (s.setEntry a e).lst = s.lst := rfl
@[simp] theorem State.setEntry_mem (s : State) (a : Nat) (e : QEntry) : (s.setEntry a e).mem = s.mem := rfl
@[simp] theorem State.setEntry_sms (s : State) (a : Nat) (e : QEntry) : (s.setEntry a e).sms = s.sms := rfl
@[simp] theorem State.setEntry_fab (s : State) (a : Nat) (e : QEntry) : (s.setEntry a e).fab = s.fab := rfl
@[simp] theorem State.setEntry_lnk (s : State) (a : Nat) (e : QEntry) : (s.setEntry a e).lnk = s.lnk := rfl
@[simp] theorem State.setEntry_ptm (s : State) (a : Nat) (e : QEntry) : (s.setEntry a e).ptm = s.ptm := rfl
@[simp] theorem State.setEntry_pwr (s : State) (a : Nat) (e : QEntry) : (s.setEntry a e).pwr = s.pwr := rfl
@[simp] theorem State.setEntry_mgt (s : State) (a : Nat) (e : QEntry) : (s.setEntry a e).mgt = s.mgt := rfl
@[simp] theorem State.setEntry_free (s : State) (a : Nat) (e : QEntry) : (s.setEntry a e).free = s.free := rfl
@[simp] theorem State.setEntry_rd (s : State) (a : Nat) (e : QEntry) (k : Fld) (i : Nat) :
    (s.setEntry a e).rd k i = s.rd k i := rfl
@[simp] theorem State.setEntry_bit (s : State) (a : Nat) (e : QEntry) (k : Fld) (i : Nat) :
    (s.setEntry a e).bit k i = s.bit k i := rfl
@[simp] theorem State.setEntry_now (s : State) (a : Nat) (e : QEntry) : (s.setEntry a e).now = s.now := rfl

@[simp] theorem State.setMbox_pending (s : State) (a b : Nat) (m : Mbx) : (s.setMbox a b m).pending = s.pending := rfl
@[simp] theorem State.setMbox_regs (s : State) (a b : Nat) (m : Mbx) : (s.setMbox a b m).regs = s.regs := rfl
@[simp] theorem State.setMbox_shadow (s : State) (a b : Nat) (m : Mbx) : (s.setMbox a b m).shadow = s.shadow := rfl
@[simp] theorem State.setMbox_commits (s : State) (a b : Nat) (m : Mbx) : (s.setMbox a b m).commits = s.commits := rfl
@[simp] theorem State.setMbox_time (s : State) (a b : Nat) (m : Mbx) : (s.setMbox a b m).time = s.time := rfl
@[simp] theorem State.setMbox_arbs (s : State) (a b : Nat) (m : Mbx) : (s.setMbox a b m).arbs = s.arbs := rfl
@[simp] theorem State.setMbox_hif (s : State) (a b : Nat) (m : Mbx) : (s.setMbox a b m).hif = s.hif := rfl
@[simp] theorem State.setMbox_serve (s : State) (a b : Nat) (m : Mbx) : (s.setMbox a b m).serve = s.serve := rfl
@[simp] theorem State.setMbox_lst (s : State) (a b : Nat) (m : Mbx) : (s.setMbox a b m).lst = s.lst := rfl
@[simp] theorem State.setMbox_mem (s : State) (a b : Nat) (m : Mbx) : (s.setMbox a b m).mem = s.mem := rfl
@[simp] theorem State.setMbox_sms (s : State) (a b : Nat) (m : Mbx) : (s.setMbox a b m).sms = s.sms := rfl
@[simp] theorem State.setMbox_fab (s : State) (a b : Nat) (m : Mbx) : (s.setMbox a b m).fab = s.fab := rfl
@[simp] theorem State.setMbox_lnk (s : State) (a b : Nat) (m : Mbx) : (s.setMbox a b m).lnk = s.lnk := rfl
@[simp] theorem State.setMbox_ptm (s : State) (a b : Nat) (m : Mbx) : (s.setMbox a b m).ptm = s.ptm := rfl
@[simp] theorem State.setMbox_pwr (s : State) (a b : Nat) (m : Mbx) : (s.setMbox a b m).pwr = s.pwr := rfl
@[simp] theorem State.setMbox_mgt (s : State) (a b : Nat) (m : Mbx) : (s.setMbox a b m).mgt = s.mgt := rfl
@[simp] theorem State.setMbox_free (s : State) (a b : Nat) (m : Mbx) : (s.setMbox a b m).free = s.free := rfl
@[simp] theorem State.setMbox_rd (s : State) (a b : Nat) (m : Mbx) (k : Fld) (i : Nat) :
    (s.setMbox a b m).rd k i = s.rd k i := rfl
@[simp] theorem State.setMbox_bit (s : State) (a b : Nat) (m : Mbx) (k : Fld) (i : Nat) :
    (s.setMbox a b m).bit k i = s.bit k i := rfl
@[simp] theorem State.setMbox_now (s : State) (a b : Nat) (m : Mbx) : (s.setMbox a b m).now = s.now := rfl

@[simp] theorem State.setBank_pending (s : State) (core cluster b : Nat) (v : Vector) :
    (s.setBank core cluster b v).pending = s.pending := rfl
@[simp] theorem State.setBank_regs (s : State) (core cluster b : Nat) (v : Vector) :
    (s.setBank core cluster b v).regs = s.regs := rfl
@[simp] theorem State.setBank_shadow (s : State) (core cluster b : Nat) (v : Vector) :
    (s.setBank core cluster b v).shadow = s.shadow := rfl
@[simp] theorem State.setBank_commits (s : State) (core cluster b : Nat) (v : Vector) :
    (s.setBank core cluster b v).commits = s.commits := rfl
@[simp] theorem State.setBank_time (s : State) (core cluster b : Nat) (v : Vector) :
    (s.setBank core cluster b v).time = s.time := rfl
@[simp] theorem State.setBank_arbs (s : State) (core cluster b : Nat) (v : Vector) :
    (s.setBank core cluster b v).arbs = s.arbs := rfl
@[simp] theorem State.setBank_hif (s : State) (core cluster b : Nat) (v : Vector) :
    (s.setBank core cluster b v).hif = s.hif := rfl
@[simp] theorem State.setBank_serve (s : State) (core cluster b : Nat) (v : Vector) :
    (s.setBank core cluster b v).serve = s.serve := rfl
@[simp] theorem State.setBank_lst (s : State) (core cluster b : Nat) (v : Vector) :
    (s.setBank core cluster b v).lst = s.lst := rfl
@[simp] theorem State.setBank_ctl (s : State) (core cluster b : Nat) (v : Vector) :
    (s.setBank core cluster b v).ctl = s.ctl := rfl
@[simp] theorem State.setBank_mem (s : State) (core cluster b : Nat) (v : Vector) :
    (s.setBank core cluster b v).mem = s.mem := rfl
@[simp] theorem State.setBank_sms (s : State) (core cluster b : Nat) (v : Vector) :
    (s.setBank core cluster b v).sms = s.sms := rfl
@[simp] theorem State.setBank_lnk (s : State) (core cluster b : Nat) (v : Vector) :
    (s.setBank core cluster b v).lnk = s.lnk := rfl
@[simp] theorem State.setBank_ptm (s : State) (core cluster b : Nat) (v : Vector) :
    (s.setBank core cluster b v).ptm = s.ptm := rfl
@[simp] theorem State.setBank_pwr (s : State) (core cluster b : Nat) (v : Vector) :
    (s.setBank core cluster b v).pwr = s.pwr := rfl
@[simp] theorem State.setBank_mgt (s : State) (core cluster b : Nat) (v : Vector) :
    (s.setBank core cluster b v).mgt = s.mgt := rfl
@[simp] theorem State.setBank_free (s : State) (core cluster b : Nat) (v : Vector) :
    (s.setBank core cluster b v).free = s.free := rfl
@[simp] theorem State.setBank_rd (s : State) (core cluster b : Nat) (v : Vector) (k : Fld) (i : Nat) :
    (s.setBank core cluster b v).rd k i = s.rd k i := rfl
@[simp] theorem State.setBank_bit (s : State) (core cluster b : Nat) (v : Vector) (k : Fld) (i : Nat) :
    (s.setBank core cluster b v).bit k i = s.bit k i := rfl
@[simp] theorem State.setBank_now (s : State) (core cluster b : Nat) (v : Vector) :
    (s.setBank core cluster b v).now = s.now := rfl

@[simp] theorem State.setBuf_pending (s : State) (core n : Nat) (b : VecBuf) : (s.setBuf core n b).pending = s.pending := rfl
@[simp] theorem State.setBuf_regs (s : State) (core n : Nat) (b : VecBuf) : (s.setBuf core n b).regs = s.regs := rfl
@[simp] theorem State.setBuf_shadow (s : State) (core n : Nat) (b : VecBuf) : (s.setBuf core n b).shadow = s.shadow := rfl
@[simp] theorem State.setBuf_commits (s : State) (core n : Nat) (b : VecBuf) : (s.setBuf core n b).commits = s.commits := rfl
@[simp] theorem State.setBuf_time (s : State) (core n : Nat) (b : VecBuf) : (s.setBuf core n b).time = s.time := rfl
@[simp] theorem State.setBuf_arbs (s : State) (core n : Nat) (b : VecBuf) : (s.setBuf core n b).arbs = s.arbs := rfl
@[simp] theorem State.setBuf_hif (s : State) (core n : Nat) (b : VecBuf) : (s.setBuf core n b).hif = s.hif := rfl
@[simp] theorem State.setBuf_serve (s : State) (core n : Nat) (b : VecBuf) : (s.setBuf core n b).serve = s.serve := rfl
@[simp] theorem State.setBuf_lst (s : State) (core n : Nat) (b : VecBuf) : (s.setBuf core n b).lst = s.lst := rfl
@[simp] theorem State.setBuf_ctl (s : State) (core n : Nat) (b : VecBuf) : (s.setBuf core n b).ctl = s.ctl := rfl
@[simp] theorem State.setBuf_mem (s : State) (core n : Nat) (b : VecBuf) : (s.setBuf core n b).mem = s.mem := rfl
@[simp] theorem State.setBuf_sms (s : State) (core n : Nat) (b : VecBuf) : (s.setBuf core n b).sms = s.sms := rfl
@[simp] theorem State.setBuf_lnk (s : State) (core n : Nat) (b : VecBuf) : (s.setBuf core n b).lnk = s.lnk := rfl
@[simp] theorem State.setBuf_ptm (s : State) (core n : Nat) (b : VecBuf) : (s.setBuf core n b).ptm = s.ptm := rfl
@[simp] theorem State.setBuf_pwr (s : State) (core n : Nat) (b : VecBuf) : (s.setBuf core n b).pwr = s.pwr := rfl
@[simp] theorem State.setBuf_mgt (s : State) (core n : Nat) (b : VecBuf) : (s.setBuf core n b).mgt = s.mgt := rfl
@[simp] theorem State.setBuf_free (s : State) (core n : Nat) (b : VecBuf) : (s.setBuf core n b).free = s.free := rfl
@[simp] theorem State.setBuf_rd (s : State) (core n : Nat) (b : VecBuf) (k : Fld) (i : Nat) :
    (s.setBuf core n b).rd k i = s.rd k i := rfl
@[simp] theorem State.setBuf_bit (s : State) (core n : Nat) (b : VecBuf) (k : Fld) (i : Nat) :
    (s.setBuf core n b).bit k i = s.bit k i := rfl
@[simp] theorem State.setBuf_now (s : State) (core n : Nat) (b : VecBuf) : (s.setBuf core n b).now = s.now := rfl

@[simp] theorem State.setTrk_pending (s : State) (p : Nat) (t : XbTrk) : (s.setTrk p t).pending = s.pending := rfl
@[simp] theorem State.setTrk_regs (s : State) (p : Nat) (t : XbTrk) : (s.setTrk p t).regs = s.regs := rfl
@[simp] theorem State.setTrk_shadow (s : State) (p : Nat) (t : XbTrk) : (s.setTrk p t).shadow = s.shadow := rfl
@[simp] theorem State.setTrk_commits (s : State) (p : Nat) (t : XbTrk) : (s.setTrk p t).commits = s.commits := rfl
@[simp] theorem State.setTrk_time (s : State) (p : Nat) (t : XbTrk) : (s.setTrk p t).time = s.time := rfl
@[simp] theorem State.setTrk_arbs (s : State) (p : Nat) (t : XbTrk) : (s.setTrk p t).arbs = s.arbs := rfl
@[simp] theorem State.setTrk_hif (s : State) (p : Nat) (t : XbTrk) : (s.setTrk p t).hif = s.hif := rfl
@[simp] theorem State.setTrk_serve (s : State) (p : Nat) (t : XbTrk) : (s.setTrk p t).serve = s.serve := rfl
@[simp] theorem State.setTrk_lst (s : State) (p : Nat) (t : XbTrk) : (s.setTrk p t).lst = s.lst := rfl
@[simp] theorem State.setTrk_ctl (s : State) (p : Nat) (t : XbTrk) : (s.setTrk p t).ctl = s.ctl := rfl
@[simp] theorem State.setTrk_mem (s : State) (p : Nat) (t : XbTrk) : (s.setTrk p t).mem = s.mem := rfl
@[simp] theorem State.setTrk_sms (s : State) (p : Nat) (t : XbTrk) : (s.setTrk p t).sms = s.sms := rfl
@[simp] theorem State.setTrk_lnk (s : State) (p : Nat) (t : XbTrk) : (s.setTrk p t).lnk = s.lnk := rfl
@[simp] theorem State.setTrk_ptm (s : State) (p : Nat) (t : XbTrk) : (s.setTrk p t).ptm = s.ptm := rfl
@[simp] theorem State.setTrk_pwr (s : State) (p : Nat) (t : XbTrk) : (s.setTrk p t).pwr = s.pwr := rfl
@[simp] theorem State.setTrk_mgt (s : State) (p : Nat) (t : XbTrk) : (s.setTrk p t).mgt = s.mgt := rfl
@[simp] theorem State.setTrk_free (s : State) (p : Nat) (t : XbTrk) : (s.setTrk p t).free = s.free := rfl
@[simp] theorem State.setTrk_rd (s : State) (p : Nat) (t : XbTrk) (k : Fld) (i : Nat) :
    (s.setTrk p t).rd k i = s.rd k i := rfl
@[simp] theorem State.setTrk_bit (s : State) (p : Nat) (t : XbTrk) (k : Fld) (i : Nat) :
    (s.setTrk p t).bit k i = s.bit k i := rfl
@[simp] theorem State.setTrk_now (s : State) (p : Nat) (t : XbTrk) : (s.setTrk p t).now = s.now := rfl

@[simp] theorem State.setCorr_pending (s : State) (p : Nat) (c : XbCorr) : (s.setCorr p c).pending = s.pending := rfl
@[simp] theorem State.setCorr_regs (s : State) (p : Nat) (c : XbCorr) : (s.setCorr p c).regs = s.regs := rfl
@[simp] theorem State.setCorr_shadow (s : State) (p : Nat) (c : XbCorr) : (s.setCorr p c).shadow = s.shadow := rfl
@[simp] theorem State.setCorr_commits (s : State) (p : Nat) (c : XbCorr) : (s.setCorr p c).commits = s.commits := rfl
@[simp] theorem State.setCorr_time (s : State) (p : Nat) (c : XbCorr) : (s.setCorr p c).time = s.time := rfl
@[simp] theorem State.setCorr_arbs (s : State) (p : Nat) (c : XbCorr) : (s.setCorr p c).arbs = s.arbs := rfl
@[simp] theorem State.setCorr_hif (s : State) (p : Nat) (c : XbCorr) : (s.setCorr p c).hif = s.hif := rfl
@[simp] theorem State.setCorr_serve (s : State) (p : Nat) (c : XbCorr) : (s.setCorr p c).serve = s.serve := rfl
@[simp] theorem State.setCorr_lst (s : State) (p : Nat) (c : XbCorr) : (s.setCorr p c).lst = s.lst := rfl
@[simp] theorem State.setCorr_ctl (s : State) (p : Nat) (c : XbCorr) : (s.setCorr p c).ctl = s.ctl := rfl
@[simp] theorem State.setCorr_mem (s : State) (p : Nat) (c : XbCorr) : (s.setCorr p c).mem = s.mem := rfl
@[simp] theorem State.setCorr_sms (s : State) (p : Nat) (c : XbCorr) : (s.setCorr p c).sms = s.sms := rfl
@[simp] theorem State.setCorr_lnk (s : State) (p : Nat) (c : XbCorr) : (s.setCorr p c).lnk = s.lnk := rfl
@[simp] theorem State.setCorr_ptm (s : State) (p : Nat) (c : XbCorr) : (s.setCorr p c).ptm = s.ptm := rfl
@[simp] theorem State.setCorr_pwr (s : State) (p : Nat) (c : XbCorr) : (s.setCorr p c).pwr = s.pwr := rfl
@[simp] theorem State.setCorr_mgt (s : State) (p : Nat) (c : XbCorr) : (s.setCorr p c).mgt = s.mgt := rfl
@[simp] theorem State.setCorr_free (s : State) (p : Nat) (c : XbCorr) : (s.setCorr p c).free = s.free := rfl
@[simp] theorem State.setCorr_rd (s : State) (p : Nat) (c : XbCorr) (k : Fld) (i : Nat) :
    (s.setCorr p c).rd k i = s.rd k i := rfl
@[simp] theorem State.setCorr_bit (s : State) (p : Nat) (c : XbCorr) (k : Fld) (i : Nat) :
    (s.setCorr p c).bit k i = s.bit k i := rfl
@[simp] theorem State.setCorr_now (s : State) (p : Nat) (c : XbCorr) : (s.setCorr p c).now = s.now := rfl

@[simp] theorem State.setObj_pending (s : State) (n : Nat) (o : ObjSlot) : (s.setObj n o).pending = s.pending := rfl
@[simp] theorem State.setObj_regs (s : State) (n : Nat) (o : ObjSlot) : (s.setObj n o).regs = s.regs := rfl
@[simp] theorem State.setObj_shadow (s : State) (n : Nat) (o : ObjSlot) : (s.setObj n o).shadow = s.shadow := rfl
@[simp] theorem State.setObj_commits (s : State) (n : Nat) (o : ObjSlot) : (s.setObj n o).commits = s.commits := rfl
@[simp] theorem State.setObj_time (s : State) (n : Nat) (o : ObjSlot) : (s.setObj n o).time = s.time := rfl
@[simp] theorem State.setObj_arbs (s : State) (n : Nat) (o : ObjSlot) : (s.setObj n o).arbs = s.arbs := rfl
@[simp] theorem State.setObj_hif (s : State) (n : Nat) (o : ObjSlot) : (s.setObj n o).hif = s.hif := rfl
@[simp] theorem State.setObj_serve (s : State) (n : Nat) (o : ObjSlot) : (s.setObj n o).serve = s.serve := rfl
@[simp] theorem State.setObj_lst (s : State) (n : Nat) (o : ObjSlot) :
    (s.setObj n o).lst = { s.lst with slots := SMap.put ObjSlot.init s.lst.slots n o } := rfl
@[simp] theorem State.setObj_ctl (s : State) (n : Nat) (o : ObjSlot) : (s.setObj n o).ctl = s.ctl := rfl
@[simp] theorem State.setObj_mem (s : State) (n : Nat) (o : ObjSlot) : (s.setObj n o).mem = s.mem := rfl
@[simp] theorem State.setObj_sms (s : State) (n : Nat) (o : ObjSlot) : (s.setObj n o).sms = s.sms := rfl
@[simp] theorem State.setObj_fab (s : State) (n : Nat) (o : ObjSlot) : (s.setObj n o).fab = s.fab := rfl
@[simp] theorem State.setObj_lnk (s : State) (n : Nat) (o : ObjSlot) : (s.setObj n o).lnk = s.lnk := rfl
@[simp] theorem State.setObj_ptm (s : State) (n : Nat) (o : ObjSlot) : (s.setObj n o).ptm = s.ptm := rfl
@[simp] theorem State.setObj_pwr (s : State) (n : Nat) (o : ObjSlot) : (s.setObj n o).pwr = s.pwr := rfl
@[simp] theorem State.setObj_mgt (s : State) (n : Nat) (o : ObjSlot) : (s.setObj n o).mgt = s.mgt := rfl
@[simp] theorem State.setObj_free (s : State) (n : Nat) (o : ObjSlot) : (s.setObj n o).free = s.free := rfl
@[simp] theorem State.setObj_rd (s : State) (n : Nat) (o : ObjSlot) (k : Fld) (i : Nat) :
    (s.setObj n o).rd k i = s.rd k i := rfl
@[simp] theorem State.setObj_bit (s : State) (n : Nat) (o : ObjSlot) (k : Fld) (i : Nat) :
    (s.setObj n o).bit k i = s.bit k i := rfl
@[simp] theorem State.setObj_now (s : State) (n : Nat) (o : ObjSlot) : (s.setObj n o).now = s.now := rfl

@[simp] theorem State.setTport_pending (s : State) (p : Nat) (v : TorusPort) : (s.setTport p v).pending = s.pending := rfl
@[simp] theorem State.setTport_regs (s : State) (p : Nat) (v : TorusPort) : (s.setTport p v).regs = s.regs := rfl
@[simp] theorem State.setTport_shadow (s : State) (p : Nat) (v : TorusPort) : (s.setTport p v).shadow = s.shadow := rfl
@[simp] theorem State.setTport_commits (s : State) (p : Nat) (v : TorusPort) : (s.setTport p v).commits = s.commits := rfl
@[simp] theorem State.setTport_time (s : State) (p : Nat) (v : TorusPort) : (s.setTport p v).time = s.time := rfl
@[simp] theorem State.setTport_arbs (s : State) (p : Nat) (v : TorusPort) : (s.setTport p v).arbs = s.arbs := rfl
@[simp] theorem State.setTport_hif (s : State) (p : Nat) (v : TorusPort) : (s.setTport p v).hif = s.hif := rfl
@[simp] theorem State.setTport_serve (s : State) (p : Nat) (v : TorusPort) : (s.setTport p v).serve = s.serve := rfl
@[simp] theorem State.setTport_lst (s : State) (p : Nat) (v : TorusPort) : (s.setTport p v).lst = s.lst := rfl
@[simp] theorem State.setTport_ctl (s : State) (p : Nat) (v : TorusPort) : (s.setTport p v).ctl = s.ctl := rfl
@[simp] theorem State.setTport_mem (s : State) (p : Nat) (v : TorusPort) : (s.setTport p v).mem = s.mem := rfl
@[simp] theorem State.setTport_sms (s : State) (p : Nat) (v : TorusPort) : (s.setTport p v).sms = s.sms := rfl
@[simp] theorem State.setTport_fab (s : State) (p : Nat) (v : TorusPort) : (s.setTport p v).fab = s.fab := rfl
@[simp] theorem State.setTport_ptm (s : State) (p : Nat) (v : TorusPort) : (s.setTport p v).ptm = s.ptm := rfl
@[simp] theorem State.setTport_pwr (s : State) (p : Nat) (v : TorusPort) : (s.setTport p v).pwr = s.pwr := rfl
@[simp] theorem State.setTport_mgt (s : State) (p : Nat) (v : TorusPort) : (s.setTport p v).mgt = s.mgt := rfl
@[simp] theorem State.setTport_free (s : State) (p : Nat) (v : TorusPort) : (s.setTport p v).free = s.free := rfl
@[simp] theorem State.setTport_rd (s : State) (p : Nat) (v : TorusPort) (k : Fld) (i : Nat) :
    (s.setTport p v).rd k i = s.rd k i := rfl
@[simp] theorem State.setTport_bit (s : State) (p : Nat) (v : TorusPort) (k : Fld) (i : Nat) :
    (s.setTport p v).bit k i = s.bit k i := rfl
@[simp] theorem State.setTport_now (s : State) (p : Nat) (v : TorusPort) : (s.setTport p v).now = s.now := rfl

@[simp] theorem State.setSlot_pending (s : State) (n : Nat) (v : FwSlot) : (s.setSlot n v).pending = s.pending := rfl
@[simp] theorem State.setSlot_regs (s : State) (n : Nat) (v : FwSlot) : (s.setSlot n v).regs = s.regs := rfl
@[simp] theorem State.setSlot_shadow (s : State) (n : Nat) (v : FwSlot) : (s.setSlot n v).shadow = s.shadow := rfl
@[simp] theorem State.setSlot_commits (s : State) (n : Nat) (v : FwSlot) : (s.setSlot n v).commits = s.commits := rfl
@[simp] theorem State.setSlot_time (s : State) (n : Nat) (v : FwSlot) : (s.setSlot n v).time = s.time := rfl
@[simp] theorem State.setSlot_arbs (s : State) (n : Nat) (v : FwSlot) : (s.setSlot n v).arbs = s.arbs := rfl
@[simp] theorem State.setSlot_hif (s : State) (n : Nat) (v : FwSlot) : (s.setSlot n v).hif = s.hif := rfl
@[simp] theorem State.setSlot_serve (s : State) (n : Nat) (v : FwSlot) : (s.setSlot n v).serve = s.serve := rfl
@[simp] theorem State.setSlot_lst (s : State) (n : Nat) (v : FwSlot) : (s.setSlot n v).lst = s.lst := rfl
@[simp] theorem State.setSlot_ctl (s : State) (n : Nat) (v : FwSlot) : (s.setSlot n v).ctl = s.ctl := rfl
@[simp] theorem State.setSlot_mem (s : State) (n : Nat) (v : FwSlot) : (s.setSlot n v).mem = s.mem := rfl
@[simp] theorem State.setSlot_sms (s : State) (n : Nat) (v : FwSlot) : (s.setSlot n v).sms = s.sms := rfl
@[simp] theorem State.setSlot_fab (s : State) (n : Nat) (v : FwSlot) : (s.setSlot n v).fab = s.fab := rfl
@[simp] theorem State.setSlot_lnk (s : State) (n : Nat) (v : FwSlot) : (s.setSlot n v).lnk = s.lnk := rfl
@[simp] theorem State.setSlot_ptm (s : State) (n : Nat) (v : FwSlot) : (s.setSlot n v).ptm = s.ptm := rfl
@[simp] theorem State.setSlot_pwr (s : State) (n : Nat) (v : FwSlot) : (s.setSlot n v).pwr = s.pwr := rfl
@[simp] theorem State.setSlot_free (s : State) (n : Nat) (v : FwSlot) : (s.setSlot n v).free = s.free := rfl
@[simp] theorem State.setSlot_rd (s : State) (n : Nat) (v : FwSlot) (k : Fld) (i : Nat) :
    (s.setSlot n v).rd k i = s.rd k i := rfl
@[simp] theorem State.setSlot_bit (s : State) (n : Nat) (v : FwSlot) (k : Fld) (i : Nat) :
    (s.setSlot n v).bit k i = s.bit k i := rfl
@[simp] theorem State.setSlot_now (s : State) (n : Nat) (v : FwSlot) : (s.setSlot n v).now = s.now := rfl

@[simp] theorem State.setUpdate_pending (s : State) (u : Option UpdateSt) : (s.setUpdate u).pending = s.pending := rfl
@[simp] theorem State.setUpdate_regs (s : State) (u : Option UpdateSt) : (s.setUpdate u).regs = s.regs := rfl
@[simp] theorem State.setUpdate_shadow (s : State) (u : Option UpdateSt) : (s.setUpdate u).shadow = s.shadow := rfl
@[simp] theorem State.setUpdate_commits (s : State) (u : Option UpdateSt) : (s.setUpdate u).commits = s.commits := rfl
@[simp] theorem State.setUpdate_time (s : State) (u : Option UpdateSt) : (s.setUpdate u).time = s.time := rfl
@[simp] theorem State.setUpdate_arbs (s : State) (u : Option UpdateSt) : (s.setUpdate u).arbs = s.arbs := rfl
@[simp] theorem State.setUpdate_hif (s : State) (u : Option UpdateSt) : (s.setUpdate u).hif = s.hif := rfl
@[simp] theorem State.setUpdate_serve (s : State) (u : Option UpdateSt) : (s.setUpdate u).serve = s.serve := rfl
@[simp] theorem State.setUpdate_lst (s : State) (u : Option UpdateSt) : (s.setUpdate u).lst = s.lst := rfl
@[simp] theorem State.setUpdate_ctl (s : State) (u : Option UpdateSt) : (s.setUpdate u).ctl = s.ctl := rfl
@[simp] theorem State.setUpdate_mem (s : State) (u : Option UpdateSt) : (s.setUpdate u).mem = s.mem := rfl
@[simp] theorem State.setUpdate_sms (s : State) (u : Option UpdateSt) : (s.setUpdate u).sms = s.sms := rfl
@[simp] theorem State.setUpdate_fab (s : State) (u : Option UpdateSt) : (s.setUpdate u).fab = s.fab := rfl
@[simp] theorem State.setUpdate_lnk (s : State) (u : Option UpdateSt) : (s.setUpdate u).lnk = s.lnk := rfl
@[simp] theorem State.setUpdate_ptm (s : State) (u : Option UpdateSt) : (s.setUpdate u).ptm = s.ptm := rfl
@[simp] theorem State.setUpdate_pwr (s : State) (u : Option UpdateSt) : (s.setUpdate u).pwr = s.pwr := rfl
@[simp] theorem State.setUpdate_mgt (s : State) (u : Option UpdateSt) :
    (s.setUpdate u).mgt = { s.mgt with update := u } := rfl
@[simp] theorem State.setUpdate_free (s : State) (u : Option UpdateSt) : (s.setUpdate u).free = s.free := rfl
@[simp] theorem State.setUpdate_rd (s : State) (u : Option UpdateSt) (k : Fld) (i : Nat) :
    (s.setUpdate u).rd k i = s.rd k i := rfl
@[simp] theorem State.setUpdate_bit (s : State) (u : Option UpdateSt) (k : Fld) (i : Nat) :
    (s.setUpdate u).bit k i = s.bit k i := rfl
@[simp] theorem State.setUpdate_now (s : State) (u : Option UpdateSt) : (s.setUpdate u).now = s.now := rfl

@[simp] theorem State.setDiode_pending (s : State) (d : Nat) (x : DiodeSt) : (s.setDiode d x).pending = s.pending := rfl
@[simp] theorem State.setDiode_regs (s : State) (d : Nat) (x : DiodeSt) : (s.setDiode d x).regs = s.regs := rfl
@[simp] theorem State.setDiode_shadow (s : State) (d : Nat) (x : DiodeSt) : (s.setDiode d x).shadow = s.shadow := rfl
@[simp] theorem State.setDiode_commits (s : State) (d : Nat) (x : DiodeSt) : (s.setDiode d x).commits = s.commits := rfl
@[simp] theorem State.setDiode_time (s : State) (d : Nat) (x : DiodeSt) : (s.setDiode d x).time = s.time := rfl
@[simp] theorem State.setDiode_arbs (s : State) (d : Nat) (x : DiodeSt) : (s.setDiode d x).arbs = s.arbs := rfl
@[simp] theorem State.setDiode_hif (s : State) (d : Nat) (x : DiodeSt) : (s.setDiode d x).hif = s.hif := rfl
@[simp] theorem State.setDiode_serve (s : State) (d : Nat) (x : DiodeSt) : (s.setDiode d x).serve = s.serve := rfl
@[simp] theorem State.setDiode_lst (s : State) (d : Nat) (x : DiodeSt) : (s.setDiode d x).lst = s.lst := rfl
@[simp] theorem State.setDiode_ctl (s : State) (d : Nat) (x : DiodeSt) : (s.setDiode d x).ctl = s.ctl := rfl
@[simp] theorem State.setDiode_mem (s : State) (d : Nat) (x : DiodeSt) : (s.setDiode d x).mem = s.mem := rfl
@[simp] theorem State.setDiode_sms (s : State) (d : Nat) (x : DiodeSt) : (s.setDiode d x).sms = s.sms := rfl
@[simp] theorem State.setDiode_fab (s : State) (d : Nat) (x : DiodeSt) : (s.setDiode d x).fab = s.fab := rfl
@[simp] theorem State.setDiode_lnk (s : State) (d : Nat) (x : DiodeSt) : (s.setDiode d x).lnk = s.lnk := rfl
@[simp] theorem State.setDiode_pwr (s : State) (d : Nat) (x : DiodeSt) : (s.setDiode d x).pwr = s.pwr := rfl
@[simp] theorem State.setDiode_mgt (s : State) (d : Nat) (x : DiodeSt) : (s.setDiode d x).mgt = s.mgt := rfl
@[simp] theorem State.setDiode_free (s : State) (d : Nat) (x : DiodeSt) : (s.setDiode d x).free = s.free := rfl
@[simp] theorem State.setDiode_rd (s : State) (d : Nat) (x : DiodeSt) (k : Fld) (i : Nat) :
    (s.setDiode d x).rd k i = s.rd k i := rfl
@[simp] theorem State.setDiode_bit (s : State) (d : Nat) (x : DiodeSt) (k : Fld) (i : Nat) :
    (s.setDiode d x).bit k i = s.bit k i := rfl
@[simp] theorem State.setDiode_now (s : State) (d : Nat) (x : DiodeSt) : (s.setDiode d x).now = s.now := rfl

@[simp] theorem State.setGroup_pending (s : State) (g : Nat) (x : ThrottleGroup) :
    (s.setGroup g x).pending = s.pending := rfl
@[simp] theorem State.setGroup_regs (s : State) (g : Nat) (x : ThrottleGroup) : (s.setGroup g x).regs = s.regs := rfl
@[simp] theorem State.setGroup_shadow (s : State) (g : Nat) (x : ThrottleGroup) : (s.setGroup g x).shadow = s.shadow := rfl
@[simp] theorem State.setGroup_commits (s : State) (g : Nat) (x : ThrottleGroup) :
    (s.setGroup g x).commits = s.commits := rfl
@[simp] theorem State.setGroup_time (s : State) (g : Nat) (x : ThrottleGroup) : (s.setGroup g x).time = s.time := rfl
@[simp] theorem State.setGroup_arbs (s : State) (g : Nat) (x : ThrottleGroup) : (s.setGroup g x).arbs = s.arbs := rfl
@[simp] theorem State.setGroup_hif (s : State) (g : Nat) (x : ThrottleGroup) : (s.setGroup g x).hif = s.hif := rfl
@[simp] theorem State.setGroup_serve (s : State) (g : Nat) (x : ThrottleGroup) : (s.setGroup g x).serve = s.serve := rfl
@[simp] theorem State.setGroup_lst (s : State) (g : Nat) (x : ThrottleGroup) : (s.setGroup g x).lst = s.lst := rfl
@[simp] theorem State.setGroup_ctl (s : State) (g : Nat) (x : ThrottleGroup) : (s.setGroup g x).ctl = s.ctl := rfl
@[simp] theorem State.setGroup_mem (s : State) (g : Nat) (x : ThrottleGroup) : (s.setGroup g x).mem = s.mem := rfl
@[simp] theorem State.setGroup_sms (s : State) (g : Nat) (x : ThrottleGroup) : (s.setGroup g x).sms = s.sms := rfl
@[simp] theorem State.setGroup_fab (s : State) (g : Nat) (x : ThrottleGroup) : (s.setGroup g x).fab = s.fab := rfl
@[simp] theorem State.setGroup_lnk (s : State) (g : Nat) (x : ThrottleGroup) : (s.setGroup g x).lnk = s.lnk := rfl
@[simp] theorem State.setGroup_pwr (s : State) (g : Nat) (x : ThrottleGroup) : (s.setGroup g x).pwr = s.pwr := rfl
@[simp] theorem State.setGroup_mgt (s : State) (g : Nat) (x : ThrottleGroup) : (s.setGroup g x).mgt = s.mgt := rfl
@[simp] theorem State.setGroup_free (s : State) (g : Nat) (x : ThrottleGroup) : (s.setGroup g x).free = s.free := rfl
@[simp] theorem State.setGroup_rd (s : State) (g : Nat) (x : ThrottleGroup) (k : Fld) (i : Nat) :
    (s.setGroup g x).rd k i = s.rd k i := rfl
@[simp] theorem State.setGroup_bit (s : State) (g : Nat) (x : ThrottleGroup) (k : Fld) (i : Nat) :
    (s.setGroup g x).bit k i = s.bit k i := rfl
@[simp] theorem State.setGroup_now (s : State) (g : Nat) (x : ThrottleGroup) : (s.setGroup g x).now = s.now := rfl

end Sys2Proof.Machine
end

