-- ==== Sys2Proof/Laws/Frame.lean ====
section
/-! SUPPORT. Which areas of the state every operation leaves as they were.  `SameBut A u s` is carried through each shared
operation by one lemma, in the files Laws/Frame….lean. -/

set_option Elab.async false
set_option linter.all false

namespace Sys2Proof.Machine

theorem SameBut.refl (A : List Area) (u : State) : SameBut A u u := by constructor <;> intros <;> rfl

theorem SameBut.trans {A : List Area} {u s t : State} (h : SameBut A u s) (k : SameBut A s t) : SameBut A u t :=
  ⟨k.1.trans h.1, fun n => (k.regs n).trans (h.regs n), fun n => (k.shadow n).trans (h.shadow n), fun n => (k.commits n).trans (h.commits n), fun n => (k.now n).trans (h.now n),
    fun n => (k.time n).trans (h.time n), fun n => (k.arbs n).trans (h.arbs n), fun n => (k.hif n).trans (h.hif n), fun n => (k.serve n).trans (h.serve n), fun n => (k.lst n).trans (h.lst n),
    fun n => (k.ctl n).trans (h.ctl n), fun n => (k.mem n).trans (h.mem n), fun n => (k.sms n).trans (h.sms n), fun n => (k.fab n).trans (h.fab n),
    fun n => (k.lnk n).trans (h.lnk n), fun n => (k.ptm n).trans (h.ptm n), fun n => (k.pwr n).trans (h.pwr n),
    fun n => (k.mgt n).trans (h.mgt n), fun n => (k.free n).trans (h.free n)⟩

theorem SameBut.mono {A B : List Area} {u s : State} (h : SameBut A u s) (hAB : ∀ a ∈ A, a ∈ B) : SameBut B u s := by
  constructor <;> first | exact h.1 | (intro n; first
    | exact h.regs (fun m => n (hAB _ m))
    | exact h.shadow (fun m => n (hAB _ m))
    | exact h.commits (fun m => n (hAB _ m))
    | exact h.now (fun m => n (hAB _ m))
    | exact h.time (fun m => n (hAB _ m))
    | exact h.arbs (fun m => n (hAB _ m))
    | exact h.hif (fun m => n (hAB _ m))
    | exact h.serve (fun m => n (hAB _ m))
    | exact h.lst (fun m => n (hAB _ m))
    | exact h.ctl (fun m => n (hAB _ m))
    | exact h.mem (fun m => n (hAB _ m))
    | exact h.sms (fun m => n (hAB _ m))
    | exact h.fab (fun m => n (hAB _ m))
    | exact h.lnk (fun m => n (hAB _ m))
    | exact h.ptm (fun m => n (hAB _ m))
    | exact h.pwr (fun m => n (hAB _ m))
    | exact h.mgt (fun m => n (hAB _ m))
    | exact h.free (fun m => n (hAB _ m)))

theorem SameBut.set_regs {A : List Area} {u s : State} (h : SameBut A u s) (v : SMap Nat) (a : Area.regs ∈ A := by assumption) :
    SameBut A u ⟨s.pending, v, s.shadow, s.commits, s.time, s.arbs, s.hif, s.serve, s.lst, s.ctl, s.mem, s.sms, s.fab, s.lnk, s.ptm, s.pwr, s.mgt, s.free⟩ :=
  ⟨h.pending, fun n => absurd a n, h.shadow, h.commits, h.now, h.time, h.arbs, h.hif, h.serve, h.lst, h.ctl, h.mem, h.sms, h.fab, h.lnk, h.ptm, h.pwr, h.mgt, h.free⟩

theorem SameBut.set_shadow {A : List Area} {u s : State} (h : SameBut A u s) (v : List ShWrite) (a : Area.shadow ∈ A := by assumption) :
    SameBut A u ⟨s.pending, s.regs, v, s.commits, s.time, s.arbs, s.hif, s.serve, s.lst, s.ctl, s.mem, s.sms, s.fab, s.lnk, s.ptm, s.pwr, s.mgt, s.free⟩ :=
  ⟨h.pending, h.regs, fun n => absurd a n, h.commits, h.now, h.time, h.arbs, h.hif, h.serve, h.lst, h.ctl, h.mem, h.sms, h.fab, h.lnk, h.ptm, h.pwr, h.mgt, h.free⟩

theorem SameBut.set_commits {A : List Area} {u s : State} (h : SameBut A u s) (v : List (Nat × List ShWrite)) (a : Area.commits ∈ A := by assumption) :
    SameBut A u ⟨s.pending, s.regs, s.shadow, v, s.time, s.arbs, s.hif, s.serve, s.lst, s.ctl, s.mem, s.sms, s.fab, s.lnk, s.ptm, s.pwr, s.mgt, s.free⟩ :=
  ⟨h.pending, h.regs, h.shadow, fun n => absurd a n, h.now, h.time, h.arbs, h.hif, h.serve, h.lst, h.ctl, h.mem, h.sms, h.fab, h.lnk, h.ptm, h.pwr, h.mgt, h.free⟩

theorem SameBut.set_time {A : List Area} {u s : State} (h : SameBut A u s) (v : TimeSt) (a : Area.time ∈ A := by assumption) (b : Area.now ∈ A := by assumption) :
    SameBut A u ⟨s.pending, s.regs, s.shadow, s.commits, v, s.arbs, s.hif, s.serve, s.lst, s.ctl, s.mem, s.sms, s.fab, s.lnk, s.ptm, s.pwr, s.mgt, s.free⟩ :=
  ⟨h.pending, h.regs, h.shadow, h.commits, fun n => absurd b n, fun n => absurd a n, h.arbs, h.hif, h.serve, h.lst, h.ctl, h.mem, h.sms, h.fab, h.lnk, h.ptm, h.pwr, h.mgt, h.free⟩

theorem SameBut.set_arbs {A : List Area} {u s : State} (h : SameBut A u s) (v : SMap Arbiter) (a : Area.arbs ∈ A := by assumption) :
    SameBut A u ⟨s.pending, s.regs, s.shadow, s.commits, s.time, v, s.hif, s.serve, s.lst, s.ctl, s.mem, s.sms, s.fab, s.lnk, s.ptm, s.pwr, s.mgt, s.free⟩ :=
  ⟨h.pending, h.regs, h.shadow, h.commits, h.now, h.time, fun n => absurd a n, h.hif, h.serve, h.lst, h.ctl, h.mem, h.sms, h.fab, h.lnk, h.ptm, h.pwr, h.mgt, h.free⟩

theorem SameBut.set_hif {A : List Area} {u s : State} (h : SameBut A u s) (v : HifSt) (a : Area.hif ∈ A := by assumption) :
    SameBut A u ⟨s.pending, s.regs, s.shadow, s.commits, s.time, s.arbs, v, s.serve, s.lst, s.ctl, s.mem, s.sms, s.fab, s.lnk, s.ptm, s.pwr, s.mgt, s.free⟩ :=
  ⟨h.pending, h.regs, h.shadow, h.commits, h.now, h.time, h.arbs, fun n => absurd a n, h.serve, h.lst, h.ctl, h.mem, h.sms, h.fab, h.lnk, h.ptm, h.pwr, h.mgt, h.free⟩

theorem SameBut.set_serve {A : List Area} {u s : State} (h : SameBut A u s) (v : ServeSt) (a : Area.serve ∈ A := by assumption) :
    SameBut A u ⟨s.pending, s.regs, s.shadow, s.commits, s.time, s.arbs, s.hif, v, s.lst, s.ctl, s.mem, s.sms, s.fab, s.lnk, s.ptm, s.pwr, s.mgt, s.free⟩ :=
  ⟨h.pending, h.regs, h.shadow, h.commits, h.now, h.time, h.arbs, h.hif, fun n => absurd a n, h.lst, h.ctl, h.mem, h.sms, h.fab, h.lnk, h.ptm, h.pwr, h.mgt, h.free⟩

theorem SameBut.set_lst {A : List Area} {u s : State} (h : SameBut A u s) (v : LstSt) (a : Area.lst ∈ A := by assumption) :
    SameBut A u ⟨s.pending, s.regs, s.shadow, s.commits, s.time, s.arbs, s.hif, s.serve, v, s.ctl, s.mem, s.sms, s.fab, s.lnk, s.ptm, s.pwr, s.mgt, s.free⟩ :=
  ⟨h.pending, h.regs, h.shadow, h.commits, h.now, h.time, h.arbs, h.hif, h.serve, fun n => absurd a n, h.ctl, h.mem, h.sms, h.fab, h.lnk, h.ptm, h.pwr, h.mgt, h.free⟩

theorem SameBut.set_ctl {A : List Area} {u s : State} (h : SameBut A u s) (v : CtlSt) (a : Area.ctl ∈ A := by assumption) :
    SameBut A u ⟨s.pending, s.regs, s.shadow, s.commits, s.time, s.arbs, s.hif, s.serve, s.lst, v, s.mem, s.sms, s.fab, s.lnk, s.ptm, s.pwr, s.mgt, s.free⟩ :=
  ⟨h.pending, h.regs, h.shadow, h.commits, h.now, h.time, h.arbs, h.hif, h.serve, h.lst, fun n => absurd a n, h.mem, h.sms, h.fab, h.lnk, h.ptm, h.pwr, h.mgt, h.free⟩

theorem SameBut.set_mem {A : List Area} {u s : State} (h : SameBut A u s) (v : MemSt) (a : Area.mem ∈ A := by assumption) :
    SameBut A u ⟨s.pending, s.regs, s.shadow, s.commits, s.time, s.arbs, s.hif, s.serve, s.lst, s.ctl, v, s.sms, s.fab, s.lnk, s.ptm, s.pwr, s.mgt, s.free⟩ :=
  ⟨h.pending, h.regs, h.shadow, h.commits, h.now, h.time, h.arbs, h.hif, h.serve, h.lst, h.ctl, fun n => absurd a n, h.sms, h.fab, h.lnk, h.ptm, h.pwr, h.mgt, h.free⟩

theorem SameBut.set_sms {A : List Area} {u s : State} (h : SameBut A u s) (v : SmsSt) (a : Area.sms ∈ A := by assumption) :
    SameBut A u ⟨s.pending, s.regs, s.shadow, s.commits, s.time, s.arbs, s.hif, s.serve, s.lst, s.ctl, s.mem, v, s.fab, s.lnk, s.ptm, s.pwr, s.mgt, s.free⟩ :=
  ⟨h.pending, h.regs, h.shadow, h.commits, h.now, h.time, h.arbs, h.hif, h.serve, h.lst, h.ctl, h.mem, fun n => absurd a n, h.fab, h.lnk, h.ptm, h.pwr, h.mgt, h.free⟩

theorem SameBut.set_fab {A : List Area} {u s : State} (h : SameBut A u s) (v : FabSt) (a : Area.fab ∈ A := by assumption) :
    SameBut A u ⟨s.pending, s.regs, s.shadow, s.commits, s.time, s.arbs, s.hif, s.serve, s.lst, s.ctl, s.mem, s.sms, v, s.lnk, s.ptm, s.pwr, s.mgt, s.free⟩ :=
  ⟨h.pending, h.regs, h.shadow, h.commits, h.now, h.time, h.arbs, h.hif, h.serve, h.lst, h.ctl, h.mem, h.sms, fun n => absurd a n, h.lnk, h.ptm, h.pwr, h.mgt, h.free⟩

theorem SameBut.set_lnk {A : List Area} {u s : State} (h : SameBut A u s) (v : LnkSt) (a : Area.lnk ∈ A := by assumption) :
    SameBut A u ⟨s.pending, s.regs, s.shadow, s.commits, s.time, s.arbs, s.hif, s.serve, s.lst, s.ctl, s.mem, s.sms, s.fab, v, s.ptm, s.pwr, s.mgt, s.free⟩ :=
  ⟨h.pending, h.regs, h.shadow, h.commits, h.now, h.time, h.arbs, h.hif, h.serve, h.lst, h.ctl, h.mem, h.sms, h.fab, fun n => absurd a n, h.ptm, h.pwr, h.mgt, h.free⟩

theorem SameBut.set_ptm {A : List Area} {u s : State} (h : SameBut A u s) (v : PtmSt) (a : Area.ptm ∈ A := by assumption) :
    SameBut A u ⟨s.pending, s.regs, s.shadow, s.commits, s.time, s.arbs, s.hif, s.serve, s.lst, s.ctl, s.mem, s.sms, s.fab, s.lnk, v, s.pwr, s.mgt, s.free⟩ :=
  ⟨h.pending, h.regs, h.shadow, h.commits, h.now, h.time, h.arbs, h.hif, h.serve, h.lst, h.ctl, h.mem, h.sms, h.fab, h.lnk, fun n => absurd a n, h.pwr, h.mgt, h.free⟩

theorem SameBut.set_pwr {A : List Area} {u s : State} (h : SameBut A u s) (v : PwrSt) (a : Area.pwr ∈ A := by assumption) :
    SameBut A u ⟨s.pending, s.regs, s.shadow, s.commits, s.time, s.arbs, s.hif, s.serve, s.lst, s.ctl, s.mem, s.sms, s.fab, s.lnk, s.ptm, v, s.mgt, s.free⟩ :=
  ⟨h.pending, h.regs, h.shadow, h.commits, h.now, h.time, h.arbs, h.hif, h.serve, h.lst, h.ctl, h.mem, h.sms, h.fab, h.lnk, h.ptm, fun n => absurd a n, h.mgt, h.free⟩

theorem SameBut.set_mgt {A : List Area} {u s : State} (h : SameBut A u s) (v : MgtSt) (a : Area.mgt ∈ A := by assumption) :
    SameBut A u ⟨s.pending, s.regs, s.shadow, s.commits, s.time, s.arbs, s.hif, s.serve, s.lst, s.ctl, s.mem, s.sms, s.fab, s.lnk, s.ptm, s.pwr, v, s.free⟩ :=
  ⟨h.pending, h.regs, h.shadow, h.commits, h.now, h.time, h.arbs, h.hif, h.serve, h.lst, h.ctl, h.mem, h.sms, h.fab, h.lnk, h.ptm, h.pwr, fun n => absurd a n, h.free⟩

theorem SameBut.set_free {A : List Area} {u s : State} (h : SameBut A u s) (v : Nat) (a : Area.free ∈ A := by assumption) :
    SameBut A u ⟨s.pending, s.regs, s.shadow, s.commits, s.time, s.arbs, s.hif, s.serve, s.lst, s.ctl, s.mem, s.sms, s.fab, s.lnk, s.ptm, s.pwr, s.mgt, v⟩ :=
  ⟨h.pending, h.regs, h.shadow, h.commits, h.now, h.time, h.arbs, h.hif, h.serve, h.lst, h.ctl, h.mem, h.sms, h.fab, h.lnk, h.ptm, h.pwr, h.mgt, fun n => absurd a n⟩

theorem State.advance_same {A : List Area} {u s : State} (h : SameBut A u s) (t : Nat) (a : Area.now ∈ A := by assumption) :
    SameBut A u (s.advance t) :=
  ⟨h.pending, h.regs, h.shadow, h.commits, fun n => absurd a n, h.time, h.arbs, h.hif, h.serve, h.lst, h.ctl, h.mem, h.sms, h.fab, h.lnk, h.ptm, h.pwr, h.mgt, h.free⟩

/-- A fold stays within what each of its steps stays within. -/
theorem forEach_same {A : List Area} {α : Type} {u : State} (l : List α) (f : State → α → State)
    (hf : ∀ s x, SameBut A u s → SameBut A u (f s x)) : ∀ s, SameBut A u s → SameBut A u (forEach l s f) := by
  unfold forEach
  induction l with
  | nil => exact fun s h => h
  | cons a t ih => exact fun s h => ih _ (hf s a h)

theorem foldl_same {A : List Area} {α : Type} {u : State} (l : List α) (f : State → α → State)
    (hf : ∀ s x, SameBut A u s → SameBut A u (f s x)) : ∀ s, SameBut A u s → SameBut A u (l.foldl f s) := forEach_same l f hf

/-- A command stays within a list of areas: its next state does. -/
def SameO (A : List Area) (u : State) : Host.Outcome State Fault Refusal → Prop
  | .next t => SameBut A u t
  | .fault _ => True
  | .refused _ => True

theorem SameO.next {A : List Area} {u t : State} : SameO A u (.next t) ↔ SameBut A u t := Iff.rfl

end Sys2Proof.Machine
end

