-- ==== Sys2Proof/Laws/FrameServing.lean ====
section
/-! SUPPORT. The areas that each operation leaves as they were, in the order of the model's files, from Ops to Submit: one lemma an
operation, cited in place of its unfolding. -/

set_option Elab.async false
set_option linter.all false

namespace Sys2Proof.Machine

theorem State.wr_same {A : List Area} {u s : State} (h : SameBut A u s) (f : Fld) (v bank : Nat)
    (_ : .regs ∈ A := by assumption) :
    SameBut A u (s.wr f v bank) :=
  SameBut.set_regs h _

theorem State.count_same {A : List Area} {u s : State} (h : SameBut A u s) (a1 a2 a3) (_ : .regs ∈ A := by assumption) :
    SameBut A u (State.count s a1 a2 a3) := by
  unfold State.count
  grind [State.wr_same]

theorem State.setBit_same {A : List Area} {u s : State} (h : SameBut A u s) (a1 a2) (_ : .regs ∈ A := by assumption) :
    SameBut A u (State.setBit s a1 a2) := by
  unfold State.setBit
  grind [State.wr_same]

theorem State.wrBit_same {A : List Area} {u s : State} (h : SameBut A u s) (a1 a2 a3) (_ : .regs ∈ A := by assumption) :
    SameBut A u (State.wrBit s a1 a2 a3) := by
  unfold State.wrBit
  grind [State.wr_same]

theorem State.clearAll_same {A : List Area} {u s : State} (h : SameBut A u s) (l : List Fld) (bank : Nat)
    (_ : .regs ∈ A := by assumption) : SameBut A u (s.clearAll l bank) := by
  unfold State.clearAll
  exact foldl_same l _ (fun s f h => State.wr_same h f 0 bank) s h

theorem State.draw_same {A : List Area} {u s : State} (h : SameBut A u s) (_ : .free ∈ A := by assumption) :
    SameBut A u (State.draw s).2 := by
  unfold State.draw
  grind [SameBut.set_free]

theorem State.withTime_same {A : List Area} {u s : State} (h : SameBut A u s) (a1) (_ : .now ∈ A := by assumption)
    (_ : .time ∈ A := by assumption) :
    SameBut A u (State.withTime s a1) := by
  unfold State.withTime
  grind [SameBut.set_time]

theorem State.withHif_same {A : List Area} {u s : State} (h : SameBut A u s) (a1) (_ : .hif ∈ A := by assumption) :
    SameBut A u (State.withHif s a1) := by
  unfold State.withHif
  grind [SameBut.set_hif]

theorem State.withServe_same {A : List Area} {u s : State} (h : SameBut A u s) (a1) (_ : .serve ∈ A := by assumption) :
    SameBut A u (State.withServe s a1) := by
  unfold State.withServe
  grind [SameBut.set_serve]

theorem State.withLst_same {A : List Area} {u s : State} (h : SameBut A u s) (a1) (_ : .lst ∈ A := by assumption) :
    SameBut A u (State.withLst s a1) := by
  unfold State.withLst
  grind [SameBut.set_lst]

theorem State.withCtl_same {A : List Area} {u s : State} (h : SameBut A u s) (a1) (_ : .ctl ∈ A := by assumption) :
    SameBut A u (State.withCtl s a1) := by
  unfold State.withCtl
  grind [SameBut.set_ctl]

theorem State.withMem_same {A : List Area} {u s : State} (h : SameBut A u s) (m : MemSt)
    (_ : .mem ∈ A := by assumption) : SameBut A u (s.withMem m) :=
  SameBut.set_mem h m

theorem State.withFab_same {A : List Area} {u s : State} (h : SameBut A u s) (a1) (_ : .fab ∈ A := by assumption) :
    SameBut A u (State.withFab s a1) := by
  unfold State.withFab
  grind [SameBut.set_fab]

theorem State.withLnk_same {A : List Area} {u s : State} (h : SameBut A u s) (a1) (_ : .lnk ∈ A := by assumption) :
    SameBut A u (State.withLnk s a1) := by
  unfold State.withLnk
  grind [SameBut.set_lnk]

theorem State.withPtm_same {A : List Area} {u s : State} (h : SameBut A u s) (a1) (_ : .ptm ∈ A := by assumption) :
    SameBut A u (State.withPtm s a1) := by
  unfold State.withPtm
  grind [SameBut.set_ptm]

theorem State.withPwr_same {A : List Area} {u s : State} (h : SameBut A u s) (a1) (_ : .pwr ∈ A := by assumption) :
    SameBut A u (State.withPwr s a1) := by
  unfold State.withPwr
  grind [SameBut.set_pwr]

theorem State.withMgt_same {A : List Area} {u s : State} (h : SameBut A u s) (a1) (_ : .mgt ∈ A := by assumption) :
    SameBut A u (State.withMgt s a1) := by
  unfold State.withMgt
  grind [SameBut.set_mgt]

theorem State.when_same {A : List Area} {u s : State} (h : SameBut A u s) (a1 a2) (h2 : ∀ s, SameBut A u s → SameBut A u (a2 s)) :
    SameBut A u (State.when s a1 a2) := by
  unfold State.when
  grind

theorem State.writeByte_same {A : List Area} {u s : State} (h : SameBut A u s) (sp : Space) (a : Nat) (v : Byte)
    (_ : .mem ∈ A := by assumption) : SameBut A u (s.writeByte sp a v) := by
  unfold State.writeByte
  cases sp <;> exact State.withMem_same h _

theorem State.writeBytes_same {A : List Area} {u s : State} (h : SameBut A u s) (sp : Space) (a : Nat) (l : List Byte) (_ : .mem ∈ A := by assumption) :
    SameBut A u (s.writeBytes sp a l) := by
  induction l generalizing s a with
  | nil => exact h
  | cons b t ih => exact ih (State.writeByte_same h sp a b) (a + 1)

theorem State.withArbs_same {A : List Area} {u s : State} (h : SameBut A u s) (a1) (_ : .arbs ∈ A := by assumption) :
    SameBut A u (State.withArbs s a1) := by
  unfold State.withArbs
  grind [SameBut.set_arbs]

theorem State.setArb_same {A : List Area} {u s : State} (h : SameBut A u s) (a1 a2) (_ : .arbs ∈ A := by assumption) :
    SameBut A u (State.setArb s a1 a2) := by
  unfold State.setArb
  grind [State.withArbs_same]

theorem State.settleArbs_same {A : List Area} {u s : State} (h : SameBut A u s) (_ : .arbs ∈ A := by assumption) :
    SameBut A u (State.settleArbs s) := by
  unfold State.settleArbs
  grind [State.withArbs_same]

theorem State.renewArbs_same {A : List Area} {u s : State} (h : SameBut A u s) (_ : .arbs ∈ A := by assumption) :
    SameBut A u (State.renewArbs s) := by
  unfold State.renewArbs
  grind [State.withArbs_same]

theorem State.useArb_same {A : List Area} {u s : State} (h : SameBut A u s) (a1 a2) (_ : .arbs ∈ A := by assumption) :
    SameBut A u (State.useArb s a1 a2) := by
  unfold State.useArb
  grind [State.setArb_same]

theorem State.askAll_same {A : List Area} {u s : State} (h : SameBut A u s) (a1 a2 a3 a4 a5)
    (_ : .arbs ∈ A := by assumption) :
    SameBut A u (State.askAll s a1 a2 a3 a4 a5) := by
  unfold State.askAll
  grind [State.withArbs_same]

theorem State.useCst_same {A : List Area} {u s : State} (h : SameBut A u s) (a1 a2 a3 a4 a5)
    (_ : .arbs ∈ A := by assumption) :
    SameBut A u (State.useCst s a1 a2 a3 a4 a5) := by
  unfold State.useCst
  grind [State.askAll_same]

theorem State.stage_same {A : List Area} {u s : State} (h : SameBut A u s) (a1 a2 a3 a4) (_ : .arbs ∈ A := by assumption) :
    SameBut A u (State.stage s a1 a2 a3 a4) := by
  unfold State.stage
  grind [State.useCst_same]

theorem State.useTier_same {A : List Area} {u s : State} (h : SameBut A u s) (a1 a2 a3 a4 a5)
    (_ : .arbs ∈ A := by assumption) :
    SameBut A u (State.useTier s a1 a2 a3 a4 a5) := by
  unfold State.useTier
  grind [State.askAll_same]

theorem State.holdFn_same {A : List Area} {u s : State} (h : SameBut A u s) (a1 a2) (_ : .arbs ∈ A := by assumption) :
    SameBut A u (State.holdFn s a1 a2) := by
  unfold State.holdFn
  grind [State.withArbs_same]

theorem State.chargeTier_same {A : List Area} {u s : State} (h : SameBut A u s) (a1 a2 a3)
    (_ : .regs ∈ A := by assumption) (_ : .arbs ∈ A := by assumption) (_ : .mem ∈ A := by assumption) :
    SameBut A u (State.chargeTier s a1 a2 a3) := by
  unfold State.chargeTier
  grind [State.count_same, State.holdFn_same, State.when_same, State.withMem_same, State.when]

theorem State.setQueue_same {A : List Area} {u s : State} (h : SameBut A u s) (a1 a2) (_ : .hif ∈ A := by assumption) :
    SameBut A u (State.setQueue s a1 a2) := by
  unfold State.setQueue
  grind [SameBut.set_hif]

theorem State.setFn_same {A : List Area} {u s : State} (h : SameBut A u s) (a1 a2) (_ : .hif ∈ A := by assumption) :
    SameBut A u (State.setFn s a1 a2) := by
  unfold State.setFn
  grind [SameBut.set_hif]

theorem State.setVec_same {A : List Area} {u s : State} (h : SameBut A u s) (a1 a2 a3) (_ : .hif ∈ A := by assumption) :
    SameBut A u (State.setVec s a1 a2 a3) := by
  unfold State.setVec
  grind [SameBut.set_hif]

theorem State.hostMove_same {A : List Area} {u s : State} (h : SameBut A u s) (a1 a2 a3) (_ : .arbs ∈ A := by assumption) :
    SameBut A u (State.hostMove s a1 a2 a3) := by
  unfold State.hostMove
  grind [State.stage_same]

theorem State.post_same {A : List Area} {u s : State} (h : SameBut A u s) (a1) (_ : .hif ∈ A := by assumption) :
    SameBut A u (State.post s a1) := by
  unfold State.post
  grind [SameBut.set_hif]

theorem State.signal_same {A : List Area} {u s : State} (h : SameBut A u s) (a1 a2) (_ : .hif ∈ A := by assumption) :
    SameBut A u (State.signal s a1 a2) := by
  unfold State.signal
  grind [State.post_same, State.setVec_same]

theorem State.statusWrite_same {A : List Area} {u s : State} (h : SameBut A u s) (a1) (_ : .hif ∈ A := by assumption) :
    SameBut A u (State.statusWrite s a1) := by
  unfold State.statusWrite
  grind [State.post_same]

theorem State.ringSignal_same {A : List Area} {u s : State} (h : SameBut A u s) (a1 a2) (_ : .hif ∈ A := by assumption) :
    SameBut A u (State.ringSignal s a1 a2) := by
  unfold State.ringSignal
  grind [State.setQueue_same, State.signal_same]

theorem State.ringWrote_same {A : List Area} {u s : State} (h : SameBut A u s) (a1 a2) (_ : .hif ∈ A := by assumption) :
    SameBut A u (State.ringWrote s a1 a2) := by
  unfold State.ringWrote
  grind [State.ringSignal_same, State.setQueue_same, State.statusWrite_same]

theorem State.entryDone_same {A : List Area} {u s : State} (h : SameBut A u s) (a1 a2) (_ : .hif ∈ A := by assumption) :
    SameBut A u (State.entryDone s a1 a2) := by
  unfold State.entryDone
  grind [State.setQueue_same]

theorem State.writeCompletion_same {A : List Area} {u s : State} (h : SameBut A u s) (a1 a2)
    (_ : .hif ∈ A := by assumption) :
    SameBut A u (State.writeCompletion s a1 a2) := by
  unfold State.writeCompletion
  grind [State.post_same, State.ringWrote_same, State.setQueue_same]

theorem State.writeToken_same {A : List Area} {u s : State} (h : SameBut A u s) (a1 a2) (_ : .hif ∈ A := by assumption) :
    SameBut A u (State.writeToken s a1 a2) := by
  unfold State.writeToken
  grind [State.post_same, State.ringWrote_same, State.setQueue_same]

theorem State.runFences_same {A : List Area} {u s : State} (h : SameBut A u s) (q : Nat)
    (_ : .hif ∈ A := by assumption) : SameBut A u (s.runFences q) := by
  unfold State.runFences
  refine foldl_same _ _ (fun s e h => ?_) s h
  obtain ⟨a, b⟩ := e
  grind [State.setQueue_same, State.writeCompletion_same, State.entryDone_same]

theorem State.finishEntry_same {A : List Area} {u s : State} (h : SameBut A u s) (a1 a2 a3)
    (_ : .arbs ∈ A := by assumption) (_ : .hif ∈ A := by assumption) :
    SameBut A u (State.finishEntry s a1 a2 a3) := by
  unfold State.finishEntry
  grind [State.entryDone_same, State.hostMove_same, State.runFences_same, State.writeCompletion_same]

theorem State.complete_same {A : List Area} {u s : State} (h : SameBut A u s) (a1 a2 a3)
    (_ : .arbs ∈ A := by assumption) (_ : .hif ∈ A := by assumption) :
    SameBut A u (State.complete s a1 a2 a3) := by
  unfold State.complete
  grind [State.finishEntry_same, State.setQueue_same]

theorem State.putToken_same {A : List Area} {u s : State} (h : SameBut A u s) (a1 a2 a3)
    (_ : .arbs ∈ A := by assumption) (_ : .hif ∈ A := by assumption) :
    SameBut A u (State.putToken s a1 a2 a3) := by
  unfold State.putToken
  grind [State.hostMove_same, State.writeToken_same]

theorem State.releaseToken_same {A : List Area} {u s : State} (h : SameBut A u s) (a1 a2 a3)
    (_ : .regs ∈ A := by assumption) (_ : .arbs ∈ A := by assumption) (_ : .hif ∈ A := by assumption) :
    SameBut A u (State.releaseToken s a1 a2 a3) := by
  unfold State.releaseToken
  grind [State.count_same, State.putToken_same, State.setQueue_same]

theorem State.drainItems_same {A : List Area} {u s : State} (h : SameBut A u s) (q : Nat) (l kept : List RingItem)
    (_ : .arbs ∈ A := by assumption) (_ : .hif ∈ A := by assumption) :
    SameBut A u (s.drainItems q l kept).1 := by
  fun_induction State.drainItems s q l kept <;> grind [State.putToken_same, State.finishEntry_same]

theorem State.drainWaiting_same {A : List Area} {u s : State} (h : SameBut A u s) (a1)
    (_ : .arbs ∈ A := by assumption) (_ : .hif ∈ A := by assumption) :
    SameBut A u (State.drainWaiting s a1) := by
  unfold State.drainWaiting
  grind [State.drainItems_same, State.setQueue_same]

theorem State.eventSignal_same {A : List Area} {u s : State} (h : SameBut A u s) (a1 a2) (_ : .hif ∈ A := by assumption) :
    SameBut A u (State.eventSignal s a1 a2) := by
  unfold State.eventSignal
  grind [State.signal_same]

theorem State.pfEvent_same {A : List Area} {u s : State} (h : SameBut A u s) (a1) (_ : .hif ∈ A := by assumption) :
    SameBut A u (State.pfEvent s a1) := by
  unfold State.pfEvent
  grind [State.eventSignal_same]

theorem State.raise_same {A : List Area} {u s : State} (h : SameBut A u s) (a1 a2 a3)
    (_ : .regs ∈ A := by assumption) (_ : .hif ∈ A := by assumption) :
    SameBut A u (State.raise s a1 a2 a3) := by
  unfold State.raise
  grind [State.pfEvent_same, State.setBit_same, State.when_same, State.when]

theorem State.twsEvent_same {A : List Area} {u s : State} (h : SameBut A u s) (a1 a2)
    (_ : .regs ∈ A := by assumption) (_ : .hif ∈ A := by assumption) :
    SameBut A u (State.twsEvent s a1 a2) := by
  unfold State.twsEvent
  grind [State.raise_same]

theorem State.hifEvent_same {A : List Area} {u s : State} (h : SameBut A u s) (a1) (_ : .hif ∈ A := by assumption) :
    SameBut A u (State.hifEvent s a1) := by
  unfold State.hifEvent
  grind [State.eventSignal_same, State.pfEvent_same]

theorem State.mbxEvent_same {A : List Area} {u s : State} (h : SameBut A u s) (a1) (_ : .hif ∈ A := by assumption) :
    SameBut A u (State.mbxEvent s a1) := by
  unfold State.mbxEvent
  grind [State.eventSignal_same, State.pfEvent_same]

theorem State.setQuality_same {A : List Area} {u s : State} (h : SameBut A u s) (a1)
    (_ : .regs ∈ A := by assumption) (_ : .hif ∈ A := by assumption) :
    SameBut A u (State.setQuality s a1) := by
  unfold State.setQuality
  grind [State.twsEvent_same, State.wr_same]

theorem State.aer_same {A : List Area} {u s : State} (h : SameBut A u s) (a1 a2) (_ : .hif ∈ A := by assumption) :
    SameBut A u (State.aer s a1 a2) := by
  unfold State.aer
  grind [State.withHif_same]

theorem State.setSessions_same {A : List Area} {u s : State} (h : SameBut A u s) (a1) (_ : .serve ∈ A := by assumption) :
    SameBut A u (State.setSessions s a1) := by
  unfold State.setSessions
  grind [SameBut.set_serve]

theorem State.setSess_same {A : List Area} {u s : State} (h : SameBut A u s) (a1) (_ : .serve ∈ A := by assumption) :
    SameBut A u (State.setSess s a1) := by
  unfold State.setSess
  grind [State.setSessions_same]

theorem State.markPages_same {A : List Area} {u s : State} (h : SameBut A u s) (a1 a2 a3)
    (_ : .serve ∈ A := by assumption) :
    SameBut A u (State.markPages s a1 a2 a3) := by
  unfold State.markPages
  grind [SameBut.set_serve]

theorem State.takePage_same {A : List Area} {u s : State} (h : SameBut A u s) (a1)
    (_ : .serve ∈ A := by assumption) (_ : .free ∈ A := by assumption) :
    SameBut A u (State.takePage s a1).2 := by
  unfold State.takePage
  grind [State.draw_same, State.markPages_same]

theorem State.takePages_same {A : List Area} {u s : State} (h : SameBut A u s) (tierB : Bool) (n : Nat)
    (_ : .serve ∈ A := by assumption) (_ : .free ∈ A := by assumption) : SameBut A u (s.takePages tierB n).2 := by
  induction n generalizing s with
  | zero => exact h
  | succ n ih => unfold State.takePages; grind [State.takePage_same]

theorem State.freeColumn_same {A : List Area} {u s : State} (h : SameBut A u s) (a1) (_ : .serve ∈ A := by assumption) :
    SameBut A u (State.freeColumn s a1) := by
  unfold State.freeColumn
  grind [State.markPages_same]

theorem State.withTier_same {A : List Area} {u s : State} (h : SameBut A u s) (tierB : Bool) (l : List Host.Cell)
    (_ : .mem ∈ A := by assumption) : SameBut A u (s.withTier tierB l) :=
  State.withMem_same h _

theorem State.copyPage_same {A : List Area} {u s : State} (h : SameBut A u s) (fromB : Bool) (p : Nat) (toB : Bool) (q : Nat) (_ : .mem ∈ A := by assumption) :
    SameBut A u (s.copyPage fromB p toB q) :=
  State.withTier_same h _ _

theorem State.copyPages_same {A : List Area} {u s : State} (h : SameBut A u s) (a1 a2 a3 a4 a5)
    (_ : .regs ∈ A := by assumption) (_ : .arbs ∈ A := by assumption) (_ : .mem ∈ A := by assumption) :
    SameBut A u (State.copyPages s a1 a2 a3 a4 a5) := by
  unfold State.copyPages
  grind [State.chargeTier_same, State.copyPage_same, State.stage_same, State.useTier_same, forEach_same]

theorem State.writeTokens_same {A : List Area} {u s : State} (h : SameBut A u s) (x : Session) (i : Nat) (l : List Nat) (_ : .mem ∈ A := by assumption) :
    SameBut A u (s.writeTokens x i l) := by
  induction l generalizing s i with
  | nil => exact h
  | cons b t ih => exact ih (State.writeBytes_same h _ _ _) (i + 1)

theorem State.settleCopies_same {A : List Area} {u s : State} (h : SameBut A u s) (_ : .serve ∈ A := by assumption) :
    SameBut A u (State.settleCopies s) := by
  unfold State.settleCopies
  grind [State.withServe_same]

theorem State.useCopy_same {A : List Area} {u s : State} (h : SameBut A u s) (a1 a2) (_ : .serve ∈ A := by assumption) :
    SameBut A u (State.useCopy s a1 a2) := by
  unfold State.useCopy
  grind [State.withServe_same]

theorem State.chargeCst_same {A : List Area} {u s : State} (h : SameBut A u s) (a1 a2 a3) (_ : .ctl ∈ A := by assumption) :
    SameBut A u (State.chargeCst s a1 a2 a3) := by
  unfold State.chargeCst
  grind [SameBut.set_ctl]

theorem State.evictColumn_same {A : List Area} {u s : State} (h : SameBut A u s) (a1 a2)
    (_ : .regs ∈ A := by assumption) (_ : .serve ∈ A := by assumption) :
    SameBut A u (State.evictColumn s a1 a2) := by
  unfold State.evictColumn
  grind [State.count_same, State.freeColumn_same, State.setSess_same]

theorem State.demoteNow_same {A : List Area} {u s : State} (h : SameBut A u s) (a1 a2)
    (_ : .regs ∈ A := by assumption) (_ : .arbs ∈ A := by assumption) (_ : .serve ∈ A := by assumption)
    (_ : .mem ∈ A := by assumption) (_ : .free ∈ A := by assumption) :
    SameBut A u (State.demoteNow s a1 a2) := by
  unfold State.demoteNow
  grind [State.copyPages_same, State.count_same, State.markPages_same, State.setSess_same, State.takePages_same, State.useCopy_same]

theorem State.relieve_same {A : List Area} {u s : State} (h : SameBut A u s) (tierB : Bool) (only : Option Nat) (waiting : List Nat)
    (enough : State → Bool) (k : Nat) (_ : .regs ∈ A := by assumption) (_ : .arbs ∈ A := by assumption)
    (_ : .serve ∈ A := by assumption) (_ : .mem ∈ A := by assumption)
    (_ : .free ∈ A := by assumption) : SameBut A u (s.relieve tierB only waiting enough k) := by
  induction k generalizing s with
  | zero => exact h
  | succ k ih => unfold State.relieve; grind [State.demoteNow_same, State.evictColumn_same]

theorem State.makeRoom_same {A : List Area} {u s : State} (h : SameBut A u s) (a1 a2 a3 a4)
    (_ : .regs ∈ A := by assumption) (_ : .arbs ∈ A := by assumption) (_ : .serve ∈ A := by assumption)
    (_ : .mem ∈ A := by assumption) (_ : .free ∈ A := by assumption) :
    SameBut A u (State.makeRoom s a1 a2 a3 a4).2 := by
  unfold State.makeRoom
  grind [State.relieve_same]

theorem State.makeRoom2_same {A : List Area} {u s : State} (h : SameBut A u s) (a1 a2 a3 a4)
    (_ : .regs ∈ A := by assumption) (_ : .arbs ∈ A := by assumption) (_ : .serve ∈ A := by assumption)
    (_ : .mem ∈ A := by assumption) (_ : .free ∈ A := by assumption) :
    SameBut A u (State.makeRoom2 s a1 a2 a3 a4).2 := by
  unfold State.makeRoom2
  grind [State.makeRoom_same]

theorem State.placeExtents_same {A : List Area} {u s : State} (h : SameBut A u s) (busy : List (Nat × Nat)) (l : List Nat) (_ : .free ∈ A := by assumption) :
    SameBut A u (s.placeExtents busy l).2 := by
  induction l generalizing s busy with
  | nil => exact h
  | cons n t ih => unfold State.placeExtents; grind [State.draw_same]

theorem State.tableRoom_same {A : List Area} {u s : State} (h : SameBut A u s) (a1 a2 a3) (_ : .free ∈ A := by assumption) :
    SameBut A u (State.tableRoom s a1 a2 a3).2 := by
  unfold State.tableRoom
  grind [State.placeExtents_same]

theorem State.addColumns_same {A : List Area} {u s : State} (h : SameBut A u s) (a1 a2 a3 a4)
    (_ : .serve ∈ A := by assumption) (_ : .free ∈ A := by assumption) :
    SameBut A u (State.addColumns s a1 a2 a3 a4) := by
  unfold State.addColumns
  grind [State.setSess_same, State.takePages_same, forEach_same]

theorem State.allocStep_same {A : List Area} {u s : State} (h : SameBut A u s) (a1 a2 a3 a4 a5 a6)
    (_ : .regs ∈ A := by assumption) (_ : .arbs ∈ A := by assumption) (_ : .serve ∈ A := by assumption)
    (_ : .mem ∈ A := by assumption) (_ : .free ∈ A := by assumption) :
    SameBut A u (State.allocStep s a1 a2 a3 a4 a5 a6).2 := by
  unfold State.allocStep
  grind (splits := 40) (gen := 20) (ematch := 20) [State.addColumns_same, State.makeRoom2_same, State.setSess_same, State.tableRoom_same, State.takePages_same]

theorem State.freeColumns_same {A : List Area} {u s : State} (h : SameBut A u s) (a1 a2) (_ : .serve ∈ A := by assumption) :
    SameBut A u (State.freeColumns s a1 a2) := by
  unfold State.freeColumns
  grind [State.freeColumn_same, State.setSess_same, forEach_same]

theorem State.freeOld_same {A : List Area} {u s : State} (h : SameBut A u s) (a1) (_ : .serve ∈ A := by assumption) :
    SameBut A u (State.freeOld s a1) := by
  unfold State.freeOld
  grind [State.freeColumn_same, State.setSess_same, forEach_same]

theorem State.settle_same {A : List Area} {u s : State} (h : SameBut A u s) (a1) (_ : .regs ∈ A := by assumption)
    (_ : .serve ∈ A := by assumption) :
    SameBut A u (State.settle s a1) := by
  unfold State.settle
  grind [State.count_same, State.freeColumns_same, State.setSess_same]

theorem State.pruneJobs_same {A : List Area} {u s : State} (h : SameBut A u s) (_ : .serve ∈ A := by assumption) :
    SameBut A u (State.pruneJobs s) := by
  unfold State.pruneJobs
  grind [SameBut.set_serve]

theorem State.dropSession_same {A : List Area} {u s : State} (h : SameBut A u s) (a1) (_ : .serve ∈ A := by assumption) :
    SameBut A u (State.dropSession s a1) := by
  unfold State.dropSession
  grind (splits := 40) (gen := 20) (ematch := 20) [State.freeColumns_same, State.freeOld_same, State.markPages_same, State.pruneJobs_same, State.setSessions_same]

theorem State.smsEvent_same {A : List Area} {u s : State} (h : SameBut A u s) (a1) (_ : .regs ∈ A := by assumption)
    (_ : .hif ∈ A := by assumption) :
    SameBut A u (State.smsEvent s a1) := by
  unfold State.smsEvent
  grind [State.raise_same]

theorem State.ptmEvent_same {A : List Area} {u s : State} (h : SameBut A u s) (a1) (_ : .regs ∈ A := by assumption)
    (_ : .hif ∈ A := by assumption) :
    SameBut A u (State.ptmEvent s a1) := by
  unfold State.ptmEvent
  grind [State.raise_same]

theorem State.appendLog_same {A : List Area} {u s : State} (h : SameBut A u s) (a1) (_ : .sms ∈ A := by assumption) :
    SameBut A u (State.appendLog s a1) := by
  unfold State.appendLog
  grind [SameBut.set_sms]

theorem State.logEvent_same {A : List Area} {u s : State} (h : SameBut A u s) (a1) (_ : .regs ∈ A := by assumption)
    (_ : .hif ∈ A := by assumption) (_ : .sms ∈ A := by assumption) :
    SameBut A u (State.logEvent s a1) := by
  unfold State.logEvent
  grind [State.appendLog_same, State.count_same, State.smsEvent_same, SameBut.set_sms]

theorem State.mgtSend_same {A : List Area} {u s : State} (h : SameBut A u s) (a1) (_ : .mgt ∈ A := by assumption) :
    SameBut A u (State.mgtSend s a1) := by
  unfold State.mgtSend
  grind [State.withMgt_same]

theorem State.mgtEvent_same {A : List Area} {u s : State} (h : SameBut A u s) (a1 a2) (_ : .mgt ∈ A := by assumption) :
    SameBut A u (State.mgtEvent s a1 a2) := by
  unfold State.mgtEvent
  grind [State.mgtSend_same, State.when_same, State.withMgt_same, State.when]

theorem State.setJob_same {A : List Area} {u s : State} (h : SameBut A u s) (a1) (_ : .serve ∈ A := by assumption) :
    SameBut A u (State.setJob s a1) := by
  unfold State.setJob
  grind [SameBut.set_serve]

theorem State.setLaunches_same {A : List Area} {u s : State} (h : SameBut A u s) (a1) (_ : .serve ∈ A := by assumption) :
    SameBut A u (State.setLaunches s a1) := by
  unfold State.setLaunches
  grind [SameBut.set_serve]

theorem State.idleNow_same {A : List Area} {u s : State} (h : SameBut A u s) (a1) (_ : .serve ∈ A := by assumption) :
    SameBut A u (State.idleNow s a1) := by
  unfold State.idleNow
  grind [SameBut.set_serve]

theorem State.checkStores_same {A : List Area} {u s : State} (h : SameBut A u s) (_ : .ctl ∈ A := by assumption) :
    SameBut A u (State.checkStores s) := by
  unfold State.checkStores
  grind [State.withCtl_same]

theorem State.dropLaunch_same {A : List Area} {u s : State} (h : SameBut A u s) (a1)
    (_ : .serve ∈ A := by assumption) (_ : .ctl ∈ A := by assumption) (_ : .lnk ∈ A := by assumption) :
    SameBut A u (State.dropLaunch s a1) := by
  unfold State.dropLaunch
  grind [State.chargeCst_same, State.checkStores_same, State.idleNow_same, State.setLaunches_same, State.withLnk_same]

theorem State.setReq_same {A : List Area} {u s : State} (h : SameBut A u s) (a1 a2) (_ : .serve ∈ A := by assumption) :
    SameBut A u (State.setReq s a1 a2) := by
  unfold State.setReq
  grind [State.setSess_same]

theorem State.completeReq_same {A : List Area} {u s : State} (h : SameBut A u s) (a1 a2 a3 a4 a5)
    (_ : .arbs ∈ A := by assumption) (_ : .hif ∈ A := by assumption) (_ : .serve ∈ A := by assumption) :
    SameBut A u (State.completeReq s a1 a2 a3 a4 a5) := by
  unfold State.completeReq
  grind [State.complete_same, State.setSess_same]

theorem State.refuseReq_same {A : List Area} {u s : State} (h : SameBut A u s) (a1 a2 a3)
    (_ : .arbs ∈ A := by assumption) (_ : .hif ∈ A := by assumption) (_ : .serve ∈ A := by assumption) :
    SameBut A u (State.refuseReq s a1 a2 a3) := by
  unfold State.refuseReq
  grind [State.complete_same, State.setSess_same]

theorem State.dropHeld_same {A : List Area} {u s : State} (h : SameBut A u s) (a1) (_ : .serve ∈ A := by assumption) :
    SameBut A u (State.dropHeld s a1) := by
  unfold State.dropHeld
  grind [SameBut.set_serve]

theorem State.rollback_same {A : List Area} {u s : State} (h : SameBut A u s) (a1 a2 a3)
    (_ : .regs ∈ A := by assumption) (_ : .serve ∈ A := by assumption) :
    SameBut A u (State.rollback s a1 a2 a3) := by
  unfold State.rollback
  grind [State.freeColumns_same, State.setSess_same, State.settle_same]

theorem State.endReq_same {A : List Area} {u s : State} (h : SameBut A u s) (a1 a2 a3 a4 a5)
    (_ : .regs ∈ A := by assumption) (_ : .arbs ∈ A := by assumption) (_ : .hif ∈ A := by assumption)
    (_ : .serve ∈ A := by assumption) :
    SameBut A u (State.endReq s a1 a2 a3 a4 a5) := by
  unfold State.endReq
  grind [State.completeReq_same, State.dropHeld_same, State.rollback_same, State.setReq_same]

theorem State.endWhere_same {A : List Area} {u s : State} (h : SameBut A u s) (a1 a2 a3 a4)
    (_ : .regs ∈ A := by assumption) (_ : .arbs ∈ A := by assumption) (_ : .hif ∈ A := by assumption)
    (_ : .serve ∈ A := by assumption) :
    SameBut A u (State.endWhere s a1 a2 a3 a4) := by
  unfold State.endWhere
  grind [State.endReq_same, forEach_same]

theorem State.markFaulted_same {A : List Area} {u s : State} (h : SameBut A u s) (a1 a2) (_ : .serve ∈ A := by assumption) :
    SameBut A u (State.markFaulted s a1 a2) := by
  unfold State.markFaulted
  grind [State.setSessions_same]

theorem State.releaseOld_same {A : List Area} {u s : State} (h : SameBut A u s) (a1)
    (_ : .regs ∈ A := by assumption) (_ : .serve ∈ A := by assumption) :
    SameBut A u (State.releaseOld s a1) := by
  unfold State.releaseOld
  grind [State.count_same, State.freeOld_same]

theorem State.abortClones_same {A : List Area} {u s : State} (h : SameBut A u s) (a1 a2)
    (_ : .regs ∈ A := by assumption) (_ : .arbs ∈ A := by assumption) (_ : .hif ∈ A := by assumption)
    (_ : .serve ∈ A := by assumption) :
    SameBut A u (State.abortClones s a1 a2) := by
  unfold State.abortClones
  grind [State.complete_same, State.dropSession_same, State.releaseOld_same, State.setSess_same, forEach_same]

theorem State.endJobIdle_same {A : List Area} {u s : State} (h : SameBut A u s) (a1 a2 a3)
    (_ : .regs ∈ A := by assumption) (_ : .arbs ∈ A := by assumption) (_ : .hif ∈ A := by assumption)
    (_ : .serve ∈ A := by assumption) :
    SameBut A u (State.endJobIdle s a1 a2 a3) := by
  unfold State.endJobIdle
  grind [State.abortClones_same, State.endWhere_same, forEach_same]

theorem State.unplan_same {A : List Area} {u s : State} (h : SameBut A u s) (a1) (_ : .serve ∈ A := by assumption)
    (_ : .ctl ∈ A := by assumption) (_ : .lnk ∈ A := by assumption) :
    SameBut A u (State.unplan s a1) := by
  unfold State.unplan
  grind [State.dropLaunch_same, State.setSess_same, forEach_same]

theorem State.jobDown_same {A : List Area} {u s : State} (h : SameBut A u s) (a1 a2)
    (_ : .regs ∈ A := by assumption) (_ : .arbs ∈ A := by assumption) (_ : .hif ∈ A := by assumption)
    (_ : .serve ∈ A := by assumption) (_ : .ctl ∈ A := by assumption) (_ : .lnk ∈ A := by assumption) :
    SameBut A u (State.jobDown s a1 a2) := by
  unfold State.jobDown
  grind [State.count_same, State.endJobIdle_same, State.markFaulted_same, State.setJob_same, State.setLaunches_same, State.smsEvent_same, State.unplan_same]

theorem State.faultJob_same {A : List Area} {u s : State} (h : SameBut A u s) (a1 a2 a3 a4)
    (_ : .regs ∈ A := by assumption) (_ : .arbs ∈ A := by assumption) (_ : .hif ∈ A := by assumption)
    (_ : .serve ∈ A := by assumption) (_ : .ctl ∈ A := by assumption) (_ : .sms ∈ A := by assumption)
    (_ : .lnk ∈ A := by assumption) :
    SameBut A u (State.faultJob s a1 a2 a3 a4) := by
  unfold State.faultJob
  grind [State.jobDown_same, State.logEvent_same]

theorem State.faultCore_same {A : List Area} {u s : State} (h : SameBut A u s) (a1 a2 a3)
    (_ : .regs ∈ A := by assumption) (_ : .arbs ∈ A := by assumption) (_ : .hif ∈ A := by assumption)
    (_ : .serve ∈ A := by assumption) (_ : .ctl ∈ A := by assumption) (_ : .sms ∈ A := by assumption)
    (_ : .lnk ∈ A := by assumption) :
    SameBut A u (State.faultCore s a1 a2 a3) := by
  unfold State.faultCore
  grind [State.faultJob_same, State.logEvent_same]

theorem State.setHealth_same {A : List Area} {u s : State} (h : SameBut A u s) (a1 a2) (_ : .sms ∈ A := by assumption) :
    SameBut A u (State.setHealth s a1 a2) := by
  unfold State.setHealth
  grind [SameBut.set_sms]

theorem State.moduleFault_same {A : List Area} {u s : State} (h : SameBut A u s) (a1)
    (_ : .regs ∈ A := by assumption) (_ : .arbs ∈ A := by assumption) (_ : .hif ∈ A := by assumption)
    (_ : .serve ∈ A := by assumption) (_ : .ctl ∈ A := by assumption) (_ : .sms ∈ A := by assumption)
    (_ : .lnk ∈ A := by assumption) (_ : .mgt ∈ A := by assumption) :
    SameBut A u (State.moduleFault s a1) := by
  unfold State.moduleFault
  grind [State.faultJob_same, State.logEvent_same, State.mgtEvent_same, State.setBit_same, State.smsEvent_same, State.withCtl_same, forEach_same]

theorem State.markRetire_same {A : List Area} {u s : State} (h : SameBut A u s) (a1)
    (_ : .regs ∈ A := by assumption) (_ : .arbs ∈ A := by assumption) (_ : .hif ∈ A := by assumption)
    (_ : .serve ∈ A := by assumption) (_ : .ctl ∈ A := by assumption) (_ : .sms ∈ A := by assumption)
    (_ : .lnk ∈ A := by assumption) (_ : .mgt ∈ A := by assumption) :
    SameBut A u (State.markRetire s a1) := by
  unfold State.markRetire
  grind (splits := 40) (gen := 20) (ematch := 20) [State.count_same, State.logEvent_same, State.moduleFault_same, State.setHealth_same, State.smsEvent_same, SameBut.set_sms]

theorem State.suspect_same {A : List Area} {u s : State} (h : SameBut A u s) (a1 a2 a3)
    (_ : .regs ∈ A := by assumption) (_ : .arbs ∈ A := by assumption) (_ : .hif ∈ A := by assumption)
    (_ : .serve ∈ A := by assumption) (_ : .ctl ∈ A := by assumption) (_ : .sms ∈ A := by assumption)
    (_ : .lnk ∈ A := by assumption) (_ : .mgt ∈ A := by assumption) :
    SameBut A u (State.suspect s a1 a2 a3) := by
  unfold State.suspect
  grind [State.count_same, State.markRetire_same, State.setHealth_same, State.smsEvent_same]

theorem State.rampCore_same {A : List Area} {u s : State} (h : SameBut A u s) (a1 a2) (_ : .sms ∈ A := by assumption) :
    SameBut A u (State.rampCore s a1 a2) := by
  unfold State.rampCore
  grind [State.setHealth_same]

theorem State.applyMargins_same {A : List Area} {u s : State} (h : SameBut A u s) (_ : .regs ∈ A := by assumption)
    (_ : .hif ∈ A := by assumption) (_ : .sms ∈ A := by assumption) :
    SameBut A u (State.applyMargins s) := by
  unfold State.applyMargins
  grind [State.count_same, State.logEvent_same, State.rampCore_same, State.setHealth_same, State.smsEvent_same, forEach_same]

theorem State.newEntry_same {A : List Area} {u s : State} (h : SameBut A u s) (a1) (_ : .arbs ∈ A := by assumption)
    (_ : .hif ∈ A := by assumption) :
    SameBut A u (State.newEntry s a1).2 := by
  unfold State.newEntry
  grind [State.hostMove_same, State.setQueue_same, SameBut.set_hif]

theorem State.answer_same {A : List Area} {u s : State} (h : SameBut A u s) (a1 a2 a3 a4 a5 a6)
    (_ : .arbs ∈ A := by assumption) (_ : .hif ∈ A := by assumption) :
    SameBut A u (State.answer s a1 a2 a3 a4 a5 a6) := by
  unfold State.answer
  grind [State.complete_same]

theorem State.takeNumber_same {A : List Area} {u s : State} (h : SameBut A u s) (_ : .free ∈ A := by assumption) :
    SameBut A u (State.takeNumber s).2 := by
  unfold State.takeNumber
  grind [State.draw_same]

theorem State.moveFailed_same {A : List Area} {u s : State} (h : SameBut A u s) (a1 a2) (_ : .serve ∈ A := by assumption) :
    SameBut A u (State.moveFailed s a1 a2) := by
  unfold State.moveFailed
  grind [State.setSess_same]

theorem State.beginMove_same {A : List Area} {u s : State} (h : SameBut A u s) (a1 a2)
    (_ : .regs ∈ A := by assumption) (_ : .arbs ∈ A := by assumption) (_ : .serve ∈ A := by assumption)
    (_ : .mem ∈ A := by assumption) (_ : .free ∈ A := by assumption) :
    SameBut A u (State.beginMove s a1 a2) := by
  unfold State.beginMove
  grind [State.makeRoom2_same, State.moveFailed_same, State.setSess_same, State.takePages_same]

theorem State.startMove_same {A : List Area} {u s : State} (h : SameBut A u s) (num k : Nat)
    (_ : .regs ∈ A := by assumption) (_ : .arbs ∈ A := by assumption) (_ : .serve ∈ A := by assumption)
    (_ : .mem ∈ A := by assumption) (_ : .free ∈ A := by assumption) : SameBut A u (s.startMove num k) := by
  induction k generalizing s with
  | zero => exact h
  | succ k ih => unfold State.startMove; grind [State.beginMove_same]

theorem State.goMoves_same {A : List Area} {u s : State} (h : SameBut A u s) (a1) (_ : .regs ∈ A := by assumption)
    (_ : .arbs ∈ A := by assumption) (_ : .serve ∈ A := by assumption) (_ : .mem ∈ A := by assumption)
    (_ : .free ∈ A := by assumption) :
    SameBut A u (State.goMoves s a1) := by
  unfold State.goMoves
  grind [State.startMove_same]

theorem State.goOn_same {A : List Area} {u s : State} (h : SameBut A u s) (a1) (_ : .regs ∈ A := by assumption)
    (_ : .arbs ∈ A := by assumption) (_ : .serve ∈ A := by assumption) (_ : .mem ∈ A := by assumption)
    (_ : .free ∈ A := by assumption) :
    SameBut A u (State.goOn s a1) := by
  unfold State.goOn
  grind [State.count_same, State.goMoves_same, State.when_same, State.when]

theorem State.stopMoves_same {A : List Area} {u s : State} (h : SameBut A u s) (a1) (_ : .serve ∈ A := by assumption) :
    SameBut A u (State.stopMoves s a1) := by
  unfold State.stopMoves
  grind [State.markPages_same, State.setSess_same, forEach_same]

theorem State.acceptPause_same {A : List Area} {u s : State} (h : SameBut A u s) (a1 a2 a3)
    (_ : .regs ∈ A := by assumption) (_ : .arbs ∈ A := by assumption) (_ : .hif ∈ A := by assumption)
    (_ : .serve ∈ A := by assumption) (_ : .mem ∈ A := by assumption) (_ : .free ∈ A := by assumption) :
    SameBut A u (State.acceptPause s a1 a2 a3) := by
  unfold State.acceptPause
  grind [State.completeReq_same, State.goOn_same, State.refuseReq_same, State.setSess_same]

theorem State.acceptResume_same {A : List Area} {u s : State} (h : SameBut A u s) (a1 a2)
    (_ : .regs ∈ A := by assumption) (_ : .arbs ∈ A := by assumption) (_ : .hif ∈ A := by assumption)
    (_ : .serve ∈ A := by assumption) (_ : .mem ∈ A := by assumption) (_ : .free ∈ A := by assumption) :
    SameBut A u (State.acceptResume s a1 a2) := by
  unfold State.acceptResume
  grind [State.completeReq_same, State.goOn_same, State.setSess_same, State.stopMoves_same]

theorem State.copyColumns_same {A : List Area} {u s : State} (h : SameBut A u s) (fn : Nat) (l : List (Column × Nat)) (_ : .regs ∈ A := by assumption) (_ : .arbs ∈ A := by assumption) (_ : .serve ∈ A := by assumption) (_ : .mem ∈ A := by assumption) (_ : .free ∈ A := by assumption) :
    SameBut A u (s.copyColumns fn l).2 := by
  induction l generalizing s with
  | nil => exact h
  | cons c t ih =>
    obtain ⟨c, b⟩ := c
    unfold State.copyColumns
    exact ih (State.copyPages_same (State.takePages_same h _ _) _ _ _ _ _)

theorem State.cloneQuota_same {A : List Area} {u s : State} (h : SameBut A u s) (a1 a2)
    (_ : .regs ∈ A := by assumption) (_ : .arbs ∈ A := by assumption) (_ : .hif ∈ A := by assumption)
    (_ : .serve ∈ A := by assumption) :
    SameBut A u (State.cloneQuota s a1 a2) := by
  unfold State.cloneQuota
  grind [State.count_same, State.refuseReq_same]

theorem State.startClone_same {A : List Area} {u s : State} (h : SameBut A u s) (a1 a2 a3 a4 a5 a6 a7)
    (_ : .regs ∈ A := by assumption) (_ : .arbs ∈ A := by assumption) (_ : .serve ∈ A := by assumption)
    (_ : .mem ∈ A := by assumption) (_ : .free ∈ A := by assumption) :
    SameBut A u (State.startClone s a1 a2 a3 a4 a5 a6 a7) := by
  unfold State.startClone
  grind [State.copyColumns_same, State.copyPages_same, State.setSess_same, State.setSessions_same, State.takeNumber_same, State.takePages_same]

theorem State.acceptClone_same {A : List Area} {u s : State} (h : SameBut A u s) (a1 a2 a3 a4 a5)
    (_ : .regs ∈ A := by assumption) (_ : .arbs ∈ A := by assumption) (_ : .hif ∈ A := by assumption)
    (_ : .serve ∈ A := by assumption) (_ : .mem ∈ A := by assumption) (_ : .free ∈ A := by assumption) :
    SameBut A u (State.acceptClone s a1 a2 a3 a4 a5) := by
  unfold State.acceptClone
  grind [State.cloneQuota_same, State.makeRoom2_same, State.placeExtents_same, State.refuseReq_same, State.startClone_same]

theorem State.acceptHead_same {A : List Area} {u s : State} (h : SameBut A u s) (a1 a2)
    (_ : .regs ∈ A := by assumption) (_ : .arbs ∈ A := by assumption) (_ : .hif ∈ A := by assumption)
    (_ : .serve ∈ A := by assumption) (_ : .mem ∈ A := by assumption) (_ : .free ∈ A := by assumption) :
    SameBut A u (State.acceptHead s a1 a2) := by
  unfold State.acceptHead
  grind [State.acceptClone_same, State.acceptPause_same, State.acceptResume_same, State.completeReq_same, State.refuseReq_same, State.setReq_same]

theorem State.submitSession_same {A : List Area} {u s : State} (h : SameBut A u s) (a1 a2)
    (_ : .regs ∈ A := by assumption) (_ : .arbs ∈ A := by assumption) (_ : .hif ∈ A := by assumption)
    (_ : .serve ∈ A := by assumption) (_ : .mem ∈ A := by assumption) (_ : .free ∈ A := by assumption) :
    SameBut A u (State.submitSession s a1 a2) := by
  unfold State.submitSession
  grind [State.acceptHead_same, State.answer_same, State.newEntry_same, State.setSess_same]

theorem State.submitOpen_same {A : List Area} {u s : State} (h : SameBut A u s) (a1 a2 a3)
    (_ : .arbs ∈ A := by assumption) (_ : .hif ∈ A := by assumption) (_ : .serve ∈ A := by assumption)
    (_ : .free ∈ A := by assumption) :
    SameBut A u (State.submitOpen s a1 a2 a3) := by
  unfold State.submitOpen
  grind [State.answer_same, State.newEntry_same, State.setSessions_same, State.takeNumber_same, SameBut.set_serve]

theorem State.unplanReq_same {A : List Area} {u s : State} (h : SameBut A u s) (a1)
    (_ : .serve ∈ A := by assumption) (_ : .ctl ∈ A := by assumption) (_ : .lnk ∈ A := by assumption) :
    SameBut A u (State.unplanReq s a1) := by
  unfold State.unplanReq
  grind [State.dropLaunch_same, State.setLaunches_same, forEach_same]

end Sys2Proof.Machine
end

