-- ==== Sys2Proof/Laws/FramePath.lean ====
section
/-! SUPPORT. The areas that each operation leaves as they were, in the order of the model's files, from Submit to Loader: one lemma an
operation, cited in place of its unfolding. -/

set_option Elab.async false
set_option linter.all false

namespace Sys2Proof.Machine

theorem State.cancelReq_same {A : List Area} {u s : State} (h : SameBut A u s) (a1 a2 a3)
    (_ : .regs ∈ A := by assumption) (_ : .arbs ∈ A := by assumption) (_ : .hif ∈ A := by assumption)
    (_ : .serve ∈ A := by assumption) (_ : .ctl ∈ A := by assumption) (_ : .lnk ∈ A := by assumption) :
    SameBut A u (State.cancelReq s a1 a2 a3) := by
  unfold State.cancelReq
  grind [State.endReq_same, State.setReq_same, State.unplanReq_same]

theorem State.submitCancel_same {A : List Area} {u s : State} (h : SameBut A u s) (a1 a2)
    (_ : .regs ∈ A := by assumption) (_ : .arbs ∈ A := by assumption) (_ : .hif ∈ A := by assumption)
    (_ : .serve ∈ A := by assumption) (_ : .ctl ∈ A := by assumption) (_ : .lnk ∈ A := by assumption) :
    SameBut A u (State.submitCancel s a1 a2) := by
  unfold State.submitCancel
  grind [State.answer_same, State.cancelReq_same, State.newEntry_same]

theorem State.finishClose_same {A : List Area} {u s : State} (h : SameBut A u s) (a1)
    (_ : .arbs ∈ A := by assumption) (_ : .hif ∈ A := by assumption) (_ : .serve ∈ A := by assumption) :
    SameBut A u (State.finishClose s a1) := by
  unfold State.finishClose
  grind (splits := 40) (gen := 20) (ematch := 20) [State.complete_same, State.dropSession_same, State.freeColumns_same, State.freeOld_same, State.markPages_same, State.setSess_same]

theorem State.submitClose_same {A : List Area} {u s : State} (h : SameBut A u s) (a1)
    (_ : .regs ∈ A := by assumption) (_ : .arbs ∈ A := by assumption) (_ : .hif ∈ A := by assumption)
    (_ : .serve ∈ A := by assumption) (_ : .ctl ∈ A := by assumption) (_ : .lnk ∈ A := by assumption) :
    SameBut A u (State.submitClose s a1) := by
  unfold State.submitClose
  grind (splits := 40) (gen := 20) (ematch := 20) [State.abortClones_same, State.answer_same, State.cancelReq_same, State.completeReq_same, State.finishClose_same, State.newEntry_same, State.setSess_same, State.stopMoves_same, forEach_same]

theorem State.submitNop_same {A : List Area} {u s : State} (h : SameBut A u s) (a1)
    (_ : .arbs ∈ A := by assumption) (_ : .hif ∈ A := by assumption) :
    SameBut A u (State.submitNop s a1) := by
  unfold State.submitNop
  grind [State.answer_same, State.newEntry_same]

theorem State.submitFence_same {A : List Area} {u s : State} (h : SameBut A u s) (a1)
    (_ : .arbs ∈ A := by assumption) (_ : .hif ∈ A := by assumption) :
    SameBut A u (State.submitFence s a1) := by
  unfold State.submitFence
  grind [State.answer_same, State.newEntry_same, State.runFences_same, State.setQueue_same]

theorem State.submitUnknown_same {A : List Area} {u s : State} (h : SameBut A u s) (a1 a2)
    (_ : .arbs ∈ A := by assumption) (_ : .hif ∈ A := by assumption) :
    SameBut A u (State.submitUnknown s a1 a2) := by
  unfold State.submitUnknown
  grind [State.answer_same, State.newEntry_same]

theorem State.place_same {A : List Area} {u s : State} (h : SameBut A u s) (a1 a2 a3 a4 a5)
    (_ : .serve ∈ A := by assumption) (_ : .ctl ∈ A := by assumption) (_ : .lnk ∈ A := by assumption) :
    SameBut A u (State.place s a1 a2 a3 a4 a5) := by
  unfold State.place
  grind [State.chargeCst_same, State.setLaunches_same, State.setReq_same, State.withLnk_same, SameBut.set_serve]

theorem State.regenerate_same {A : List Area} {u s : State} (h : SameBut A u s) (a1 a2) (_ : .serve ∈ A := by assumption) :
    SameBut A u (State.regenerate s a1 a2) := by
  unfold State.regenerate
  grind [State.count_same, State.freeColumn_same, State.setSess_same, forEach_same]

theorem State.restore_same {A : List Area} {u s : State} (h : SameBut A u s) (a1) (_ : .serve ∈ A := by assumption) :
    SameBut A u (State.restore s a1) := by
  unfold State.restore
  grind [State.markPages_same, State.setSess_same, forEach_same]

theorem State.countRegen_same {A : List Area} {u s : State} (h : SameBut A u s) (a1 a2) (_ : .regs ∈ A := by assumption) :
    SameBut A u (State.countRegen s a1 a2) := by
  unfold State.countRegen
  grind [State.count_same]

theorem State.placeNext_same {A : List Area} {u s : State} (h : SameBut A u s) (a1 a2 a3 a4 a5)
    (_ : .regs ∈ A := by assumption) (_ : .arbs ∈ A := by assumption) (_ : .hif ∈ A := by assumption)
    (_ : .serve ∈ A := by assumption) (_ : .ctl ∈ A := by assumption) (_ : .mem ∈ A := by assumption)
    (_ : .lnk ∈ A := by assumption) (_ : .free ∈ A := by assumption) :
    SameBut A u (State.placeNext s a1 a2 a3 a4 a5) := by
  unfold State.placeNext
  grind (splits := 40) (gen := 20) (ematch := 20) [State.allocStep_same, State.countRegen_same, State.count_same, State.place_same, State.refuseReq_same, State.restore_same, State.setReq_same, State.setSess_same]

theorem State.admitOne_same {A : List Area} {u s : State} (h : SameBut A u s) (a1 a2 a3)
    (_ : .regs ∈ A := by assumption) (_ : .arbs ∈ A := by assumption) (_ : .hif ∈ A := by assumption)
    (_ : .serve ∈ A := by assumption) (_ : .ctl ∈ A := by assumption) (_ : .mem ∈ A := by assumption)
    (_ : .lnk ∈ A := by assumption) (_ : .free ∈ A := by assumption) :
    SameBut A u (State.admitOne s a1 a2 a3) := by
  unfold State.admitOne
  grind [State.aer_same, State.endReq_same, State.hostMove_same, State.placeNext_same, State.refuseReq_same, State.regenerate_same]

theorem State.emitToken_same {A : List Area} {u s : State} (h : SameBut A u s) (a1 a2 a3 a4 a5)
    (_ : .regs ∈ A := by assumption) (_ : .arbs ∈ A := by assumption) (_ : .hif ∈ A := by assumption)
    (_ : .serve ∈ A := by assumption) :
    SameBut A u (State.emitToken s a1 a2 a3 a4 a5) := by
  unfold State.emitToken
  grind [State.releaseToken_same, SameBut.set_serve]

theorem State.endStep_same {A : List Area} {u s : State} (h : SameBut A u s) (a1 a2 a3)
    (_ : .regs ∈ A := by assumption) (_ : .arbs ∈ A := by assumption) (_ : .hif ∈ A := by assumption)
    (_ : .serve ∈ A := by assumption) :
    SameBut A u (State.endStep s a1 a2 a3) := by
  unfold State.endStep
  grind [State.endReq_same]

theorem State.emitAll_same {A : List Area} {u s : State} (h : SameBut A u s) (x : Session) (o : GenerateOps) (final : Bool) (e : Nat)
    (r : Request) (l : List (Nat × Bool × Bool)) (_ : .regs ∈ A := by assumption) (_ : .arbs ∈ A := by assumption)
    (_ : .hif ∈ A := by assumption) (_ : .serve ∈ A := by assumption) : SameBut A u (s.emitAll x o final e r l).1 := by
  induction l generalizing s r with
  | nil => exact h
  | cons a t ih =>
    obtain ⟨b, c, d⟩ := a
    unfold State.emitAll
    grind [State.when, State.count_same, State.emitToken_same]

theorem State.endInternal_same {A : List Area} {u s : State} (h : SameBut A u s) (a1 a2)
    (_ : .regs ∈ A := by assumption) (_ : .arbs ∈ A := by assumption) (_ : .hif ∈ A := by assumption)
    (_ : .serve ∈ A := by assumption) (_ : .sms ∈ A := by assumption) :
    SameBut A u (State.endInternal s a1 a2) := by
  unfold State.endInternal
  grind [State.endReq_same, State.logEvent_same, State.settle_same]

theorem State.decodeDone_same {A : List Area} {u s : State} (h : SameBut A u s) (a1 a2 a3 a4)
    (_ : .regs ∈ A := by assumption) (_ : .arbs ∈ A := by assumption) (_ : .hif ∈ A := by assumption)
    (_ : .serve ∈ A := by assumption) (_ : .mem ∈ A := by assumption) :
    SameBut A u (State.decodeDone s a1 a2 a3 a4) := by
  unfold State.decodeDone
  grind [State.emitAll_same, State.endReq_same, State.setReq_same, State.setSess_same, State.settle_same, State.writeTokens_same]

theorem State.numericJob_same {A : List Area} {u s : State} (h : SameBut A u s) (a1)
    (_ : .serve ∈ A := by assumption) (_ : .ctl ∈ A := by assumption) (_ : .lnk ∈ A := by assumption) :
    SameBut A u (State.numericJob s a1) := by
  unfold State.numericJob
  grind [State.markFaulted_same, State.setJob_same, State.setLaunches_same, State.unplan_same]

theorem State.numericEnd_same {A : List Area} {u s : State} (h : SameBut A u s) (a1 a2)
    (_ : .regs ∈ A := by assumption) (_ : .arbs ∈ A := by assumption) (_ : .hif ∈ A := by assumption)
    (_ : .serve ∈ A := by assumption) :
    SameBut A u (State.numericEnd s a1 a2) := by
  unfold State.numericEnd
  grind [State.endReq_same, State.settle_same]

theorem State.stampStep_same {A : List Area} {u s : State} (h : SameBut A u s) (a1 a2) (_ : .serve ∈ A := by assumption) :
    SameBut A u (State.stampStep s a1 a2) := by
  unfold State.stampStep
  grind [State.setSess_same]

theorem State.carriedDone_same {A : List Area} {u s : State} (h : SameBut A u s) (a1)
    (_ : .regs ∈ A := by assumption) (_ : .serve ∈ A := by assumption) :
    SameBut A u (State.carriedDone s a1) := by
  unfold State.carriedDone
  grind [State.setSess_same, State.settle_same]

theorem State.stepEntry_same {A : List Area} {u s : State} (h : SameBut A u s) (a1 a2 a3 a4)
    (_ : .regs ∈ A := by assumption) (_ : .arbs ∈ A := by assumption) (_ : .hif ∈ A := by assumption)
    (_ : .serve ∈ A := by assumption) (_ : .mem ∈ A := by assumption) (_ : .sms ∈ A := by assumption) :
    SameBut A u (State.stepEntry s a1 a2 a3 a4) := by
  unfold State.stepEntry
  grind (splits := 40) (gen := 20) (ematch := 20) [State.carriedDone_same, State.decodeDone_same, State.endInternal_same, State.endStep_same, State.numericEnd_same, State.setReq_same, State.settle_same, State.stampStep_same]

theorem State.recomputeDone_same {A : List Area} {u s : State} (h : SameBut A u s) (a1 a2 a3 a4)
    (_ : .regs ∈ A := by assumption) (_ : .serve ∈ A := by assumption) :
    SameBut A u (State.recomputeDone s a1 a2 a3 a4) := by
  unfold State.recomputeDone
  grind [State.count_same, State.setReq_same, State.setSess_same]

theorem State.prefillDone_same {A : List Area} {u s : State} (h : SameBut A u s) (a1 a2 a3 a4)
    (_ : .regs ∈ A := by assumption) (_ : .arbs ∈ A := by assumption) (_ : .hif ∈ A := by assumption)
    (_ : .serve ∈ A := by assumption) (_ : .mem ∈ A := by assumption) (_ : .sms ∈ A := by assumption) :
    SameBut A u (State.prefillDone s a1 a2 a3 a4) := by
  unfold State.prefillDone
  grind (splits := 40) (gen := 20) (ematch := 20) [State.emitToken_same, State.endInternal_same, State.endReq_same, State.setReq_same, State.setSess_same, State.settle_same, State.writeTokens_same]

theorem State.applyTune_same {A : List Area} {u s : State} (h : SameBut A u s) (a1 a2 a3) (_ : .lst ∈ A := by assumption) :
    SameBut A u (State.applyTune s a1 a2 a3) := by
  unfold State.applyTune
  grind [State.withLst_same]

theorem State.tuneDone_same {A : List Area} {u s : State} (h : SameBut A u s) (a1 a2 a3 a4 a5 a6)
    (_ : .regs ∈ A := by assumption) (_ : .arbs ∈ A := by assumption) (_ : .hif ∈ A := by assumption)
    (_ : .serve ∈ A := by assumption) (_ : .lst ∈ A := by assumption) (_ : .sms ∈ A := by assumption) :
    SameBut A u (State.tuneDone s a1 a2 a3 a4 a5 a6) := by
  unfold State.tuneDone
  grind (splits := 40) (gen := 20) (ematch := 20) [State.aer_same, State.applyTune_same, State.endInternal_same, State.endReq_same, State.hostMove_same, State.post_same, State.setReq_same, State.settle_same]

theorem State.chunkEntry_same {A : List Area} {u s : State} (h : SameBut A u s) (a1 a2 a3 a4 a5)
    (_ : .regs ∈ A := by assumption) (_ : .arbs ∈ A := by assumption) (_ : .hif ∈ A := by assumption)
    (_ : .serve ∈ A := by assumption) (_ : .lst ∈ A := by assumption) (_ : .mem ∈ A := by assumption)
    (_ : .sms ∈ A := by assumption) :
    SameBut A u (State.chunkEntry s a1 a2 a3 a4 a5) := by
  unfold State.chunkEntry
  grind [State.carriedDone_same, State.endStep_same, State.numericEnd_same, State.prefillDone_same, State.recomputeDone_same, State.settle_same, State.stampStep_same, State.tuneDone_same]

theorem State.endLaunch_same {A : List Area} {u s : State} (h : SameBut A u s) (a1)
    (_ : .regs ∈ A := by assumption) (_ : .arbs ∈ A := by assumption) (_ : .hif ∈ A := by assumption)
    (_ : .serve ∈ A := by assumption) (_ : .ctl ∈ A := by assumption) (_ : .mem ∈ A := by assumption)
    (_ : .fab ∈ A := by assumption) (_ : .lnk ∈ A := by assumption) (_ : .free ∈ A := by assumption) :
    SameBut A u (State.endLaunch s a1) := by
  unfold State.endLaunch
  grind [State.dropLaunch_same, State.endJobIdle_same, State.finishClose_same, State.goMoves_same, State.setJob_same, State.setSessions_same, State.withFab_same, forEach_same]

theorem State.clearMarks_same {A : List Area} {u s : State} (h : SameBut A u s) (a1) (_ : .fab ∈ A := by assumption) :
    SameBut A u (State.clearMarks s a1) := by
  unfold State.clearMarks
  grind [State.withFab_same]

theorem State.endEntries_same {A : List Area} {u s : State} (h : SameBut A u s) (a1 a2 a3) (h3 : ∀ s y0 y1, SameBut A u s → SameBut A u (a3 s y0 y1)) (_ : .regs ∈ A := by assumption) (_ : .arbs ∈ A := by assumption) (_ : .hif ∈ A := by assumption) (_ : .serve ∈ A := by assumption) (_ : .ctl ∈ A := by assumption) (_ : .mem ∈ A := by assumption) (_ : .fab ∈ A := by assumption) (_ : .lnk ∈ A := by assumption) (_ : .free ∈ A := by assumption) :
    SameBut A u (State.endEntries s a1 a2 a3) := by
  unfold State.endEntries
  grind [State.clearMarks_same, State.endLaunch_same, State.numericJob_same, forEach_same]

theorem State.stepComplete_same {A : List Area} {u s : State} (h : SameBut A u s) (a1 a2)
    (_ : .regs ∈ A := by assumption) (_ : .arbs ∈ A := by assumption) (_ : .hif ∈ A := by assumption)
    (_ : .serve ∈ A := by assumption) (_ : .ctl ∈ A := by assumption) (_ : .mem ∈ A := by assumption)
    (_ : .sms ∈ A := by assumption) (_ : .fab ∈ A := by assumption) (_ : .lnk ∈ A := by assumption)
    (_ : .free ∈ A := by assumption) :
    SameBut A u (State.stepComplete s a1 a2) := by
  unfold State.stepComplete
  grind [State.endEntries_same, State.stepEntry_same]

theorem State.chunkComplete_same {A : List Area} {u s : State} (h : SameBut A u s) (a1 a2)
    (_ : .regs ∈ A := by assumption) (_ : .arbs ∈ A := by assumption) (_ : .hif ∈ A := by assumption)
    (_ : .serve ∈ A := by assumption) (_ : .lst ∈ A := by assumption) (_ : .ctl ∈ A := by assumption)
    (_ : .mem ∈ A := by assumption) (_ : .sms ∈ A := by assumption) (_ : .fab ∈ A := by assumption)
    (_ : .lnk ∈ A := by assumption) (_ : .free ∈ A := by assumption) :
    SameBut A u (State.chunkComplete s a1 a2) := by
  unfold State.chunkComplete
  grind [State.chunkEntry_same, State.endEntries_same]

theorem State.finishHeld_same {A : List Area} {u s : State} (h : SameBut A u s) (a1 a2)
    (_ : .arbs ∈ A := by assumption) (_ : .hif ∈ A := by assumption) (_ : .serve ∈ A := by assumption) :
    SameBut A u (State.finishHeld s a1 a2) := by
  unfold State.finishHeld
  grind [State.completeReq_same, State.finishClose_same]

theorem State.tokenRelease_same {A : List Area} {u s : State} (h : SameBut A u s) (a1 a2)
    (_ : .regs ∈ A := by assumption) (_ : .arbs ∈ A := by assumption) (_ : .hif ∈ A := by assumption)
    (_ : .serve ∈ A := by assumption) :
    SameBut A u (State.tokenRelease s a1 a2) := by
  unfold State.tokenRelease
  grind [State.finishHeld_same, State.releaseToken_same, SameBut.set_serve]

theorem State.setCore_same {A : List Area} {u s : State} (h : SameBut A u s) (a1 a2) (_ : .ctl ∈ A := by assumption) :
    SameBut A u (State.setCore s a1 a2) := by
  unfold State.setCore
  grind [State.withCtl_same]

theorem State.setEntry_same {A : List Area} {u s : State} (h : SameBut A u s) (a1 a2) (_ : .ctl ∈ A := by assumption) :
    SameBut A u (State.setEntry s a1 a2) := by
  unfold State.setEntry
  grind [State.withCtl_same]

theorem State.setBank_same {A : List Area} {u s : State} (h : SameBut A u s) (a1 a2 a3 a4) (_ : .fab ∈ A := by assumption) :
    SameBut A u (State.setBank s a1 a2 a3 a4) := by
  unfold State.setBank
  grind [State.withFab_same]

theorem State.coreJobFault_same {A : List Area} {u s : State} (h : SameBut A u s) (a1 a2 a3 a4 a5 a6)
    (_ : .regs ∈ A := by assumption) (_ : .arbs ∈ A := by assumption) (_ : .hif ∈ A := by assumption)
    (_ : .serve ∈ A := by assumption) (_ : .ctl ∈ A := by assumption) (_ : .sms ∈ A := by assumption)
    (_ : .lnk ∈ A := by assumption) :
    SameBut A u (State.coreJobFault s a1 a2 a3 a4 a5 a6) := by
  unfold State.coreJobFault
  grind [State.faultCore_same]

theorem State.unitCheck_same {A : List Area} {u s : State} (h : SameBut A u s) (a1 a2 a3)
    (_ : .regs ∈ A := by assumption) (_ : .arbs ∈ A := by assumption) (_ : .hif ∈ A := by assumption)
    (_ : .serve ∈ A := by assumption) (_ : .ctl ∈ A := by assumption) (_ : .sms ∈ A := by assumption)
    (_ : .lnk ∈ A := by assumption) (_ : .mgt ∈ A := by assumption) :
    SameBut A u (State.unitCheck s a1 a2 a3) := by
  unfold State.unitCheck
  grind [State.coreJobFault_same, State.count_same, State.suspect_same]

theorem State.seqFault_same {A : List Area} {u s : State} (h : SameBut A u s) (a1) (_ : .regs ∈ A := by assumption)
    (_ : .arbs ∈ A := by assumption) (_ : .hif ∈ A := by assumption) (_ : .serve ∈ A := by assumption)
    (_ : .ctl ∈ A := by assumption) (_ : .sms ∈ A := by assumption) (_ : .lnk ∈ A := by assumption) :
    SameBut A u (State.seqFault s a1) := by
  unfold State.seqFault
  grind [State.coreJobFault_same, State.count_same, State.setCore_same]

theorem State.nextEntry_same {A : List Area} {u s : State} (h : SameBut A u s) (a1) (_ : .ctl ∈ A := by assumption) :
    SameBut A u (State.nextEntry s a1) := by
  unfold State.nextEntry
  grind [State.setCore_same]

theorem State.stallCore_same {A : List Area} {u s : State} (h : SameBut A u s) (a1 a2)
    (_ : .regs ∈ A := by assumption) (_ : .ctl ∈ A := by assumption) :
    SameBut A u (State.stallCore s a1 a2) := by
  unfold State.stallCore
  grind [State.count_same, State.setCore_same, State.when_same, State.when]

theorem State.reach_same {A : List Area} {u s : State} (h : SameBut A u s) (a1 a2 a3 a4 a5)
    (_ : .regs ∈ A := by assumption) (_ : .ctl ∈ A := by assumption) :
    SameBut A u (State.reach s a1 a2 a3 a4 a5).2 := by
  unfold State.reach
  grind [State.setCore_same, State.stallCore_same]

theorem State.resume_same {A : List Area} {u s : State} (h : SameBut A u s) (a1) (_ : .ctl ∈ A := by assumption) :
    SameBut A u (State.resume s a1) := by
  unfold State.resume
  grind [State.setCore_same, forEach_same]

theorem State.consume_same {A : List Area} {u s : State} (h : SameBut A u s) (a1) (_ : .ctl ∈ A := by assumption) :
    SameBut A u (State.consume s a1) := by
  unfold State.consume
  grind [State.setEntry_same]

theorem State.writeEntry_same {A : List Area} {u s : State} (h : SameBut A u s) (a1 a2 a3 a4 a5 a6)
    (_ : .regs ∈ A := by assumption) (_ : .arbs ∈ A := by assumption) (_ : .hif ∈ A := by assumption)
    (_ : .serve ∈ A := by assumption) (_ : .ctl ∈ A := by assumption) (_ : .mem ∈ A := by assumption)
    (_ : .sms ∈ A := by assumption) (_ : .lnk ∈ A := by assumption) :
    SameBut A u (State.writeEntry s a1 a2 a3 a4 a5 a6) := by
  unfold State.writeEntry
  grind [State.faultJob_same, State.resume_same, State.setEntry_same, State.writeBytes_same]

theorem State.showEntries_same {A : List Area} {u s : State} (h : SameBut A u s) (_ : .regs ∈ A := by assumption)
    (_ : .ctl ∈ A := by assumption) :
    SameBut A u (State.showEntries s) := by
  unfold State.showEntries
  grind [State.resume_same, State.setEntry_same, State.stallCore_same, forEach_same]

theorem State.barFault_same {A : List Area} {u s : State} (h : SameBut A u s) (a1 a2 a3)
    (_ : .regs ∈ A := by assumption) (_ : .arbs ∈ A := by assumption) (_ : .hif ∈ A := by assumption)
    (_ : .serve ∈ A := by assumption) (_ : .ctl ∈ A := by assumption) (_ : .sms ∈ A := by assumption)
    (_ : .lnk ∈ A := by assumption) :
    SameBut A u (State.barFault s a1 a2 a3) := by
  unfold State.barFault
  grind [State.coreJobFault_same, State.count_same, State.setCore_same]

theorem State.arrive_same {A : List Area} {u s : State} (h : SameBut A u s) (a1 a2 a3 a4)
    (_ : .regs ∈ A := by assumption) (_ : .arbs ∈ A := by assumption) (_ : .hif ∈ A := by assumption)
    (_ : .serve ∈ A := by assumption) (_ : .ctl ∈ A := by assumption) (_ : .sms ∈ A := by assumption)
    (_ : .lnk ∈ A := by assumption) :
    SameBut A u (State.arrive s a1 a2 a3 a4) := by
  unfold State.arrive
  grind [State.barFault_same, State.setCore_same]

theorem State.tidyWaits_same {A : List Area} {u s : State} (h : SameBut A u s) (a1) (_ : .ctl ∈ A := by assumption) :
    SameBut A u (State.tidyWaits s a1) := by
  unfold State.tidyWaits
  grind [State.setCore_same]

theorem State.clearCore_same {A : List Area} {u s : State} (h : SameBut A u s) (a1) (_ : .ctl ∈ A := by assumption) :
    SameBut A u (State.clearCore s a1) := by
  unfold State.clearCore
  grind [State.setCore_same]

theorem State.drawShadow_same {A : List Area} {u s : State} (h : SameBut A u s) (a1) (_ : .fab ∈ A := by assumption) :
    SameBut A u (State.drawShadow s a1) := by
  unfold State.drawShadow
  grind [State.withFab_same]

theorem State.startProgram_same {A : List Area} {u s : State} (h : SameBut A u s) (a1 a2 a3)
    (_ : .regs ∈ A := by assumption) (_ : .ctl ∈ A := by assumption) (_ : .fab ∈ A := by assumption) :
    SameBut A u (State.startProgram s a1 a2 a3) := by
  unfold State.startProgram
  grind [State.drawShadow_same, State.reach_same, State.setCore_same]

theorem State.nameCore_same {A : List Area} {u s : State} (h : SameBut A u s) (a1 a2 a3)
    (_ : .regs ∈ A := by assumption) (_ : .ctl ∈ A := by assumption) (_ : .fab ∈ A := by assumption) :
    SameBut A u (State.nameCore s a1 a2 a3) := by
  unfold State.nameCore
  grind [State.setCore_same, State.startProgram_same]

theorem State.nextProgram_same {A : List Area} {u s : State} (h : SameBut A u s) (a1)
    (_ : .regs ∈ A := by assumption) (_ : .ctl ∈ A := by assumption) (_ : .fab ∈ A := by assumption) :
    SameBut A u (State.nextProgram s a1) := by
  unfold State.nextProgram
  grind [State.setCore_same, State.startProgram_same]

theorem execQueueStallTimeout_same {A : List Area} {u s : State} (h : SameBut A u s) (a0 a1)
    (_ : .regs ∈ A := by assumption) (_ : .now ∈ A := by assumption) (_ : .arbs ∈ A := by assumption)
    (_ : .hif ∈ A := by assumption) (_ : .serve ∈ A := by assumption) (_ : .ctl ∈ A := by assumption)
    (_ : .sms ∈ A := by assumption) (_ : .fab ∈ A := by assumption) (_ : .lnk ∈ A := by assumption) :
    SameO A u (execQueueStallTimeout a0 a1 s) := by
  unfold execQueueStallTimeout
  grind (splits := 40) (gen := 20) (ematch := 20) [State.advance_same, State.coreJobFault_same, State.nextProgram_same, State.setCore_same, SameO.next]

theorem execSequencerStepEnd_same {A : List Area} {u s : State} (h : SameBut A u s) (a0 a1)
    (_ : .regs ∈ A := by assumption) (_ : .now ∈ A := by assumption) (_ : .ctl ∈ A := by assumption)
    (_ : .fab ∈ A := by assumption) :
    SameO A u (execSequencerStepEnd a0 a1 s) := by
  unfold execSequencerStepEnd
  grind [State.advance_same, State.consume_same, State.nextProgram_same, State.setCore_same, SameO.next]

theorem State.push_same {A : List Area} {u s : State} (h : SameBut A u s) (a1 a2) (_ : .ctl ∈ A := by assumption) :
    SameBut A u (State.push s a1 a2) := by
  unfold State.push
  grind [State.nextEntry_same, State.setCore_same, State.tidyWaits_same]

theorem execEnginePush_same {A : List Area} {u s : State} (h : SameBut A u s) (a0 a1 a2 a3)
    (_ : .regs ∈ A := by assumption) (_ : .now ∈ A := by assumption) (_ : .arbs ∈ A := by assumption)
    (_ : .hif ∈ A := by assumption) (_ : .serve ∈ A := by assumption) (_ : .ctl ∈ A := by assumption)
    (_ : .sms ∈ A := by assumption) (_ : .lnk ∈ A := by assumption) (_ : .mgt ∈ A := by assumption) :
    SameO A u (execEnginePush a0 a1 a2 a3 s) := by
  unfold execEnginePush
  grind [State.advance_same, State.push_same, State.seqFault_same, State.unitCheck_same, SameO.next]

theorem execBarCfg_same {A : List Area} {u s : State} (h : SameBut A u s) (a0 a1 a2 a3)
    (_ : .regs ∈ A := by assumption) (_ : .now ∈ A := by assumption) (_ : .arbs ∈ A := by assumption)
    (_ : .hif ∈ A := by assumption) (_ : .serve ∈ A := by assumption) (_ : .ctl ∈ A := by assumption)
    (_ : .sms ∈ A := by assumption) (_ : .lnk ∈ A := by assumption) :
    SameO A u (execBarCfg a0 a1 a2 a3 s) := by
  unfold execBarCfg
  grind [State.advance_same, State.nextEntry_same, State.seqFault_same, State.setCore_same, SameO.next]

theorem execWaitQ_same {A : List Area} {u s : State} (h : SameBut A u s) (a0 a1 a2 a3)
    (_ : .regs ∈ A := by assumption) (_ : .now ∈ A := by assumption) (_ : .ctl ∈ A := by assumption) :
    SameO A u (execWaitQ a0 a1 a2 a3 s) := by
  unfold execWaitQ
  grind [State.advance_same, State.nextEntry_same, State.reach_same, SameO.next]

theorem execEnd_same {A : List Area} {u s : State} (h : SameBut A u s) (a0 a1) (_ : .now ∈ A := by assumption)
    (_ : .ctl ∈ A := by assumption) :
    SameO A u (execEnd a0 a1 s) := by
  unfold execEnd
  grind [State.advance_same, State.setCore_same, SameO.next]

theorem execEngineEntryStart_same {A : List Area} {u s : State} (h : SameBut A u s) (a0 a1 a2)
    (_ : .now ∈ A := by assumption) (_ : .ctl ∈ A := by assumption) :
    SameO A u (execEngineEntryStart a0 a1 a2 s) := by
  unfold execEngineEntryStart
  grind [State.advance_same, State.push_same, State.setCore_same, State.tidyWaits_same, SameO.next]

theorem execEngineEntryComplete_same {A : List Area} {u s : State} (h : SameBut A u s) (a0 a1 a2 a3)
    (_ : .regs ∈ A := by assumption) (_ : .now ∈ A := by assumption) (_ : .arbs ∈ A := by assumption)
    (_ : .hif ∈ A := by assumption) (_ : .serve ∈ A := by assumption) (_ : .ctl ∈ A := by assumption)
    (_ : .sms ∈ A := by assumption) (_ : .lnk ∈ A := by assumption) (_ : .mgt ∈ A := by assumption) :
    SameO A u (execEngineEntryComplete a0 a1 a2 a3 s) := by
  unfold execEngineEntryComplete
  grind [State.advance_same, State.arrive_same, State.setCore_same, State.tidyWaits_same, State.unitCheck_same, SameO.next]

theorem execBarrierHang_same {A : List Area} {u s : State} (h : SameBut A u s) (a0 a1 a2)
    (_ : .regs ∈ A := by assumption) (_ : .now ∈ A := by assumption) (_ : .arbs ∈ A := by assumption)
    (_ : .hif ∈ A := by assumption) (_ : .serve ∈ A := by assumption) (_ : .ctl ∈ A := by assumption)
    (_ : .sms ∈ A := by assumption) (_ : .lnk ∈ A := by assumption) :
    SameO A u (execBarrierHang a0 a1 a2 s) := by
  unfold execBarrierHang
  grind [State.advance_same, State.coreJobFault_same, State.count_same, State.logEvent_same, State.setCore_same, State.smsEvent_same, SameO.next]

theorem State.forceBar_same {A : List Area} {u s : State} (h : SameBut A u s) (a1 a2 a3)
    (_ : .regs ∈ A := by assumption) (_ : .hif ∈ A := by assumption) (_ : .serve ∈ A := by assumption)
    (_ : .ctl ∈ A := by assumption) (_ : .sms ∈ A := by assumption) :
    SameBut A u (State.forceBar s a1 a2 a3) := by
  unfold State.forceBar
  grind (splits := 40) (gen := 20) (ematch := 20) [State.count_same, State.logEvent_same, State.setCore_same, State.setJob_same, State.tidyWaits_same]

theorem execCpxBarForceRelease_same {A : List Area} {u s : State} (h : SameBut A u s) (a0 a1 a2)
    (_ : .regs ∈ A := by assumption) (_ : .now ∈ A := by assumption) (_ : .hif ∈ A := by assumption)
    (_ : .serve ∈ A := by assumption) (_ : .ctl ∈ A := by assumption) (_ : .sms ∈ A := by assumption) :
    SameO A u (execCpxBarForceRelease a0 a1 a2 s) := by
  unfold execCpxBarForceRelease
  grind [State.advance_same, State.forceBar_same, SameO.next]

theorem execCpxBarForceSet_same {A : List Area} {u s : State} (h : SameBut A u s) (a0 a1 a2)
    (_ : .regs ∈ A := by assumption) (_ : .now ∈ A := by assumption) (_ : .hif ∈ A := by assumption)
    (_ : .serve ∈ A := by assumption) (_ : .ctl ∈ A := by assumption) (_ : .sms ∈ A := by assumption) :
    SameO A u (execCpxBarForceSet a0 a1 a2 s) := by
  unfold execCpxBarForceSet
  grind [State.advance_same, State.forceBar_same, SameO.next]

theorem State.setObj_same {A : List Area} {u s : State} (h : SameBut A u s) (a1 a2) (_ : .lst ∈ A := by assumption) :
    SameBut A u (State.setObj s a1 a2) := by
  unfold State.setObj
  grind [State.withLst_same]

theorem State.remapNow_same {A : List Area} {u s : State} (h : SameBut A u s) (_ : .lst ∈ A := by assumption) :
    SameBut A u (State.remapNow s) := by
  unfold State.remapNow
  grind [State.withLst_same]

theorem State.setBuf_same {A : List Area} {u s : State} (h : SameBut A u s) (a1 a2 a3) (_ : .fab ∈ A := by assumption) :
    SameBut A u (State.setBuf s a1 a2 a3) := by
  unfold State.setBuf
  grind [State.withFab_same]

theorem State.markOob_same {A : List Area} {u s : State} (h : SameBut A u s) (a1) (_ : .fab ∈ A := by assumption) :
    SameBut A u (State.markOob s a1) := by
  unfold State.markOob
  grind [State.withFab_same]

theorem State.markNumeric_same {A : List Area} {u s : State} (h : SameBut A u s) (a1) (_ : .fab ∈ A := by assumption) :
    SameBut A u (State.markNumeric s a1) := by
  unfold State.markNumeric
  grind [State.withFab_same]

theorem State.streamTile_same {A : List Area} {u s : State} (h : SameBut A u s) (a1 a2 a3 a4)
    (_ : .regs ∈ A := by assumption) (_ : .arbs ∈ A := by assumption) (_ : .mem ∈ A := by assumption)
    (_ : .fab ∈ A := by assumption) :
    SameBut A u (State.streamTile s a1 a2 a3 a4) := by
  unfold State.streamTile
  grind [State.chargeTier_same, State.stage_same, State.useTier_same, State.withFab_same]

theorem State.countPasses_same {A : List Area} {u s : State} (h : SameBut A u s) (a1 a2 a3 a4)
    (_ : .regs ∈ A := by assumption) :
    SameBut A u (State.countPasses s a1 a2 a3 a4) := by
  unfold State.countPasses
  grind [State.count_same, State.wr_same]

theorem State.bookEnergy_same {A : List Area} {u s : State} (h : SameBut A u s) (a1 a2 a3 a4 a5)
    (_ : .fab ∈ A := by assumption) :
    SameBut A u (State.bookEnergy s a1 a2 a3 a4 a5) := by
  unfold State.bookEnergy
  grind [State.withFab_same]

theorem State.nextVector_same {A : List Area} {u s : State} (h : SameBut A u s) (_ : .fab ∈ A := by assumption) :
    SameBut A u (State.nextVector s) := by
  unfold State.nextVector
  grind [State.withFab_same]

theorem State.occupy_same {A : List Area} {u s : State} (h : SameBut A u s) (a1 a2 a3) (_ : .fab ∈ A := by assumption) :
    SameBut A u (State.occupy s a1 a2 a3) := by
  unfold State.occupy
  grind [State.withFab_same]

theorem State.standIns_same {A : List Area} {u s : State} (h : SameBut A u s) (a1 a2 a3 a4 a5 a6)
    (_ : .regs ∈ A := by assumption) (_ : .arbs ∈ A := by assumption) (_ : .hif ∈ A := by assumption)
    (_ : .serve ∈ A := by assumption) (_ : .ctl ∈ A := by assumption) (_ : .mem ∈ A := by assumption)
    (_ : .sms ∈ A := by assumption) (_ : .fab ∈ A := by assumption) (_ : .lnk ∈ A := by assumption) :
    SameBut A u (State.standIns s a1 a2 a3 a4 a5 a6) := by
  unfold State.standIns
  grind [State.coreJobFault_same, State.count_same, State.streamTile_same, forEach_same]

theorem State.takeResidual_same {A : List Area} {u s : State} (h : SameBut A u s) (a1 a2 a3 a4)
    (_ : .ctl ∈ A := by assumption) :
    SameBut A u (State.takeResidual s a1 a2 a3 a4) := by
  unfold State.takeResidual
  grind [State.setEntry_same]

theorem State.loadInto_same {A : List Area} {u s : State} (h : SameBut A u s) (a1 a2 a3 a4 a5 a6 a7)
    (_ : .regs ∈ A := by assumption) (_ : .arbs ∈ A := by assumption) (_ : .hif ∈ A := by assumption)
    (_ : .serve ∈ A := by assumption) (_ : .ctl ∈ A := by assumption) (_ : .mem ∈ A := by assumption)
    (_ : .sms ∈ A := by assumption) (_ : .fab ∈ A := by assumption) (_ : .lnk ∈ A := by assumption) :
    SameBut A u (State.loadInto s a1 a2 a3 a4 a5 a6 a7) := by
  unfold State.loadInto
  grind (splits := 40) (gen := 20) (ematch := 20) [State.bookEnergy_same, State.countPasses_same, State.count_same, State.markNumeric_same, State.occupy_same, State.setBank_same, State.standIns_same, State.takeResidual_same, State.withFab_same, forEach_same]

theorem State.loadForward_same {A : List Area} {u s : State} (h : SameBut A u s) (a1 a2)
    (_ : .regs ∈ A := by assumption) (_ : .arbs ∈ A := by assumption) (_ : .hif ∈ A := by assumption)
    (_ : .serve ∈ A := by assumption) (_ : .ctl ∈ A := by assumption) (_ : .mem ∈ A := by assumption)
    (_ : .sms ∈ A := by assumption) (_ : .fab ∈ A := by assumption) (_ : .lnk ∈ A := by assumption) :
    SameBut A u (State.loadForward s a1 a2) := by
  unfold State.loadForward
  grind [State.coreJobFault_same, State.loadInto_same]

theorem State.fillLog_same {A : List Area} {u s : State} (h : SameBut A u s) (core k : Nat) (p : LogPair)
    (_ : .regs ∈ A := by assumption) : SameBut A u (s.fillLog core k p) := by
  unfold State.fillLog
  exact State.wr_same (foldl_same _ _ (fun s e h => State.wr_same h _ _ _) s h) _ _ _

theorem State.logPair_same {A : List Area} {u s : State} (h : SameBut A u s) (a1 a2 a3)
    (_ : .regs ∈ A := by assumption) (_ : .fab ∈ A := by assumption) :
    SameBut A u (State.logPair s a1 a2 a3) := by
  unfold State.logPair
  grind [State.fillLog_same, State.withFab_same]

theorem State.holdLog_same {A : List Area} {u s : State} (h : SameBut A u s) (a1 a2) (_ : .fab ∈ A := by assumption) :
    SameBut A u (State.holdLog s a1 a2) := by
  unfold State.holdLog
  grind [State.withFab_same]

theorem State.releaseLog_same {A : List Area} {u s : State} (h : SameBut A u s) (a1 a2)
    (_ : .regs ∈ A := by assumption) (_ : .fab ∈ A := by assumption) :
    SameBut A u (State.releaseLog s a1 a2) := by
  unfold State.releaseLog
  grind [State.fillLog_same, State.withFab_same]

theorem State.dropLogs_same {A : List Area} {u s : State} (h : SameBut A u s) (a1) (_ : .fab ∈ A := by assumption) :
    SameBut A u (State.dropLogs s a1) := by
  unfold State.dropLogs
  grind [State.withFab_same]

theorem State.tallyFail_same {A : List Area} {u s : State} (h : SameBut A u s) (a1 a2 a3 a4 a5 a6 a7)
    (_ : .regs ∈ A := by assumption) (_ : .arbs ∈ A := by assumption) (_ : .hif ∈ A := by assumption)
    (_ : .serve ∈ A := by assumption) (_ : .ctl ∈ A := by assumption) (_ : .sms ∈ A := by assumption)
    (_ : .fab ∈ A := by assumption) (_ : .lnk ∈ A := by assumption) (_ : .mgt ∈ A := by assumption) :
    SameBut A u (State.tallyFail s a1 a2 a3 a4 a5 a6 a7) := by
  unfold State.tallyFail
  grind [State.count_same, State.faultCore_same, State.logEvent_same, State.logPair_same, State.suspect_same]

theorem State.satLog_same {A : List Area} {u s : State} (h : SameBut A u s) (a1 a2 a3 a4 a5 a6 a7 a8)
    (_ : .regs ∈ A := by assumption) :
    SameBut A u (State.satLog s a1 a2 a3 a4 a5 a6 a7 a8) := by
  unfold State.satLog
  grind (splits := 40) (gen := 20) (ematch := 20) [State.count_same, State.wr_same]

theorem State.satEvent_same {A : List Area} {u s : State} (h : SameBut A u s) (a1 a2 a3 a4 a5 a6 a7 a8)
    (_ : .regs ∈ A := by assumption) (_ : .arbs ∈ A := by assumption) (_ : .hif ∈ A := by assumption)
    (_ : .serve ∈ A := by assumption) (_ : .ctl ∈ A := by assumption) (_ : .sms ∈ A := by assumption)
    (_ : .lnk ∈ A := by assumption) (_ : .mgt ∈ A := by assumption) :
    SameBut A u (State.satEvent s a1 a2 a3 a4 a5 a6 a7 a8) := by
  unfold State.satEvent
  grind [State.logEvent_same, State.satLog_same, State.suspect_same]

theorem State.settleBank_same {A : List Area} {u s : State} (h : SameBut A u s) (a1 a2 a3) (_ : .fab ∈ A := by assumption) :
    SameBut A u (State.settleBank s a1 a2 a3) := by
  unfold State.settleBank
  grind [State.setBank_same]

theorem State.checkResults_same {A : List Area} {u s : State} (h : SameBut A u s) (a1 a2 a3 a4)
    (_ : .regs ∈ A := by assumption) (_ : .arbs ∈ A := by assumption) (_ : .hif ∈ A := by assumption)
    (_ : .serve ∈ A := by assumption) (_ : .ctl ∈ A := by assumption) (_ : .sms ∈ A := by assumption)
    (_ : .fab ∈ A := by assumption) (_ : .lnk ∈ A := by assumption) (_ : .mgt ∈ A := by assumption) :
    SameBut A u (State.checkResults s a1 a2 a3 a4) := by
  unfold State.checkResults
  grind [State.satEvent_same, State.tallyFail_same, forEach_same]

theorem State.arriveFlow_same {A : List Area} {u s : State} (h : SameBut A u s) (a1 a2 a3 a4)
    (_ : .regs ∈ A := by assumption) (_ : .arbs ∈ A := by assumption) (_ : .hif ∈ A := by assumption)
    (_ : .serve ∈ A := by assumption) (_ : .ctl ∈ A := by assumption) (_ : .sms ∈ A := by assumption)
    (_ : .fab ∈ A := by assumption) (_ : .lnk ∈ A := by assumption) (_ : .mgt ∈ A := by assumption) :
    SameBut A u (State.arriveFlow s a1 a2 a3 a4) := by
  unfold State.arriveFlow
  grind [State.checkResults_same, State.setBank_same, State.withFab_same]

theorem execColumnFlowArrive_same {A : List Area} {u s : State} (h : SameBut A u s) (a0 a1 a2 a3 a4 a5)
    (_ : .regs ∈ A := by assumption) (_ : .now ∈ A := by assumption) (_ : .arbs ∈ A := by assumption)
    (_ : .hif ∈ A := by assumption) (_ : .serve ∈ A := by assumption) (_ : .ctl ∈ A := by assumption)
    (_ : .sms ∈ A := by assumption) (_ : .fab ∈ A := by assumption) (_ : .lnk ∈ A := by assumption)
    (_ : .mgt ∈ A := by assumption) :
    SameO A u (execColumnFlowArrive a0 a1 a2 a3 a4 a5 s) := by
  unfold execColumnFlowArrive
  grind [State.advance_same, State.arriveFlow_same, State.settleBank_same, State.unitCheck_same, SameO.next]

theorem execSaturationRescue_same {A : List Area} {u s : State} (h : SameBut A u s) (a0 a1 a2 a3 a4 a5 a6)
    (_ : .regs ∈ A := by assumption) (_ : .now ∈ A := by assumption) (_ : .fab ∈ A := by assumption) :
    SameO A u (execSaturationRescue a0 a1 a2 a3 a4 a5 a6 s) := by
  unfold execSaturationRescue
  grind [State.advance_same, State.count_same, State.setBank_same, State.settleBank_same, SameO.next]

theorem execWeltWorkComplete_same {A : List Area} {u s : State} (h : SameBut A u s) (a0 a1 a2 a3 a4)
    (_ : .regs ∈ A := by assumption) (_ : .now ∈ A := by assumption) (_ : .arbs ∈ A := by assumption)
    (_ : .hif ∈ A := by assumption) (_ : .serve ∈ A := by assumption) (_ : .ctl ∈ A := by assumption)
    (_ : .sms ∈ A := by assumption) (_ : .fab ∈ A := by assumption) (_ : .lnk ∈ A := by assumption)
    (_ : .mgt ∈ A := by assumption) :
    SameO A u (execWeltWorkComplete a0 a1 a2 a3 a4 s) := by
  unfold execWeltWorkComplete
  grind [State.advance_same, State.count_same, State.setBank_same, State.settleBank_same, State.unitCheck_same, SameO.next]

theorem State.shadowFail_same {A : List Area} {u s : State} (h : SameBut A u s) (a1)
    (_ : .regs ∈ A := by assumption) (_ : .arbs ∈ A := by assumption) (_ : .hif ∈ A := by assumption)
    (_ : .serve ∈ A := by assumption) (_ : .ctl ∈ A := by assumption) (_ : .sms ∈ A := by assumption)
    (_ : .fab ∈ A := by assumption) (_ : .lnk ∈ A := by assumption) (_ : .mgt ∈ A := by assumption) :
    SameBut A u (State.shadowFail s a1) := by
  unfold State.shadowFail
  grind [State.count_same, State.faultJob_same, State.logEvent_same, State.logPair_same, State.suspect_same]

theorem execShadowCheck_same {A : List Area} {u s : State} (h : SameBut A u s) (a0 a1 a2 a3 a4 a5)
    (_ : .regs ∈ A := by assumption) (_ : .now ∈ A := by assumption) (_ : .arbs ∈ A := by assumption)
    (_ : .hif ∈ A := by assumption) (_ : .serve ∈ A := by assumption) (_ : .ctl ∈ A := by assumption)
    (_ : .sms ∈ A := by assumption) (_ : .fab ∈ A := by assumption) (_ : .lnk ∈ A := by assumption)
    (_ : .mgt ∈ A := by assumption) :
    SameO A u (execShadowCheck a0 a1 a2 a3 a4 a5 s) := by
  unfold execShadowCheck
  grind [State.advance_same, State.count_same, State.shadowFail_same, State.withFab_same, SameO.next]

theorem State.rowSums_same {A : List Area} {u s : State} (h : SameBut A u s) (core cluster : Nat) (v : Vector) (c : ObjContent) (r : ClusterRec)
    (cs : List XbCharges) (_ : .regs ∈ A := by assumption) (_ : .arbs ∈ A := by assumption)
    (_ : .hif ∈ A := by assumption) (_ : .serve ∈ A := by assumption) (_ : .ctl ∈ A := by assumption)
    (_ : .sms ∈ A := by assumption) (_ : .fab ∈ A := by assumption) (_ : .lnk ∈ A := by assumption)
    (_ : .mgt ∈ A := by assumption) : SameBut A u (s.rowSums core cluster v c r cs) := by
  unfold State.rowSums
  exact State.withFab_same (State.setBank_same (State.setBank_same (forEach_same _ _
    (fun s x h => forEach_same _ _ (fun s g h => State.satEvent_same h _ _ _ _ _ _ _ _) _ h) _ h) _ _ _ _) _ _ _ _) _

theorem State.loadTranspose_same {A : List Area} {u s : State} (h : SameBut A u s) (a1 a2 a3)
    (_ : .regs ∈ A := by assumption) (_ : .arbs ∈ A := by assumption) (_ : .hif ∈ A := by assumption)
    (_ : .serve ∈ A := by assumption) (_ : .ctl ∈ A := by assumption) (_ : .mem ∈ A := by assumption)
    (_ : .sms ∈ A := by assumption) (_ : .fab ∈ A := by assumption) (_ : .lnk ∈ A := by assumption)
    (_ : .mgt ∈ A := by assumption) :
    SameBut A u (State.loadTranspose s a1 a2 a3) := by
  unfold State.loadTranspose
  grind (splits := 40) (gen := 20) (ematch := 20) [State.bookEnergy_same, State.countPasses_same, State.markNumeric_same, State.nextVector_same, State.occupy_same, State.rowSums_same, State.standIns_same]

theorem State.makeLoad_same {A : List Area} {u s : State} (h : SameBut A u s) (a1) (_ : .regs ∈ A := by assumption)
    (_ : .arbs ∈ A := by assumption) (_ : .hif ∈ A := by assumption) (_ : .serve ∈ A := by assumption)
    (_ : .ctl ∈ A := by assumption) (_ : .mem ∈ A := by assumption) (_ : .sms ∈ A := by assumption)
    (_ : .fab ∈ A := by assumption) (_ : .lnk ∈ A := by assumption) (_ : .mgt ∈ A := by assumption) :
    SameBut A u (State.makeLoad s a1) := by
  unfold State.makeLoad
  grind [State.loadForward_same, State.loadTranspose_same]

theorem State.setProbe_same {A : List Area} {u s : State} (h : SameBut A u s) (a1 a2 a3) (_ : .fab ∈ A := by assumption) :
    SameBut A u (State.setProbe s a1 a2 a3) := by
  unfold State.setProbe
  grind [State.withFab_same]

theorem State.grantPass_same {A : List Area} {u s : State} (h : SameBut A u s) (a1 a2)
    (_ : .arbs ∈ A := by assumption) (_ : .fab ∈ A := by assumption) :
    SameBut A u (State.grantPass s a1 a2) := by
  unfold State.grantPass
  grind [State.occupy_same, State.setArb_same, State.setProbe_same]

theorem State.recallPasses_same {A : List Area} {u s : State} (h : SameBut A u s) (a1 a2) (_ : .fab ∈ A := by assumption) :
    SameBut A u (State.recallPasses s a1 a2) := by
  unfold State.recallPasses
  grind [State.occupy_same, State.setProbe_same]

theorem State.grantLoad_same {A : List Area} {u s : State} (h : SameBut A u s) (a1)
    (_ : .regs ∈ A := by assumption) (_ : .arbs ∈ A := by assumption) (_ : .hif ∈ A := by assumption)
    (_ : .serve ∈ A := by assumption) (_ : .ctl ∈ A := by assumption) (_ : .mem ∈ A := by assumption)
    (_ : .sms ∈ A := by assumption) (_ : .fab ∈ A := by assumption) (_ : .lnk ∈ A := by assumption)
    (_ : .mgt ∈ A := by assumption) :
    SameBut A u (State.grantLoad s a1) := by
  unfold State.grantLoad
  grind [State.makeLoad_same, State.setArb_same, State.setProbe_same, State.withFab_same]

theorem State.goCluster_same {A : List Area} {u s : State} (h : SameBut A u s) (core cluster fuel : Nat)
    (_ : .regs ∈ A := by assumption) (_ : .arbs ∈ A := by assumption) (_ : .hif ∈ A := by assumption)
    (_ : .serve ∈ A := by assumption) (_ : .ctl ∈ A := by assumption) (_ : .mem ∈ A := by assumption)
    (_ : .sms ∈ A := by assumption) (_ : .fab ∈ A := by assumption) (_ : .lnk ∈ A := by assumption)
    (_ : .mgt ∈ A := by assumption) :
    SameBut A u (s.goCluster core cluster fuel) := by
  induction fuel generalizing s with
  | zero => exact h
  | succ k ih =>
    unfold State.goCluster
    grind [State.grantLoad_same, State.grantPass_same, State.reach_same]

theorem State.goWaiting_same {A : List Area} {u s : State} (h : SameBut A u s) (a1 a2)
    (_ : .regs ∈ A := by assumption) (_ : .arbs ∈ A := by assumption) (_ : .hif ∈ A := by assumption)
    (_ : .serve ∈ A := by assumption) (_ : .ctl ∈ A := by assumption) (_ : .mem ∈ A := by assumption)
    (_ : .sms ∈ A := by assumption) (_ : .fab ∈ A := by assumption) (_ : .lnk ∈ A := by assumption)
    (_ : .mgt ∈ A := by assumption) :
    SameBut A u (State.goWaiting s a1 a2) := by
  unfold State.goWaiting
  grind [State.goCluster_same, State.recallPasses_same]

theorem State.goLoads_same {A : List Area} {u s : State} (h : SameBut A u s) (_ : .regs ∈ A := by assumption)
    (_ : .arbs ∈ A := by assumption) (_ : .hif ∈ A := by assumption) (_ : .serve ∈ A := by assumption)
    (_ : .ctl ∈ A := by assumption) (_ : .mem ∈ A := by assumption) (_ : .sms ∈ A := by assumption)
    (_ : .fab ∈ A := by assumption) (_ : .lnk ∈ A := by assumption) (_ : .mgt ∈ A := by assumption) :
    SameBut A u (State.goLoads s) := by
  unfold State.goLoads
  grind [State.goWaiting_same, forEach_same]

theorem State.tryLoad_same {A : List Area} {u s : State} (h : SameBut A u s) (a1) (_ : .regs ∈ A := by assumption)
    (_ : .arbs ∈ A := by assumption) (_ : .hif ∈ A := by assumption) (_ : .serve ∈ A := by assumption)
    (_ : .ctl ∈ A := by assumption) (_ : .mem ∈ A := by assumption) (_ : .sms ∈ A := by assumption)
    (_ : .fab ∈ A := by assumption) (_ : .lnk ∈ A := by assumption) (_ : .mgt ∈ A := by assumption) :
    SameBut A u (State.tryLoad s a1) := by
  unfold State.tryLoad
  grind [State.count_same, State.goWaiting_same, State.withFab_same]

theorem execVectorLoad_same {A : List Area} {u s : State} (h : SameBut A u s) (a0 a1)
    (_ : .regs ∈ A := by assumption) (_ : .now ∈ A := by assumption) (_ : .arbs ∈ A := by assumption)
    (_ : .hif ∈ A := by assumption) (_ : .serve ∈ A := by assumption) (_ : .ctl ∈ A := by assumption)
    (_ : .mem ∈ A := by assumption) (_ : .sms ∈ A := by assumption) (_ : .fab ∈ A := by assumption)
    (_ : .lnk ∈ A := by assumption) (_ : .mgt ∈ A := by assumption) :
    SameO A u (execVectorLoad a0 a1 s) := by
  unfold execVectorLoad
  grind [State.advance_same, State.tryLoad_same, SameO.next]

theorem execTransposeVector_same {A : List Area} {u s : State} (h : SameBut A u s) (a0 a1 a2)
    (_ : .regs ∈ A := by assumption) (_ : .now ∈ A := by assumption) (_ : .arbs ∈ A := by assumption)
    (_ : .hif ∈ A := by assumption) (_ : .serve ∈ A := by assumption) (_ : .ctl ∈ A := by assumption)
    (_ : .mem ∈ A := by assumption) (_ : .sms ∈ A := by assumption) (_ : .fab ∈ A := by assumption)
    (_ : .lnk ∈ A := by assumption) (_ : .mgt ∈ A := by assumption) :
    SameO A u (execTransposeVector a0 a1 a2 s) := by
  unfold execTransposeVector
  grind [State.advance_same, State.tryLoad_same, SameO.next]

theorem State.putEntry_same {A : List Area} {u s : State} (h : SameBut A u s) (a1 a2 a3 a4 a5 a6)
    (_ : .regs ∈ A := by assumption) (_ : .arbs ∈ A := by assumption) (_ : .hif ∈ A := by assumption)
    (_ : .serve ∈ A := by assumption) (_ : .ctl ∈ A := by assumption) (_ : .mem ∈ A := by assumption)
    (_ : .sms ∈ A := by assumption) (_ : .fab ∈ A := by assumption) (_ : .lnk ∈ A := by assumption)
    (_ : .mgt ∈ A := by assumption) :
    SameBut A u (State.putEntry s a1 a2 a3 a4 a5 a6) := by
  unfold State.putEntry
  grind [State.goLoads_same, State.writeEntry_same]

theorem execQueueEntryWrite_same {A : List Area} {u s : State} (h : SameBut A u s) (a0 a1 a2 a3 a4 a5)
    (_ : .regs ∈ A := by assumption) (_ : .now ∈ A := by assumption) (_ : .arbs ∈ A := by assumption)
    (_ : .hif ∈ A := by assumption) (_ : .serve ∈ A := by assumption) (_ : .ctl ∈ A := by assumption)
    (_ : .mem ∈ A := by assumption) (_ : .sms ∈ A := by assumption) (_ : .fab ∈ A := by assumption)
    (_ : .lnk ∈ A := by assumption) (_ : .mgt ∈ A := by assumption) :
    SameO A u (execQueueEntryWrite a0 a1 a2 a3 a4 a5 s) := by
  unfold execQueueEntryWrite
  grind [State.advance_same, State.putEntry_same, SameO.next]

theorem State.dropLoads_same {A : List Area} {u s : State} (h : SameBut A u s) (a1)
    (_ : .regs ∈ A := by assumption) (_ : .fab ∈ A := by assumption) :
    SameBut A u (State.dropLoads s a1) := by
  unfold State.dropLoads
  grind [State.count_same, State.withFab_same]

theorem State.resetCore_same {A : List Area} {u s : State} (h : SameBut A u s) (a1)
    (_ : .regs ∈ A := by assumption) (_ : .ctl ∈ A := by assumption) (_ : .fab ∈ A := by assumption) :
    SameBut A u (State.resetCore s a1) := by
  unfold State.resetCore
  grind [State.clearCore_same, State.dropLoads_same, State.withFab_same]

theorem State.setTrk_same {A : List Area} {u s : State} (h : SameBut A u s) (a1 a2) (_ : .fab ∈ A := by assumption) :
    SameBut A u (State.setTrk s a1 a2) := by
  unfold State.setTrk
  grind [State.withFab_same]

theorem State.setCorr_same {A : List Area} {u s : State} (h : SameBut A u s) (a1 a2) (_ : .fab ∈ A := by assumption) :
    SameBut A u (State.setCorr s a1 a2) := by
  unfold State.setCorr
  grind [State.withFab_same]

theorem State.trackUpdate_same {A : List Area} {u s : State} (h : SameBut A u s) (a1 a2 a3)
    (_ : .regs ∈ A := by assumption) (_ : .arbs ∈ A := by assumption) (_ : .hif ∈ A := by assumption)
    (_ : .serve ∈ A := by assumption) (_ : .ctl ∈ A := by assumption) (_ : .sms ∈ A := by assumption)
    (_ : .fab ∈ A := by assumption) (_ : .lnk ∈ A := by assumption) (_ : .mgt ∈ A := by assumption) :
    SameBut A u (State.trackUpdate s a1 a2 a3) := by
  unfold State.trackUpdate
  grind [State.count_same, State.logEvent_same, State.setTrk_same, State.suspect_same]

theorem State.applyTracking_same {A : List Area} {u s : State} (h : SameBut A u s) (_ : .fab ∈ A := by assumption)
    (_ : .ptm ∈ A := by assumption) :
    SameBut A u (State.applyTracking s) := by
  unfold State.applyTracking
  grind [State.withFab_same, State.withPtm_same]

theorem State.trackNow_same {A : List Area} {u s : State} (h : SameBut A u s) (_ : .fab ∈ A := by assumption)
    (_ : .ptm ∈ A := by assumption) :
    SameBut A u (State.trackNow s) := by
  unfold State.trackNow
  grind [State.applyTracking_same]

theorem execTrackVisit_same {A : List Area} {u s : State} (h : SameBut A u s) (a0 a1 a2)
    (_ : .regs ∈ A := by assumption) (_ : .now ∈ A := by assumption) (_ : .arbs ∈ A := by assumption)
    (_ : .hif ∈ A := by assumption) (_ : .serve ∈ A := by assumption) (_ : .ctl ∈ A := by assumption)
    (_ : .sms ∈ A := by assumption) (_ : .fab ∈ A := by assumption) (_ : .lnk ∈ A := by assumption)
    (_ : .ptm ∈ A := by assumption) (_ : .mgt ∈ A := by assumption) :
    SameO A u (execTrackVisit a0 a1 a2 s) := by
  unfold execTrackVisit
  grind [State.advance_same, State.setTrk_same, State.trackNow_same, State.trackUpdate_same, SameO.next]

theorem State.respare_same {A : List Area} {u s : State} (h : SameBut A u s) (a1) (_ : .fab ∈ A := by assumption) :
    SameBut A u (State.respare s a1) := by
  unfold State.respare
  grind [State.setBank_same, forEach_same]

theorem execTrackSwapIn_same {A : List Area} {u s : State} (h : SameBut A u s) (a0 a1)
    (_ : .now ∈ A := by assumption) (_ : .fab ∈ A := by assumption) :
    SameO A u (execTrackSwapIn a0 a1 s) := by
  unfold execTrackSwapIn
  grind [State.advance_same, State.respare_same, State.setTrk_same, SameO.next]

theorem State.roundDone_same {A : List Area} {u s : State} (h : SameBut A u s) (a1)
    (_ : .regs ∈ A := by assumption) (_ : .fab ∈ A := by assumption) (_ : .ptm ∈ A := by assumption) :
    SameBut A u (State.roundDone s a1) := by
  unfold State.roundDone
  grind [State.count_same, State.setTrk_same, State.withFab_same, State.withPtm_same]

theorem execTrackSwapOut_same {A : List Area} {u s : State} (h : SameBut A u s) (a0 a1 a2)
    (_ : .regs ∈ A := by assumption) (_ : .now ∈ A := by assumption) (_ : .arbs ∈ A := by assumption)
    (_ : .hif ∈ A := by assumption) (_ : .serve ∈ A := by assumption) (_ : .ctl ∈ A := by assumption)
    (_ : .sms ∈ A := by assumption) (_ : .fab ∈ A := by assumption) (_ : .lnk ∈ A := by assumption)
    (_ : .ptm ∈ A := by assumption) (_ : .mgt ∈ A := by assumption) :
    SameO A u (execTrackSwapOut a0 a1 a2 s) := by
  unfold execTrackSwapOut
  grind (splits := 40) (gen := 20) (ematch := 20) [State.advance_same, State.respare_same, State.roundDone_same, State.setTrk_same, State.trackNow_same, State.trackUpdate_same, SameO.next]

theorem State.askRefresh_same {A : List Area} {u s : State} (h : SameBut A u s) (a1 a2 a3 a4)
    (_ : .lst ∈ A := by assumption) :
    SameBut A u (State.askRefresh s a1 a2 a3 a4) := by
  unfold State.askRefresh
  grind [State.withLst_same]

theorem State.recomputeDrift_same {A : List Area} {u s : State} (h : SameBut A u s) (a1)
    (_ : .lst ∈ A := by assumption) (_ : .fab ∈ A := by assumption) :
    SameBut A u (State.recomputeDrift s a1) := by
  unfold State.recomputeDrift
  grind [State.askRefresh_same, State.setCorr_same]

theorem execWltDriftUpdate_same {A : List Area} {u s : State} (h : SameBut A u s) (a0)
    (_ : .now ∈ A := by assumption) (_ : .lst ∈ A := by assumption) (_ : .fab ∈ A := by assumption)
    (_ : .ptm ∈ A := by assumption) :
    SameO A u (execWltDriftUpdate a0 s) := by
  unfold execWltDriftUpdate
  grind [State.advance_same, State.recomputeDrift_same, State.trackNow_same, State.withFab_same, forEach_same, SameO.next]

theorem State.answerOwner_same {A : List Area} {u s : State} (h : SameBut A u s) (a1 a2 a3 a4 a5)
    (_ : .arbs ∈ A := by assumption) (_ : .hif ∈ A := by assumption) :
    SameBut A u (State.answerOwner s a1 a2 a3 a4 a5) := by
  unfold State.answerOwner
  grind [State.complete_same]

theorem State.sendReads_same {A : List Area} {u s : State} (h : SameBut A u s) (a1 a2) (_ : .lnk ∈ A := by assumption) :
    SameBut A u (State.sendReads s a1 a2) := by
  unfold State.sendReads
  grind [State.withLnk_same]

theorem State.flushReads_same {A : List Area} {u s : State} (h : SameBut A u s) (a1) (_ : .lnk ∈ A := by assumption) :
    SameBut A u (State.flushReads s a1) := by
  unfold State.flushReads
  grind [State.withLnk_same]

theorem State.dropHeldReads_same {A : List Area} {u s : State} (h : SameBut A u s) (a1 a2) (_ : .lnk ∈ A := by assumption) :
    SameBut A u (State.dropHeldReads s a1 a2) := by
  unfold State.dropHeldReads
  grind [State.withLnk_same]

theorem State.pumpReads_same {A : List Area} {u s : State} (h : SameBut A u s) (a1 a2)
    (_ : .lst ∈ A := by assumption) (_ : .lnk ∈ A := by assumption) :
    SameBut A u (State.pumpReads s a1 a2) := by
  unfold State.pumpReads
  grind [State.flushReads_same, State.sendReads_same, State.setObj_same, State.withLnk_same]

theorem State.endLoad_same {A : List Area} {u s : State} (h : SameBut A u s) (a1 a2 a3 a4)
    (_ : .arbs ∈ A := by assumption) (_ : .hif ∈ A := by assumption) (_ : .lst ∈ A := by assumption)
    (_ : .lnk ∈ A := by assumption) :
    SameBut A u (State.endLoad s a1 a2 a3 a4) := by
  unfold State.endLoad
  grind [State.answerOwner_same, State.pumpReads_same, State.setObj_same, State.withLst_same]

end Sys2Proof.Machine
end

