-- ==== Sys2Proof/Laws/FrameWeights.lean ====
section
/-! SUPPORT. The areas that each operation leaves as they were, in the order of the model's files, from Loader to Links: one lemma an
operation, cited in place of its unfolding. -/

set_option Elab.async false
set_option linter.all false

namespace Sys2Proof.Machine

theorem State.loadBad_same {A : List Area} {u s : State} (h : SameBut A u s) (a1) (_ : .regs ∈ A := by assumption)
    (_ : .arbs ∈ A := by assumption) (_ : .hif ∈ A := by assumption) (_ : .lst ∈ A := by assumption)
    (_ : .lnk ∈ A := by assumption) :
    SameBut A u (State.loadBad s a1) := by
  unfold State.loadBad
  grind [State.count_same, State.endLoad_same]

theorem State.loadEmpty_same {A : List Area} {u s : State} (h : SameBut A u s) (a1 a2)
    (_ : .arbs ∈ A := by assumption) (_ : .hif ∈ A := by assumption) (_ : .lst ∈ A := by assumption)
    (_ : .lnk ∈ A := by assumption) :
    SameBut A u (State.loadEmpty s a1 a2) := by
  unfold State.loadEmpty
  grind [State.endLoad_same]

theorem State.submitLoad_same {A : List Area} {u s : State} (h : SameBut A u s) (a1 a2)
    (_ : .arbs ∈ A := by assumption) (_ : .hif ∈ A := by assumption) (_ : .lst ∈ A := by assumption)
    (_ : .lnk ∈ A := by assumption) :
    SameBut A u (State.submitLoad s a1 a2) := by
  unfold State.submitLoad
  grind [State.answer_same, State.newEntry_same, State.pumpReads_same, State.setObj_same, State.withLst_same]

theorem State.manifestStep_same {A : List Area} {u s : State} (h : SameBut A u s) (n : Nat) (l : Loading)
    (_ : .regs ∈ A := by assumption) (_ : .arbs ∈ A := by assumption) (_ : .hif ∈ A := by assumption)
    (_ : .lst ∈ A := by assumption) (_ : .lnk ∈ A := by assumption) : SameBut A u (s.manifestStep n l) := by
  unfold State.manifestStep
  extract_lets o b m
  repeat' split
  all_goals first
    | exact State.loadBad_same h n
    | exact State.loadEmpty_same h n _
    | exact State.setObj_same h n _

theorem State.sectionSteps_same {A : List Area} {u s : State} (h : SameBut A u s) (n : Nat) (l : List DirEntry)
    (_ : .regs ∈ A := by assumption) (_ : .arbs ∈ A := by assumption) (_ : .hif ∈ A := by assumption)
    (_ : .lst ∈ A := by assumption) (_ : .lnk ∈ A := by assumption) : SameBut A u (s.sectionSteps n l) := by
  induction l generalizing s with
  | nil => exact h
  | cons d t ih => unfold State.sectionSteps; grind [State.loadBad_same, State.setObj_same]

theorem State.writeObj_same {A : List Area} {u s : State} (h : SameBut A u s) (a1 a2 a3) (_ : .mem ∈ A := by assumption) :
    SameBut A u (State.writeObj s a1 a2 a3) := by
  unfold State.writeObj
  grind [State.writeByte_same, forEach_same]

theorem State.loadBytes_same {A : List Area} {u s : State} (h : SameBut A u s) (a1 a2)
    (_ : .regs ∈ A := by assumption) (_ : .arbs ∈ A := by assumption) (_ : .hif ∈ A := by assumption)
    (_ : .lst ∈ A := by assumption) (_ : .mem ∈ A := by assumption) (_ : .lnk ∈ A := by assumption) :
    SameBut A u (State.loadBytes s a1 a2) := by
  unfold State.loadBytes
  grind (splits := 40) (gen := 20) (ematch := 20) [State.chargeTier_same, State.manifestStep_same, State.pumpReads_same, State.sectionSteps_same, State.setObj_same, State.stage_same, State.useTier_same, State.writeObj_same]

theorem State.checkComplete_same {A : List Area} {u s : State} (h : SameBut A u s) (a1)
    (_ : .regs ∈ A := by assumption) (_ : .arbs ∈ A := by assumption) (_ : .hif ∈ A := by assumption)
    (_ : .lst ∈ A := by assumption) (_ : .lnk ∈ A := by assumption) :
    SameBut A u (State.checkComplete s a1) := by
  unfold State.checkComplete
  grind [State.endLoad_same, State.loadBad_same]

theorem State.qpError_same {A : List Area} {u s : State} (h : SameBut A u s) (a1 a2 a3)
    (_ : .regs ∈ A := by assumption) (_ : .arbs ∈ A := by assumption) (_ : .hif ∈ A := by assumption)
    (_ : .lst ∈ A := by assumption) (_ : .lnk ∈ A := by assumption) :
    SameBut A u (State.qpError s a1 a2 a3) := by
  unfold State.qpError
  grind [State.dropHeldReads_same, State.loadEmpty_same, State.wr_same, forEach_same]

theorem State.copyEmbedding_same {A : List Area} {u s : State} (h : SameBut A u s) (a1) (_ : .mem ∈ A := by assumption) :
    SameBut A u (State.copyEmbedding s a1) := by
  unfold State.copyEmbedding
  grind [State.writeBytes_same]

theorem State.submitBind_same {A : List Area} {u s : State} (h : SameBut A u s) (a1 a2 a3 a4)
    (_ : .regs ∈ A := by assumption) (_ : .arbs ∈ A := by assumption) (_ : .hif ∈ A := by assumption)
    (_ : .lst ∈ A := by assumption) (_ : .mem ∈ A := by assumption) (_ : .fab ∈ A := by assumption) :
    SameBut A u (State.submitBind s a1 a2 a3 a4) := by
  unfold State.submitBind
  grind [State.answer_same, State.copyEmbedding_same, State.count_same, State.newEntry_same, State.withFab_same, State.withLst_same]

theorem State.submitSwap_same {A : List Area} {u s : State} (h : SameBut A u s) (a1 a2 a3)
    (_ : .arbs ∈ A := by assumption) (_ : .hif ∈ A := by assumption) (_ : .lst ∈ A := by assumption) :
    SameBut A u (State.submitSwap s a1 a2 a3) := by
  unfold State.submitSwap
  grind [State.answer_same, State.newEntry_same, State.withLst_same]

theorem State.submitAdapter_same {A : List Area} {u s : State} (h : SameBut A u s) (a1 a2)
    (_ : .arbs ∈ A := by assumption) (_ : .hif ∈ A := by assumption) (_ : .lst ∈ A := by assumption) :
    SameBut A u (State.submitAdapter s a1 a2) := by
  unfold State.submitAdapter
  grind [State.answer_same, State.newEntry_same, State.setObj_same, State.withLst_same]

theorem State.unloadDone_same {A : List Area} {u s : State} (h : SameBut A u s) (a1)
    (_ : .arbs ∈ A := by assumption) (_ : .hif ∈ A := by assumption) (_ : .lst ∈ A := by assumption) :
    SameBut A u (State.unloadDone s a1) := by
  unfold State.unloadDone
  grind [State.answerOwner_same, State.setObj_same, State.withLst_same]

theorem State.submitUnload_same {A : List Area} {u s : State} (h : SameBut A u s) (a1)
    (_ : .arbs ∈ A := by assumption) (_ : .hif ∈ A := by assumption) (_ : .lst ∈ A := by assumption) :
    SameBut A u (State.submitUnload s a1) := by
  unfold State.submitUnload
  grind [State.answer_same, State.newEntry_same, State.withLst_same]

theorem State.setModes_same {A : List Area} {u s : State} (h : SameBut A u s) (a1 a2) (_ : .regs ∈ A := by assumption) :
    SameBut A u (State.setModes s a1 a2) := by
  unfold State.setModes
  grind [State.wr_same, forEach_same]

theorem State.toBoundary_same {A : List Area} {u s : State} (h : SameBut A u s) (_ : .now ∈ A := by assumption) :
    SameBut A u (State.toBoundary s) := by
  unfold State.toBoundary
  grind [State.advance_same]

theorem State.bindComplete_same {A : List Area} {u s : State} (h : SameBut A u s) (_ : .regs ∈ A := by assumption)
    (_ : .now ∈ A := by assumption) (_ : .arbs ∈ A := by assumption) (_ : .hif ∈ A := by assumption)
    (_ : .lst ∈ A := by assumption) :
    SameBut A u (State.bindComplete s) := by
  unfold State.bindComplete
  grind (splits := 40) (gen := 20) (ematch := 20) [State.answerOwner_same, State.setModes_same, State.setObj_same, State.toBoundary_same, State.withLst_same]

theorem State.swapPrepared_same {A : List Area} {u s : State} (h : SameBut A u s) (_ : .lst ∈ A := by assumption)
    (_ : .mem ∈ A := by assumption) :
    SameBut A u (State.swapPrepared s) := by
  unfold State.swapPrepared
  grind [State.copyEmbedding_same, State.setObj_same, State.withLst_same, forEach_same]

theorem State.switchNow_same {A : List Area} {u s : State} (h : SameBut A u s) (_ : .regs ∈ A := by assumption)
    (_ : .lst ∈ A := by assumption) (_ : .free ∈ A := by assumption) :
    SameBut A u (State.switchNow s) := by
  unfold State.switchNow
  grind [State.draw_same, State.setModes_same, State.setObj_same, State.withLst_same]

theorem State.announceSwitch_same {A : List Area} {u s : State} (h : SameBut A u s) (_ : .lst ∈ A := by assumption) :
    SameBut A u (State.announceSwitch s) := by
  unfold State.announceSwitch
  grind [State.withLst_same]

theorem State.swapSwitch_same {A : List Area} {u s : State} (h : SameBut A u s) (_ : .regs ∈ A := by assumption)
    (_ : .now ∈ A := by assumption) (_ : .lst ∈ A := by assumption) (_ : .free ∈ A := by assumption) :
    SameBut A u (State.swapSwitch s) := by
  unfold State.swapSwitch
  grind [State.announceSwitch_same, State.switchNow_same, State.toBoundary_same]

theorem State.swapEnd_same {A : List Area} {u s : State} (h : SameBut A u s) (_ : .arbs ∈ A := by assumption)
    (_ : .hif ∈ A := by assumption) (_ : .lst ∈ A := by assumption) :
    SameBut A u (State.swapEnd s) := by
  unfold State.swapEnd
  grind [State.answerOwner_same, State.setObj_same, State.unloadDone_same, State.withLst_same, forEach_same]

theorem execLoadObject_same {A : List Area} {u s : State} (h : SameBut A u s) (a0 a1 a2)
    (_ : .now ∈ A := by assumption) (_ : .arbs ∈ A := by assumption) (_ : .hif ∈ A := by assumption)
    (_ : .lst ∈ A := by assumption) (_ : .lnk ∈ A := by assumption) :
    SameO A u (execLoadObject a0 a1 a2 s) := by
  unfold execLoadObject
  grind [State.advance_same, State.submitLoad_same, SameO.next]

theorem execBindWeights_same {A : List Area} {u s : State} (h : SameBut A u s) (a0 a1 a2 a3 a4)
    (_ : .regs ∈ A := by assumption) (_ : .now ∈ A := by assumption) (_ : .arbs ∈ A := by assumption)
    (_ : .hif ∈ A := by assumption) (_ : .lst ∈ A := by assumption) (_ : .mem ∈ A := by assumption)
    (_ : .fab ∈ A := by assumption) :
    SameO A u (execBindWeights a0 a1 a2 a3 a4 s) := by
  unfold execBindWeights
  grind [State.advance_same, State.submitBind_same, SameO.next]

theorem execSwapWeights_same {A : List Area} {u s : State} (h : SameBut A u s) (a0 a1 a2 a3)
    (_ : .now ∈ A := by assumption) (_ : .arbs ∈ A := by assumption) (_ : .hif ∈ A := by assumption)
    (_ : .lst ∈ A := by assumption) :
    SameO A u (execSwapWeights a0 a1 a2 a3 s) := by
  unfold execSwapWeights
  grind [State.advance_same, State.submitSwap_same, SameO.next]

theorem execAdapterLoad_same {A : List Area} {u s : State} (h : SameBut A u s) (a0 a1 a2)
    (_ : .now ∈ A := by assumption) (_ : .arbs ∈ A := by assumption) (_ : .hif ∈ A := by assumption)
    (_ : .lst ∈ A := by assumption) :
    SameO A u (execAdapterLoad a0 a1 a2 s) := by
  unfold execAdapterLoad
  grind [State.advance_same, State.submitAdapter_same, SameO.next]

theorem execAdapterUnload_same {A : List Area} {u s : State} (h : SameBut A u s) (a0 a1)
    (_ : .now ∈ A := by assumption) (_ : .arbs ∈ A := by assumption) (_ : .hif ∈ A := by assumption)
    (_ : .lst ∈ A := by assumption) :
    SameO A u (execAdapterUnload a0 a1 s) := by
  unfold execAdapterUnload
  grind [State.advance_same, State.submitUnload_same, SameO.next]

theorem execAdapterUnloadComplete_same {A : List Area} {u s : State} (h : SameBut A u s) (a0 a1 a2)
    (_ : .now ∈ A := by assumption) (_ : .arbs ∈ A := by assumption) (_ : .hif ∈ A := by assumption)
    (_ : .lst ∈ A := by assumption) :
    SameO A u (execAdapterUnloadComplete a0 a1 a2 s) := by
  unfold execAdapterUnloadComplete
  grind [State.advance_same, State.unloadDone_same, SameO.next]

theorem execObjectCheckComplete_same {A : List Area} {u s : State} (h : SameBut A u s) (a0 a1)
    (_ : .regs ∈ A := by assumption) (_ : .now ∈ A := by assumption) (_ : .arbs ∈ A := by assumption)
    (_ : .hif ∈ A := by assumption) (_ : .lst ∈ A := by assumption) (_ : .lnk ∈ A := by assumption) :
    SameO A u (execObjectCheckComplete a0 a1 s) := by
  unfold execObjectCheckComplete
  grind [State.advance_same, State.checkComplete_same, SameO.next]

theorem execBindComplete_same {A : List Area} {u s : State} (h : SameBut A u s) (a0)
    (_ : .regs ∈ A := by assumption) (_ : .now ∈ A := by assumption) (_ : .arbs ∈ A := by assumption)
    (_ : .hif ∈ A := by assumption) (_ : .lst ∈ A := by assumption) :
    SameO A u (execBindComplete a0 s) := by
  unfold execBindComplete
  grind [State.advance_same, State.bindComplete_same, SameO.next]

theorem execSwapPrepareComplete_same {A : List Area} {u s : State} (h : SameBut A u s) (a0)
    (_ : .now ∈ A := by assumption) (_ : .lst ∈ A := by assumption) (_ : .mem ∈ A := by assumption) :
    SameO A u (execSwapPrepareComplete a0 s) := by
  unfold execSwapPrepareComplete
  grind [State.advance_same, State.swapPrepared_same, SameO.next]

theorem execSwapSwitch_same {A : List Area} {u s : State} (h : SameBut A u s) (a0) (_ : .regs ∈ A := by assumption)
    (_ : .now ∈ A := by assumption) (_ : .lst ∈ A := by assumption) (_ : .free ∈ A := by assumption) :
    SameO A u (execSwapSwitch a0 s) := by
  unfold execSwapSwitch
  grind [State.advance_same, State.swapSwitch_same, SameO.next]

theorem execSwapEnd_same {A : List Area} {u s : State} (h : SameBut A u s) (a0) (_ : .now ∈ A := by assumption)
    (_ : .arbs ∈ A := by assumption) (_ : .hif ∈ A := by assumption) (_ : .lst ∈ A := by assumption) :
    SameO A u (execSwapEnd a0 s) := by
  unfold execSwapEnd
  grind [State.advance_same, State.swapEnd_same, SameO.next]

theorem State.wear_same {A : List Area} {u s : State} (h : SameBut A u s) (a1) (_ : .lst ∈ A := by assumption) :
    SameBut A u (State.wear s a1) := by
  unfold State.wear
  grind [State.withLst_same]

theorem State.loadTiles_same {A : List Area} {u s : State} (h : SameBut A u s) (a1)
    (_ : .arbs ∈ A := by assumption) (_ : .fab ∈ A := by assumption) :
    SameBut A u (State.loadTiles s a1) := by
  unfold State.loadTiles
  grind [State.stage_same, State.useTier_same, State.withFab_same, forEach_same]

theorem State.enduranceMove_same {A : List Area} {u s : State} (h : SameBut A u s) (a1)
    (_ : .regs ∈ A := by assumption) (_ : .hif ∈ A := by assumption) (_ : .lst ∈ A := by assumption)
    (_ : .sms ∈ A := by assumption) :
    SameBut A u (State.enduranceMove s a1) := by
  unfold State.enduranceMove
  grind [State.count_same, State.logEvent_same, State.withLst_same]

theorem State.keepMap_same {A : List Area} {u s : State} (h : SameBut A u s) (a1) (_ : .lst ∈ A := by assumption) :
    SameBut A u (State.keepMap s a1) := by
  unfold State.keepMap
  grind [State.withLst_same]

theorem State.mapNow_same {A : List Area} {u s : State} (h : SameBut A u s) (a1) (_ : .lst ∈ A := by assumption) :
    SameBut A u (State.mapNow s a1) := by
  unfold State.mapNow
  grind [State.withLst_same]

theorem State.startLasting_same {A : List Area} {u s : State} (h : SameBut A u s) (a1 a2 a3)
    (_ : .regs ∈ A := by assumption) (_ : .arbs ∈ A := by assumption) (_ : .hif ∈ A := by assumption)
    (_ : .lst ∈ A := by assumption) (_ : .sms ∈ A := by assumption) (_ : .fab ∈ A := by assumption) :
    SameBut A u (State.startLasting s a1 a2 a3) := by
  unfold State.startLasting
  grind [State.enduranceMove_same, State.keepMap_same, State.loadTiles_same, State.withLst_same]

theorem State.tryLasting_same {A : List Area} {u s : State} (h : SameBut A u s) (a1)
    (_ : .regs ∈ A := by assumption) (_ : .arbs ∈ A := by assumption) (_ : .hif ∈ A := by assumption)
    (_ : .lst ∈ A := by assumption) (_ : .sms ∈ A := by assumption) (_ : .fab ∈ A := by assumption) :
    SameBut A u (State.tryLasting s a1) := by
  unfold State.tryLasting
  grind [State.startLasting_same]

theorem State.lastRows_same {A : List Area} {u s : State} (h : SameBut A u s) (phys : Nat) (l : List (Nat × Nat))
    (_ : .regs ∈ A := by assumption) (_ : .lst ∈ A := by assumption) :
    SameBut A u (s.lastRows phys l).1 := by
  induction l generalizing s with
  | nil => exact h
  | cons d t ih =>
    obtain ⟨a, b⟩ := d
    unfold State.lastRows
    grind [State.withLst_same, State.count_same]

theorem State.setLasting_same {A : List Area} {u s : State} (h : SameBut A u s) (a1) (_ : .lst ∈ A := by assumption) :
    SameBut A u (State.setLasting s a1) := by
  unfold State.setLasting
  grind [State.withLst_same]

theorem State.dropLasting_same {A : List Area} {u s : State} (h : SameBut A u s) (a1) (_ : .lst ∈ A := by assumption) :
    SameBut A u (State.dropLasting s a1) := by
  unfold State.dropLasting
  grind [State.withLst_same]

theorem State.retireSite_same {A : List Area} {u s : State} (h : SameBut A u s) (a1 a2)
    (_ : .regs ∈ A := by assumption) (_ : .arbs ∈ A := by assumption) (_ : .hif ∈ A := by assumption)
    (_ : .serve ∈ A := by assumption) (_ : .lst ∈ A := by assumption) (_ : .ctl ∈ A := by assumption)
    (_ : .sms ∈ A := by assumption) (_ : .lnk ∈ A := by assumption) (_ : .mgt ∈ A := by assumption) :
    SameBut A u (State.retireSite s a1 a2) := by
  unfold State.retireSite
  grind [State.markRetire_same, State.setHealth_same, State.withLst_same]

theorem State.lastMove_same {A : List Area} {u s : State} (h : SameBut A u s) (a1) (_ : .regs ∈ A := by assumption)
    (_ : .arbs ∈ A := by assumption) (_ : .hif ∈ A := by assumption) (_ : .serve ∈ A := by assumption)
    (_ : .lst ∈ A := by assumption) (_ : .ctl ∈ A := by assumption) (_ : .sms ∈ A := by assumption)
    (_ : .lnk ∈ A := by assumption) (_ : .mgt ∈ A := by assumption) :
    SameBut A u (State.lastMove s a1) := by
  unfold State.lastMove
  grind [State.count_same, State.dropLasting_same, State.mapNow_same, State.retireSite_same, State.setLasting_same, State.wear_same, State.withLst_same]

theorem State.lasted_same {A : List Area} {u s : State} (h : SameBut A u s) (a1 a2)
    (_ : .regs ∈ A := by assumption) (_ : .lst ∈ A := by assumption) (_ : .fab ∈ A := by assumption) :
    SameBut A u (State.lasted s a1 a2) := by
  unfold State.lasted
  grind [State.count_same, State.setCorr_same, State.wear_same, State.withLst_same]

theorem State.lastDone_same {A : List Area} {u s : State} (h : SameBut A u s) (a1) (_ : .regs ∈ A := by assumption)
    (_ : .lst ∈ A := by assumption) (_ : .sms ∈ A := by assumption) (_ : .fab ∈ A := by assumption) :
    SameBut A u (State.lastDone s a1) := by
  unfold State.lastDone
  grind [State.count_same, State.dropLasting_same, State.lasted_same, State.mapNow_same, State.setHealth_same, State.withLst_same]

theorem execLastingComplete_same {A : List Area} {u s : State} (h : SameBut A u s) (a0 a1 a2)
    (_ : .regs ∈ A := by assumption) (_ : .now ∈ A := by assumption) (_ : .arbs ∈ A := by assumption)
    (_ : .hif ∈ A := by assumption) (_ : .serve ∈ A := by assumption) (_ : .lst ∈ A := by assumption)
    (_ : .ctl ∈ A := by assumption) (_ : .sms ∈ A := by assumption) (_ : .fab ∈ A := by assumption)
    (_ : .lnk ∈ A := by assumption) (_ : .mgt ∈ A := by assumption) :
    SameO A u (execLastingComplete a0 a1 a2 s) := by
  unfold execLastingComplete
  grind (splits := 40) (gen := 20) (ematch := 20) [State.advance_same, State.lastDone_same, State.lastMove_same, State.lastRows_same, State.setLasting_same, State.wear_same, SameO.next]

theorem execLastingWatchdog_same {A : List Area} {u s : State} (h : SameBut A u s) (a0 a1)
    (_ : .regs ∈ A := by assumption) (_ : .now ∈ A := by assumption) (_ : .arbs ∈ A := by assumption)
    (_ : .hif ∈ A := by assumption) (_ : .serve ∈ A := by assumption) (_ : .lst ∈ A := by assumption)
    (_ : .ctl ∈ A := by assumption) (_ : .sms ∈ A := by assumption) (_ : .lnk ∈ A := by assumption)
    (_ : .mgt ∈ A := by assumption) :
    SameO A u (execLastingWatchdog a0 a1 s) := by
  unfold execLastingWatchdog
  grind [State.advance_same, State.count_same, State.lastMove_same, SameO.next]

theorem State.runProbe_same {A : List Area} {u s : State} (h : SameBut A u s) (a1 a2 a3)
    (_ : .regs ∈ A := by assumption) (_ : .arbs ∈ A := by assumption) (_ : .hif ∈ A := by assumption)
    (_ : .serve ∈ A := by assumption) (_ : .ctl ∈ A := by assumption) (_ : .mem ∈ A := by assumption)
    (_ : .sms ∈ A := by assumption) (_ : .fab ∈ A := by assumption) (_ : .lnk ∈ A := by assumption)
    (_ : .mgt ∈ A := by assumption) :
    SameBut A u (State.runProbe s a1 a2 a3) := by
  unfold State.runProbe
  grind [State.count_same, State.goCluster_same, State.satLog_same, State.setProbe_same, forEach_same]

theorem State.probeTaken_same {A : List Area} {u s : State} (h : SameBut A u s) (a1 a2) (_ : .lst ∈ A := by assumption) :
    SameBut A u (State.probeTaken s a1 a2) := by
  unfold State.probeTaken
  grind [State.withLst_same]

theorem State.probeResult_same {A : List Area} {u s : State} (h : SameBut A u s) (a1 a2 a3 a4)
    (_ : .regs ∈ A := by assumption) (_ : .arbs ∈ A := by assumption) (_ : .hif ∈ A := by assumption)
    (_ : .serve ∈ A := by assumption) (_ : .lst ∈ A := by assumption) (_ : .ctl ∈ A := by assumption)
    (_ : .sms ∈ A := by assumption) (_ : .fab ∈ A := by assumption) (_ : .lnk ∈ A := by assumption)
    (_ : .ptm ∈ A := by assumption) (_ : .mgt ∈ A := by assumption) :
    SameBut A u (State.probeResult s a1 a2 a3 a4) := by
  unfold State.probeResult
  grind (splits := 40) (gen := 20) (ematch := 20) [State.askRefresh_same, State.count_same, State.logEvent_same, State.recomputeDrift_same, State.setCorr_same, State.suspect_same, State.trackNow_same, State.withLst_same]

theorem execLehrProbe_same {A : List Area} {u s : State} (h : SameBut A u s) (a0 a1 a2)
    (_ : .regs ∈ A := by assumption) (_ : .now ∈ A := by assumption) (_ : .arbs ∈ A := by assumption)
    (_ : .hif ∈ A := by assumption) (_ : .serve ∈ A := by assumption) (_ : .lst ∈ A := by assumption)
    (_ : .ctl ∈ A := by assumption) (_ : .mem ∈ A := by assumption) (_ : .sms ∈ A := by assumption)
    (_ : .fab ∈ A := by assumption) (_ : .lnk ∈ A := by assumption) (_ : .ptm ∈ A := by assumption)
    (_ : .mgt ∈ A := by assumption) :
    SameO A u (execLehrProbe a0 a1 a2 s) := by
  unfold execLehrProbe
  grind [State.advance_same, State.probeResult_same, State.probeTaken_same, State.runProbe_same, SameO.next]

theorem execLehrRefresh_same {A : List Area} {u s : State} (h : SameBut A u s) (a0 a1)
    (_ : .regs ∈ A := by assumption) (_ : .now ∈ A := by assumption) (_ : .arbs ∈ A := by assumption)
    (_ : .hif ∈ A := by assumption) (_ : .lst ∈ A := by assumption) (_ : .sms ∈ A := by assumption)
    (_ : .fab ∈ A := by assumption) :
    SameO A u (execLehrRefresh a0 a1 s) := by
  unfold execLehrRefresh
  grind [State.advance_same, State.startLasting_same, State.toBoundary_same, State.withLst_same, SameO.next]

theorem State.retireSlice_same {A : List Area} {u s : State} (h : SameBut A u s) (a1 a2) (_ : .fab ∈ A := by assumption) :
    SameBut A u (State.retireSlice s a1 a2) := by
  unfold State.retireSlice
  grind [State.respare_same, State.setTrk_same]

theorem State.applyMove_same {A : List Area} {u s : State} (h : SameBut A u s) (a1)
    (_ : .regs ∈ A := by assumption) (_ : .lst ∈ A := by assumption) (_ : .ctl ∈ A := by assumption)
    (_ : .sms ∈ A := by assumption) (_ : .fab ∈ A := by assumption) :
    SameBut A u (State.applyMove s a1) := by
  unfold State.applyMove
  grind [State.resetCore_same, State.retireSlice_same, State.setHealth_same, State.withLst_same]

theorem State.showTrip_same {A : List Area} {u s : State} (h : SameBut A u s) (_ : .regs ∈ A := by assumption) :
    SameBut A u (State.showTrip s) := by
  unfold State.showTrip
  grind [State.wr_same]

theorem State.mainReset_same {A : List Area} {u s : State} (h : SameBut A u s) (_ : .regs ∈ A := by assumption)
    (_ : .shadow ∈ A := by assumption) (_ : .commits ∈ A := by assumption) (_ : .now ∈ A := by assumption)
    (_ : .time ∈ A := by assumption) (_ : .arbs ∈ A := by assumption) (_ : .hif ∈ A := by assumption)
    (_ : .serve ∈ A := by assumption) (_ : .lst ∈ A := by assumption) (_ : .ctl ∈ A := by assumption)
    (_ : .mem ∈ A := by assumption) (_ : .sms ∈ A := by assumption) (_ : .fab ∈ A := by assumption)
    (_ : .lnk ∈ A := by assumption) (_ : .ptm ∈ A := by assumption) (_ : .pwr ∈ A := by assumption)
    (_ : .mgt ∈ A := by assumption) (_ : .free ∈ A := by assumption) : SameBut A u s.mainReset := by
  have k : SameBut A u { State.reset with pending := s.pending } := by
    refine ⟨h.pending, ?_, ?_, ?_, ?_, ?_, ?_, ?_, ?_, ?_, ?_, ?_, ?_, ?_, ?_, ?_, ?_, ?_, ?_⟩ <;> intro n <;> exact absurd ‹_› n
  unfold State.mainReset State.when
  dsimp only
  have k' : ∀ (hif : HifSt) lnk lst fab sms ptm pwr mgt free ctl, SameBut A u { State.reset with
      pending := s.pending, free := free, hif := hif, lnk := lnk, lst := lst, fab := fab, sms := sms, ptm := ptm, pwr := pwr, mgt := mgt, ctl := ctl } := by
    intro hif lnk lst fab sms ptm pwr mgt free ctl
    refine ⟨h.pending, ?_, ?_, ?_, ?_, ?_, ?_, ?_, ?_, ?_, ?_, ?_, ?_, ?_, ?_, ?_, ?_, ?_, ?_⟩ <;> intro n <;> exact absurd ‹_› n
  split
  · exact State.mgtEvent_same (State.showTrip_same (State.wr_same (k' _ _ _ _ _ _ _ _ _ _) _ _ _)) _ _
  · exact State.showTrip_same (State.wr_same (k' _ _ _ _ _ _ _ _ _ _) _ _ _)

theorem State.railsDown_same {A : List Area} {u s : State} (h : SameBut A u s) (_ : .regs ∈ A := by assumption)
    (_ : .shadow ∈ A := by assumption) (_ : .commits ∈ A := by assumption) (_ : .now ∈ A := by assumption)
    (_ : .time ∈ A := by assumption) (_ : .arbs ∈ A := by assumption) (_ : .hif ∈ A := by assumption)
    (_ : .serve ∈ A := by assumption) (_ : .lst ∈ A := by assumption) (_ : .ctl ∈ A := by assumption)
    (_ : .mem ∈ A := by assumption) (_ : .sms ∈ A := by assumption) (_ : .fab ∈ A := by assumption)
    (_ : .lnk ∈ A := by assumption) (_ : .ptm ∈ A := by assumption) (_ : .pwr ∈ A := by assumption)
    (_ : .mgt ∈ A := by assumption) (_ : .free ∈ A := by assumption) :
    SameBut A u (State.railsDown s) := by
  unfold State.railsDown
  grind [State.mainReset_same, State.withCtl_same, State.withMgt_same, State.withPwr_same]

theorem State.trip_same {A : List Area} {u s : State} (h : SameBut A u s) (a1 a2 a3 a4)
    (_ : .regs ∈ A := by assumption) (_ : .shadow ∈ A := by assumption) (_ : .commits ∈ A := by assumption)
    (_ : .now ∈ A := by assumption) (_ : .time ∈ A := by assumption) (_ : .arbs ∈ A := by assumption)
    (_ : .hif ∈ A := by assumption) (_ : .serve ∈ A := by assumption) (_ : .lst ∈ A := by assumption)
    (_ : .ctl ∈ A := by assumption) (_ : .mem ∈ A := by assumption) (_ : .sms ∈ A := by assumption)
    (_ : .fab ∈ A := by assumption) (_ : .lnk ∈ A := by assumption) (_ : .ptm ∈ A := by assumption)
    (_ : .pwr ∈ A := by assumption) (_ : .mgt ∈ A := by assumption) (_ : .free ∈ A := by assumption) :
    SameBut A u (State.trip s a1 a2 a3 a4) := by
  unfold State.trip
  grind [State.logEvent_same, State.mgtEvent_same, State.railsDown_same, State.withPwr_same]

theorem State.setDiode_same {A : List Area} {u s : State} (h : SameBut A u s) (a1 a2) (_ : .ptm ∈ A := by assumption) :
    SameBut A u (State.setDiode s a1 a2) := by
  unfold State.setDiode
  grind [State.withPtm_same]

theorem State.setGroup_same {A : List Area} {u s : State} (h : SameBut A u s) (a1 a2) (_ : .ptm ∈ A := by assumption) :
    SameBut A u (State.setGroup s a1 a2) := by
  unfold State.setGroup
  grind [State.withPtm_same]

theorem State.groupOn_same {A : List Area} {u s : State} (h : SameBut A u s) (a1 a2)
    (_ : .regs ∈ A := by assumption) (_ : .hif ∈ A := by assumption) (_ : .ptm ∈ A := by assumption)
    (_ : .mgt ∈ A := by assumption) :
    SameBut A u (State.groupOn s a1 a2) := by
  unfold State.groupOn
  grind [State.count_same, State.mgtEvent_same, State.ptmEvent_same, State.setGroup_same, State.when_same, State.when]

theorem State.groupOff_same {A : List Area} {u s : State} (h : SameBut A u s) (a1) (_ : .regs ∈ A := by assumption)
    (_ : .hif ∈ A := by assumption) (_ : .ptm ∈ A := by assumption) (_ : .mgt ∈ A := by assumption) :
    SameBut A u (State.groupOff s a1) := by
  unfold State.groupOff
  grind [State.mgtEvent_same, State.ptmEvent_same, State.setGroup_same, State.when_same, State.when]

theorem State.throttleStep_same {A : List Area} {u s : State} (h : SameBut A u s) (a1)
    (_ : .regs ∈ A := by assumption) (_ : .hif ∈ A := by assumption) (_ : .ptm ∈ A := by assumption)
    (_ : .mgt ∈ A := by assumption) :
    SameBut A u (State.throttleStep s a1) := by
  unfold State.throttleStep
  grind [State.groupOff_same, State.groupOn_same, State.setGroup_same]

theorem State.ptmBoundary_same {A : List Area} {u s : State} (h : SameBut A u s) (_ : .serve ∈ A := by assumption)
    (_ : .ptm ∈ A := by assumption) :
    SameBut A u (State.ptmBoundary s) := by
  unfold State.ptmBoundary
  grind [State.withPtm_same, SameBut.set_serve]

theorem State.ptmNow_same {A : List Area} {u s : State} (h : SameBut A u s) (_ : .serve ∈ A := by assumption)
    (_ : .fab ∈ A := by assumption) (_ : .ptm ∈ A := by assumption) :
    SameBut A u (State.ptmNow s) := by
  unfold State.ptmNow
  grind [State.ptmBoundary_same, State.trackNow_same]

theorem State.publish_same {A : List Area} {u s : State} (h : SameBut A u s) (a1) (_ : .ptm ∈ A := by assumption) :
    SameBut A u (State.publish s a1) := by
  unfold State.publish
  grind [State.withPtm_same]

theorem State.publishAll_same {A : List Area} {u s : State} (h : SameBut A u s) (_ : .ptm ∈ A := by assumption) :
    SameBut A u (State.publishAll s) := by
  unfold State.publishAll
  grind [State.publish_same, forEach_same]

theorem State.checkModel_same {A : List Area} {u s : State} (h : SameBut A u s) (_ : .regs ∈ A := by assumption)
    (_ : .shadow ∈ A := by assumption) (_ : .commits ∈ A := by assumption) (_ : .now ∈ A := by assumption)
    (_ : .time ∈ A := by assumption) (_ : .arbs ∈ A := by assumption) (_ : .hif ∈ A := by assumption)
    (_ : .serve ∈ A := by assumption) (_ : .lst ∈ A := by assumption) (_ : .ctl ∈ A := by assumption)
    (_ : .mem ∈ A := by assumption) (_ : .sms ∈ A := by assumption) (_ : .fab ∈ A := by assumption)
    (_ : .lnk ∈ A := by assumption) (_ : .ptm ∈ A := by assumption) (_ : .pwr ∈ A := by assumption)
    (_ : .mgt ∈ A := by assumption) (_ : .free ∈ A := by assumption) :
    SameBut A u (State.checkModel s) := by
  unfold State.checkModel
  grind [State.trip_same]

theorem State.enqueue_same {A : List Area} {u s : State} (h : SameBut A u s) (a1 a2)
    (_ : .regs ∈ A := by assumption) (_ : .hif ∈ A := by assumption) (_ : .ptm ∈ A := by assumption) :
    SameBut A u (State.enqueue s a1 a2) := by
  unfold State.enqueue
  grind [State.count_same, State.ptmEvent_same, State.withPtm_same]

theorem State.memoryWindow_same {A : List Area} {u s : State} (h : SameBut A u s) (a1)
    (_ : .regs ∈ A := by assumption) (_ : .hif ∈ A := by assumption) (_ : .ptm ∈ A := by assumption)
    (_ : .mgt ∈ A := by assumption) :
    SameBut A u (State.memoryWindow s a1) := by
  unfold State.memoryWindow
  grind [State.groupOn_same, State.ptmEvent_same]

theorem State.convert_same {A : List Area} {u s : State} (h : SameBut A u s) (a1 a2 a3)
    (_ : .regs ∈ A := by assumption) (_ : .hif ∈ A := by assumption) (_ : .ptm ∈ A := by assumption)
    (_ : .mgt ∈ A := by assumption) :
    SameBut A u (State.convert s a1 a2 a3) := by
  unfold State.convert
  grind [State.count_same, State.memoryWindow_same, State.withPtm_same]

theorem State.convertAll_same {A : List Area} {u s : State} (h : SameBut A u s) (a1 a2 a3 a4)
    (_ : .regs ∈ A := by assumption) (_ : .hif ∈ A := by assumption) (_ : .ptm ∈ A := by assumption)
    (_ : .mgt ∈ A := by assumption) :
    SameBut A u (State.convertAll s a1 a2 a3 a4) := by
  unfold State.convertAll
  grind [State.convert_same, State.enqueue_same, forEach_same]

theorem State.advanceModel_same {A : List Area} {u s : State} (h : SameBut A u s) (_ : .ptm ∈ A := by assumption)
    (_ : .free ∈ A := by assumption) :
    SameBut A u (State.advanceModel s) := by
  unfold State.advanceModel
  grind [State.draw_same, State.withPtm_same]

theorem State.sumRound_same {A : List Area} {u s : State} (h : SameBut A u s) (a1) (_ : .ptm ∈ A := by assumption) :
    SameBut A u (State.sumRound s a1) := by
  unfold State.sumRound
  grind [State.withPtm_same]

theorem execFastRound_same {A : List Area} {u s : State} (h : SameBut A u s) (a0 a1 a2 a3 a4 a5)
    (_ : .regs ∈ A := by assumption) (_ : .shadow ∈ A := by assumption) (_ : .commits ∈ A := by assumption)
    (_ : .now ∈ A := by assumption) (_ : .time ∈ A := by assumption) (_ : .arbs ∈ A := by assumption)
    (_ : .hif ∈ A := by assumption) (_ : .serve ∈ A := by assumption) (_ : .lst ∈ A := by assumption)
    (_ : .ctl ∈ A := by assumption) (_ : .mem ∈ A := by assumption) (_ : .sms ∈ A := by assumption)
    (_ : .fab ∈ A := by assumption) (_ : .lnk ∈ A := by assumption) (_ : .ptm ∈ A := by assumption)
    (_ : .pwr ∈ A := by assumption) (_ : .mgt ∈ A := by assumption) (_ : .free ∈ A := by assumption) :
    SameO A u (execFastRound a0 a1 a2 a3 a4 a5 s) := by
  unfold execFastRound
  grind (splits := 40) (gen := 20) (ematch := 20) [State.advanceModel_same, State.advance_same, State.checkModel_same, State.convertAll_same, State.ptmNow_same, State.publishAll_same, State.sumRound_same, State.withPtm_same, SameO.next]

theorem State.correct_same {A : List Area} {u s : State} (h : SameBut A u s) (a1 a2) (_ : .ptm ∈ A := by assumption) :
    SameBut A u (State.correct s a1 a2) := by
  unfold State.correct
  grind [State.withPtm_same]

theorem State.diodeFail_same {A : List Area} {u s : State} (h : SameBut A u s) (a1)
    (_ : .regs ∈ A := by assumption) (_ : .hif ∈ A := by assumption) (_ : .sms ∈ A := by assumption)
    (_ : .ptm ∈ A := by assumption) :
    SameBut A u (State.diodeFail s a1) := by
  unfold State.diodeFail
  grind [State.count_same, State.logEvent_same, State.ptmEvent_same, State.setDiode_same]

theorem State.useDiode_same {A : List Area} {u s : State} (h : SameBut A u s) (d : Nat) (v : Int)
    (_ : .regs ∈ A := by assumption) (_ : .hif ∈ A := by assumption) (_ : .sms ∈ A := by assumption)
    (_ : .ptm ∈ A := by assumption) : SameBut A u (s.useDiode d v) := by
  unfold State.useDiode
  extract_lets x T far
  split
  · exact h
  split
  · exact State.diodeFail_same h d
  split
  · exact forEach_same _ _ (fun s i h => State.withPtm_same h _) _ h
  split
  · exact State.diodeFail_same h d
  · exact forEach_same _ _ (fun s i h => State.correct_same h _ _) _ (State.setDiode_same h _ _)

theorem State.useStack_same {A : List Area} {u s : State} (h : SameBut A u s) (a1 a2) (_ : .ptm ∈ A := by assumption) :
    SameBut A u (State.useStack s a1 a2) := by
  unfold State.useStack
  grind [State.correct_same, State.withPtm_same]

theorem State.startModel_same {A : List Area} {u s : State} (h : SameBut A u s) (_ : .ptm ∈ A := by assumption)
    (_ : .free ∈ A := by assumption) :
    SameBut A u (State.startModel s) := by
  unfold State.startModel
  grind [State.draw_same, State.withPtm_same, forEach_same]

theorem State.govern_same {A : List Area} {u s : State} (h : SameBut A u s) (_ : .regs ∈ A := by assumption)
    (_ : .hif ∈ A := by assumption) (_ : .ptm ∈ A := by assumption) :
    SameBut A u (State.govern s) := by
  unfold State.govern
  grind [State.count_same, State.ptmEvent_same, State.withPtm_same, State.wr_same, forEach_same]

theorem State.checkMemory_same {A : List Area} {u s : State} (h : SameBut A u s) (_ : .regs ∈ A := by assumption)
    (_ : .shadow ∈ A := by assumption) (_ : .commits ∈ A := by assumption) (_ : .now ∈ A := by assumption)
    (_ : .time ∈ A := by assumption) (_ : .arbs ∈ A := by assumption) (_ : .hif ∈ A := by assumption)
    (_ : .serve ∈ A := by assumption) (_ : .lst ∈ A := by assumption) (_ : .ctl ∈ A := by assumption)
    (_ : .mem ∈ A := by assumption) (_ : .sms ∈ A := by assumption) (_ : .fab ∈ A := by assumption)
    (_ : .lnk ∈ A := by assumption) (_ : .ptm ∈ A := by assumption) (_ : .pwr ∈ A := by assumption)
    (_ : .mgt ∈ A := by assumption) (_ : .free ∈ A := by assumption) :
    SameBut A u (State.checkMemory s) := by
  unfold State.checkMemory
  grind [State.trip_same]

theorem execSlowRound_same {A : List Area} {u s : State} (h : SameBut A u s) (a0 a1 a2 a3 a4 a5)
    (_ : .regs ∈ A := by assumption) (_ : .shadow ∈ A := by assumption) (_ : .commits ∈ A := by assumption)
    (_ : .now ∈ A := by assumption) (_ : .time ∈ A := by assumption) (_ : .arbs ∈ A := by assumption)
    (_ : .hif ∈ A := by assumption) (_ : .serve ∈ A := by assumption) (_ : .lst ∈ A := by assumption)
    (_ : .ctl ∈ A := by assumption) (_ : .mem ∈ A := by assumption) (_ : .sms ∈ A := by assumption)
    (_ : .fab ∈ A := by assumption) (_ : .lnk ∈ A := by assumption) (_ : .ptm ∈ A := by assumption)
    (_ : .pwr ∈ A := by assumption) (_ : .mgt ∈ A := by assumption) (_ : .free ∈ A := by assumption) :
    SameO A u (execSlowRound a0 a1 a2 a3 a4 a5 s) := by
  unfold execSlowRound
  grind (splits := 40) (gen := 20) (ematch := 20) [State.advance_same, State.checkMemory_same, State.checkModel_same, State.convertAll_same, State.govern_same, State.ptmNow_same, State.publishAll_same, State.startModel_same, State.throttleStep_same, State.useDiode_same, State.useStack_same, State.withPtm_same, forEach_same, SameO.next]

theorem State.railFault_same {A : List Area} {u s : State} (h : SameBut A u s) (a1 a2)
    (_ : .regs ∈ A := by assumption) (_ : .arbs ∈ A := by assumption) (_ : .hif ∈ A := by assumption)
    (_ : .serve ∈ A := by assumption) (_ : .ctl ∈ A := by assumption) (_ : .sms ∈ A := by assumption)
    (_ : .lnk ∈ A := by assumption) (_ : .ptm ∈ A := by assumption) :
    SameBut A u (State.railFault s a1 a2) := by
  unfold State.railFault
  grind [State.faultJob_same, State.logEvent_same, State.withPtm_same, forEach_same]

theorem State.coreWindow_same {A : List Area} {u s : State} (h : SameBut A u s) (a1)
    (_ : .regs ∈ A := by assumption) (_ : .arbs ∈ A := by assumption) (_ : .hif ∈ A := by assumption)
    (_ : .serve ∈ A := by assumption) (_ : .ctl ∈ A := by assumption) (_ : .sms ∈ A := by assumption)
    (_ : .lnk ∈ A := by assumption) (_ : .ptm ∈ A := by assumption) (_ : .mgt ∈ A := by assumption) :
    SameBut A u (State.coreWindow s a1) := by
  unfold State.coreWindow
  grind [State.groupOn_same, State.setGroup_same, State.suspect_same]

theorem State.diodeWindow_same {A : List Area} {u s : State} (h : SameBut A u s) (a1 a2)
    (_ : .regs ∈ A := by assumption) (_ : .shadow ∈ A := by assumption) (_ : .commits ∈ A := by assumption)
    (_ : .now ∈ A := by assumption) (_ : .time ∈ A := by assumption) (_ : .arbs ∈ A := by assumption)
    (_ : .hif ∈ A := by assumption) (_ : .serve ∈ A := by assumption) (_ : .lst ∈ A := by assumption)
    (_ : .ctl ∈ A := by assumption) (_ : .mem ∈ A := by assumption) (_ : .sms ∈ A := by assumption)
    (_ : .fab ∈ A := by assumption) (_ : .lnk ∈ A := by assumption) (_ : .ptm ∈ A := by assumption)
    (_ : .pwr ∈ A := by assumption) (_ : .mgt ∈ A := by assumption) (_ : .free ∈ A := by assumption) :
    SameBut A u (State.diodeWindow s a1 a2) := by
  unfold State.diodeWindow
  grind [State.checkModel_same, State.trip_same, State.useDiode_same]

theorem execInjectedSequence_same {A : List Area} {u s : State} (h : SameBut A u s) (a0 a1 a2 a3 a4)
    (_ : .regs ∈ A := by assumption) (_ : .shadow ∈ A := by assumption) (_ : .commits ∈ A := by assumption)
    (_ : .now ∈ A := by assumption) (_ : .time ∈ A := by assumption) (_ : .arbs ∈ A := by assumption)
    (_ : .hif ∈ A := by assumption) (_ : .serve ∈ A := by assumption) (_ : .lst ∈ A := by assumption)
    (_ : .ctl ∈ A := by assumption) (_ : .mem ∈ A := by assumption) (_ : .sms ∈ A := by assumption)
    (_ : .fab ∈ A := by assumption) (_ : .lnk ∈ A := by assumption) (_ : .ptm ∈ A := by assumption)
    (_ : .pwr ∈ A := by assumption) (_ : .mgt ∈ A := by assumption) (_ : .free ∈ A := by assumption) :
    SameO A u (execInjectedSequence a0 a1 a2 a3 a4 s) := by
  unfold execInjectedSequence
  grind (splits := 40) (gen := 20) (ematch := 20) [State.advance_same, State.convertAll_same, State.coreWindow_same, State.count_same, State.diodeWindow_same, State.enqueue_same, State.ptmEvent_same, State.ptmNow_same, State.railFault_same, State.withPtm_same, SameO.next]

theorem execMonitorTrackVisit_same {A : List Area} {u s : State} (h : SameBut A u s) (a0 a1 a2)
    (_ : .regs ∈ A := by assumption) (_ : .now ∈ A := by assumption) (_ : .arbs ∈ A := by assumption)
    (_ : .hif ∈ A := by assumption) (_ : .serve ∈ A := by assumption) (_ : .ctl ∈ A := by assumption)
    (_ : .sms ∈ A := by assumption) (_ : .lnk ∈ A := by assumption) (_ : .ptm ∈ A := by assumption)
    (_ : .mgt ∈ A := by assumption) :
    SameO A u (execMonitorTrackVisit a0 a1 a2 s) := by
  unfold execMonitorTrackVisit
  grind [State.advance_same, State.logEvent_same, State.moduleFault_same, State.withPtm_same, SameO.next]

theorem State.enterMp1_same {A : List Area} {u s : State} (h : SameBut A u s) (_ : .regs ∈ A := by assumption) :
    SameBut A u (State.enterMp1 s) := by
  unfold State.enterMp1
  grind [State.setBit_same, State.wr_same]

theorem State.returnMp0_same {A : List Area} {u s : State} (h : SameBut A u s) (_ : .regs ∈ A := by assumption)
    (_ : .fab ∈ A := by assumption) (_ : .ptm ∈ A := by assumption) :
    SameBut A u (State.returnMp0 s) := by
  unfold State.returnMp0
  grind [State.withFab_same, State.withPtm_same, State.wr_same]

theorem State.leaveMp1_same {A : List Area} {u s : State} (h : SameBut A u s) (_ : .regs ∈ A := by assumption)
    (_ : .fab ∈ A := by assumption) (_ : .ptm ∈ A := by assumption) :
    SameBut A u (State.leaveMp1 s) := by
  unfold State.leaveMp1
  grind [State.returnMp0_same, State.wr_same]

theorem execPtmPstateEnterMp1_same {A : List Area} {u s : State} (h : SameBut A u s) (a0 a1)
    (_ : .regs ∈ A := by assumption) (_ : .now ∈ A := by assumption) :
    SameO A u (execPtmPstateEnterMp1 a0 a1 s) := by
  unfold execPtmPstateEnterMp1
  grind [State.advance_same, State.enterMp1_same, State.when_same, SameO.next, State.when]

theorem execPtmPstateExitMp1_same {A : List Area} {u s : State} (h : SameBut A u s) (a0 a1)
    (_ : .regs ∈ A := by assumption) (_ : .now ∈ A := by assumption) (_ : .fab ∈ A := by assumption)
    (_ : .ptm ∈ A := by assumption) :
    SameO A u (execPtmPstateExitMp1 a0 a1 s) := by
  unfold execPtmPstateExitMp1
  grind [State.advance_same, State.leaveMp1_same, State.when_same, SameO.next, State.when]

theorem execMp1EntryComplete_same {A : List Area} {u s : State} (h : SameBut A u s) (a0)
    (_ : .regs ∈ A := by assumption) (_ : .now ∈ A := by assumption) (_ : .fab ∈ A := by assumption)
    (_ : .ptm ∈ A := by assumption) :
    SameO A u (execMp1EntryComplete a0 s) := by
  unfold execMp1EntryComplete
  grind [State.advance_same, State.returnMp0_same, State.wr_same, SameO.next]

theorem execMp0ReturnComplete_same {A : List Area} {u s : State} (h : SameBut A u s) (a0 a1)
    (_ : .regs ∈ A := by assumption) (_ : .now ∈ A := by assumption) (_ : .lst ∈ A := by assumption)
    (_ : .ptm ∈ A := by assumption) :
    SameO A u (execMp0ReturnComplete a0 a1 s) := by
  unfold execMp0ReturnComplete
  grind (splits := 40) (gen := 20) (ematch := 20) [State.advance_same, State.count_same, State.withLst_same, State.withPtm_same, State.wr_same, SameO.next]

theorem execStandbySample_same {A : List Area} {u s : State} (h : SameBut A u s) (a0 a1 a2)
    (_ : .now ∈ A := by assumption) (_ : .pwr ∈ A := by assumption) :
    SameO A u (execStandbySample a0 a1 a2 s) := by
  unfold execStandbySample
  grind [State.advance_same, State.withPwr_same, SameO.next]

theorem State.checkUnlock_same {A : List Area} {u s : State} (h : SameBut A u s) (_ : .regs ∈ A := by assumption)
    (_ : .now ∈ A := by assumption) (_ : .time ∈ A := by assumption) (_ : .hif ∈ A := by assumption) :
    SameBut A u (State.checkUnlock s) := by
  unfold State.checkUnlock
  grind [State.twsEvent_same, State.when_same, State.withTime_same, State.when]

theorem State.setErr_same {A : List Area} {u s : State} (h : SameBut A u s) (a1 a2)
    (_ : .regs ∈ A := by assumption) (_ : .now ∈ A := by assumption) (_ : .time ∈ A := by assumption)
    (_ : .hif ∈ A := by assumption) :
    SameBut A u (State.setErr s a1 a2) := by
  unfold State.setErr
  grind [State.checkUnlock_same, State.withTime_same]

theorem State.requality_same {A : List Area} {u s : State} (h : SameBut A u s) (_ : .regs ∈ A := by assumption)
    (_ : .now ∈ A := by assumption) (_ : .time ∈ A := by assumption) (_ : .hif ∈ A := by assumption)
    (_ : .free ∈ A := by assumption) :
    SameBut A u (State.requality s) := by
  unfold State.requality
  grind [State.count_same, State.draw_same, State.setErr_same, State.setQuality_same]

theorem State.stepTime_same {A : List Area} {u s : State} (h : SameBut A u s) (a1) (_ : .regs ∈ A := by assumption)
    (_ : .now ∈ A := by assumption) (_ : .time ∈ A := by assumption) (_ : .lst ∈ A := by assumption)
    (_ : .fab ∈ A := by assumption) (_ : .mgt ∈ A := by assumption) :
    SameBut A u (State.stepTime s a1) := by
  unfold State.stepTime
  grind [State.withFab_same, State.withLst_same, State.withMgt_same, State.withTime_same, State.wr_same]

theorem State.slewTo_same {A : List Area} {u s : State} (h : SameBut A u s) (a1) (_ : .regs ∈ A := by assumption)
    (_ : .now ∈ A := by assumption) (_ : .time ∈ A := by assumption) (_ : .hif ∈ A := by assumption) :
    SameBut A u (State.slewTo s a1) := by
  unfold State.slewTo
  grind [State.setBit_same, State.twsEvent_same, State.withTime_same, State.wr_same]

theorem State.measured_same {A : List Area} {u s : State} (h : SameBut A u s) (a1) (_ : .regs ∈ A := by assumption) :
    SameBut A u (State.measured s a1) := by
  unfold State.measured
  grind [State.wr_same]

theorem State.discipline_same {A : List Area} {u s : State} (h : SameBut A u s) (a1)
    (_ : .regs ∈ A := by assumption) (_ : .now ∈ A := by assumption) (_ : .time ∈ A := by assumption)
    (_ : .hif ∈ A := by assumption) (_ : .lst ∈ A := by assumption) (_ : .fab ∈ A := by assumption)
    (_ : .mgt ∈ A := by assumption) :
    SameBut A u (State.discipline s a1) := by
  unfold State.discipline
  grind [State.slewTo_same, State.stepTime_same]

theorem State.setTime_same {A : List Area} {u s : State} (h : SameBut A u s) (a1) (_ : .regs ∈ A := by assumption)
    (_ : .now ∈ A := by assumption) (_ : .time ∈ A := by assumption) (_ : .hif ∈ A := by assumption)
    (_ : .lst ∈ A := by assumption) (_ : .fab ∈ A := by assumption) (_ : .mgt ∈ A := by assumption) :
    SameBut A u (State.setTime s a1) := by
  unfold State.setTime
  grind [State.setErr_same, State.setQuality_same, State.slewTo_same, State.stepTime_same, State.withTime_same]

theorem execTwsTimeSet_same {A : List Area} {u s : State} (h : SameBut A u s) (a0 a1 a2)
    (_ : .regs ∈ A := by assumption) (_ : .now ∈ A := by assumption) (_ : .time ∈ A := by assumption)
    (_ : .hif ∈ A := by assumption) (_ : .lst ∈ A := by assumption) (_ : .fab ∈ A := by assumption)
    (_ : .mgt ∈ A := by assumption) :
    SameO A u (execTwsTimeSet a0 a1 a2 s) := by
  unfold execTwsTimeSet
  grind [State.advance_same, State.setTime_same, State.when_same, State.withTime_same, SameO.next, State.when]

theorem execPpsEdge_same {A : List Area} {u s : State} (h : SameBut A u s) (a0 a1) (_ : .regs ∈ A := by assumption)
    (_ : .now ∈ A := by assumption) (_ : .time ∈ A := by assumption) (_ : .hif ∈ A := by assumption)
    (_ : .lst ∈ A := by assumption) (_ : .fab ∈ A := by assumption) (_ : .mgt ∈ A := by assumption)
    (_ : .free ∈ A := by assumption) :
    SameO A u (execPpsEdge a0 a1 s) := by
  unfold execPpsEdge
  grind (splits := 40) (gen := 20) (ematch := 20) [State.advance_same, State.discipline_same, State.measured_same, State.requality_same, State.setBit_same, State.withTime_same, SameO.next]

theorem execPpsLoss_same {A : List Area} {u s : State} (h : SameBut A u s) (a0) (_ : .regs ∈ A := by assumption)
    (_ : .now ∈ A := by assumption) (_ : .time ∈ A := by assumption) (_ : .hif ∈ A := by assumption)
    (_ : .free ∈ A := by assumption) :
    SameO A u (execPpsLoss a0 s) := by
  unfold execPpsLoss
  grind [State.advance_same, State.requality_same, State.withTime_same, State.wr_same, SameO.next]

theorem State.ptpLost_same {A : List Area} {u s : State} (h : SameBut A u s) (_ : .regs ∈ A := by assumption)
    (_ : .now ∈ A := by assumption) (_ : .time ∈ A := by assumption) (_ : .hif ∈ A := by assumption)
    (_ : .free ∈ A := by assumption) :
    SameBut A u (State.ptpLost s) := by
  unfold State.ptpLost
  grind [State.requality_same, State.withTime_same, State.wr_same]

theorem State.chooseMaster_same {A : List Area} {u s : State} (h : SameBut A u s) (_ : .regs ∈ A := by assumption)
    (_ : .now ∈ A := by assumption) (_ : .time ∈ A := by assumption) (_ : .hif ∈ A := by assumption)
    (_ : .free ∈ A := by assumption) :
    SameBut A u (State.chooseMaster s) := by
  unfold State.chooseMaster
  grind [State.ptpLost_same, State.withTime_same, State.wr_same]

theorem execPtpAnnounce_same {A : List Area} {u s : State} (h : SameBut A u s) (a0 a1 a2 a3)
    (_ : .regs ∈ A := by assumption) (_ : .now ∈ A := by assumption) (_ : .time ∈ A := by assumption)
    (_ : .hif ∈ A := by assumption) (_ : .free ∈ A := by assumption) :
    SameO A u (execPtpAnnounce a0 a1 a2 a3 s) := by
  unfold execPtpAnnounce
  grind [State.advance_same, State.chooseMaster_same, State.withTime_same, SameO.next]

theorem execPtpAnnounceTimeout_same {A : List Area} {u s : State} (h : SameBut A u s) (a0 a1 a2)
    (_ : .regs ∈ A := by assumption) (_ : .now ∈ A := by assumption) (_ : .time ∈ A := by assumption)
    (_ : .hif ∈ A := by assumption) (_ : .free ∈ A := by assumption) :
    SameO A u (execPtpAnnounceTimeout a0 a1 a2 s) := by
  unfold execPtpAnnounceTimeout
  grind [State.advance_same, State.chooseMaster_same, State.withTime_same, SameO.next]

theorem execPtpSync_same {A : List Area} {u s : State} (h : SameBut A u s) (a0 a1 a2 a3 a4 a5)
    (_ : .regs ∈ A := by assumption) (_ : .now ∈ A := by assumption) (_ : .time ∈ A := by assumption)
    (_ : .hif ∈ A := by assumption) (_ : .lst ∈ A := by assumption) (_ : .fab ∈ A := by assumption)
    (_ : .mgt ∈ A := by assumption) (_ : .free ∈ A := by assumption) :
    SameO A u (execPtpSync a0 a1 a2 a3 a4 a5 s) := by
  unfold execPtpSync
  grind [State.advance_same, State.count_same, State.discipline_same, State.measured_same, State.requality_same, State.setBit_same, State.withTime_same, SameO.next]

theorem execPtpDelayReq_same {A : List Area} {u s : State} (h : SameBut A u s) (a0 a1)
    (_ : .now ∈ A := by assumption) (_ : .time ∈ A := by assumption) (_ : .lnk ∈ A := by assumption) :
    SameO A u (execPtpDelayReq a0 a1 s) := by
  unfold execPtpDelayReq
  grind [State.advance_same, State.withLnk_same, State.withTime_same, SameO.next]

theorem execPtpDelayResp_same {A : List Area} {u s : State} (h : SameBut A u s) (a0 a1 a2 a3 a4)
    (_ : .now ∈ A := by assumption) (_ : .time ∈ A := by assumption) :
    SameO A u (execPtpDelayResp a0 a1 a2 a3 a4 s) := by
  unfold execPtpDelayResp
  grind [State.advance_same, State.withTime_same, SameO.next]

theorem execPtpLoss_same {A : List Area} {u s : State} (h : SameBut A u s) (a0) (_ : .regs ∈ A := by assumption)
    (_ : .now ∈ A := by assumption) (_ : .time ∈ A := by assumption) (_ : .hif ∈ A := by assumption)
    (_ : .free ∈ A := by assumption) :
    SameO A u (execPtpLoss a0 s) := by
  unfold execPtpLoss
  grind [State.advance_same, State.ptpLost_same, SameO.next]

theorem execTrefLoss_same {A : List Area} {u s : State} (h : SameBut A u s) (a0) (_ : .regs ∈ A := by assumption)
    (_ : .now ∈ A := by assumption) :
    SameO A u (execTrefLoss a0 s) := by
  unfold execTrefLoss
  grind [State.advance_same, State.wr_same, SameO.next]

theorem execTrefReturn_same {A : List Area} {u s : State} (h : SameBut A u s) (a0) (_ : .regs ∈ A := by assumption)
    (_ : .now ∈ A := by assumption) :
    SameO A u (execTrefReturn a0 s) := by
  unfold execTrefReturn
  grind [State.advance_same, State.setBit_same, State.when_same, SameO.next, State.when]

theorem execErrorEstimateUnlock_same {A : List Area} {u s : State} (h : SameBut A u s) (a0)
    (_ : .regs ∈ A := by assumption) (_ : .now ∈ A := by assumption) (_ : .time ∈ A := by assumption)
    (_ : .hif ∈ A := by assumption) :
    SameO A u (execErrorEstimateUnlock a0 s) := by
  unfold execErrorEstimateUnlock
  grind [State.advance_same, State.checkUnlock_same, SameO.next]

theorem State.retime_same {A : List Area} {u s : State} (h : SameBut A u s) (_ : .regs ∈ A := by assumption)
    (_ : .now ∈ A := by assumption) (_ : .time ∈ A := by assumption) (_ : .hif ∈ A := by assumption)
    (_ : .free ∈ A := by assumption) :
    SameBut A u (State.retime s) := by
  unfold State.retime
  grind [State.checkUnlock_same, State.requality_same, State.wr_same]

theorem State.setTport_same {A : List Area} {u s : State} (h : SameBut A u s) (a1 a2) (_ : .lnk ∈ A := by assumption) :
    SameBut A u (State.setTport s a1 a2) := by
  unfold State.setTport
  grind [State.withLnk_same]

theorem State.setRoutesUp_same {A : List Area} {u s : State} (h : SameBut A u s) (_ : .regs ∈ A := by assumption) :
    SameBut A u (State.setRoutesUp s) := by
  unfold State.setRoutesUp
  grind [State.wrBit_same]

theorem State.sendFlit_same {A : List Area} {u s : State} (h : SameBut A u s) (a1 a2 a3) (_ : .lnk ∈ A := by assumption) :
    SameBut A u (State.sendFlit s a1 a2 a3) := by
  unfold State.sendFlit
  grind [State.setTport_same, State.withLnk_same]

theorem State.sendIdle_same {A : List Area} {u s : State} (h : SameBut A u s) (a1) (_ : .lnk ∈ A := by assumption) :
    SameBut A u (State.sendIdle s a1) := by
  unfold State.sendIdle
  grind [State.withLnk_same]

theorem State.sendControl_same {A : List Area} {u s : State} (h : SameBut A u s) (a1 a2 a3 a4 a5)
    (_ : .lnk ∈ A := by assumption) :
    SameBut A u (State.sendControl s a1 a2 a3 a4 a5) := by
  unfold State.sendControl
  grind [State.setTport_same, State.sendFlit_same]

theorem State.pumpControl_same {A : List Area} {u s : State} (h : SameBut A u s) (p k : Nat)
    (_ : .lnk ∈ A := by assumption) : SameBut A u (s.pumpControl p k) := by
  induction k generalizing s with
  | zero => exact h
  | succ k ih =>
    unfold State.pumpControl
    extract_lets t
    split
    · exact h
    · split
      · exact h
      · exact ih (State.sendFlit_same (State.setTport_same h _ _) _ _ _)

theorem State.giveCredit_same {A : List Area} {u s : State} (h : SameBut A u s) (a1 a2 a3) (_ : .lnk ∈ A := by assumption) :
    SameBut A u (State.giveCredit s a1 a2 a3) := by
  unfold State.giveCredit
  grind [State.sendControl_same]

theorem State.pumpPort_same {A : List Area} {u s : State} (h : SameBut A u s) (p k : Nat)
    (_ : .arbs ∈ A := by assumption) (_ : .lnk ∈ A := by assumption) : SameBut A u (s.pumpPort p k) := by
  induction k generalizing s with
  | zero => exact h
  | succ k ih =>
    unfold State.pumpPort
    extract_lets t a heads rest
    have hr : SameBut A u rest := State.setArb_same h _ _
    clear_value rest
    split
    · exact h
    · split
      · exact hr
      · split
        · exact hr
        · split
          · exact hr
          · have h2 := State.sendFlit_same (State.setTport_same (State.setArb_same h (arbLink p) (a.take ‹_› 1 (a.ends + arbBeat (arbLink p)))) p (t.left ‹_›)) p (Sending.flit ‹_›) (a.ends / 120)
            refine ih ?_
            split
            · exact State.giveCredit_same h2 _ _ _
            · exact h2

theorem State.goPort_same {A : List Area} {u s : State} (h : SameBut A u s) (a1) (_ : .arbs ∈ A := by assumption)
    (_ : .lnk ∈ A := by assumption) :
    SameBut A u (State.goPort s a1) := by
  unfold State.goPort
  grind [State.pumpControl_same, State.pumpPort_same]

theorem State.queueFlits_same {A : List Area} {u s : State} (h : SameBut A u s) (a1 a2)
    (_ : .arbs ∈ A := by assumption) (_ : .lnk ∈ A := by assumption) :
    SameBut A u (State.queueFlits s a1 a2) := by
  unfold State.queueFlits
  grind [State.goPort_same, State.setTport_same]

theorem State.route_same {A : List Area} {u s : State} (h : SameBut A u s) (a1 a2 a3 a4 a5)
    (_ : .arbs ∈ A := by assumption) (_ : .lnk ∈ A := by assumption) :
    SameBut A u (State.route s a1 a2 a3 a4 a5) := by
  unfold State.route
  grind [State.queueFlits_same, State.withLnk_same]

theorem State.sendMessage_same {A : List Area} {u s : State} (h : SameBut A u s) (a1 a2 a3 a4 a5 a6 a7 a8 a9 a10)
    (_ : .regs ∈ A := by assumption) (_ : .arbs ∈ A := by assumption) (_ : .lnk ∈ A := by assumption) :
    SameBut A u (State.sendMessage s a1 a2 a3 a4 a5 a6 a7 a8 a9 a10) := by
  unfold State.sendMessage
  grind [State.count_same, State.route_same]

theorem State.coreCst_same {A : List Area} {u s : State} (h : SameBut A u s) (a1 a2 a3 a4)
    (_ : .arbs ∈ A := by assumption) :
    SameBut A u (State.coreCst s a1 a2 a3 a4) := by
  unfold State.coreCst
  grind [State.useCst_same]

end Sys2Proof.Machine
end

