-- ==== Sys2Proof/Laws/FrameUpkeep.lean ====
section
/-! SUPPORT. The areas that each operation leaves as they were, in the order of the model's files, from Links to Boot: one lemma an
operation, cited in place of its unfolding. -/

set_option Elab.async false
set_option linter.all false

namespace Sys2Proof.Machine

theorem State.takeEntry_same {A : List Area} {u s : State} (h : SameBut A u s) (a1 a2 a3)
    (_ : .arbs ∈ A := by assumption) (_ : .ctl ∈ A := by assumption) :
    SameBut A u (State.takeEntry s a1 a2 a3) := by
  unfold State.takeEntry
  grind [State.consume_same, State.coreCst_same]

theorem State.sendBytes_same {A : List Area} {u s : State} (h : SameBut A u s) (a1 a2 a3 a4 a5 a6 a7)
    (_ : .regs ∈ A := by assumption) (_ : .arbs ∈ A := by assumption) (_ : .hif ∈ A := by assumption)
    (_ : .serve ∈ A := by assumption) (_ : .ctl ∈ A := by assumption) (_ : .mem ∈ A := by assumption)
    (_ : .sms ∈ A := by assumption) (_ : .fab ∈ A := by assumption) (_ : .lnk ∈ A := by assumption)
    (_ : .mgt ∈ A := by assumption) :
    SameBut A u (State.sendBytes s a1 a2 a3 a4 a5 a6 a7) := by
  unfold State.sendBytes
  grind [State.coreCst_same, State.putEntry_same, State.sendMessage_same, State.useArb_same]

theorem State.faultPartition_same {A : List Area} {u s : State} (h : SameBut A u s) (a1)
    (_ : .regs ∈ A := by assumption) (_ : .arbs ∈ A := by assumption) (_ : .hif ∈ A := by assumption)
    (_ : .serve ∈ A := by assumption) (_ : .ctl ∈ A := by assumption) (_ : .sms ∈ A := by assumption)
    (_ : .lnk ∈ A := by assumption) :
    SameBut A u (State.faultPartition s a1) := by
  unfold State.faultPartition
  grind [State.faultJob_same, forEach_same]

theorem State.clearPort_same {A : List Area} {u s : State} (h : SameBut A u s) (a1)
    (_ : .arbs ∈ A := by assumption) (_ : .lnk ∈ A := by assumption) :
    SameBut A u (State.clearPort s a1) := by
  unfold State.clearPort
  grind [State.giveCredit_same, State.setArb_same, State.setTport_same, forEach_same]

theorem State.portDown_same {A : List Area} {u s : State} (h : SameBut A u s) (a1) (_ : .regs ∈ A := by assumption)
    (_ : .arbs ∈ A := by assumption) (_ : .hif ∈ A := by assumption) (_ : .serve ∈ A := by assumption)
    (_ : .ctl ∈ A := by assumption) (_ : .sms ∈ A := by assumption) (_ : .lnk ∈ A := by assumption) :
    SameBut A u (State.portDown s a1) := by
  unfold State.portDown
  grind (splits := 40) (gen := 20) (ematch := 20) [State.clearPort_same, State.count_same, State.faultPartition_same, State.logEvent_same, State.setRoutesUp_same, State.wr_same]

theorem State.takeAck_same {A : List Area} {u s : State} (h : SameBut A u s) (a1 a2)
    (_ : .arbs ∈ A := by assumption) (_ : .lnk ∈ A := by assumption) :
    SameBut A u (State.takeAck s a1 a2) := by
  unfold State.takeAck
  grind [State.goPort_same, State.setTport_same]

theorem State.replayFrom_same {A : List Area} {u s : State} (h : SameBut A u s) (a1 a2)
    (_ : .regs ∈ A := by assumption) (_ : .arbs ∈ A := by assumption) (_ : .hif ∈ A := by assumption)
    (_ : .serve ∈ A := by assumption) (_ : .ctl ∈ A := by assumption) (_ : .sms ∈ A := by assumption)
    (_ : .lnk ∈ A := by assumption) :
    SameBut A u (State.replayFrom s a1 a2) := by
  unfold State.replayFrom
  grind [State.count_same, State.portDown_same, State.setTport_same, State.withLnk_same]

theorem State.sendNak_same {A : List Area} {u s : State} (h : SameBut A u s) (a1) (_ : .lnk ∈ A := by assumption) :
    SameBut A u (State.sendNak s a1) := by
  unfold State.sendNak
  grind [State.sendControl_same, State.setTport_same]

theorem State.takeSeq_same {A : List Area} {u s : State} (h : SameBut A u s) (a1 a2) (_ : .lnk ∈ A := by assumption) :
    SameBut A u (State.takeSeq s a1 a2).2 := by
  unfold State.takeSeq
  grind [State.sendNak_same, State.setTport_same]

theorem State.beginMessage_same {A : List Area} {u s : State} (h : SameBut A u s) (a1 a2) (_ : .lnk ∈ A := by assumption) :
    SameBut A u (State.beginMessage s a1 a2).2 := by
  unfold State.beginMessage
  grind [State.withLnk_same]

theorem State.messageCame_same {A : List Area} {u s : State} (h : SameBut A u s) (a1 a2 a3)
    (_ : .lnk ∈ A := by assumption) :
    SameBut A u (State.messageCame s a1 a2 a3) := by
  unfold State.messageCame
  grind [State.giveCredit_same, State.withLnk_same]

theorem State.dataFlit_same {A : List Area} {u s : State} (h : SameBut A u s) (a1 a2)
    (_ : .arbs ∈ A := by assumption) (_ : .lnk ∈ A := by assumption) :
    SameBut A u (State.dataFlit s a1 a2) := by
  unfold State.dataFlit
  grind [State.beginMessage_same, State.giveCredit_same, State.messageCame_same, State.queueFlits_same, State.setTport_same]

theorem State.recvFlit_same {A : List Area} {u s : State} (h : SameBut A u s) (a1 a2 a3) (h3 : ∀ s y0, SameBut A u s → SameBut A u (a3 s y0)) (_ : .regs ∈ A := by assumption) (_ : .lnk ∈ A := by assumption) :
    SameBut A u (State.recvFlit s a1 a2 a3) := by
  unfold State.recvFlit
  grind [State.count_same, State.sendNak_same]

theorem State.inOrder_same {A : List Area} {u s : State} (h : SameBut A u s) (a1 a2 a3) (h3 : ∀ s, SameBut A u s → SameBut A u (a3 s)) (_ : .arbs ∈ A := by assumption) (_ : .lnk ∈ A := by assumption) :
    SameBut A u (State.inOrder s a1 a2 a3) := by
  unfold State.inOrder
  grind [State.sendIdle_same, State.takeAck_same, State.takeSeq_same]

theorem State.recvControl_same {A : List Area} {u s : State} (h : SameBut A u s) (a1 a2 a3 a4) (h4 : ∀ s y0, SameBut A u s → SameBut A u (a4 s y0)) (_ : .regs ∈ A := by assumption) (_ : .arbs ∈ A := by assumption) (_ : .lnk ∈ A := by assumption) :
    SameBut A u (State.recvControl s a1 a2 a3 a4) := by
  unfold State.recvControl
  grind [State.inOrder_same, State.recvFlit_same]

theorem State.trainPort_same {A : List Area} {u s : State} (h : SameBut A u s) (a1)
    (_ : .regs ∈ A := by assumption) (_ : .arbs ∈ A := by assumption) (_ : .lnk ∈ A := by assumption) :
    SameBut A u (State.trainPort s a1) := by
  unfold State.trainPort
  grind [State.clearPort_same, State.sendControl_same, State.wr_same]

theorem execDataFlit_same {A : List Area} {u s : State} (h : SameBut A u s) (a0 a1 a2)
    (_ : .regs ∈ A := by assumption) (_ : .now ∈ A := by assumption) (_ : .arbs ∈ A := by assumption)
    (_ : .lnk ∈ A := by assumption) :
    SameO A u (execDataFlit a0 a1 a2 s) := by
  unfold execDataFlit
  grind [State.advance_same, State.dataFlit_same, State.inOrder_same, State.recvFlit_same, SameO.next]

theorem execIdleFlit_same {A : List Area} {u s : State} (h : SameBut A u s) (a0 a1 a2)
    (_ : .regs ∈ A := by assumption) (_ : .now ∈ A := by assumption) (_ : .arbs ∈ A := by assumption)
    (_ : .lnk ∈ A := by assumption) :
    SameO A u (execIdleFlit a0 a1 a2 s) := by
  unfold execIdleFlit
  grind [State.advance_same, State.recvFlit_same, State.sendNak_same, State.takeAck_same, SameO.next]

theorem execNak_same {A : List Area} {u s : State} (h : SameBut A u s) (a0 a1 a2) (_ : .regs ∈ A := by assumption)
    (_ : .now ∈ A := by assumption) (_ : .arbs ∈ A := by assumption) (_ : .hif ∈ A := by assumption)
    (_ : .serve ∈ A := by assumption) (_ : .ctl ∈ A := by assumption) (_ : .sms ∈ A := by assumption)
    (_ : .lnk ∈ A := by assumption) :
    SameO A u (execNak a0 a1 a2 s) := by
  unfold execNak
  grind [State.advance_same, State.portDown_same, State.recvControl_same, State.replayFrom_same, State.setTport_same, SameO.next]

theorem execCredit_same {A : List Area} {u s : State} (h : SameBut A u s) (a0 a1 a2)
    (_ : .regs ∈ A := by assumption) (_ : .now ∈ A := by assumption) (_ : .arbs ∈ A := by assumption)
    (_ : .lnk ∈ A := by assumption) :
    SameO A u (execCredit a0 a1 a2 s) := by
  unfold execCredit
  grind [State.advance_same, State.goPort_same, State.recvControl_same, State.setTport_same, SameO.next]

theorem execTrain_same {A : List Area} {u s : State} (h : SameBut A u s) (a0 a1 a2 a3)
    (_ : .regs ∈ A := by assumption) (_ : .now ∈ A := by assumption) (_ : .arbs ∈ A := by assumption)
    (_ : .hif ∈ A := by assumption) (_ : .sms ∈ A := by assumption) (_ : .lnk ∈ A := by assumption) :
    SameO A u (execTrain a0 a1 a2 a3 s) := by
  unfold execTrain
  grind [State.advance_same, State.logEvent_same, State.recvControl_same, State.setRoutesUp_same, State.setTport_same, State.wr_same, SameO.next]

theorem execReplayTimeout_same {A : List Area} {u s : State} (h : SameBut A u s) (a0 a1)
    (_ : .regs ∈ A := by assumption) (_ : .now ∈ A := by assumption) (_ : .arbs ∈ A := by assumption)
    (_ : .hif ∈ A := by assumption) (_ : .serve ∈ A := by assumption) (_ : .ctl ∈ A := by assumption)
    (_ : .sms ∈ A := by assumption) (_ : .lnk ∈ A := by assumption) :
    SameO A u (execReplayTimeout a0 a1 s) := by
  unfold execReplayTimeout
  grind [State.advance_same, State.replayFrom_same, SameO.next]

theorem execTorusPortDown_same {A : List Area} {u s : State} (h : SameBut A u s) (a0 a1)
    (_ : .regs ∈ A := by assumption) (_ : .now ∈ A := by assumption) (_ : .arbs ∈ A := by assumption)
    (_ : .hif ∈ A := by assumption) (_ : .serve ∈ A := by assumption) (_ : .ctl ∈ A := by assumption)
    (_ : .sms ∈ A := by assumption) (_ : .lnk ∈ A := by assumption) :
    SameO A u (execTorusPortDown a0 a1 s) := by
  unfold execTorusPortDown
  grind [State.advance_same, State.portDown_same, SameO.next]

theorem execTorusPortRetrain_same {A : List Area} {u s : State} (h : SameBut A u s) (a0 a1)
    (_ : .regs ∈ A := by assumption) (_ : .now ∈ A := by assumption) (_ : .arbs ∈ A := by assumption)
    (_ : .lnk ∈ A := by assumption) :
    SameO A u (execTorusPortRetrain a0 a1 s) := by
  unfold execTorusPortRetrain
  grind [State.advance_same, State.trainPort_same, SameO.next]

theorem State.windowFault_same {A : List Area} {u s : State} (h : SameBut A u s) (_ : .regs ∈ A := by assumption)
    (_ : .arbs ∈ A := by assumption) (_ : .hif ∈ A := by assumption) (_ : .serve ∈ A := by assumption)
    (_ : .ctl ∈ A := by assumption) (_ : .sms ∈ A := by assumption) (_ : .lnk ∈ A := by assumption) :
    SameBut A u (State.windowFault s) := by
  unfold State.windowFault
  grind [State.count_same, State.faultPartition_same]

theorem State.deliver_same {A : List Area} {u s : State} (h : SameBut A u s) (a1) (_ : .regs ∈ A := by assumption)
    (_ : .arbs ∈ A := by assumption) (_ : .hif ∈ A := by assumption) (_ : .serve ∈ A := by assumption)
    (_ : .ctl ∈ A := by assumption) (_ : .mem ∈ A := by assumption) (_ : .sms ∈ A := by assumption)
    (_ : .fab ∈ A := by assumption) (_ : .lnk ∈ A := by assumption) (_ : .mgt ∈ A := by assumption) :
    SameBut A u (State.deliver s a1) := by
  unfold State.deliver
  grind [State.count_same, State.putEntry_same, State.useCst_same, State.windowFault_same]

theorem State.takeMessage_same {A : List Area} {u s : State} (h : SameBut A u s) (k : Nat) (e : List Byte × State) (he : s.takeMessage k = some e) (_ : .lnk ∈ A := by assumption) :
    SameBut A u e.2 := by
  unfold State.takeMessage at he
  grind [State.withLnk_same, State.giveCredit_same]

theorem execQueueWrite_same {A : List Area} {u s : State} (h : SameBut A u s) (t : Nat)
    (_ : .regs ∈ A := by assumption) (_ : .now ∈ A := by assumption) (_ : .arbs ∈ A := by assumption)
    (_ : .hif ∈ A := by assumption) (_ : .serve ∈ A := by assumption) (_ : .ctl ∈ A := by assumption)
    (_ : .mem ∈ A := by assumption) (_ : .sms ∈ A := by assumption) (_ : .fab ∈ A := by assumption)
    (_ : .lnk ∈ A := by assumption) (_ : .mgt ∈ A := by assumption) : SameO A u (execQueueWrite t s) := by
  unfold execQueueWrite
  extract_lets s1
  have h1 : SameBut A u s1 := State.advance_same h t
  split
  · exact h1
  · exact State.deliver_same (State.takeMessage_same h1 _ _ ‹_›) _

theorem execCollective_same {A : List Area} {u s : State} (h : SameBut A u s) (t : Nat)
    (_ : .regs ∈ A := by assumption) (_ : .now ∈ A := by assumption) (_ : .arbs ∈ A := by assumption)
    (_ : .hif ∈ A := by assumption) (_ : .serve ∈ A := by assumption) (_ : .ctl ∈ A := by assumption)
    (_ : .mem ∈ A := by assumption) (_ : .sms ∈ A := by assumption) (_ : .fab ∈ A := by assumption)
    (_ : .lnk ∈ A := by assumption) (_ : .mgt ∈ A := by assumption) : SameO A u (execCollective t s) := by
  unfold execCollective
  extract_lets s1
  have h1 : SameBut A u s1 := State.advance_same h t
  split
  · exact h1
  · exact State.deliver_same (State.takeMessage_same h1 _ _ ‹_›) _

theorem State.carryIn_same {A : List Area} {u s : State} (h : SameBut A u s) (a1) (_ : .serve ∈ A := by assumption)
    (_ : .free ∈ A := by assumption) :
    SameBut A u (State.carryIn s a1) := by
  unfold State.carryIn
  grind [State.setSess_same, State.setSessions_same, State.takeNumber_same, State.withServe_same]

theorem State.firmwareRecord_same {A : List Area} {u s : State} (h : SameBut A u s) (a1)
    (_ : .regs ∈ A := by assumption) (_ : .arbs ∈ A := by assumption) (_ : .hif ∈ A := by assumption)
    (_ : .serve ∈ A := by assumption) (_ : .lst ∈ A := by assumption) (_ : .ctl ∈ A := by assumption)
    (_ : .lnk ∈ A := by assumption) (_ : .free ∈ A := by assumption) :
    SameBut A u (State.firmwareRecord s a1) := by
  unfold State.firmwareRecord
  grind [State.carryIn_same, State.finishClose_same, State.jobDown_same, State.setSess_same, State.unplan_same, State.withLnk_same, State.withLst_same]

theorem execControl_same {A : List Area} {u s : State} (h : SameBut A u s) (t : Nat)
    (_ : .regs ∈ A := by assumption) (_ : .now ∈ A := by assumption) (_ : .arbs ∈ A := by assumption)
    (_ : .hif ∈ A := by assumption) (_ : .serve ∈ A := by assumption) (_ : .lst ∈ A := by assumption)
    (_ : .ctl ∈ A := by assumption) (_ : .mem ∈ A := by assumption) (_ : .sms ∈ A := by assumption)
    (_ : .lnk ∈ A := by assumption) (_ : .free ∈ A := by assumption) : SameO A u (execControl t s) := by
  unfold execControl
  extract_lets s1
  have h1 : SameBut A u s1 := State.advance_same h t
  split
  · exact h1
  · have h2 := State.takeMessage_same h1 _ _ ‹_›
    split
    · exact State.count_same h2 _ _ _
    · extract_lets off n
      split
      · exact State.windowFault_same h2
      · have h3 := State.writeBytes_same (State.useCst_same (State.count_same h2 LNK_MSG_RX_CNT_COUNT 1 0) whoLnk 32 7 off n) .cst off
        split
        · exact State.firmwareRecord_same (State.withLnk_same (h3 _) _) _
        · exact State.withLnk_same (h3 _) _

theorem State.tell_same {A : List Area} {u s : State} (h : SameBut A u s) (a1 a2) (_ : .regs ∈ A := by assumption)
    (_ : .arbs ∈ A := by assumption) (_ : .lnk ∈ A := by assumption) :
    SameBut A u (State.tell s a1 a2) := by
  unfold State.tell
  grind [State.sendMessage_same, forEach_same]

theorem State.tellPeers_same {A : List Area} {u s : State} (h : SameBut A u s) (a1)
    (_ : .regs ∈ A := by assumption) (_ : .arbs ∈ A := by assumption) (_ : .lnk ∈ A := by assumption) :
    SameBut A u (State.tellPeers s a1) := by
  unfold State.tellPeers
  grind (splits := 40) (gen := 20) (ematch := 20) [State.tell_same, State.withLnk_same, forEach_same]

theorem State.switchAtBoundary_same {A : List Area} {u s : State} (h : SameBut A u s) (a1)
    (_ : .regs ∈ A := by assumption) (_ : .lst ∈ A := by assumption) (_ : .free ∈ A := by assumption) :
    SameBut A u (State.switchAtBoundary s a1) := by
  unfold State.switchAtBoundary
  grind [State.switchNow_same]

theorem State.linkOn_same {A : List Area} {u s : State} (h : SameBut A u s) (_ : .regs ∈ A := by assumption)
    (_ : .arbs ∈ A := by assumption) (_ : .lnk ∈ A := by assumption) :
    SameBut A u (State.linkOn s) := by
  unfold State.linkOn
  grind [State.setBit_same, State.setRoutesUp_same, State.trainPort_same, State.wrBit_same, State.wr_same, forEach_same]

theorem State.linkOff_same {A : List Area} {u s : State} (h : SameBut A u s) (_ : .regs ∈ A := by assumption)
    (_ : .arbs ∈ A := by assumption) (_ : .lnk ∈ A := by assumption) :
    SameBut A u (State.linkOff s) := by
  unfold State.linkOff
  grind [State.clearPort_same, State.setRoutesUp_same, State.withLnk_same, State.wr_same, forEach_same]

theorem execLnkCtrlEn_same {A : List Area} {u s : State} (h : SameBut A u s) (a0 a1 a2)
    (_ : .regs ∈ A := by assumption) (_ : .now ∈ A := by assumption) (_ : .arbs ∈ A := by assumption)
    (_ : .lnk ∈ A := by assumption) :
    SameO A u (execLnkCtrlEn a0 a1 a2 s) := by
  unfold execLnkCtrlEn
  grind [State.advance_same, State.linkOff_same, State.linkOn_same, State.setBit_same, SameO.next]

theorem State.sendCnp_same {A : List Area} {u s : State} (h : SameBut A u s) (a1 a2)
    (_ : .regs ∈ A := by assumption) (_ : .lnk ∈ A := by assumption) :
    SameBut A u (State.sendCnp s a1 a2) := by
  unfold State.sendCnp
  grind [State.count_same, State.withLnk_same]

theorem execStorageReadResponse_same {A : List Area} {u s : State} (h : SameBut A u s) (a0 a1 a2 a3 a4 a5 a6 a7 a8)
    (_ : .regs ∈ A := by assumption) (_ : .now ∈ A := by assumption) (_ : .arbs ∈ A := by assumption)
    (_ : .hif ∈ A := by assumption) (_ : .lst ∈ A := by assumption) (_ : .mem ∈ A := by assumption)
    (_ : .lnk ∈ A := by assumption) :
    SameO A u (execStorageReadResponse a0 a1 a2 a3 a4 a5 a6 a7 a8 s) := by
  unfold execStorageReadResponse
  grind (splits := 40) (gen := 20) (ematch := 20) [State.advance_same, State.count_same, State.flushReads_same, State.loadBytes_same, State.sendCnp_same, State.withLnk_same, SameO.next]

theorem execStorageNak_same {A : List Area} {u s : State} (h : SameBut A u s) (a0 a1 a2 a3)
    (_ : .regs ∈ A := by assumption) (_ : .now ∈ A := by assumption) (_ : .arbs ∈ A := by assumption)
    (_ : .hif ∈ A := by assumption) (_ : .lst ∈ A := by assumption) (_ : .lnk ∈ A := by assumption) :
    SameO A u (execStorageNak a0 a1 a2 a3 s) := by
  unfold execStorageNak
  grind [State.advance_same, State.qpError_same, SameO.next]

theorem execRdmaRetryTimeout_same {A : List Area} {u s : State} (h : SameBut A u s) (a0 a1 a2)
    (_ : .regs ∈ A := by assumption) (_ : .now ∈ A := by assumption) (_ : .arbs ∈ A := by assumption)
    (_ : .hif ∈ A := by assumption) (_ : .lst ∈ A := by assumption) (_ : .lnk ∈ A := by assumption) :
    SameO A u (execRdmaRetryTimeout a0 a1 a2 s) := by
  unfold execRdmaRetryTimeout
  grind (splits := 40) (gen := 20) (ematch := 20) [State.advance_same, State.count_same, State.dropHeldReads_same, State.flushReads_same, State.qpError_same, State.sendReads_same, State.withLnk_same, SameO.next]

theorem execInboundRequestDiscard_same {A : List Area} {u s : State} (h : SameBut A u s) (a0 a1)
    (_ : .regs ∈ A := by assumption) (_ : .now ∈ A := by assumption) :
    SameO A u (execInboundRequestDiscard a0 a1 s) := by
  unfold execInboundRequestDiscard
  grind [State.advance_same, State.count_same, SameO.next]

theorem State.storageDown_same {A : List Area} {u s : State} (h : SameBut A u s) (a1)
    (_ : .regs ∈ A := by assumption) (_ : .arbs ∈ A := by assumption) (_ : .hif ∈ A := by assumption)
    (_ : .lst ∈ A := by assumption) (_ : .lnk ∈ A := by assumption) :
    SameBut A u (State.storageDown s a1) := by
  unfold State.storageDown
  grind [State.qpError_same, forEach_same]

theorem execStorageLinkDown_same {A : List Area} {u s : State} (h : SameBut A u s) (a0 a1)
    (_ : .regs ∈ A := by assumption) (_ : .now ∈ A := by assumption) (_ : .time ∈ A := by assumption)
    (_ : .arbs ∈ A := by assumption) (_ : .hif ∈ A := by assumption) (_ : .lst ∈ A := by assumption)
    (_ : .lnk ∈ A := by assumption) (_ : .free ∈ A := by assumption) :
    SameO A u (execStorageLinkDown a0 a1 s) := by
  unfold execStorageLinkDown
  grind [State.advance_same, State.chooseMaster_same, State.storageDown_same, State.wr_same, SameO.next]

theorem execStorageLinkUp_same {A : List Area} {u s : State} (h : SameBut A u s) (a0 a1)
    (_ : .regs ∈ A := by assumption) (_ : .now ∈ A := by assumption) (_ : .time ∈ A := by assumption)
    (_ : .hif ∈ A := by assumption) (_ : .lnk ∈ A := by assumption) (_ : .free ∈ A := by assumption) :
    SameO A u (execStorageLinkUp a0 a1 s) := by
  unfold execStorageLinkUp
  grind [State.advance_same, State.chooseMaster_same, State.flushReads_same, State.setBit_same, SameO.next]

theorem execStoragePortDisable_same {A : List Area} {u s : State} (h : SameBut A u s) (a0 a1 a2)
    (_ : .regs ∈ A := by assumption) (_ : .now ∈ A := by assumption) (_ : .time ∈ A := by assumption)
    (_ : .arbs ∈ A := by assumption) (_ : .hif ∈ A := by assumption) (_ : .lst ∈ A := by assumption)
    (_ : .lnk ∈ A := by assumption) (_ : .free ∈ A := by assumption) :
    SameO A u (execStoragePortDisable a0 a1 a2 s) := by
  unfold execStoragePortDisable
  grind (splits := 40) (gen := 20) (ematch := 20) [State.advance_same, State.chooseMaster_same, State.storageDown_same, State.wr_same, SameO.next]

theorem execQpReset_same {A : List Area} {u s : State} (h : SameBut A u s) (a0 a1 a2 a3)
    (_ : .regs ∈ A := by assumption) (_ : .now ∈ A := by assumption) (_ : .arbs ∈ A := by assumption)
    (_ : .hif ∈ A := by assumption) (_ : .lst ∈ A := by assumption) (_ : .lnk ∈ A := by assumption) :
    SameO A u (execQpReset a0 a1 a2 a3 s) := by
  unfold execQpReset
  grind [State.advance_same, State.dropHeldReads_same, State.loadEmpty_same, State.withLnk_same, State.wr_same, forEach_same, SameO.next]

theorem execQpRts_same {A : List Area} {u s : State} (h : SameBut A u s) (a0 a1 a2 a3)
    (_ : .regs ∈ A := by assumption) (_ : .now ∈ A := by assumption) (_ : .lnk ∈ A := by assumption) :
    SameO A u (execQpRts a0 a1 a2 a3 s) := by
  unfold execQpRts
  grind [State.advance_same, State.withLnk_same, State.wr_same, SameO.next]

theorem execPfcFrame_same {A : List Area} {u s : State} (h : SameBut A u s) (a0 a1 a2 a3)
    (_ : .now ∈ A := by assumption) (_ : .lnk ∈ A := by assumption) :
    SameO A u (execPfcFrame a0 a1 a2 a3 s) := by
  unfold execPfcFrame
  grind [State.advance_same, State.flushReads_same, State.withLnk_same, SameO.next]

theorem State.putParts_same {A : List Area} {u s : State} (h : SameBut A u s) (a1 a2 a3 a4 a5)
    (_ : .regs ∈ A := by assumption) (_ : .arbs ∈ A := by assumption) (_ : .hif ∈ A := by assumption)
    (_ : .serve ∈ A := by assumption) (_ : .ctl ∈ A := by assumption) (_ : .mem ∈ A := by assumption)
    (_ : .sms ∈ A := by assumption) (_ : .fab ∈ A := by assumption) (_ : .lnk ∈ A := by assumption)
    (_ : .mgt ∈ A := by assumption) :
    SameBut A u (State.putParts s a1 a2 a3 a4 a5) := by
  unfold State.putParts
  grind [State.coreCst_same, State.count_same, State.putEntry_same, State.sendBytes_same, State.setBuf_same]

theorem State.freeBank_same {A : List Area} {u s : State} (h : SameBut A u s) (a1 a2 a3)
    (_ : .regs ∈ A := by assumption) (_ : .arbs ∈ A := by assumption) (_ : .hif ∈ A := by assumption)
    (_ : .serve ∈ A := by assumption) (_ : .ctl ∈ A := by assumption) (_ : .mem ∈ A := by assumption)
    (_ : .sms ∈ A := by assumption) (_ : .fab ∈ A := by assumption) (_ : .lnk ∈ A := by assumption)
    (_ : .mgt ∈ A := by assumption) :
    SameBut A u (State.freeBank s a1 a2 a3) := by
  unfold State.freeBank
  grind [State.goWaiting_same, State.setBank_same]

theorem State.drainMatrix_same {A : List Area} {u s : State} (h : SameBut A u s) (a1 a2 a3 a4 a5)
    (_ : .regs ∈ A := by assumption) (_ : .arbs ∈ A := by assumption) (_ : .hif ∈ A := by assumption)
    (_ : .serve ∈ A := by assumption) (_ : .ctl ∈ A := by assumption) (_ : .mem ∈ A := by assumption)
    (_ : .sms ∈ A := by assumption) (_ : .fab ∈ A := by assumption) (_ : .lnk ∈ A := by assumption)
    (_ : .mgt ∈ A := by assumption) :
    SameBut A u (State.drainMatrix s a1 a2 a3 a4 a5) := by
  unfold State.drainMatrix
  grind [State.markNumeric_same, State.putParts_same, forEach_same]

theorem execDrain_same {A : List Area} {u s : State} (h : SameBut A u s) (a0 a1 a2 a3 a4 a5)
    (_ : .regs ∈ A := by assumption) (_ : .now ∈ A := by assumption) (_ : .arbs ∈ A := by assumption)
    (_ : .hif ∈ A := by assumption) (_ : .serve ∈ A := by assumption) (_ : .ctl ∈ A := by assumption)
    (_ : .mem ∈ A := by assumption) (_ : .sms ∈ A := by assumption) (_ : .fab ∈ A := by assumption)
    (_ : .lnk ∈ A := by assumption) (_ : .mgt ∈ A := by assumption) :
    SameO A u (execDrain a0 a1 a2 a3 a4 a5 s) := by
  unfold execDrain
  grind [State.advance_same, State.count_same, State.drainMatrix_same, State.freeBank_same, State.unitCheck_same, forEach_same, SameO.next]

theorem State.forcedDrain_same {A : List Area} {u s : State} (h : SameBut A u s) (a1 a2 a3)
    (_ : .regs ∈ A := by assumption) (_ : .hif ∈ A := by assumption) (_ : .mem ∈ A := by assumption)
    (_ : .sms ∈ A := by assumption) :
    SameBut A u (State.forcedDrain s a1 a2 a3) := by
  unfold State.forcedDrain
  grind [State.count_same, State.logEvent_same, State.setBit_same, State.wrBit_same, State.wr_same, State.writeBytes_same]

theorem execAcrDbgDrain_same {A : List Area} {u s : State} (h : SameBut A u s) (a0 a1 a2 a3 a4)
    (_ : .regs ∈ A := by assumption) (_ : .now ∈ A := by assumption) (_ : .hif ∈ A := by assumption)
    (_ : .mem ∈ A := by assumption) (_ : .sms ∈ A := by assumption) :
    SameO A u (execAcrDbgDrain a0 a1 a2 a3 a4 s) := by
  unfold execAcrDbgDrain
  grind [State.advance_same, State.forcedDrain_same, SameO.next]

theorem State.takeRescue_same {A : List Area} {u s : State} (h : SameBut A u s) (a1 a2 a3 a4)
    (_ : .fab ∈ A := by assumption) :
    SameBut A u (State.takeRescue s a1 a2 a3 a4).2 := by
  unfold State.takeRescue
  grind [State.withFab_same]

theorem State.takeRescues_same {A : List Area} {u s : State} (h : SameBut A u s) (core first : Nat) (recs : List (PartRec × Bool))
    (l : List (Folded × Nat)) (_ : .fab ∈ A := by assumption) : SameBut A u (s.takeRescues core first recs l).2 := by
  induction l generalizing s with
  | nil => exact h
  | cons b t ih =>
    obtain ⟨e, i⟩ := b
    unfold State.takeRescues
    exact ih (State.takeRescue_same h _ _ _ _)

theorem State.foldInto_same {A : List Area} {u s : State} (h : SameBut A u s) (a1 a2 a3 a4 a5 a6)
    (_ : .regs ∈ A := by assumption) (_ : .fab ∈ A := by assumption) :
    SameBut A u (State.foldInto s a1 a2 a3 a4 a5 a6) := by
  unfold State.foldInto
  grind [State.count_same, State.markNumeric_same, State.markOob_same, State.setBuf_same, State.takeRescues_same]

theorem execFold_same {A : List Area} {u s : State} (h : SameBut A u s) (a0 a1 a2 a3 a4 a5 a6)
    (_ : .regs ∈ A := by assumption) (_ : .now ∈ A := by assumption) (_ : .arbs ∈ A := by assumption)
    (_ : .hif ∈ A := by assumption) (_ : .serve ∈ A := by assumption) (_ : .ctl ∈ A := by assumption)
    (_ : .sms ∈ A := by assumption) (_ : .fab ∈ A := by assumption) (_ : .lnk ∈ A := by assumption) :
    SameO A u (execFold a0 a1 a2 a3 a4 a5 a6 s) := by
  unfold execFold
  grind [State.advance_same, State.coreJobFault_same, State.foldInto_same, State.reach_same, State.takeEntry_same, forEach_same, SameO.next]

theorem execCancelRescue_same {A : List Area} {u s : State} (h : SameBut A u s) (a0 a1 a2 a3)
    (_ : .regs ∈ A := by assumption) (_ : .now ∈ A := by assumption) (_ : .fab ∈ A := by assumption) :
    SameO A u (execCancelRescue a0 a1 a2 a3 s) := by
  unfold execCancelRescue
  grind (splits := 40) (gen := 20) (ematch := 20) [State.advance_same, State.count_same, State.markNumeric_same, State.setBuf_same, SameO.next]

theorem State.putVec_same {A : List Area} {u s : State} (h : SameBut A u s) (a1 a2 a3 a4 a5 a6 a7)
    (_ : .fab ∈ A := by assumption) :
    SameBut A u (State.putVec s a1 a2 a3 a4 a5 a6 a7) := by
  unfold State.putVec
  grind [State.markNumeric_same, State.setBuf_same]

theorem execTopk_same {A : List Area} {u s : State} (h : SameBut A u s) (a0 a1 a2 a3 a4 a5)
    (_ : .regs ∈ A := by assumption) (_ : .now ∈ A := by assumption) (_ : .fab ∈ A := by assumption) :
    SameO A u (execTopk a0 a1 a2 a3 a4 a5 s) := by
  unfold execTopk
  grind [State.advance_same, State.count_same, State.markNumeric_same, State.setBuf_same, SameO.next]

theorem State.addSample_same {A : List Area} {u s : State} (h : SameBut A u s) (a1) (_ : .fab ∈ A := by assumption) :
    SameBut A u (State.addSample s a1) := by
  unfold State.addSample
  grind [State.withFab_same]

theorem State.sampleFrom_same {A : List Area} {u s : State} (h : SameBut A u s) (a1 a2 a3 a4 a5 a6)
    (_ : .regs ∈ A := by assumption) (_ : .fab ∈ A := by assumption) :
    SameBut A u (State.sampleFrom s a1 a2 a3 a4 a5 a6) := by
  unfold State.sampleFrom
  grind [State.addSample_same, State.count_same, State.markNumeric_same, State.setBuf_same]

theorem State.tuneTarget_same {A : List Area} {u s : State} (h : SameBut A u s) (a1 a2 a3 a4 a5)
    (_ : .fab ∈ A := by assumption) :
    SameBut A u (State.tuneTarget s a1 a2 a3 a4 a5) := by
  unfold State.tuneTarget
  grind [State.putVec_same, State.withFab_same]

theorem execSample_same {A : List Area} {u s : State} (h : SameBut A u s) (a0 a1 a2 a3 a4 a5)
    (_ : .regs ∈ A := by assumption) (_ : .now ∈ A := by assumption) (_ : .arbs ∈ A := by assumption)
    (_ : .ctl ∈ A := by assumption) (_ : .fab ∈ A := by assumption) :
    SameO A u (execSample a0 a1 a2 a3 a4 a5 s) := by
  unfold execSample
  grind [State.advance_same, State.reach_same, State.sampleFrom_same, State.takeEntry_same, State.tuneTarget_same, forEach_same, SameO.next]

theorem execRmsnorm_same {A : List Area} {u s : State} (h : SameBut A u s) (a0 a1 a2 a3 a4)
    (_ : .now ∈ A := by assumption) (_ : .fab ∈ A := by assumption) :
    SameO A u (execRmsnorm a0 a1 a2 a3 a4 s) := by
  unfold execRmsnorm
  grind [State.advance_same, State.putVec_same, SameO.next]

theorem execLayernorm_same {A : List Area} {u s : State} (h : SameBut A u s) (a0 a1 a2 a3 a4)
    (_ : .now ∈ A := by assumption) (_ : .fab ∈ A := by assumption) :
    SameO A u (execLayernorm a0 a1 a2 a3 a4 s) := by
  unfold execLayernorm
  grind [State.advance_same, State.putVec_same, SameO.next]

theorem State.gate_same {A : List Area} {u s : State} (h : SameBut A u s) (a1 a2 a3 a4 a5) (_ : .fab ∈ A := by assumption) :
    SameBut A u (State.gate s a1 a2 a3 a4 a5) := by
  unfold State.gate
  grind [State.putVec_same]

theorem execSiluGate_same {A : List Area} {u s : State} (h : SameBut A u s) (a0 a1 a2 a3 a4)
    (_ : .now ∈ A := by assumption) (_ : .fab ∈ A := by assumption) :
    SameO A u (execSiluGate a0 a1 a2 a3 a4 s) := by
  unfold execSiluGate
  grind [State.advance_same, State.gate_same, SameO.next]

theorem execGeluGate_same {A : List Area} {u s : State} (h : SameBut A u s) (a0 a1 a2 a3 a4)
    (_ : .now ∈ A := by assumption) (_ : .fab ∈ A := by assumption) :
    SameO A u (execGeluGate a0 a1 a2 a3 a4 s) := by
  unfold execGeluGate
  grind [State.advance_same, State.gate_same, SameO.next]

theorem execRotary_same {A : List Area} {u s : State} (h : SameBut A u s) (a0 a1 a2 a3 a4 a5)
    (_ : .now ∈ A := by assumption) (_ : .fab ∈ A := by assumption) :
    SameO A u (execRotary a0 a1 a2 a3 a4 a5 s) := by
  unfold execRotary
  grind [State.advance_same, State.putVec_same, SameO.next]

theorem execExpSum_same {A : List Area} {u s : State} (h : SameBut A u s) (a0 a1 a2 a3 a4 a5 a6)
    (_ : .now ∈ A := by assumption) (_ : .fab ∈ A := by assumption) :
    SameO A u (execExpSum a0 a1 a2 a3 a4 a5 a6 s) := by
  unfold execExpSum
  grind [State.advance_same, State.putVec_same, SameO.next]

theorem execQuantA8_same {A : List Area} {u s : State} (h : SameBut A u s) (a0 a1 a2 a3 a4)
    (_ : .now ∈ A := by assumption) (_ : .fab ∈ A := by assumption) :
    SameO A u (execQuantA8 a0 a1 a2 a3 a4 s) := by
  unfold execQuantA8
  grind [State.advance_same, State.markNumeric_same, State.nextVector_same, State.setBuf_same, SameO.next]

theorem State.addClamps_same {A : List Area} {u s : State} (h : SameBut A u s) (a1 a2) (_ : .fab ∈ A := by assumption) :
    SameBut A u (State.addClamps s a1 a2) := by
  unfold State.addClamps
  grind [State.withFab_same]

theorem execToBf16_same {A : List Area} {u s : State} (h : SameBut A u s) (a0 a1 a2 a3 a4)
    (_ : .now ∈ A := by assumption) (_ : .fab ∈ A := by assumption) :
    SameO A u (execToBf16 a0 a1 a2 a3 a4 s) := by
  unfold execToBf16
  grind [State.addClamps_same, State.advance_same, State.markNumeric_same, State.setBuf_same, SameO.next]

theorem execQRecordWrite_same {A : List Area} {u s : State} (h : SameBut A u s) (a0 a1 a2 a3)
    (_ : .now ∈ A := by assumption) (_ : .fab ∈ A := by assumption) :
    SameO A u (execQRecordWrite a0 a1 a2 a3 s) := by
  unfold execQRecordWrite
  grind [State.advance_same, State.markNumeric_same, State.setBuf_same, SameO.next]

theorem execExpertCombine_same {A : List Area} {u s : State} (h : SameBut A u s) (a0 a1 a2 a3 a4 a5 a6)
    (_ : .now ∈ A := by assumption) (_ : .fab ∈ A := by assumption) :
    SameO A u (execExpertCombine a0 a1 a2 a3 a4 a5 a6 s) := by
  unfold execExpertCombine
  grind [State.advance_same, State.markNumeric_same, State.setBuf_same, SameO.next]

theorem State.setMbox_same {A : List Area} {u s : State} (h : SameBut A u s) (a1 a2 a3) (_ : .ctl ∈ A := by assumption) :
    SameBut A u (State.setMbox s a1 a2 a3) := by
  unfold State.setMbox
  grind [State.withCtl_same]

theorem State.mbxInterrupt_same {A : List Area} {u s : State} (h : SameBut A u s) (a1) (_ : .hif ∈ A := by assumption) :
    SameBut A u (State.mbxInterrupt s a1) := by
  unfold State.mbxInterrupt
  grind [State.mbxEvent_same]

theorem State.mbxGo_same {A : List Area} {u s : State} (h : SameBut A u s) (a1 a2) (_ : .regs ∈ A := by assumption)
    (_ : .hif ∈ A := by assumption) (_ : .ctl ∈ A := by assumption) :
    SameBut A u (State.mbxGo s a1 a2) := by
  unfold State.mbxGo
  grind [State.count_same, State.mbxInterrupt_same, State.setMbox_same]

theorem State.mbxDone_same {A : List Area} {u s : State} (h : SameBut A u s) (a1 a2)
    (_ : .hif ∈ A := by assumption) (_ : .ctl ∈ A := by assumption) :
    SameBut A u (State.mbxDone s a1 a2) := by
  unfold State.mbxDone
  grind [State.mbxInterrupt_same, State.setMbox_same]

theorem State.mbxAbort_same {A : List Area} {u s : State} (h : SameBut A u s) (a1 a2)
    (_ : .regs ∈ A := by assumption) (_ : .hif ∈ A := by assumption) (_ : .ctl ∈ A := by assumption) :
    SameBut A u (State.mbxAbort s a1 a2) := by
  unfold State.mbxAbort
  grind [State.count_same, State.mbxInterrupt_same, State.setMbox_same]

theorem State.mbxClear_same {A : List Area} {u s : State} (h : SameBut A u s) (a1 a2) (_ : .ctl ∈ A := by assumption) :
    SameBut A u (State.mbxClear s a1 a2) := by
  unfold State.mbxClear
  grind [State.setMbox_same]

theorem State.mbxReset_same {A : List Area} {u s : State} (h : SameBut A u s) (a1) (_ : .regs ∈ A := by assumption)
    (_ : .hif ∈ A := by assumption) (_ : .ctl ∈ A := by assumption) :
    SameBut A u (State.mbxReset s a1) := by
  unfold State.mbxReset
  grind [State.mbxAbort_same, State.mbxClear_same, forEach_same]

theorem State.mbxResetHost_same {A : List Area} {u s : State} (h : SameBut A u s) (_ : .regs ∈ A := by assumption)
    (_ : .hif ∈ A := by assumption) (_ : .ctl ∈ A := by assumption) :
    SameBut A u (State.mbxResetHost s) := by
  unfold State.mbxResetHost
  grind [State.mbxAbort_same, State.mbxClear_same, forEach_same]

theorem execMbxSGo_same {A : List Area} {u s : State} (h : SameBut A u s) (a0 a1 a2 a3)
    (_ : .regs ∈ A := by assumption) (_ : .now ∈ A := by assumption) (_ : .hif ∈ A := by assumption)
    (_ : .ctl ∈ A := by assumption) :
    SameO A u (execMbxSGo a0 a1 a2 a3 s) := by
  unfold execMbxSGo
  grind [State.advance_same, State.mbxGo_same, State.setMbox_same, SameO.next]

theorem execMbxRDone_same {A : List Area} {u s : State} (h : SameBut A u s) (a0 a1 a2)
    (_ : .now ∈ A := by assumption) (_ : .hif ∈ A := by assumption) (_ : .ctl ∈ A := by assumption) :
    SameO A u (execMbxRDone a0 a1 a2 s) := by
  unfold execMbxRDone
  grind [State.advance_same, State.mbxDone_same, SameO.next]

theorem State.faultReq_same {A : List Area} {u s : State} (h : SameBut A u s) (a1 a2)
    (_ : .regs ∈ A := by assumption) (_ : .arbs ∈ A := by assumption) (_ : .hif ∈ A := by assumption)
    (_ : .serve ∈ A := by assumption) :
    SameBut A u (State.faultReq s a1 a2) := by
  unfold State.faultReq
  grind [State.endReq_same, State.setReq_same]

theorem State.noteRestart_same {A : List Area} {u s : State} (h : SameBut A u s) (a1)
    (_ : .regs ∈ A := by assumption) (_ : .hif ∈ A := by assumption) (_ : .sms ∈ A := by assumption) :
    SameBut A u (State.noteRestart s a1) := by
  unfold State.noteRestart
  grind [State.count_same, State.logEvent_same, SameBut.set_sms]

theorem State.restartNow_same {A : List Area} {u s : State} (h : SameBut A u s) (a1)
    (_ : .regs ∈ A := by assumption) (_ : .arbs ∈ A := by assumption) (_ : .hif ∈ A := by assumption)
    (_ : .serve ∈ A := by assumption) (_ : .ctl ∈ A := by assumption) (_ : .sms ∈ A := by assumption)
    (_ : .lnk ∈ A := by assumption) (_ : .mgt ∈ A := by assumption) :
    SameBut A u (State.restartNow s a1) := by
  unfold State.restartNow
  grind [State.faultReq_same, State.mbxReset_same, State.moduleFault_same, State.noteRestart_same, State.unplan_same, State.when_same, State.withCtl_same, State.wr_same, forEach_same, State.when]

theorem State.firmwareRestart_same {A : List Area} {u s : State} (h : SameBut A u s) (a1)
    (_ : .regs ∈ A := by assumption) (_ : .arbs ∈ A := by assumption) (_ : .hif ∈ A := by assumption)
    (_ : .serve ∈ A := by assumption) (_ : .ctl ∈ A := by assumption) (_ : .sms ∈ A := by assumption)
    (_ : .lnk ∈ A := by assumption) (_ : .mgt ∈ A := by assumption) :
    SameBut A u (State.firmwareRestart s a1) := by
  unfold State.firmwareRestart
  grind [State.restartNow_same]

theorem execFirmwareRestart_same {A : List Area} {u s : State} (h : SameBut A u s) (a0 a1)
    (_ : .regs ∈ A := by assumption) (_ : .now ∈ A := by assumption) (_ : .arbs ∈ A := by assumption)
    (_ : .hif ∈ A := by assumption) (_ : .serve ∈ A := by assumption) (_ : .ctl ∈ A := by assumption)
    (_ : .sms ∈ A := by assumption) (_ : .lnk ∈ A := by assumption) (_ : .mgt ∈ A := by assumption) :
    SameO A u (execFirmwareRestart a0 a1 s) := by
  unfold execFirmwareRestart
  grind [State.advance_same, State.count_same, State.firmwareRestart_same, State.when_same, SameO.next, State.when]

theorem execControlWatchdog_same {A : List Area} {u s : State} (h : SameBut A u s) (a0 a1)
    (_ : .regs ∈ A := by assumption) (_ : .now ∈ A := by assumption) (_ : .arbs ∈ A := by assumption)
    (_ : .hif ∈ A := by assumption) (_ : .serve ∈ A := by assumption) (_ : .ctl ∈ A := by assumption)
    (_ : .sms ∈ A := by assumption) (_ : .lnk ∈ A := by assumption) (_ : .mgt ∈ A := by assumption) :
    SameO A u (execControlWatchdog a0 a1 s) := by
  unfold execControlWatchdog
  grind [State.advance_same, State.firmwareRestart_same, SameO.next]

theorem State.retireFrame_same {A : List Area} {u s : State} (h : SameBut A u s) (a1 a2) (_ : .mem ∈ A := by assumption) :
    SameBut A u (State.retireFrame s a1 a2) := by
  unfold State.retireFrame
  grind [State.withMem_same]

theorem State.evictUpTo_same {A : List Area} {u s : State} (h : SameBut A u s) (a1 a2)
    (_ : .regs ∈ A := by assumption) (_ : .serve ∈ A := by assumption) :
    SameBut A u (State.evictUpTo s a1 a2) := by
  unfold State.evictUpTo
  grind (splits := 40) (gen := 20) (ematch := 20) [State.evictColumn_same, State.setSess_same, forEach_same]

theorem State.evictOrWait_same {A : List Area} {u s : State} (h : SameBut A u s) (a1 a2)
    (_ : .regs ∈ A := by assumption) (_ : .serve ∈ A := by assumption) (_ : .mem ∈ A := by assumption) :
    SameBut A u (State.evictOrWait s a1 a2) := by
  unfold State.evictOrWait
  grind [State.evictUpTo_same, State.withMem_same]

theorem State.moveFrame_same {A : List Area} {u s : State} (h : SameBut A u s) (a1 a2)
    (_ : .regs ∈ A := by assumption) (_ : .arbs ∈ A := by assumption) (_ : .serve ∈ A := by assumption)
    (_ : .mem ∈ A := by assumption) (_ : .free ∈ A := by assumption) :
    SameBut A u (State.moveFrame s a1 a2) := by
  unfold State.moveFrame
  grind [State.copyPages_same, State.markPages_same, State.retireFrame_same, State.setSess_same, State.takePage_same, State.takePages_same]

theorem State.memRepair_same {A : List Area} {u s : State} (h : SameBut A u s) (_ : .regs ∈ A := by assumption)
    (_ : .arbs ∈ A := by assumption) (_ : .serve ∈ A := by assumption) (_ : .mem ∈ A := by assumption)
    (_ : .free ∈ A := by assumption) :
    SameBut A u (State.memRepair s) := by
  unfold State.memRepair
  grind [State.evictOrWait_same, State.moveFrame_same, State.withMem_same, forEach_same]

theorem State.closeLost_same {A : List Area} {u s : State} (h : SameBut A u s) (a1)
    (_ : .regs ∈ A := by assumption) (_ : .arbs ∈ A := by assumption) (_ : .hif ∈ A := by assumption)
    (_ : .serve ∈ A := by assumption) :
    SameBut A u (State.closeLost s a1) := by
  unfold State.closeLost
  grind (splits := 40) (gen := 20) (ematch := 20) [State.abortClones_same, State.completeReq_same, State.faultReq_same, State.finishClose_same, State.setSess_same, State.stopMoves_same, forEach_same]

theorem State.rewriteEmbedding_same {A : List Area} {u s : State} (h : SameBut A u s) (_ : .mem ∈ A := by assumption) :
    SameBut A u (State.rewriteEmbedding s) := by
  unfold State.rewriteEmbedding
  grind [State.writeBytes_same]

theorem State.loadErrLog_same {A : List Area} {u s : State} (h : SameBut A u s) (a1) (_ : .regs ∈ A := by assumption) :
    SameBut A u (State.loadErrLog s a1) := by
  unfold State.loadErrLog
  grind [State.setBit_same, State.wrBit_same, State.wr_same]

theorem State.corrected_same {A : List Area} {u s : State} (h : SameBut A u s) (a1)
    (_ : .regs ∈ A := by assumption) (_ : .arbs ∈ A := by assumption) (_ : .serve ∈ A := by assumption)
    (_ : .mem ∈ A := by assumption) (_ : .free ∈ A := by assumption) :
    SameBut A u (State.corrected s a1) := by
  unfold State.corrected
  grind [State.count_same, State.memRepair_same, State.withMem_same]

theorem State.testFailed_same {A : List Area} {u s : State} (h : SameBut A u s) (a1)
    (_ : .regs ∈ A := by assumption) (_ : .arbs ∈ A := by assumption) (_ : .hif ∈ A := by assumption)
    (_ : .serve ∈ A := by assumption) (_ : .ctl ∈ A := by assumption) (_ : .mem ∈ A := by assumption)
    (_ : .sms ∈ A := by assumption) (_ : .lnk ∈ A := by assumption) (_ : .mgt ∈ A := by assumption) :
    SameBut A u (State.testFailed s a1) := by
  unfold State.testFailed
  grind [State.moduleFault_same, State.retireFrame_same, State.withMem_same]

theorem State.uncorrected_same {A : List Area} {u s : State} (h : SameBut A u s) (a1 a2) (h2 : ∀ s y0, SameBut A u s → SameBut A u (a2 s y0)) (_ : .regs ∈ A := by assumption) (_ : .arbs ∈ A := by assumption) (_ : .hif ∈ A := by assumption) (_ : .serve ∈ A := by assumption) (_ : .lst ∈ A := by assumption) (_ : .ctl ∈ A := by assumption) (_ : .mem ∈ A := by assumption) (_ : .sms ∈ A := by assumption) (_ : .lnk ∈ A := by assumption) (_ : .mgt ∈ A := by assumption) :
    SameBut A u (State.uncorrected s a1 a2) := by
  unfold State.uncorrected
  grind [State.closeLost_same, State.evictOrWait_same, State.faultJob_same, State.firmwareRestart_same, State.logEvent_same, State.rewriteEmbedding_same, State.setObj_same, forEach_same]

theorem State.memError_same {A : List Area} {u s : State} (h : SameBut A u s) (a1 a2) (h2 : ∀ s y0, SameBut A u s → SameBut A u (a2 s y0)) (_ : .regs ∈ A := by assumption) (_ : .arbs ∈ A := by assumption) (_ : .hif ∈ A := by assumption) (_ : .serve ∈ A := by assumption) (_ : .lst ∈ A := by assumption) (_ : .ctl ∈ A := by assumption) (_ : .mem ∈ A := by assumption) (_ : .sms ∈ A := by assumption) (_ : .lnk ∈ A := by assumption) (_ : .mgt ∈ A := by assumption) (_ : .free ∈ A := by assumption) :
    SameBut A u (State.memError s a1 a2) := by
  unfold State.memError
  grind [State.corrected_same, State.count_same, State.loadErrLog_same, State.testFailed_same, State.uncorrected_same]

theorem State.coreErrors_same {A : List Area} {u s : State} (h : SameBut A u s) (a1 a2)
    (_ : .regs ∈ A := by assumption) (_ : .arbs ∈ A := by assumption) (_ : .hif ∈ A := by assumption)
    (_ : .serve ∈ A := by assumption) (_ : .lst ∈ A := by assumption) (_ : .ctl ∈ A := by assumption)
    (_ : .mem ∈ A := by assumption) (_ : .sms ∈ A := by assumption) (_ : .lnk ∈ A := by assumption)
    (_ : .mgt ∈ A := by assumption) (_ : .free ∈ A := by assumption) :
    SameBut A u (State.coreErrors s a1 a2).2 := by
  unfold State.coreErrors
  grind [State.faultCore_same, State.memError_same, forEach_same]

theorem State.copyErrors_same {A : List Area} {u s : State} (h : SameBut A u s) (a1 a2 a3)
    (_ : .regs ∈ A := by assumption) (_ : .arbs ∈ A := by assumption) (_ : .hif ∈ A := by assumption)
    (_ : .serve ∈ A := by assumption) (_ : .lst ∈ A := by assumption) (_ : .ctl ∈ A := by assumption)
    (_ : .mem ∈ A := by assumption) (_ : .sms ∈ A := by assumption) (_ : .lnk ∈ A := by assumption)
    (_ : .mgt ∈ A := by assumption) (_ : .free ∈ A := by assumption) :
    SameBut A u (State.copyErrors s a1 a2 a3).2 := by
  unfold State.copyErrors
  grind [State.faultJob_same, State.memError_same, forEach_same]

theorem State.scrubBegin_same {A : List Area} {u s : State} (h : SameBut A u s) (_ : .mem ∈ A := by assumption) :
    SameBut A u (State.scrubBegin s) := by
  unfold State.scrubBegin
  grind [State.withMem_same]

theorem execScrubRead_same {A : List Area} {u s : State} (h : SameBut A u s) (a0 a1 a2 a3)
    (_ : .regs ∈ A := by assumption) (_ : .now ∈ A := by assumption) (_ : .arbs ∈ A := by assumption)
    (_ : .hif ∈ A := by assumption) (_ : .serve ∈ A := by assumption) (_ : .lst ∈ A := by assumption)
    (_ : .ctl ∈ A := by assumption) (_ : .mem ∈ A := by assumption) (_ : .sms ∈ A := by assumption)
    (_ : .lnk ∈ A := by assumption) (_ : .mgt ∈ A := by assumption) (_ : .free ∈ A := by assumption) :
    SameO A u (execScrubRead a0 a1 a2 a3 s) := by
  unfold execScrubRead
  grind [State.advance_same, State.logEvent_same, State.memError_same, State.scrubBegin_same, State.stage_same, State.useTier_same, State.withMem_same, State.wrBit_same, forEach_same, SameO.next]

theorem State.finishRows_same {A : List Area} {u s : State} (h : SameBut A u s) (a1 a2)
    (_ : .regs ∈ A := by assumption) (_ : .mem ∈ A := by assumption) (_ : .fab ∈ A := by assumption) :
    SameBut A u (State.finishRows s a1 a2) := by
  unfold State.finishRows
  grind [State.count_same, State.markNumeric_same, State.setBuf_same, State.writeBytes_same, forEach_same]

theorem State.attend_same {A : List Area} {u s : State} (h : SameBut A u s) (a1 a2 a3 a4 a5)
    (_ : .regs ∈ A := by assumption) (_ : .arbs ∈ A := by assumption) (_ : .hif ∈ A := by assumption)
    (_ : .serve ∈ A := by assumption) (_ : .ctl ∈ A := by assumption) (_ : .mem ∈ A := by assumption)
    (_ : .sms ∈ A := by assumption) (_ : .fab ∈ A := by assumption) (_ : .lnk ∈ A := by assumption)
    (_ : .mgt ∈ A := by assumption) :
    SameBut A u (State.attend s a1 a2 a3 a4 a5) := by
  unfold State.attend
  grind [State.coreCst_same, State.count_same, State.finishRows_same, State.markNumeric_same, State.putEntry_same, State.setBuf_same]

theorem State.chargeKv_same {A : List Area} {u s : State} (h : SameBut A u s) (a1 a2 a3 a4)
    (_ : .regs ∈ A := by assumption) (_ : .arbs ∈ A := by assumption) (_ : .mem ∈ A := by assumption) :
    SameBut A u (State.chargeKv s a1 a2 a3 a4) := by
  unfold State.chargeKv
  grind [State.chargeTier_same, State.stage_same, State.useTier_same, forEach_same]

theorem State.feedWait_same {A : List Area} {u s : State} (h : SameBut A u s) (a1) (_ : .regs ∈ A := by assumption)
    (_ : .fab ∈ A := by assumption) :
    SameBut A u (State.feedWait s a1) := by
  unfold State.feedWait
  grind [State.count_same, State.withFab_same]

theorem State.attnStart_same {A : List Area} {u s : State} (h : SameBut A u s) (a1 a2 a3)
    (_ : .regs ∈ A := by assumption) (_ : .arbs ∈ A := by assumption) (_ : .hif ∈ A := by assumption)
    (_ : .serve ∈ A := by assumption) (_ : .lst ∈ A := by assumption) (_ : .ctl ∈ A := by assumption)
    (_ : .mem ∈ A := by assumption) (_ : .sms ∈ A := by assumption) (_ : .fab ∈ A := by assumption)
    (_ : .lnk ∈ A := by assumption) (_ : .mgt ∈ A := by assumption) (_ : .free ∈ A := by assumption) :
    SameBut A u (State.attnStart s a1 a2 a3).2 := by
  unfold State.attnStart
  grind [State.chargeKv_same, State.coreErrors_same, State.coreJobFault_same, State.feedWait_same]

theorem execAttentionForward_same {A : List Area} {u s : State} (h : SameBut A u s) (a0 a1 a2 a3 a4 a5)
    (_ : .regs ∈ A := by assumption) (_ : .now ∈ A := by assumption) (_ : .arbs ∈ A := by assumption)
    (_ : .hif ∈ A := by assumption) (_ : .serve ∈ A := by assumption) (_ : .lst ∈ A := by assumption)
    (_ : .ctl ∈ A := by assumption) (_ : .mem ∈ A := by assumption) (_ : .sms ∈ A := by assumption)
    (_ : .fab ∈ A := by assumption) (_ : .lnk ∈ A := by assumption) (_ : .mgt ∈ A := by assumption)
    (_ : .free ∈ A := by assumption) :
    SameO A u (execAttentionForward a0 a1 a2 a3 a4 a5 s) := by
  unfold execAttentionForward
  grind [State.advance_same, State.attend_same, State.attnStart_same, State.unitCheck_same, SameO.next]

theorem execSegmentMerge_same {A : List Area} {u s : State} (h : SameBut A u s) (a0 a1 a2 a3 a4)
    (_ : .regs ∈ A := by assumption) (_ : .now ∈ A := by assumption) (_ : .arbs ∈ A := by assumption)
    (_ : .ctl ∈ A := by assumption) (_ : .mem ∈ A := by assumption) (_ : .fab ∈ A := by assumption) :
    SameO A u (execSegmentMerge a0 a1 a2 a3 a4 s) := by
  unfold execSegmentMerge
  grind (splits := 40) (gen := 20) (ematch := 20) [State.advance_same, State.count_same, State.finishRows_same, State.reach_same, State.setBuf_same, State.takeEntry_same, SameO.next]

theorem State.attendBack_same {A : List Area} {u s : State} (h : SameBut A u s) (a1 a2 a3 a4)
    (_ : .regs ∈ A := by assumption) (_ : .fab ∈ A := by assumption) :
    SameBut A u (State.attendBack s a1 a2 a3 a4) := by
  unfold State.attendBack
  grind [State.count_same, State.markNumeric_same, State.setBuf_same]

theorem execAttentionBackward_same {A : List Area} {u s : State} (h : SameBut A u s) (a0 a1 a2 a3 a4)
    (_ : .regs ∈ A := by assumption) (_ : .now ∈ A := by assumption) (_ : .arbs ∈ A := by assumption)
    (_ : .hif ∈ A := by assumption) (_ : .serve ∈ A := by assumption) (_ : .lst ∈ A := by assumption)
    (_ : .ctl ∈ A := by assumption) (_ : .mem ∈ A := by assumption) (_ : .sms ∈ A := by assumption)
    (_ : .fab ∈ A := by assumption) (_ : .lnk ∈ A := by assumption) (_ : .mgt ∈ A := by assumption)
    (_ : .free ∈ A := by assumption) :
    SameO A u (execAttentionBackward a0 a1 a2 a3 a4 s) := by
  unfold execAttentionBackward
  grind [State.advance_same, State.attendBack_same, State.attnStart_same, State.unitCheck_same, SameO.next]

theorem State.setSlot_same {A : List Area} {u s : State} (h : SameBut A u s) (a1 a2) (_ : .mgt ∈ A := by assumption) :
    SameBut A u (State.setSlot s a1 a2) := by
  unfold State.setSlot
  grind [State.withMgt_same]

theorem State.measHold_same {A : List Area} {u s : State} (h : SameBut A u s) (_ : .mgt ∈ A := by assumption) :
    SameBut A u (State.measHold s) := by
  unfold State.measHold
  grind [State.withMgt_same]

theorem State.trainLink_same {A : List Area} {u s : State} (h : SameBut A u s) (a1) (_ : .regs ∈ A := by assumption) :
    SameBut A u (State.trainLink s a1) := by
  unfold State.trainLink
  grind [State.wrBit_same, State.wr_same]

theorem State.runSlot_same {A : List Area} {u s : State} (h : SameBut A u s) (a1 a2)
    (_ : .regs ∈ A := by assumption) (_ : .mgt ∈ A := by assumption) :
    SameBut A u (State.runSlot s a1 a2) := by
  unfold State.runSlot
  grind [State.withMgt_same, State.wr_same]

theorem State.noSlot_same {A : List Area} {u s : State} (h : SameBut A u s) (_ : .regs ∈ A := by assumption)
    (_ : .mgt ∈ A := by assumption) :
    SameBut A u (State.noSlot s) := by
  unfold State.noSlot
  grind [State.mgtEvent_same, State.wr_same]

theorem State.slotFailed_same {A : List Area} {u s : State} (h : SameBut A u s) (a1)
    (_ : .regs ∈ A := by assumption) (_ : .hif ∈ A := by assumption) (_ : .sms ∈ A := by assumption)
    (_ : .mgt ∈ A := by assumption) :
    SameBut A u (State.slotFailed s a1) := by
  unfold State.slotFailed
  grind [State.logEvent_same, State.setSlot_same, State.withMgt_same]

theorem State.runConfirmed_same {A : List Area} {u s : State} (h : SameBut A u s) (a1 a2)
    (_ : .regs ∈ A := by assumption) (_ : .hif ∈ A := by assumption) (_ : .sms ∈ A := by assumption)
    (_ : .mgt ∈ A := by assumption) :
    SameBut A u (State.runConfirmed s a1 a2) := by
  unfold State.runConfirmed
  grind [State.noSlot_same, State.runSlot_same, State.slotFailed_same]

theorem State.trySlot_same {A : List Area} {u s : State} (h : SameBut A u s) (a1 a2 a3)
    (_ : .regs ∈ A := by assumption) (_ : .hif ∈ A := by assumption) (_ : .sms ∈ A := by assumption)
    (_ : .mgt ∈ A := by assumption) :
    SameBut A u (State.trySlot s a1 a2 a3) := by
  unfold State.trySlot
  grind [State.runConfirmed_same, State.runSlot_same, State.slotFailed_same]

theorem State.chooseConfirmed_same {A : List Area} {u s : State} (h : SameBut A u s) (a1)
    (_ : .regs ∈ A := by assumption) (_ : .hif ∈ A := by assumption) (_ : .sms ∈ A := by assumption)
    (_ : .mgt ∈ A := by assumption) :
    SameBut A u (State.chooseConfirmed s a1) := by
  unfold State.chooseConfirmed
  grind [State.noSlot_same, State.trySlot_same]

theorem State.bootChoice_same {A : List Area} {u s : State} (h : SameBut A u s) (a1)
    (_ : .regs ∈ A := by assumption) (_ : .hif ∈ A := by assumption) (_ : .sms ∈ A := by assumption)
    (_ : .mgt ∈ A := by assumption) :
    SameBut A u (State.bootChoice s a1) := by
  unfold State.bootChoice
  grind [State.chooseConfirmed_same, State.mgtEvent_same, State.setSlot_same, State.trySlot_same, State.when_same, State.withMgt_same, State.when]

theorem State.ledgerEvent_same {A : List Area} {u s : State} (h : SameBut A u s) (a1 a2)
    (_ : .regs ∈ A := by assumption) (_ : .hif ∈ A := by assumption) (_ : .sms ∈ A := by assumption) :
    SameBut A u (State.ledgerEvent s a1 a2) := by
  unfold State.ledgerEvent
  grind [State.logEvent_same]

theorem State.readCalibration_same {A : List Area} {u s : State} (h : SameBut A u s) (a1 a2)
    (_ : .regs ∈ A := by assumption) (_ : .arbs ∈ A := by assumption) (_ : .hif ∈ A := by assumption)
    (_ : .serve ∈ A := by assumption) (_ : .ctl ∈ A := by assumption) (_ : .sms ∈ A := by assumption)
    (_ : .lnk ∈ A := by assumption) (_ : .mgt ∈ A := by assumption) :
    SameBut A u (State.readCalibration s a1 a2) := by
  unfold State.readCalibration
  grind [State.ledgerEvent_same, State.moduleFault_same, State.smsEvent_same]

theorem State.healthLost_same {A : List Area} {u s : State} (h : SameBut A u s) (a1)
    (_ : .regs ∈ A := by assumption) (_ : .hif ∈ A := by assumption) (_ : .lst ∈ A := by assumption)
    (_ : .sms ∈ A := by assumption) (_ : .fab ∈ A := by assumption) :
    SameBut A u (State.healthLost s a1) := by
  unfold State.healthLost
  grind [State.ledgerEvent_same, State.setHealth_same, State.withFab_same, State.withLst_same, SameBut.set_sms]

theorem State.enduranceLost_same {A : List Area} {u s : State} (h : SameBut A u s) (a1)
    (_ : .regs ∈ A := by assumption) (_ : .hif ∈ A := by assumption) (_ : .lst ∈ A := by assumption)
    (_ : .sms ∈ A := by assumption) :
    SameBut A u (State.enduranceLost s a1) := by
  unfold State.enduranceLost
  grind [State.ledgerEvent_same, State.withLst_same, forEach_same]

theorem State.useHealth_same {A : List Area} {u s : State} (h : SameBut A u s) (a1) (_ : .lst ∈ A := by assumption)
    (_ : .sms ∈ A := by assumption) (_ : .fab ∈ A := by assumption) :
    SameBut A u (State.useHealth s a1) := by
  unfold State.useHealth
  grind [State.withFab_same, State.withLst_same, SameBut.set_sms]

end Sys2Proof.Machine
end

