-- ==== Sys2Proof/Laws/FrameLinks.lean ====
section
/-! SUPPORT. The areas that each operation leaves as they were, in the order of the model's files, from Boot to Wheel: one lemma an
operation, cited in place of its unfolding. -/

set_option Elab.async false
set_option linter.all false

namespace Sys2Proof.Machine

theorem State.migrateLedger_same {A : List Area} {u s : State} (h : SameBut A u s) (_ : .regs ∈ A := by assumption)
    (_ : .arbs ∈ A := by assumption) (_ : .hif ∈ A := by assumption) (_ : .serve ∈ A := by assumption)
    (_ : .lst ∈ A := by assumption) (_ : .ctl ∈ A := by assumption) (_ : .sms ∈ A := by assumption)
    (_ : .fab ∈ A := by assumption) (_ : .lnk ∈ A := by assumption) (_ : .mgt ∈ A := by assumption) :
    SameBut A u (State.migrateLedger s) := by
  unfold State.migrateLedger
  grind [State.enduranceLost_same, State.healthLost_same, State.moduleFault_same, State.useHealth_same, State.when_same, State.withLst_same, forEach_same, SameBut.set_sms, State.when]

theorem State.readLedger_same {A : List Area} {u s : State} (h : SameBut A u s) (a1)
    (_ : .regs ∈ A := by assumption) (_ : .arbs ∈ A := by assumption) (_ : .hif ∈ A := by assumption)
    (_ : .serve ∈ A := by assumption) (_ : .lst ∈ A := by assumption) (_ : .ctl ∈ A := by assumption)
    (_ : .sms ∈ A := by assumption) (_ : .fab ∈ A := by assumption) (_ : .lnk ∈ A := by assumption)
    (_ : .mgt ∈ A := by assumption) :
    SameBut A u (State.readLedger s a1) := by
  unfold State.readLedger
  grind [State.enduranceLost_same, State.healthLost_same, State.migrateLedger_same, State.readCalibration_same, forEach_same]

theorem State.start_same {A : List Area} {u s : State} (h : SameBut A u s) (a1) (_ : .regs ∈ A := by assumption)
    (_ : .shadow ∈ A := by assumption) (_ : .commits ∈ A := by assumption) (_ : .now ∈ A := by assumption)
    (_ : .time ∈ A := by assumption) (_ : .arbs ∈ A := by assumption) (_ : .hif ∈ A := by assumption)
    (_ : .serve ∈ A := by assumption) (_ : .lst ∈ A := by assumption) (_ : .ctl ∈ A := by assumption)
    (_ : .mem ∈ A := by assumption) (_ : .sms ∈ A := by assumption) (_ : .fab ∈ A := by assumption)
    (_ : .lnk ∈ A := by assumption) (_ : .ptm ∈ A := by assumption) (_ : .pwr ∈ A := by assumption)
    (_ : .mgt ∈ A := by assumption) (_ : .free ∈ A := by assumption) :
    SameBut A u (State.start s a1) := by
  unfold State.start
  grind (splits := 40) (gen := 20) (ematch := 20) [State.mainReset_same, State.trainLink_same, State.withCtl_same, State.withMgt_same, State.withPwr_same, State.wr_same]

theorem State.bootRom_same {A : List Area} {u s : State} (h : SameBut A u s) (_ : .regs ∈ A := by assumption)
    (_ : .arbs ∈ A := by assumption) (_ : .hif ∈ A := by assumption) (_ : .serve ∈ A := by assumption)
    (_ : .lst ∈ A := by assumption) (_ : .ctl ∈ A := by assumption) (_ : .sms ∈ A := by assumption)
    (_ : .fab ∈ A := by assumption) (_ : .lnk ∈ A := by assumption) (_ : .mgt ∈ A := by assumption) :
    SameBut A u (State.bootRom s) := by
  unfold State.bootRom
  grind [State.bootChoice_same, State.readLedger_same, State.withCtl_same]

theorem State.railsUp_same {A : List Area} {u s : State} (h : SameBut A u s) (_ : .pwr ∈ A := by assumption) :
    SameBut A u (State.railsUp s) := by
  unfold State.railsUp
  grind [State.withPwr_same]

theorem execStandbyApply_same {A : List Area} {u s : State} (h : SameBut A u s) (a0 a1)
    (_ : .regs ∈ A := by assumption) (_ : .now ∈ A := by assumption) (_ : .pwr ∈ A := by assumption)
    (_ : .mgt ∈ A := by assumption) :
    SameO A u (execStandbyApply a0 a1 s) := by
  unfold execStandbyApply
  grind (splits := 40) (gen := 20) (ematch := 20) [State.advance_same, State.railsUp_same, State.withMgt_same, State.withPwr_same, State.wr_same, SameO.next]

theorem execStandbyRemove_same {A : List Area} {u s : State} (h : SameBut A u s) (a0)
    (_ : .regs ∈ A := by assumption) (_ : .shadow ∈ A := by assumption) (_ : .commits ∈ A := by assumption)
    (_ : .now ∈ A := by assumption) (_ : .time ∈ A := by assumption) (_ : .arbs ∈ A := by assumption)
    (_ : .hif ∈ A := by assumption) (_ : .serve ∈ A := by assumption) (_ : .lst ∈ A := by assumption)
    (_ : .ctl ∈ A := by assumption) (_ : .mem ∈ A := by assumption) (_ : .sms ∈ A := by assumption)
    (_ : .fab ∈ A := by assumption) (_ : .lnk ∈ A := by assumption) (_ : .ptm ∈ A := by assumption)
    (_ : .pwr ∈ A := by assumption) (_ : .mgt ∈ A := by assumption) (_ : .free ∈ A := by assumption) :
    SameO A u (execStandbyRemove a0 s) := by
  unfold execStandbyRemove
  grind [State.advance_same, State.railsDown_same, State.when_same, State.withPwr_same, SameO.next, State.when]

theorem execPwrEnRise_same {A : List Area} {u s : State} (h : SameBut A u s) (a0 a1)
    (_ : .now ∈ A := by assumption) (_ : .pwr ∈ A := by assumption) :
    SameO A u (execPwrEnRise a0 a1 s) := by
  unfold execPwrEnRise
  grind [State.advance_same, State.railsUp_same, State.withPwr_same, SameO.next]

theorem execPwrGoodRise_same {A : List Area} {u s : State} (h : SameBut A u s) (a0 a1)
    (_ : .regs ∈ A := by assumption) (_ : .shadow ∈ A := by assumption) (_ : .commits ∈ A := by assumption)
    (_ : .now ∈ A := by assumption) (_ : .time ∈ A := by assumption) (_ : .arbs ∈ A := by assumption)
    (_ : .hif ∈ A := by assumption) (_ : .serve ∈ A := by assumption) (_ : .lst ∈ A := by assumption)
    (_ : .ctl ∈ A := by assumption) (_ : .mem ∈ A := by assumption) (_ : .sms ∈ A := by assumption)
    (_ : .fab ∈ A := by assumption) (_ : .lnk ∈ A := by assumption) (_ : .ptm ∈ A := by assumption)
    (_ : .pwr ∈ A := by assumption) (_ : .mgt ∈ A := by assumption) (_ : .free ∈ A := by assumption) :
    SameO A u (execPwrGoodRise a0 a1 s) := by
  unfold execPwrGoodRise
  grind [State.advance_same, State.start_same, State.withPwr_same, SameO.next]

theorem execPwrEnFall_same {A : List Area} {u s : State} (h : SameBut A u s) (a0 a1)
    (_ : .regs ∈ A := by assumption) (_ : .shadow ∈ A := by assumption) (_ : .commits ∈ A := by assumption)
    (_ : .now ∈ A := by assumption) (_ : .time ∈ A := by assumption) (_ : .arbs ∈ A := by assumption)
    (_ : .hif ∈ A := by assumption) (_ : .serve ∈ A := by assumption) (_ : .lst ∈ A := by assumption)
    (_ : .ctl ∈ A := by assumption) (_ : .mem ∈ A := by assumption) (_ : .sms ∈ A := by assumption)
    (_ : .fab ∈ A := by assumption) (_ : .lnk ∈ A := by assumption) (_ : .ptm ∈ A := by assumption)
    (_ : .pwr ∈ A := by assumption) (_ : .mgt ∈ A := by assumption) (_ : .free ∈ A := by assumption) :
    SameO A u (execPwrEnFall a0 a1 s) := by
  unfold execPwrEnFall
  grind [State.advance_same, State.railsDown_same, State.when_same, State.withPwr_same, SameO.next, State.when]

theorem execPerstNAssert_same {A : List Area} {u s : State} (h : SameBut A u s) (a0 a1)
    (_ : .regs ∈ A := by assumption) (_ : .shadow ∈ A := by assumption) (_ : .commits ∈ A := by assumption)
    (_ : .now ∈ A := by assumption) (_ : .time ∈ A := by assumption) (_ : .arbs ∈ A := by assumption)
    (_ : .hif ∈ A := by assumption) (_ : .serve ∈ A := by assumption) (_ : .lst ∈ A := by assumption)
    (_ : .ctl ∈ A := by assumption) (_ : .mem ∈ A := by assumption) (_ : .sms ∈ A := by assumption)
    (_ : .fab ∈ A := by assumption) (_ : .lnk ∈ A := by assumption) (_ : .ptm ∈ A := by assumption)
    (_ : .pwr ∈ A := by assumption) (_ : .mgt ∈ A := by assumption) (_ : .free ∈ A := by assumption) :
    SameO A u (execPerstNAssert a0 a1 s) := by
  unfold execPerstNAssert
  grind [State.advance_same, State.mainReset_same, State.start_same, State.withPwr_same, SameO.next]

theorem execPerstNRelease_same {A : List Area} {u s : State} (h : SameBut A u s) (a0 a1)
    (_ : .regs ∈ A := by assumption) (_ : .shadow ∈ A := by assumption) (_ : .commits ∈ A := by assumption)
    (_ : .now ∈ A := by assumption) (_ : .time ∈ A := by assumption) (_ : .arbs ∈ A := by assumption)
    (_ : .hif ∈ A := by assumption) (_ : .serve ∈ A := by assumption) (_ : .lst ∈ A := by assumption)
    (_ : .ctl ∈ A := by assumption) (_ : .mem ∈ A := by assumption) (_ : .sms ∈ A := by assumption)
    (_ : .fab ∈ A := by assumption) (_ : .lnk ∈ A := by assumption) (_ : .ptm ∈ A := by assumption)
    (_ : .pwr ∈ A := by assumption) (_ : .mgt ∈ A := by assumption) (_ : .free ∈ A := by assumption) :
    SameO A u (execPerstNRelease a0 a1 s) := by
  unfold execPerstNRelease
  grind [State.advance_same, State.start_same, State.withPwr_same, SameO.next]

theorem execPeRefclkLoss_same {A : List Area} {u s : State} (h : SameBut A u s) (a0 a1)
    (_ : .regs ∈ A := by assumption) (_ : .shadow ∈ A := by assumption) (_ : .commits ∈ A := by assumption)
    (_ : .now ∈ A := by assumption) (_ : .time ∈ A := by assumption) (_ : .arbs ∈ A := by assumption)
    (_ : .hif ∈ A := by assumption) (_ : .serve ∈ A := by assumption) (_ : .lst ∈ A := by assumption)
    (_ : .ctl ∈ A := by assumption) (_ : .mem ∈ A := by assumption) (_ : .sms ∈ A := by assumption)
    (_ : .fab ∈ A := by assumption) (_ : .lnk ∈ A := by assumption) (_ : .ptm ∈ A := by assumption)
    (_ : .pwr ∈ A := by assumption) (_ : .mgt ∈ A := by assumption) (_ : .free ∈ A := by assumption) :
    SameO A u (execPeRefclkLoss a0 a1 s) := by
  unfold execPeRefclkLoss
  grind [State.advance_same, State.mainReset_same, State.start_same, State.withPwr_same, SameO.next]

theorem State.storeFailed_same {A : List Area} {u s : State} (h : SameBut A u s) (a1)
    (_ : .regs ∈ A := by assumption) (_ : .arbs ∈ A := by assumption) (_ : .hif ∈ A := by assumption)
    (_ : .serve ∈ A := by assumption) (_ : .ctl ∈ A := by assumption) (_ : .sms ∈ A := by assumption)
    (_ : .lnk ∈ A := by assumption) (_ : .mgt ∈ A := by assumption) :
    SameBut A u (State.storeFailed s a1) := by
  unfold State.storeFailed
  grind [State.markRetire_same, State.setHealth_same]

theorem State.readyFaults_same {A : List Area} {u s : State} (h : SameBut A u s) (_ : .regs ∈ A := by assumption)
    (_ : .arbs ∈ A := by assumption) (_ : .hif ∈ A := by assumption) (_ : .serve ∈ A := by assumption)
    (_ : .ctl ∈ A := by assumption) (_ : .sms ∈ A := by assumption) (_ : .lnk ∈ A := by assumption)
    (_ : .ptm ∈ A := by assumption) (_ : .mgt ∈ A := by assumption) :
    SameBut A u (State.readyFaults s) := by
  unfold State.readyFaults
  grind [State.moduleFault_same, State.railFault_same, State.when_same, State.withCtl_same, State.withPtm_same, forEach_same, State.when]

theorem State.loadStores_same {A : List Area} {u s : State} (h : SameBut A u s) (a1)
    (_ : .regs ∈ A := by assumption) (_ : .arbs ∈ A := by assumption) (_ : .hif ∈ A := by assumption)
    (_ : .serve ∈ A := by assumption) (_ : .ctl ∈ A := by assumption) (_ : .sms ∈ A := by assumption)
    (_ : .lnk ∈ A := by assumption) (_ : .mgt ∈ A := by assumption) :
    SameBut A u (State.loadStores s a1) := by
  unfold State.loadStores
  grind [State.checkStores_same, State.storeFailed_same, State.withCtl_same, forEach_same]

theorem State.becomeReady_same {A : List Area} {u s : State} (h : SameBut A u s) (a1)
    (_ : .regs ∈ A := by assumption) (_ : .arbs ∈ A := by assumption) (_ : .hif ∈ A := by assumption)
    (_ : .serve ∈ A := by assumption) (_ : .ctl ∈ A := by assumption) (_ : .sms ∈ A := by assumption)
    (_ : .lnk ∈ A := by assumption) (_ : .ptm ∈ A := by assumption) (_ : .mgt ∈ A := by assumption) :
    SameBut A u (State.becomeReady s a1) := by
  unfold State.becomeReady
  grind [State.drainWaiting_same, State.loadStores_same, State.readyFaults_same, State.when_same, State.withCtl_same, State.withMgt_same, State.wr_same, forEach_same, State.when]

theorem execFirmwareReady_same {A : List Area} {u s : State} (h : SameBut A u s) (a0 a1)
    (_ : .regs ∈ A := by assumption) (_ : .now ∈ A := by assumption) (_ : .arbs ∈ A := by assumption)
    (_ : .hif ∈ A := by assumption) (_ : .serve ∈ A := by assumption) (_ : .lst ∈ A := by assumption)
    (_ : .ctl ∈ A := by assumption) (_ : .sms ∈ A := by assumption) (_ : .fab ∈ A := by assumption)
    (_ : .lnk ∈ A := by assumption) (_ : .ptm ∈ A := by assumption) (_ : .mgt ∈ A := by assumption) :
    SameO A u (execFirmwareReady a0 a1 s) := by
  unfold execFirmwareReady
  grind [State.advance_same, State.becomeReady_same, State.bootRom_same, State.logEvent_same, State.noSlot_same, SameO.next]

theorem State.releaseLedger_same {A : List Area} {u s : State} (h : SameBut A u s) (_ : .sms ∈ A := by assumption) :
    SameBut A u (State.releaseLedger s) := by
  unfold State.releaseLedger
  grind [SameBut.set_sms]

theorem execTrialConfirm_same {A : List Area} {u s : State} (h : SameBut A u s) (a0)
    (_ : .now ∈ A := by assumption) (_ : .sms ∈ A := by assumption) (_ : .mgt ∈ A := by assumption) :
    SameO A u (execTrialConfirm a0 s) := by
  unfold execTrialConfirm
  grind [State.advance_same, State.releaseLedger_same, State.setSlot_same, State.withMgt_same, SameO.next]

theorem State.fallLedger_same {A : List Area} {u s : State} (h : SameBut A u s) (_ : .sms ∈ A := by assumption) :
    SameBut A u (State.fallLedger s) := by
  unfold State.fallLedger
  grind [SameBut.set_sms]

theorem execFallback_same {A : List Area} {u s : State} (h : SameBut A u s) (a0 a1)
    (_ : .regs ∈ A := by assumption) (_ : .now ∈ A := by assumption) (_ : .arbs ∈ A := by assumption)
    (_ : .hif ∈ A := by assumption) (_ : .serve ∈ A := by assumption) (_ : .ctl ∈ A := by assumption)
    (_ : .sms ∈ A := by assumption) (_ : .lnk ∈ A := by assumption) (_ : .mgt ∈ A := by assumption) :
    SameO A u (execFallback a0 a1 s) := by
  unfold execFallback
  grind (splits := 40) (gen := 20) (ematch := 20) [State.advance_same, State.fallLedger_same, State.mgtEvent_same, State.restartNow_same, State.runConfirmed_same, State.setSlot_same, State.withCtl_same, State.withMgt_same, SameO.next]

theorem execMcWatchdog_same {A : List Area} {u s : State} (h : SameBut A u s) (a0) (_ : .regs ∈ A := by assumption)
    (_ : .now ∈ A := by assumption) (_ : .hif ∈ A := by assumption) (_ : .ctl ∈ A := by assumption)
    (_ : .mgt ∈ A := by assumption) :
    SameO A u (execMcWatchdog a0 s) := by
  unfold execMcWatchdog
  grind [State.advance_same, State.mbxReset_same, State.withMgt_same, SameO.next]

theorem State.loadBuf_same {A : List Area} {u s : State} (h : SameBut A u s) (a1 a2 a3 a4 a5)
    (_ : .fab ∈ A := by assumption) :
    SameBut A u (State.loadBuf s a1 a2 a3 a4 a5) := by
  unfold State.loadBuf
  grind [State.nextVector_same, State.setBuf_same]

theorem State.putPlace_same {A : List Area} {u s : State} (h : SameBut A u s) (a1 a2 a3 a4)
    (_ : .regs ∈ A := by assumption) (_ : .arbs ∈ A := by assumption) (_ : .hif ∈ A := by assumption)
    (_ : .serve ∈ A := by assumption) (_ : .ctl ∈ A := by assumption) (_ : .mem ∈ A := by assumption)
    (_ : .sms ∈ A := by assumption) (_ : .fab ∈ A := by assumption) (_ : .lnk ∈ A := by assumption)
    (_ : .mgt ∈ A := by assumption) :
    SameBut A u (State.putPlace s a1 a2 a3 a4) := by
  unfold State.putPlace
  grind [State.coreCst_same, State.putEntry_same, State.sendBytes_same, State.setBuf_same]

theorem State.embeddingRow_same {A : List Area} {u s : State} (h : SameBut A u s) (a1 a2 a3 a4 a5 a6)
    (_ : .regs ∈ A := by assumption) (_ : .arbs ∈ A := by assumption) (_ : .hif ∈ A := by assumption)
    (_ : .serve ∈ A := by assumption) (_ : .ctl ∈ A := by assumption) (_ : .mem ∈ A := by assumption)
    (_ : .sms ∈ A := by assumption) (_ : .fab ∈ A := by assumption) (_ : .lnk ∈ A := by assumption)
    (_ : .mgt ∈ A := by assumption) :
    SameBut A u (State.embeddingRow s a1 a2 a3 a4 a5 a6) := by
  unfold State.embeddingRow
  grind [State.chargeTier_same, State.putEntry_same, State.useCst_same, State.useTier_same]

theorem State.writeHead_same {A : List Area} {u s : State} (h : SameBut A u s) (a1 a2 a3 a4 a5 a6)
    (_ : .mem ∈ A := by assumption) :
    SameBut A u (State.writeHead s a1 a2 a3 a4 a5 a6) := by
  unfold State.writeHead
  grind [State.writeBytes_same]

theorem State.writeKv_same {A : List Area} {u s : State} (h : SameBut A u s) (a1 a2 a3 a4 a5 a6 a7 a8)
    (_ : .regs ∈ A := by assumption) (_ : .arbs ∈ A := by assumption) (_ : .mem ∈ A := by assumption) :
    SameBut A u (State.writeKv s a1 a2 a3 a4 a5 a6 a7 a8) := by
  unfold State.writeKv
  grind (splits := 40) (gen := 20) (ematch := 20) [State.chargeTier_same, State.stage_same, State.useTier_same, State.writeHead_same, forEach_same]

theorem State.dma_same {A : List Area} {u s : State} (h : SameBut A u s) (a1 a2 a3)
    (_ : .regs ∈ A := by assumption) (_ : .arbs ∈ A := by assumption) (_ : .hif ∈ A := by assumption)
    (_ : .serve ∈ A := by assumption) (_ : .ctl ∈ A := by assumption) (_ : .mem ∈ A := by assumption)
    (_ : .sms ∈ A := by assumption) (_ : .fab ∈ A := by assumption) (_ : .lnk ∈ A := by assumption)
    (_ : .mgt ∈ A := by assumption) :
    SameBut A u (State.dma s a1 a2 a3) := by
  unfold State.dma
  grind [State.coreCst_same, State.embeddingRow_same, State.loadBuf_same, State.putPlace_same, State.reach_same, State.sendBytes_same, State.takeEntry_same, State.writeBytes_same, State.writeKv_same]

theorem execDma_same {A : List Area} {u s : State} (h : SameBut A u s) (a0 a1 a2 a3 a4)
    (_ : .regs ∈ A := by assumption) (_ : .now ∈ A := by assumption) (_ : .arbs ∈ A := by assumption)
    (_ : .hif ∈ A := by assumption) (_ : .serve ∈ A := by assumption) (_ : .lst ∈ A := by assumption)
    (_ : .ctl ∈ A := by assumption) (_ : .mem ∈ A := by assumption) (_ : .sms ∈ A := by assumption)
    (_ : .fab ∈ A := by assumption) (_ : .lnk ∈ A := by assumption) (_ : .mgt ∈ A := by assumption)
    (_ : .free ∈ A := by assumption) :
    SameO A u (execDma a0 a1 a2 a3 a4 s) := by
  unfold execDma
  grind [State.advance_same, State.coreErrors_same, State.dma_same, SameO.next]

theorem execExpertDispatch_same {A : List Area} {u s : State} (h : SameBut A u s) (a0 a1 a2 a3 a4)
    (_ : .regs ∈ A := by assumption) (_ : .now ∈ A := by assumption) (_ : .arbs ∈ A := by assumption)
    (_ : .hif ∈ A := by assumption) (_ : .serve ∈ A := by assumption) (_ : .ctl ∈ A := by assumption)
    (_ : .mem ∈ A := by assumption) (_ : .sms ∈ A := by assumption) (_ : .fab ∈ A := by assumption)
    (_ : .lnk ∈ A := by assumption) (_ : .mgt ∈ A := by assumption) :
    SameO A u (execExpertDispatch a0 a1 a2 a3 a4 s) := by
  unfold execExpertDispatch
  grind [State.advance_same, State.putPlace_same, forEach_same, SameO.next]

theorem State.faultDie_same {A : List Area} {u s : State} (h : SameBut A u s) (a1 a2)
    (_ : .regs ∈ A := by assumption) (_ : .arbs ∈ A := by assumption) (_ : .hif ∈ A := by assumption)
    (_ : .serve ∈ A := by assumption) (_ : .ctl ∈ A := by assumption) (_ : .sms ∈ A := by assumption)
    (_ : .lnk ∈ A := by assumption) :
    SameBut A u (State.faultDie s a1 a2) := by
  unfold State.faultDie
  grind [State.faultJob_same, State.logEvent_same, forEach_same]

theorem execBridgeFlitReceive_same {A : List Area} {u s : State} (h : SameBut A u s) (a0 a1 a2 a3)
    (_ : .regs ∈ A := by assumption) (_ : .now ∈ A := by assumption) (_ : .arbs ∈ A := by assumption)
    (_ : .hif ∈ A := by assumption) (_ : .serve ∈ A := by assumption) (_ : .ctl ∈ A := by assumption)
    (_ : .sms ∈ A := by assumption) (_ : .lnk ∈ A := by assumption) :
    SameO A u (execBridgeFlitReceive a0 a1 a2 a3 s) := by
  unfold execBridgeFlitReceive
  grind [State.advance_same, State.faultDie_same, State.withLnk_same, SameO.next]

theorem execBridgeRetrain_same {A : List Area} {u s : State} (h : SameBut A u s) (a0 a1)
    (_ : .now ∈ A := by assumption) (_ : .lnk ∈ A := by assumption) :
    SameO A u (execBridgeRetrain a0 a1 s) := by
  unfold execBridgeRetrain
  grind [State.advance_same, State.withLnk_same, SameO.next]

theorem State.bellRefused_same {A : List Area} {u s : State} (h : SameBut A u s) (a1)
    (_ : .regs ∈ A := by assumption) (_ : .hif ∈ A := by assumption) :
    SameBut A u (State.bellRefused s a1) := by
  unfold State.bellRefused
  grind [State.count_same, State.hifEvent_same, State.setBit_same]

theorem State.doorbell_same {A : List Area} {u s : State} (h : SameBut A u s) (fn q : Nat) (b : Bell) (x : Nat)
    (_ : .regs ∈ A := by assumption) (_ : .arbs ∈ A := by assumption) (_ : .hif ∈ A := by assumption)
    (_ : .fab ∈ A := by assumption) (_ : .ptm ∈ A := by assumption) : SameBut A u (s.doorbell fn q b x) := by
  unfold State.doorbell
  extract_lets st y s'
  have hs : SameBut A u s' := State.setQueue_same h _ _
  clear_value s' y
  split
  · exact h
  split
  · exact State.bellRefused_same h _
  split
  · exact h
  cases b with
  | sqTail => exact State.leaveMp1_same hs
  | cqHead => exact hs
  | tqHead => exact State.drainWaiting_same hs _

theorem execSqTail_same {A : List Area} {u s : State} (h : SameBut A u s) (a0 a1 a2 a3)
    (_ : .regs ∈ A := by assumption) (_ : .now ∈ A := by assumption) (_ : .arbs ∈ A := by assumption)
    (_ : .hif ∈ A := by assumption) (_ : .fab ∈ A := by assumption) (_ : .ptm ∈ A := by assumption) :
    SameO A u (execSqTail a0 a1 a2 a3 s) := by
  unfold execSqTail
  grind [State.advance_same, State.doorbell_same, SameO.next]

theorem execCqHead_same {A : List Area} {u s : State} (h : SameBut A u s) (a0 a1 a2 a3)
    (_ : .regs ∈ A := by assumption) (_ : .now ∈ A := by assumption) (_ : .arbs ∈ A := by assumption)
    (_ : .hif ∈ A := by assumption) (_ : .fab ∈ A := by assumption) (_ : .ptm ∈ A := by assumption) :
    SameO A u (execCqHead a0 a1 a2 a3 s) := by
  unfold execCqHead
  grind [State.advance_same, State.doorbell_same, SameO.next]

theorem execTqHead_same {A : List Area} {u s : State} (h : SameBut A u s) (a0 a1 a2 a3)
    (_ : .regs ∈ A := by assumption) (_ : .now ∈ A := by assumption) (_ : .arbs ∈ A := by assumption)
    (_ : .hif ∈ A := by assumption) (_ : .fab ∈ A := by assumption) (_ : .ptm ∈ A := by assumption) :
    SameO A u (execTqHead a0 a1 a2 a3 s) := by
  unfold execTqHead
  grind [State.advance_same, State.doorbell_same, SameO.next]

theorem State.queueEnable_same {A : List Area} {u s : State} (h : SameBut A u s) (a1)
    (_ : .regs ∈ A := by assumption) (_ : .hif ∈ A := by assumption) :
    SameBut A u (State.queueEnable s a1) := by
  unfold State.queueEnable
  grind [State.setBit_same, State.setQueue_same, State.wr_same]

theorem State.queueDisable_same {A : List Area} {u s : State} (h : SameBut A u s) (a1) (_ : .regs ∈ A := by assumption) :
    SameBut A u (State.queueDisable s a1) := by
  unfold State.queueDisable
  grind [State.wr_same]

theorem execHifQEnable_same {A : List Area} {u s : State} (h : SameBut A u s) (a0 a1 a2)
    (_ : .regs ∈ A := by assumption) (_ : .now ∈ A := by assumption) (_ : .hif ∈ A := by assumption) :
    SameO A u (execHifQEnable a0 a1 a2 s) := by
  unfold execHifQEnable
  grind [State.advance_same, State.queueEnable_same, State.when_same, SameO.next, State.when]

theorem execHifQDisable_same {A : List Area} {u s : State} (h : SameBut A u s) (a0 a1 a2)
    (_ : .regs ∈ A := by assumption) (_ : .now ∈ A := by assumption) :
    SameO A u (execHifQDisable a0 a1 a2 s) := by
  unfold execHifQDisable
  grind [State.advance_same, State.queueDisable_same, State.when_same, SameO.next, State.when]

theorem execQueueDrained_same {A : List Area} {u s : State} (h : SameBut A u s) (a0 a1)
    (_ : .regs ∈ A := by assumption) (_ : .now ∈ A := by assumption) :
    SameO A u (execQueueDrained a0 a1 s) := by
  unfold execQueueDrained
  grind [State.advance_same, State.when_same, State.wr_same, SameO.next, State.when]

theorem State.writeFnQueues_same {A : List Area} {u s : State} (h : SameBut A u s) (a1) (_ : .regs ∈ A := by assumption) :
    SameBut A u (State.writeFnQueues s a1) := by
  unfold State.writeFnQueues
  grind [State.setBit_same, State.when_same, State.wr_same, forEach_same, State.when]

theorem execHifFnQueues_same {A : List Area} {u s : State} (h : SameBut A u s) (a0 a1 a2)
    (_ : .regs ∈ A := by assumption) (_ : .now ∈ A := by assumption) :
    SameO A u (execHifFnQueues a0 a1 a2 s) := by
  unfold execHifFnQueues
  grind [State.advance_same, State.when_same, State.writeFnQueues_same, SameO.next, State.when]

theorem execRingSignal_same {A : List Area} {u s : State} (h : SameBut A u s) (a0 a1 a2)
    (_ : .now ∈ A := by assumption) (_ : .hif ∈ A := by assumption) :
    SameO A u (execRingSignal a0 a1 a2 s) := by
  unfold execRingSignal
  grind [State.advance_same, State.ringSignal_same, State.statusWrite_same, State.when_same, SameO.next, State.when]

theorem State.msixFlush_same {A : List Area} {u s : State} (h : SameBut A u s) (a1) (_ : .hif ∈ A := by assumption) :
    SameBut A u (State.msixFlush s a1) := by
  unfold State.msixFlush
  grind [State.post_same, State.setVec_same, forEach_same]

theorem State.msixMask_same {A : List Area} {u s : State} (h : SameBut A u s) (a1 a2) (_ : .hif ∈ A := by assumption) :
    SameBut A u (State.msixMask s a1 a2) := by
  unfold State.msixMask
  grind [State.msixFlush_same, State.setFn_same, State.setVec_same]

theorem execMsixUnmask_same {A : List Area} {u s : State} (h : SameBut A u s) (a0 a1 a2)
    (_ : .now ∈ A := by assumption) (_ : .hif ∈ A := by assumption) :
    SameO A u (execMsixUnmask a0 a1 a2 s) := by
  unfold execMsixUnmask
  grind [State.advance_same, State.msixMask_same, State.when_same, SameO.next, State.when]

theorem State.resetSession_same {A : List Area} {u s : State} (h : SameBut A u s) (a1)
    (_ : .regs ∈ A := by assumption) (_ : .arbs ∈ A := by assumption) (_ : .hif ∈ A := by assumption)
    (_ : .serve ∈ A := by assumption) :
    SameBut A u (State.resetSession s a1) := by
  unfold State.resetSession
  grind (splits := 40) (gen := 20) (ematch := 20) [State.abortClones_same, State.complete_same, State.endReq_same, State.setSess_same, forEach_same]

theorem State.resetQueue_same {A : List Area} {u s : State} (h : SameBut A u s) (a1)
    (_ : .arbs ∈ A := by assumption) (_ : .hif ∈ A := by assumption) :
    SameBut A u (State.resetQueue s a1) := by
  unfold State.resetQueue
  grind [State.complete_same, State.drainWaiting_same, State.setQueue_same, forEach_same]

theorem State.resetObjects_same {A : List Area} {u s : State} (h : SameBut A u s) (a1)
    (_ : .arbs ∈ A := by assumption) (_ : .hif ∈ A := by assumption) (_ : .lst ∈ A := by assumption)
    (_ : .lnk ∈ A := by assumption) :
    SameBut A u (State.resetObjects s a1) := by
  unfold State.resetObjects
  grind (splits := 40) (gen := 20) (ematch := 20) [State.answerOwner_same, State.loadEmpty_same, State.withLst_same, forEach_same]

theorem State.beginReset_same {A : List Area} {u s : State} (h : SameBut A u s) (a1 a2)
    (_ : .regs ∈ A := by assumption) (_ : .arbs ∈ A := by assumption) (_ : .hif ∈ A := by assumption)
    (_ : .serve ∈ A := by assumption) (_ : .lst ∈ A := by assumption) (_ : .ctl ∈ A := by assumption)
    (_ : .lnk ∈ A := by assumption) :
    SameBut A u (State.beginReset s a1 a2) := by
  unfold State.beginReset
  grind [State.count_same, State.resetObjects_same, State.resetQueue_same, State.resetSession_same, State.setFn_same, State.setLaunches_same, State.unplan_same, forEach_same]

theorem State.startReset_same {A : List Area} {u s : State} (h : SameBut A u s) (a1 a2)
    (_ : .regs ∈ A := by assumption) (_ : .arbs ∈ A := by assumption) (_ : .hif ∈ A := by assumption)
    (_ : .serve ∈ A := by assumption) (_ : .lst ∈ A := by assumption) (_ : .ctl ∈ A := by assumption)
    (_ : .lnk ∈ A := by assumption) :
    SameBut A u (State.startReset s a1 a2) := by
  unfold State.startReset
  grind [State.beginReset_same, State.mbxReset_same]

theorem State.closeSessions_same {A : List Area} {u s : State} (h : SameBut A u s) (a1)
    (_ : .regs ∈ A := by assumption) (_ : .arbs ∈ A := by assumption) (_ : .hif ∈ A := by assumption)
    (_ : .serve ∈ A := by assumption) :
    SameBut A u (State.closeSessions s a1) := by
  unfold State.closeSessions
  grind [State.abortClones_same, State.finishClose_same, State.setSess_same, State.stopMoves_same, forEach_same]

theorem State.emptySlotOf_same {A : List Area} {u s : State} (h : SameBut A u s) (a1) (_ : .lst ∈ A := by assumption) :
    SameBut A u (State.emptySlotOf s a1) := by
  unfold State.emptySlotOf
  grind [State.setObj_same, State.withLst_same]

theorem State.emptyObjects_same {A : List Area} {u s : State} (h : SameBut A u s) (a1 a2) (_ : .lst ∈ A := by assumption) :
    SameBut A u (State.emptyObjects s a1 a2) := by
  unfold State.emptyObjects
  grind [State.emptySlotOf_same, State.withLst_same, forEach_same]

theorem State.resetVectors_same {A : List Area} {u s : State} (h : SameBut A u s) (f : Nat)
    (_ : .regs ∈ A := by assumption) (_ : .hif ∈ A := by assumption) : SameBut A u (s.resetVectors f) := by
  unfold State.resetVectors
  refine forEach_same _ _ (fun s q h => ?_) _ ?_
  · exact foldl_same _ _ (fun s r h => State.wr_same h _ _ _) _ (State.setQueue_same h _ _)
  · exact foldl_same _ _ (fun s r h => State.wr_same h _ _ _) _ (State.setFn_same (State.withHif_same h _) _ _)

theorem State.emptyFn_same {A : List Area} {u s : State} (h : SameBut A u s) (a1) (_ : .regs ∈ A := by assumption)
    (_ : .arbs ∈ A := by assumption) (_ : .hif ∈ A := by assumption) (_ : .serve ∈ A := by assumption)
    (_ : .lst ∈ A := by assumption) :
    SameBut A u (State.emptyFn s a1) := by
  unfold State.emptyFn
  grind [State.closeSessions_same, State.emptyObjects_same, State.setFn_same]

theorem State.emptyFns_same {A : List Area} {u s : State} (h : SameBut A u s) (_ : .regs ∈ A := by assumption)
    (_ : .arbs ∈ A := by assumption) (_ : .hif ∈ A := by assumption) (_ : .serve ∈ A := by assumption)
    (_ : .lst ∈ A := by assumption) :
    SameBut A u (State.emptyFns s) := by
  unfold State.emptyFns
  grind [State.emptyFn_same, forEach_same]

theorem State.finishReset_same {A : List Area} {u s : State} (h : SameBut A u s) (a1)
    (_ : .regs ∈ A := by assumption) (_ : .arbs ∈ A := by assumption) (_ : .hif ∈ A := by assumption)
    (_ : .serve ∈ A := by assumption) (_ : .lst ∈ A := by assumption) :
    SameBut A u (State.finishReset s a1) := by
  unfold State.finishReset
  grind [State.emptyFn_same, State.resetVectors_same, State.setFn_same]

theorem State.pfReset_same {A : List Area} {u s : State} (h : SameBut A u s) (_ : .regs ∈ A := by assumption)
    (_ : .shadow ∈ A := by assumption) (_ : .commits ∈ A := by assumption) (_ : .hif ∈ A := by assumption)
    (_ : .lst ∈ A := by assumption) : SameBut A u s.pfReset := by
  unfold State.pfReset
  extract_lets link other s1 s2 s3
  have h1 : SameBut A u s1 := SameBut.set_commits (SameBut.set_shadow (SameBut.set_regs h (SMap.dropIf (fun k _ => isHifKey k) s.regs)) (s.shadow.filter other)) _
  have h2 : SameBut A u s2 := State.wr_same (State.wr_same (State.wr_same h1 _ _ _) _ _ _) _ _ _
  exact State.withLst_same (State.withHif_same h2 _) _

theorem State.resetReady_same {A : List Area} {u s : State} (h : SameBut A u s) (a1)
    (_ : .regs ∈ A := by assumption) (_ : .shadow ∈ A := by assumption) (_ : .commits ∈ A := by assumption)
    (_ : .now ∈ A := by assumption) (_ : .arbs ∈ A := by assumption) (_ : .hif ∈ A := by assumption)
    (_ : .serve ∈ A := by assumption) (_ : .lst ∈ A := by assumption) :
    SameBut A u (State.resetReady s a1) := by
  unfold State.resetReady
  grind [State.advance_same, State.emptyFns_same, State.finishReset_same, State.pfReset_same, forEach_same]

theorem State.clearVfs_same {A : List Area} {u s : State} (h : SameBut A u s) (_ : .regs ∈ A := by assumption)
    (_ : .arbs ∈ A := by assumption) (_ : .hif ∈ A := by assumption) (_ : .serve ∈ A := by assumption)
    (_ : .lst ∈ A := by assumption) (_ : .ctl ∈ A := by assumption) (_ : .lnk ∈ A := by assumption) :
    SameBut A u (State.clearVfs s) := by
  unfold State.clearVfs
  grind [State.startReset_same, State.withHif_same, forEach_same]

theorem State.startPfFlr_same {A : List Area} {u s : State} (h : SameBut A u s) (_ : .regs ∈ A := by assumption)
    (_ : .arbs ∈ A := by assumption) (_ : .hif ∈ A := by assumption) (_ : .serve ∈ A := by assumption)
    (_ : .lst ∈ A := by assumption) (_ : .ctl ∈ A := by assumption) (_ : .lnk ∈ A := by assumption) :
    SameBut A u (State.startPfFlr s) := by
  unfold State.startPfFlr
  grind [State.beginReset_same, State.clearVfs_same, State.mbxResetHost_same, State.setFn_same, forEach_same]

theorem execVfFlr_same {A : List Area} {u s : State} (h : SameBut A u s) (a0 a1) (_ : .regs ∈ A := by assumption)
    (_ : .now ∈ A := by assumption) (_ : .arbs ∈ A := by assumption) (_ : .hif ∈ A := by assumption)
    (_ : .serve ∈ A := by assumption) (_ : .lst ∈ A := by assumption) (_ : .ctl ∈ A := by assumption)
    (_ : .lnk ∈ A := by assumption) :
    SameO A u (execVfFlr a0 a1 s) := by
  unfold execVfFlr
  grind [State.advance_same, State.startReset_same, State.when_same, SameO.next, State.when]

theorem execFunctionResetReady_same {A : List Area} {u s : State} (h : SameBut A u s) (a0 a1)
    (_ : .regs ∈ A := by assumption) (_ : .shadow ∈ A := by assumption) (_ : .commits ∈ A := by assumption)
    (_ : .now ∈ A := by assumption) (_ : .arbs ∈ A := by assumption) (_ : .hif ∈ A := by assumption)
    (_ : .serve ∈ A := by assumption) (_ : .lst ∈ A := by assumption) :
    SameO A u (execFunctionResetReady a0 a1 s) := by
  unfold execFunctionResetReady
  grind [State.advance_same, State.resetReady_same, SameO.next]

theorem State.writeFnReset_same {A : List Area} {u s : State} (h : SameBut A u s) (a1)
    (_ : .regs ∈ A := by assumption) (_ : .arbs ∈ A := by assumption) (_ : .hif ∈ A := by assumption)
    (_ : .serve ∈ A := by assumption) (_ : .lst ∈ A := by assumption) (_ : .ctl ∈ A := by assumption)
    (_ : .lnk ∈ A := by assumption) :
    SameBut A u (State.writeFnReset s a1) := by
  unfold State.writeFnReset
  grind [State.startReset_same]

theorem execHifFnResetFlr_same {A : List Area} {u s : State} (h : SameBut A u s) (a0 a1)
    (_ : .regs ∈ A := by assumption) (_ : .now ∈ A := by assumption) (_ : .arbs ∈ A := by assumption)
    (_ : .hif ∈ A := by assumption) (_ : .serve ∈ A := by assumption) (_ : .lst ∈ A := by assumption)
    (_ : .ctl ∈ A := by assumption) (_ : .lnk ∈ A := by assumption) :
    SameO A u (execHifFnResetFlr a0 a1 s) := by
  unfold execHifFnResetFlr
  grind [State.advance_same, State.when_same, State.writeFnReset_same, SameO.next, State.when]

theorem execHifFnResetServe_same {A : List Area} {u s : State} (h : SameBut A u s) (a0 a1)
    (_ : .regs ∈ A := by assumption) (_ : .now ∈ A := by assumption) (_ : .arbs ∈ A := by assumption)
    (_ : .hif ∈ A := by assumption) (_ : .serve ∈ A := by assumption) (_ : .lst ∈ A := by assumption)
    (_ : .ctl ∈ A := by assumption) (_ : .lnk ∈ A := by assumption) :
    SameO A u (execHifFnResetServe a0 a1 s) := by
  unfold execHifFnResetServe
  grind [State.advance_same, State.when_same, State.writeFnReset_same, SameO.next, State.when]

theorem execHifCtrlServeReset_same {A : List Area} {u s : State} (h : SameBut A u s) (a0 a1)
    (_ : .regs ∈ A := by assumption) (_ : .now ∈ A := by assumption) (_ : .arbs ∈ A := by assumption)
    (_ : .hif ∈ A := by assumption) (_ : .serve ∈ A := by assumption) (_ : .lst ∈ A := by assumption)
    (_ : .ctl ∈ A := by assumption) (_ : .lnk ∈ A := by assumption) :
    SameO A u (execHifCtrlServeReset a0 a1 s) := by
  unfold execHifCtrlServeReset
  grind [State.advance_same, State.startReset_same, State.when_same, SameO.next, State.when]

theorem execHifVfCtrlServeReset_same {A : List Area} {u s : State} (h : SameBut A u s) (a0 a1)
    (_ : .regs ∈ A := by assumption) (_ : .now ∈ A := by assumption) (_ : .arbs ∈ A := by assumption)
    (_ : .hif ∈ A := by assumption) (_ : .serve ∈ A := by assumption) (_ : .lst ∈ A := by assumption)
    (_ : .ctl ∈ A := by assumption) (_ : .lnk ∈ A := by assumption) :
    SameO A u (execHifVfCtrlServeReset a0 a1 s) := by
  unfold execHifVfCtrlServeReset
  grind [State.advance_same, State.startReset_same, State.when_same, SameO.next, State.when]

theorem execVfEnableClear_same {A : List Area} {u s : State} (h : SameBut A u s) (a0)
    (_ : .regs ∈ A := by assumption) (_ : .now ∈ A := by assumption) (_ : .arbs ∈ A := by assumption)
    (_ : .hif ∈ A := by assumption) (_ : .serve ∈ A := by assumption) (_ : .lst ∈ A := by assumption)
    (_ : .ctl ∈ A := by assumption) (_ : .lnk ∈ A := by assumption) :
    SameO A u (execVfEnableClear a0 s) := by
  unfold execVfEnableClear
  grind [State.advance_same, State.clearVfs_same, State.when_same, SameO.next, State.when]

theorem execVfEnableSet_same {A : List Area} {u s : State} (h : SameBut A u s) (a0 a1 a2)
    (_ : .now ∈ A := by assumption) (_ : .hif ∈ A := by assumption) :
    SameO A u (execVfEnableSet a0 a1 a2 s) := by
  unfold execVfEnableSet
  grind [State.advance_same, State.withHif_same, SameO.next]

theorem execPfFlr_same {A : List Area} {u s : State} (h : SameBut A u s) (a0) (_ : .regs ∈ A := by assumption)
    (_ : .now ∈ A := by assumption) (_ : .arbs ∈ A := by assumption) (_ : .hif ∈ A := by assumption)
    (_ : .serve ∈ A := by assumption) (_ : .lst ∈ A := by assumption) (_ : .ctl ∈ A := by assumption)
    (_ : .lnk ∈ A := by assumption) :
    SameO A u (execPfFlr a0 s) := by
  unfold execPfFlr
  grind [State.advance_same, State.startPfFlr_same, State.when_same, SameO.next, State.when]

theorem execFunctionPowerState_same {A : List Area} {u s : State} (h : SameBut A u s) (a0 a1 a2)
    (_ : .now ∈ A := by assumption) (_ : .hif ∈ A := by assumption) :
    SameO A u (execFunctionPowerState a0 a1 a2 s) := by
  unfold execFunctionPowerState
  grind [State.advance_same, State.msixFlush_same, State.setFn_same, State.when_same, SameO.next, State.when]

theorem State.fetchError_same {A : List Area} {u s : State} (h : SameBut A u s) (a1)
    (_ : .regs ∈ A := by assumption) (_ : .hif ∈ A := by assumption) :
    SameBut A u (State.fetchError s a1) := by
  unfold State.fetchError
  grind [State.count_same, State.hifEvent_same, State.setBit_same, State.wr_same]

theorem State.bufferError_same {A : List Area} {u s : State} (h : SameBut A u s) (f n : Nat) (t : State) (ht : s.bufferError f n = some t) (_ : .regs ∈ A := by assumption) (_ : .arbs ∈ A := by assumption) (_ : .hif ∈ A := by assumption) (_ : .serve ∈ A := by assumption) :
    SameBut A u t := by
  unfold State.bufferError at ht
  grind [State.endReq_same]

theorem execCompletionTimeout_same {A : List Area} {u s : State} (h : SameBut A u s) (t : Nat) (r : TimedRead)
    (_ : .regs ∈ A := by assumption) (_ : .now ∈ A := by assumption) (_ : .arbs ∈ A := by assumption)
    (_ : .hif ∈ A := by assumption) (_ : .serve ∈ A := by assumption) :
    SameO A u (execCompletionTimeout t r s) := by
  unfold execCompletionTimeout
  extract_lets s1
  have h1 : SameBut A u s1 := State.advance_same h t
  split
  · split
    · exact h1
    · exact State.aer_same (State.count_same (State.fetchError_same h1 _) _ _ _) _ _
  · split
    · exact h1
    · exact State.aer_same (State.count_same (State.bufferError_same h1 _ _ _ ‹_›) _ _ _) _ _

theorem execHifUncorrectable_same {A : List Area} {u s : State} (h : SameBut A u s) (a0 a1)
    (_ : .regs ∈ A := by assumption) (_ : .now ∈ A := by assumption) (_ : .hif ∈ A := by assumption)
    (_ : .serve ∈ A := by assumption) (_ : .sms ∈ A := by assumption) :
    SameO A u (execHifUncorrectable a0 a1 s) := by
  unfold execHifUncorrectable
  grind (splits := 40) (gen := 20) (ematch := 20) [State.advance_same, State.aer_same, State.logEvent_same, State.setLaunches_same, State.withHif_same, SameO.next]

theorem State.submitEntry_same {A : List Area} {u s : State} (h : SameBut A u s) (a1 a2 a3)
    (_ : .regs ∈ A := by assumption) (_ : .arbs ∈ A := by assumption) (_ : .hif ∈ A := by assumption)
    (_ : .serve ∈ A := by assumption) (_ : .lst ∈ A := by assumption) (_ : .ctl ∈ A := by assumption)
    (_ : .mem ∈ A := by assumption) (_ : .fab ∈ A := by assumption) (_ : .lnk ∈ A := by assumption)
    (_ : .free ∈ A := by assumption) :
    SameBut A u (State.submitEntry s a1 a2 a3) := by
  unfold State.submitEntry
  grind [State.submitAdapter_same, State.submitBind_same, State.submitCancel_same, State.submitClose_same, State.submitFence_same, State.submitLoad_same, State.submitNop_same, State.submitOpen_same, State.submitSession_same, State.submitSwap_same, State.submitUnknown_same, State.submitUnload_same]

theorem execNop_same {A : List Area} {u s : State} (h : SameBut A u s) (a0 a1) (_ : .now ∈ A := by assumption)
    (_ : .arbs ∈ A := by assumption) (_ : .hif ∈ A := by assumption) :
    SameO A u (execNop a0 a1 s) := by
  unfold execNop
  grind [State.advance_same, State.submitNop_same, SameO.next]

theorem execSessionOpen_same {A : List Area} {u s : State} (h : SameBut A u s) (a0 a1 a2 a3)
    (_ : .now ∈ A := by assumption) (_ : .arbs ∈ A := by assumption) (_ : .hif ∈ A := by assumption)
    (_ : .serve ∈ A := by assumption) (_ : .free ∈ A := by assumption) :
    SameO A u (execSessionOpen a0 a1 a2 a3 s) := by
  unfold execSessionOpen
  grind [State.advance_same, State.submitOpen_same, SameO.next]

theorem execPrefill_same {A : List Area} {u s : State} (h : SameBut A u s) (a0 a1 a2)
    (_ : .regs ∈ A := by assumption) (_ : .now ∈ A := by assumption) (_ : .arbs ∈ A := by assumption)
    (_ : .hif ∈ A := by assumption) (_ : .serve ∈ A := by assumption) (_ : .mem ∈ A := by assumption)
    (_ : .free ∈ A := by assumption) :
    SameO A u (execPrefill a0 a1 a2 s) := by
  unfold execPrefill
  grind [State.advance_same, State.submitSession_same, SameO.next]

theorem execAppend_same {A : List Area} {u s : State} (h : SameBut A u s) (a0 a1 a2)
    (_ : .regs ∈ A := by assumption) (_ : .now ∈ A := by assumption) (_ : .arbs ∈ A := by assumption)
    (_ : .hif ∈ A := by assumption) (_ : .serve ∈ A := by assumption) (_ : .mem ∈ A := by assumption)
    (_ : .free ∈ A := by assumption) :
    SameO A u (execAppend a0 a1 a2 s) := by
  unfold execAppend
  grind [State.advance_same, State.submitSession_same, SameO.next]

theorem execGenerate_same {A : List Area} {u s : State} (h : SameBut A u s) (a0 a1 a2)
    (_ : .regs ∈ A := by assumption) (_ : .now ∈ A := by assumption) (_ : .arbs ∈ A := by assumption)
    (_ : .hif ∈ A := by assumption) (_ : .serve ∈ A := by assumption) (_ : .mem ∈ A := by assumption)
    (_ : .free ∈ A := by assumption) :
    SameO A u (execGenerate a0 a1 a2 s) := by
  unfold execGenerate
  grind [State.advance_same, State.submitSession_same, SameO.next]

theorem execPause_same {A : List Area} {u s : State} (h : SameBut A u s) (a0 a1 a2)
    (_ : .regs ∈ A := by assumption) (_ : .now ∈ A := by assumption) (_ : .arbs ∈ A := by assumption)
    (_ : .hif ∈ A := by assumption) (_ : .serve ∈ A := by assumption) (_ : .mem ∈ A := by assumption)
    (_ : .free ∈ A := by assumption) :
    SameO A u (execPause a0 a1 a2 s) := by
  unfold execPause
  grind [State.advance_same, State.submitSession_same, SameO.next]

theorem execResume_same {A : List Area} {u s : State} (h : SameBut A u s) (a0 a1) (_ : .regs ∈ A := by assumption)
    (_ : .now ∈ A := by assumption) (_ : .arbs ∈ A := by assumption) (_ : .hif ∈ A := by assumption)
    (_ : .serve ∈ A := by assumption) (_ : .mem ∈ A := by assumption) (_ : .free ∈ A := by assumption) :
    SameO A u (execResume a0 a1 s) := by
  unfold execResume
  grind [State.advance_same, State.submitSession_same, SameO.next]

theorem execClone_same {A : List Area} {u s : State} (h : SameBut A u s) (a0 a1 a2 a3 a4)
    (_ : .regs ∈ A := by assumption) (_ : .now ∈ A := by assumption) (_ : .arbs ∈ A := by assumption)
    (_ : .hif ∈ A := by assumption) (_ : .serve ∈ A := by assumption) (_ : .mem ∈ A := by assumption)
    (_ : .free ∈ A := by assumption) :
    SameO A u (execClone a0 a1 a2 a3 a4 s) := by
  unfold execClone
  grind [State.advance_same, State.submitSession_same, SameO.next]

theorem execCancel_same {A : List Area} {u s : State} (h : SameBut A u s) (a0 a1 a2)
    (_ : .regs ∈ A := by assumption) (_ : .now ∈ A := by assumption) (_ : .arbs ∈ A := by assumption)
    (_ : .hif ∈ A := by assumption) (_ : .serve ∈ A := by assumption) (_ : .ctl ∈ A := by assumption)
    (_ : .lnk ∈ A := by assumption) :
    SameO A u (execCancel a0 a1 a2 s) := by
  unfold execCancel
  grind [State.advance_same, State.submitCancel_same, SameO.next]

theorem execClose_same {A : List Area} {u s : State} (h : SameBut A u s) (a0 a1) (_ : .regs ∈ A := by assumption)
    (_ : .now ∈ A := by assumption) (_ : .arbs ∈ A := by assumption) (_ : .hif ∈ A := by assumption)
    (_ : .serve ∈ A := by assumption) (_ : .ctl ∈ A := by assumption) (_ : .lnk ∈ A := by assumption) :
    SameO A u (execClose a0 a1 s) := by
  unfold execClose
  grind [State.advance_same, State.submitClose_same, SameO.next]

theorem execAdapterTune_same {A : List Area} {u s : State} (h : SameBut A u s) (a0 a1 a2)
    (_ : .regs ∈ A := by assumption) (_ : .now ∈ A := by assumption) (_ : .arbs ∈ A := by assumption)
    (_ : .hif ∈ A := by assumption) (_ : .serve ∈ A := by assumption) (_ : .mem ∈ A := by assumption)
    (_ : .free ∈ A := by assumption) :
    SameO A u (execAdapterTune a0 a1 a2 s) := by
  unfold execAdapterTune
  grind [State.advance_same, State.submitSession_same, SameO.next]

theorem execFence_same {A : List Area} {u s : State} (h : SameBut A u s) (a0 a1) (_ : .now ∈ A := by assumption)
    (_ : .arbs ∈ A := by assumption) (_ : .hif ∈ A := by assumption) :
    SameO A u (execFence a0 a1 s) := by
  unfold execFence
  grind [State.advance_same, State.submitFence_same, SameO.next]

theorem execSubmissionFetch_same {A : List Area} {u s : State} (h : SameBut A u s) (a0 a1 a2 a3)
    (_ : .regs ∈ A := by assumption) (_ : .now ∈ A := by assumption) (_ : .arbs ∈ A := by assumption)
    (_ : .hif ∈ A := by assumption) (_ : .serve ∈ A := by assumption) (_ : .lst ∈ A := by assumption)
    (_ : .ctl ∈ A := by assumption) (_ : .mem ∈ A := by assumption) (_ : .fab ∈ A := by assumption)
    (_ : .lnk ∈ A := by assumption) (_ : .free ∈ A := by assumption) :
    SameO A u (execSubmissionFetch a0 a1 a2 a3 s) := by
  unfold execSubmissionFetch
  grind (splits := 40) (gen := 20) (ematch := 20) [State.advance_same, State.aer_same, State.fetchError_same, State.setQueue_same, State.submitEntry_same, State.withHif_same, SameO.next]

theorem execSessionQueueAccept_same {A : List Area} {u s : State} (h : SameBut A u s) (a0 a1 a2)
    (_ : .regs ∈ A := by assumption) (_ : .now ∈ A := by assumption) (_ : .arbs ∈ A := by assumption)
    (_ : .hif ∈ A := by assumption) (_ : .serve ∈ A := by assumption) (_ : .mem ∈ A := by assumption)
    (_ : .free ∈ A := by assumption) :
    SameO A u (execSessionQueueAccept a0 a1 a2 s) := by
  unfold execSessionQueueAccept
  grind [State.acceptHead_same, State.advance_same, SameO.next]

theorem execRequestAdmit_same {A : List Area} {u s : State} (h : SameBut A u s) (a0 a1 a2 a3)
    (_ : .regs ∈ A := by assumption) (_ : .now ∈ A := by assumption) (_ : .arbs ∈ A := by assumption)
    (_ : .hif ∈ A := by assumption) (_ : .serve ∈ A := by assumption) (_ : .ctl ∈ A := by assumption)
    (_ : .mem ∈ A := by assumption) (_ : .lnk ∈ A := by assumption) (_ : .free ∈ A := by assumption) :
    SameO A u (execRequestAdmit a0 a1 a2 a3 s) := by
  unfold execRequestAdmit
  grind [State.admitOne_same, State.advance_same, SameO.next]

theorem execStepComplete_same {A : List Area} {u s : State} (h : SameBut A u s) (a0 a1 a2)
    (_ : .regs ∈ A := by assumption) (_ : .now ∈ A := by assumption) (_ : .arbs ∈ A := by assumption)
    (_ : .hif ∈ A := by assumption) (_ : .serve ∈ A := by assumption) (_ : .ctl ∈ A := by assumption)
    (_ : .mem ∈ A := by assumption) (_ : .sms ∈ A := by assumption) (_ : .fab ∈ A := by assumption)
    (_ : .lnk ∈ A := by assumption) (_ : .free ∈ A := by assumption) :
    SameO A u (execStepComplete a0 a1 a2 s) := by
  unfold execStepComplete
  grind [State.advance_same, State.memRepair_same, State.stepComplete_same, SameO.next]

theorem execChunkComplete_same {A : List Area} {u s : State} (h : SameBut A u s) (a0 a1 a2)
    (_ : .regs ∈ A := by assumption) (_ : .now ∈ A := by assumption) (_ : .arbs ∈ A := by assumption)
    (_ : .hif ∈ A := by assumption) (_ : .serve ∈ A := by assumption) (_ : .lst ∈ A := by assumption)
    (_ : .ctl ∈ A := by assumption) (_ : .mem ∈ A := by assumption) (_ : .sms ∈ A := by assumption)
    (_ : .fab ∈ A := by assumption) (_ : .lnk ∈ A := by assumption) (_ : .free ∈ A := by assumption) :
    SameO A u (execChunkComplete a0 a1 a2 s) := by
  unfold execChunkComplete
  grind [State.advance_same, State.chunkComplete_same, State.memRepair_same, SameO.next]

theorem execTokenRelease_same {A : List Area} {u s : State} (h : SameBut A u s) (a0 a1 a2)
    (_ : .regs ∈ A := by assumption) (_ : .now ∈ A := by assumption) (_ : .arbs ∈ A := by assumption)
    (_ : .hif ∈ A := by assumption) (_ : .serve ∈ A := by assumption) :
    SameO A u (execTokenRelease a0 a1 a2 s) := by
  unfold execTokenRelease
  grind [State.advance_same, State.tokenRelease_same, SameO.next]

theorem State.moved_same {A : List Area} {u s : State} (h : SameBut A u s) (a1 a2 a3 a4)
    (_ : .regs ∈ A := by assumption) (_ : .arbs ∈ A := by assumption) (_ : .serve ∈ A := by assumption)
    (_ : .mem ∈ A := by assumption) :
    SameBut A u (State.moved s a1 a2 a3 a4) := by
  unfold State.moved
  grind [State.copyPages_same, State.count_same, State.markPages_same, State.setSess_same, State.useCopy_same]

theorem State.moveSettled_same {A : List Area} {u s : State} (h : SameBut A u s) (a1)
    (_ : .arbs ∈ A := by assumption) (_ : .hif ∈ A := by assumption) (_ : .serve ∈ A := by assumption) :
    SameBut A u (State.moveSettled s a1) := by
  unfold State.moveSettled
  grind [State.completeReq_same, State.setSess_same]

theorem State.dropMove_same {A : List Area} {u s : State} (h : SameBut A u s) (a1 a2) (_ : .serve ∈ A := by assumption) :
    SameBut A u (State.dropMove s a1 a2) := by
  unfold State.dropMove
  grind [State.markPages_same, State.moveFailed_same, State.setSess_same, forEach_same]

theorem State.moveNext_same {A : List Area} {u s : State} (h : SameBut A u s) (a1 a2 a3 a4)
    (_ : .regs ∈ A := by assumption) (_ : .arbs ∈ A := by assumption) (_ : .hif ∈ A := by assumption)
    (_ : .serve ∈ A := by assumption) (_ : .lst ∈ A := by assumption) (_ : .ctl ∈ A := by assumption)
    (_ : .mem ∈ A := by assumption) (_ : .sms ∈ A := by assumption) (_ : .lnk ∈ A := by assumption)
    (_ : .mgt ∈ A := by assumption) (_ : .free ∈ A := by assumption) :
    SameBut A u (State.moveNext s a1 a2 a3 a4) := by
  unfold State.moveNext
  grind (splits := 40) (gen := 20) (ematch := 20) [State.copyErrors_same, State.dropMove_same, State.goMoves_same, State.goOn_same, State.memRepair_same, State.moveSettled_same, State.moved_same]

theorem execDemoteColumn_same {A : List Area} {u s : State} (h : SameBut A u s) (a0 a1 a2 a3)
    (_ : .regs ∈ A := by assumption) (_ : .now ∈ A := by assumption) (_ : .arbs ∈ A := by assumption)
    (_ : .hif ∈ A := by assumption) (_ : .serve ∈ A := by assumption) (_ : .lst ∈ A := by assumption)
    (_ : .ctl ∈ A := by assumption) (_ : .mem ∈ A := by assumption) (_ : .sms ∈ A := by assumption)
    (_ : .lnk ∈ A := by assumption) (_ : .mgt ∈ A := by assumption) (_ : .free ∈ A := by assumption) :
    SameO A u (execDemoteColumn a0 a1 a2 a3 s) := by
  unfold execDemoteColumn
  grind [State.advance_same, State.moveNext_same, SameO.next]

theorem execPromoteColumn_same {A : List Area} {u s : State} (h : SameBut A u s) (a0 a1 a2 a3)
    (_ : .regs ∈ A := by assumption) (_ : .now ∈ A := by assumption) (_ : .arbs ∈ A := by assumption)
    (_ : .hif ∈ A := by assumption) (_ : .serve ∈ A := by assumption) (_ : .lst ∈ A := by assumption)
    (_ : .ctl ∈ A := by assumption) (_ : .mem ∈ A := by assumption) (_ : .sms ∈ A := by assumption)
    (_ : .lnk ∈ A := by assumption) (_ : .mgt ∈ A := by assumption) (_ : .free ∈ A := by assumption) :
    SameO A u (execPromoteColumn a0 a1 a2 a3 s) := by
  unfold execPromoteColumn
  grind [State.advance_same, State.moveNext_same, SameO.next]

theorem execMigrationRetry_same {A : List Area} {u s : State} (h : SameBut A u s) (a0 a1 a2)
    (_ : .regs ∈ A := by assumption) (_ : .now ∈ A := by assumption) (_ : .arbs ∈ A := by assumption)
    (_ : .serve ∈ A := by assumption) (_ : .mem ∈ A := by assumption) (_ : .free ∈ A := by assumption) :
    SameO A u (execMigrationRetry a0 a1 a2 s) := by
  unfold execMigrationRetry
  grind (splits := 40) (gen := 20) (ematch := 20) [State.advance_same, State.beginMove_same, SameO.next]

theorem State.expire_same {A : List Area} {u s : State} (h : SameBut A u s) (a1) (_ : .regs ∈ A := by assumption)
    (_ : .serve ∈ A := by assumption) :
    SameBut A u (State.expire s a1) := by
  unfold State.expire
  grind (splits := 40) (gen := 20) (ematch := 20) [State.count_same, State.evictColumn_same, State.setSess_same, forEach_same]

theorem State.applyExpiries_same {A : List Area} {u s : State} (h : SameBut A u s) (a1)
    (_ : .regs ∈ A := by assumption) (_ : .serve ∈ A := by assumption) :
    SameBut A u (State.applyExpiries s a1) := by
  unfold State.applyExpiries
  grind [State.expire_same, forEach_same]

theorem execTtlExpire_same {A : List Area} {u s : State} (h : SameBut A u s) (a0 a1 a2)
    (_ : .regs ∈ A := by assumption) (_ : .now ∈ A := by assumption) (_ : .serve ∈ A := by assumption) :
    SameO A u (execTtlExpire a0 a1 a2 s) := by
  unfold execTtlExpire
  grind [State.advance_same, State.expire_same, SameO.next]

theorem State.letGo_same {A : List Area} {u s : State} (h : SameBut A u s) (a1 a2) (_ : .regs ∈ A := by assumption)
    (_ : .arbs ∈ A := by assumption) (_ : .serve ∈ A := by assumption) (_ : .mem ∈ A := by assumption)
    (_ : .free ∈ A := by assumption) :
    SameBut A u (State.letGo s a1 a2) := by
  unfold State.letGo
  grind [State.goMoves_same, State.memRepair_same, State.releaseOld_same, State.setSess_same]

theorem execCloneComplete_same {A : List Area} {u s : State} (h : SameBut A u s) (a0 a1 a2 a3)
    (_ : .regs ∈ A := by assumption) (_ : .now ∈ A := by assumption) (_ : .arbs ∈ A := by assumption)
    (_ : .hif ∈ A := by assumption) (_ : .serve ∈ A := by assumption) (_ : .lst ∈ A := by assumption)
    (_ : .ctl ∈ A := by assumption) (_ : .mem ∈ A := by assumption) (_ : .sms ∈ A := by assumption)
    (_ : .lnk ∈ A := by assumption) (_ : .mgt ∈ A := by assumption) (_ : .free ∈ A := by assumption) :
    SameO A u (execCloneComplete a0 a1 a2 a3 s) := by
  unfold execCloneComplete
  grind (splits := 40) (gen := 20) (ematch := 20) [State.advance_same, State.complete_same, State.copyErrors_same, State.count_same, State.dropSession_same, State.letGo_same, State.setSess_same, State.useCopy_same, SameO.next]

theorem State.applyWrite_same {A : List Area} {u s : State} (h : SameBut A u s) (w : ShWrite)
    (_ : .regs ∈ A := by assumption) (_ : .hif ∈ A := by assumption) (_ : .serve ∈ A := by assumption)
    (_ : .sms ∈ A := by assumption) : SameBut A u (s.applyWrite w) := by
  unfold State.applyWrite
  extract_lets s0 s1
  have h0 : SameBut A u s0 := by
    unfold s0 State.when
    split
    · exact State.settleCopies_same h
    · exact h
  have h1 : SameBut A u s1 := SameBut.set_regs h0 _
  repeat' split
  all_goals first
    | exact h1
    | exact State.logEvent_same h1 _

theorem State.applyShadow_same {A : List Area} {u s : State} (h : SameBut A u s) (l : List ShWrite)
    (_ : .regs ∈ A := by assumption) (_ : .now ∈ A := by assumption) (_ : .time ∈ A := by assumption)
    (_ : .arbs ∈ A := by assumption) (_ : .hif ∈ A := by assumption) (_ : .serve ∈ A := by assumption)
    (_ : .sms ∈ A := by assumption) (_ : .lnk ∈ A := by assumption)
    (_ : .free ∈ A := by assumption) : SameBut A u (s.applyShadow l) := by
  unfold State.applyShadow
  split
  · exact h
  · refine State.retime_same (State.renewArbs_same (foldl_same l _ (fun s w h => State.applyWrite_same h w) _
      (State.settleArbs_same (forEach_same _ _ (fun s p h => State.goPort_same h p) _ ?_))))
    split
    · exact State.withTime_same h _
    · exact h

theorem State.commit_same {A : List Area} {u s : State} (h : SameBut A u s) (a1) (_ : .regs ∈ A := by assumption)
    (_ : .shadow ∈ A := by assumption) (_ : .commits ∈ A := by assumption) (_ : .now ∈ A := by assumption)
    (_ : .time ∈ A := by assumption) (_ : .arbs ∈ A := by assumption) (_ : .hif ∈ A := by assumption)
    (_ : .serve ∈ A := by assumption) (_ : .sms ∈ A := by assumption) (_ : .lnk ∈ A := by assumption)
    (_ : .free ∈ A := by assumption) :
    SameBut A u (State.commit s a1) := by
  unfold State.commit
  extract_lets mine s1
  have h1 : SameBut A u s1 := SameBut.set_shadow h _
  clear_value s1
  split
  · exact h
  · split
    · exact SameBut.set_commits h1 _
    · exact State.applyShadow_same h1 _

theorem State.applyAll_same {A : List Area} {u s : State} (h : SameBut A u s) (_ : .regs ∈ A := by assumption)
    (_ : .commits ∈ A := by assumption) (_ : .now ∈ A := by assumption) (_ : .time ∈ A := by assumption)
    (_ : .arbs ∈ A := by assumption) (_ : .hif ∈ A := by assumption) (_ : .serve ∈ A := by assumption)
    (_ : .sms ∈ A := by assumption) (_ : .lnk ∈ A := by assumption) (_ : .free ∈ A := by assumption) :
    SameBut A u (State.applyAll s) := by
  unfold State.applyAll
  grind [State.applyShadow_same, SameBut.set_commits]

theorem State.applyLatched_same {A : List Area} {u s : State} (h : SameBut A u s) (a1)
    (_ : .regs ∈ A := by assumption) (_ : .commits ∈ A := by assumption) (_ : .now ∈ A := by assumption)
    (_ : .time ∈ A := by assumption) (_ : .arbs ∈ A := by assumption) (_ : .hif ∈ A := by assumption)
    (_ : .serve ∈ A := by assumption) (_ : .sms ∈ A := by assumption) (_ : .lnk ∈ A := by assumption)
    (_ : .free ∈ A := by assumption) :
    SameBut A u (State.applyLatched s a1) := by
  unfold State.applyLatched
  grind [State.applyShadow_same, SameBut.set_commits]

theorem State.runStart_same {A : List Area} {u s : State} (h : SameBut A u s) (_ : .regs ∈ A := by assumption)
    (_ : .now ∈ A := by assumption) (_ : .time ∈ A := by assumption) :
    SameBut A u (State.runStart s) := by
  unfold State.runStart
  grind [State.setBit_same, State.withTime_same]

theorem State.runStop_same {A : List Area} {u s : State} (h : SameBut A u s) (_ : .regs ∈ A := by assumption)
    (_ : .commits ∈ A := by assumption) (_ : .now ∈ A := by assumption) (_ : .time ∈ A := by assumption)
    (_ : .arbs ∈ A := by assumption) (_ : .hif ∈ A := by assumption) (_ : .serve ∈ A := by assumption)
    (_ : .lst ∈ A := by assumption) (_ : .sms ∈ A := by assumption) (_ : .fab ∈ A := by assumption)
    (_ : .lnk ∈ A := by assumption) (_ : .ptm ∈ A := by assumption) (_ : .free ∈ A := by assumption) :
    SameBut A u (State.runStop s) := by
  unfold State.runStop
  grind (splits := 40) (gen := 20) (ematch := 20) [State.applyAll_same, State.applyMargins_same, State.applyTracking_same, State.ptmBoundary_same, State.remapNow_same, State.setBit_same, State.tellPeers_same, State.withTime_same, State.wr_same]

theorem State.jobStart_same {A : List Area} {u s : State} (h : SameBut A u s) (a1) (_ : .regs ∈ A := by assumption)
    (_ : .serve ∈ A := by assumption) (_ : .lst ∈ A := by assumption) (_ : .ctl ∈ A := by assumption)
    (_ : .sms ∈ A := by assumption) (_ : .fab ∈ A := by assumption) :
    SameBut A u (State.jobStart s a1) := by
  unfold State.jobStart
  grind [State.applyMove_same, State.resetCore_same, State.setJob_same, State.withFab_same, forEach_same]

theorem State.writeLen_same {A : List Area} {u s : State} (h : SameBut A u s) (a1)
    (_ : .serve ∈ A := by assumption) (_ : .mem ∈ A := by assumption) :
    SameBut A u (State.writeLen s a1) := by
  unfold State.writeLen
  grind [State.setSess_same, State.writeBytes_same]

theorem State.pruneLaunch_same {A : List Area} {u s : State} (h : SameBut A u s) (a1)
    (_ : .serve ∈ A := by assumption) (_ : .ctl ∈ A := by assumption) (_ : .lnk ∈ A := by assumption) :
    SameBut A u (State.pruneLaunch s a1) := by
  unfold State.pruneLaunch
  grind [State.dropLaunch_same, State.setLaunches_same, State.setSess_same, forEach_same]

theorem State.launchOne_same {A : List Area} {u s : State} (h : SameBut A u s) (a1 a2)
    (_ : .regs ∈ A := by assumption) (_ : .serve ∈ A := by assumption) (_ : .lst ∈ A := by assumption)
    (_ : .ctl ∈ A := by assumption) (_ : .mem ∈ A := by assumption) (_ : .sms ∈ A := by assumption)
    (_ : .fab ∈ A := by assumption) :
    SameBut A u (State.launchOne s a1 a2) := by
  unfold State.launchOne
  grind [State.jobStart_same, State.nameCore_same, State.setLaunches_same, State.setSessions_same, State.writeLen_same, forEach_same]

theorem State.launchRow_same {A : List Area} {u s : State} (h : SameBut A u s) (a1)
    (_ : .regs ∈ A := by assumption) (_ : .serve ∈ A := by assumption) (_ : .lst ∈ A := by assumption)
    (_ : .ctl ∈ A := by assumption) (_ : .mem ∈ A := by assumption) (_ : .sms ∈ A := by assumption)
    (_ : .fab ∈ A := by assumption) (_ : .lnk ∈ A := by assumption) :
    SameBut A u (State.launchRow s a1) := by
  unfold State.launchRow
  grind [State.launchOne_same, State.pruneLaunch_same, State.setLaunches_same, forEach_same]

theorem State.emptySlot_same {A : List Area} {u s : State} (h : SameBut A u s) (a1)
    (_ : .regs ∈ A := by assumption) (_ : .hif ∈ A := by assumption) (_ : .serve ∈ A := by assumption) :
    SameBut A u (State.emptySlot s a1) := by
  unfold State.emptySlot
  grind [State.count_same, State.setLaunches_same, State.twsEvent_same]

theorem State.testPauses_same {A : List Area} {u s : State} (h : SameBut A u s) (a1)
    (_ : .regs ∈ A := by assumption) (_ : .serve ∈ A := by assumption) (_ : .sms ∈ A := by assumption) :
    SameBut A u (State.testPauses s a1) := by
  unfold State.testPauses
  grind [State.count_same, State.setHealth_same, forEach_same, SameBut.set_serve]

theorem State.pauseCores_same {A : List Area} {u s : State} (h : SameBut A u s) (a1)
    (_ : .regs ∈ A := by assumption) (_ : .ctl ∈ A := by assumption) :
    SameBut A u (State.pauseCores s a1) := by
  unfold State.pauseCores
  grind [State.count_same, State.withCtl_same]

theorem State.settleCredit_same {A : List Area} {u s : State} (h : SameBut A u s) (a1 a2) (_ : .hif ∈ A := by assumption) :
    SameBut A u (State.settleCredit s a1 a2) := by
  unfold State.settleCredit
  grind [State.setFn_same, forEach_same]

theorem State.resetFaulted_same {A : List Area} {u s : State} (h : SameBut A u s) (_ : .regs ∈ A := by assumption)
    (_ : .arbs ∈ A := by assumption) (_ : .hif ∈ A := by assumption) (_ : .serve ∈ A := by assumption)
    (_ : .ctl ∈ A := by assumption) (_ : .sms ∈ A := by assumption) (_ : .fab ∈ A := by assumption)
    (_ : .lnk ∈ A := by assumption) :
    SameBut A u (State.resetFaulted s) := by
  unfold State.resetFaulted
  grind [State.faultJob_same, State.resetCore_same, forEach_same]

theorem State.slotBoundary_same {A : List Area} {u s : State} (h : SameBut A u s) (a1 a2)
    (_ : .regs ∈ A := by assumption) (_ : .commits ∈ A := by assumption) (_ : .now ∈ A := by assumption)
    (_ : .time ∈ A := by assumption) (_ : .arbs ∈ A := by assumption) (_ : .hif ∈ A := by assumption)
    (_ : .serve ∈ A := by assumption) (_ : .lst ∈ A := by assumption) (_ : .ctl ∈ A := by assumption)
    (_ : .mem ∈ A := by assumption) (_ : .sms ∈ A := by assumption) (_ : .fab ∈ A := by assumption)
    (_ : .lnk ∈ A := by assumption) (_ : .ptm ∈ A := by assumption) (_ : .mgt ∈ A := by assumption)
    (_ : .free ∈ A := by assumption) :
    SameBut A u (State.slotBoundary s a1 a2) := by
  unfold State.slotBoundary
  grind (splits := 40) (gen := 20) (ematch := 20) [State.applyExpiries_same, State.applyLatched_same, State.applyMargins_same, State.applyTracking_same, State.emptyFns_same, State.emptySlot_same, State.goLoads_same, State.launchRow_same, State.pauseCores_same, State.ptmBoundary_same, State.remapNow_same, State.resetFaulted_same, State.settleCredit_same, State.showEntries_same, State.switchAtBoundary_same, State.tellPeers_same, State.testPauses_same, State.tryLasting_same, State.withMem_same, State.withTime_same, forEach_same, SameBut.set_sms]

theorem execSlotBoundary_same {A : List Area} {u s : State} (h : SameBut A u s) (a0 a1 a2)
    (_ : .regs ∈ A := by assumption) (_ : .commits ∈ A := by assumption) (_ : .now ∈ A := by assumption)
    (_ : .time ∈ A := by assumption) (_ : .arbs ∈ A := by assumption) (_ : .hif ∈ A := by assumption)
    (_ : .serve ∈ A := by assumption) (_ : .lst ∈ A := by assumption) (_ : .ctl ∈ A := by assumption)
    (_ : .mem ∈ A := by assumption) (_ : .sms ∈ A := by assumption) (_ : .fab ∈ A := by assumption)
    (_ : .lnk ∈ A := by assumption) (_ : .ptm ∈ A := by assumption) (_ : .mgt ∈ A := by assumption)
    (_ : .free ∈ A := by assumption) :
    SameO A u (execSlotBoundary a0 a1 a2 s) := by
  unfold execSlotBoundary
  grind [State.advance_same, State.slotBoundary_same, SameO.next]

theorem execTwsRunStart_same {A : List Area} {u s : State} (h : SameBut A u s) (a0 a1)
    (_ : .regs ∈ A := by assumption) (_ : .now ∈ A := by assumption) (_ : .time ∈ A := by assumption) :
    SameO A u (execTwsRunStart a0 a1 s) := by
  unfold execTwsRunStart
  grind [State.advance_same, State.runStart_same, State.when_same, SameO.next, State.when]

theorem execTwsRunStop_same {A : List Area} {u s : State} (h : SameBut A u s) (a0 a1)
    (_ : .regs ∈ A := by assumption) (_ : .commits ∈ A := by assumption) (_ : .now ∈ A := by assumption)
    (_ : .time ∈ A := by assumption) (_ : .arbs ∈ A := by assumption) (_ : .hif ∈ A := by assumption)
    (_ : .serve ∈ A := by assumption) (_ : .lst ∈ A := by assumption) (_ : .sms ∈ A := by assumption)
    (_ : .fab ∈ A := by assumption) (_ : .lnk ∈ A := by assumption) (_ : .ptm ∈ A := by assumption)
    (_ : .free ∈ A := by assumption) :
    SameO A u (execTwsRunStop a0 a1 s) := by
  unfold execTwsRunStop
  grind [State.advance_same, State.runStop_same, State.when_same, SameO.next, State.when]

theorem State.commitWrite_same {A : List Area} {u s : State} (h : SameBut A u s) (a1 a2 a3)
    (_ : .regs ∈ A := by assumption) (_ : .shadow ∈ A := by assumption) (_ : .commits ∈ A := by assumption)
    (_ : .now ∈ A := by assumption) (_ : .time ∈ A := by assumption) (_ : .arbs ∈ A := by assumption)
    (_ : .hif ∈ A := by assumption) (_ : .serve ∈ A := by assumption) (_ : .sms ∈ A := by assumption)
    (_ : .lnk ∈ A := by assumption) (_ : .free ∈ A := by assumption) :
    SameBut A u (State.commitWrite s a1 a2 a3) := by
  unfold State.commitWrite
  grind [State.advance_same, State.commit_same, State.when_same, State.when]

theorem execAmfCommit_same {A : List Area} {u s : State} (h : SameBut A u s) (a0 a1)
    (_ : .regs ∈ A := by assumption) (_ : .shadow ∈ A := by assumption) (_ : .commits ∈ A := by assumption)
    (_ : .now ∈ A := by assumption) (_ : .time ∈ A := by assumption) (_ : .arbs ∈ A := by assumption)
    (_ : .hif ∈ A := by assumption) (_ : .serve ∈ A := by assumption) (_ : .sms ∈ A := by assumption)
    (_ : .lnk ∈ A := by assumption) (_ : .free ∈ A := by assumption) :
    SameO A u (execAmfCommit a0 a1 s) := by
  unfold execAmfCommit
  grind [State.commitWrite_same, SameO.next]

end Sys2Proof.Machine
end

