-- ==== Sys2Proof/Laws/FrameAccess.lean ====
section
/-! SUPPORT. The areas that each operation leaves as they were, in the order of the model's files, from Wheel to Reply: one lemma an
operation, cited in place of its unfolding. -/

set_option Elab.async false
set_option linter.all false

namespace Sys2Proof.Machine

theorem execCcvCommit_same {A : List Area} {u s : State} (h : SameBut A u s) (a0 a1)
    (_ : .regs ∈ A := by assumption) (_ : .shadow ∈ A := by assumption) (_ : .commits ∈ A := by assumption)
    (_ : .now ∈ A := by assumption) (_ : .time ∈ A := by assumption) (_ : .arbs ∈ A := by assumption)
    (_ : .hif ∈ A := by assumption) (_ : .serve ∈ A := by assumption) (_ : .sms ∈ A := by assumption)
    (_ : .lnk ∈ A := by assumption) (_ : .free ∈ A := by assumption) :
    SameO A u (execCcvCommit a0 a1 s) := by
  unfold execCcvCommit
  grind [State.commitWrite_same, SameO.next]

theorem execWltCommit_same {A : List Area} {u s : State} (h : SameBut A u s) (a0 a1)
    (_ : .regs ∈ A := by assumption) (_ : .shadow ∈ A := by assumption) (_ : .commits ∈ A := by assumption)
    (_ : .now ∈ A := by assumption) (_ : .time ∈ A := by assumption) (_ : .arbs ∈ A := by assumption)
    (_ : .hif ∈ A := by assumption) (_ : .serve ∈ A := by assumption) (_ : .sms ∈ A := by assumption)
    (_ : .lnk ∈ A := by assumption) (_ : .free ∈ A := by assumption) :
    SameO A u (execWltCommit a0 a1 s) := by
  unfold execWltCommit
  grind [State.commitWrite_same, SameO.next]

theorem execAcrCommit_same {A : List Area} {u s : State} (h : SameBut A u s) (a0 a1)
    (_ : .regs ∈ A := by assumption) (_ : .shadow ∈ A := by assumption) (_ : .commits ∈ A := by assumption)
    (_ : .now ∈ A := by assumption) (_ : .time ∈ A := by assumption) (_ : .arbs ∈ A := by assumption)
    (_ : .hif ∈ A := by assumption) (_ : .serve ∈ A := by assumption) (_ : .sms ∈ A := by assumption)
    (_ : .lnk ∈ A := by assumption) (_ : .free ∈ A := by assumption) :
    SameO A u (execAcrCommit a0 a1 s) := by
  unfold execAcrCommit
  grind [State.commitWrite_same, SameO.next]

theorem execAtnCommit_same {A : List Area} {u s : State} (h : SameBut A u s) (a0 a1)
    (_ : .regs ∈ A := by assumption) (_ : .shadow ∈ A := by assumption) (_ : .commits ∈ A := by assumption)
    (_ : .now ∈ A := by assumption) (_ : .time ∈ A := by assumption) (_ : .arbs ∈ A := by assumption)
    (_ : .hif ∈ A := by assumption) (_ : .serve ∈ A := by assumption) (_ : .sms ∈ A := by assumption)
    (_ : .lnk ∈ A := by assumption) (_ : .free ∈ A := by assumption) :
    SameO A u (execAtnCommit a0 a1 s) := by
  unfold execAtnCommit
  grind [State.commitWrite_same, SameO.next]

theorem execKvmCommit_same {A : List Area} {u s : State} (h : SameBut A u s) (a0 a1)
    (_ : .regs ∈ A := by assumption) (_ : .shadow ∈ A := by assumption) (_ : .commits ∈ A := by assumption)
    (_ : .now ∈ A := by assumption) (_ : .time ∈ A := by assumption) (_ : .arbs ∈ A := by assumption)
    (_ : .hif ∈ A := by assumption) (_ : .serve ∈ A := by assumption) (_ : .sms ∈ A := by assumption)
    (_ : .lnk ∈ A := by assumption) (_ : .free ∈ A := by assumption) :
    SameO A u (execKvmCommit a0 a1 s) := by
  unfold execKvmCommit
  grind [State.commitWrite_same, SameO.next]

theorem execLstCommit_same {A : List Area} {u s : State} (h : SameBut A u s) (a0 a1)
    (_ : .regs ∈ A := by assumption) (_ : .shadow ∈ A := by assumption) (_ : .commits ∈ A := by assumption)
    (_ : .now ∈ A := by assumption) (_ : .time ∈ A := by assumption) (_ : .arbs ∈ A := by assumption)
    (_ : .hif ∈ A := by assumption) (_ : .serve ∈ A := by assumption) (_ : .sms ∈ A := by assumption)
    (_ : .lnk ∈ A := by assumption) (_ : .free ∈ A := by assumption) :
    SameO A u (execLstCommit a0 a1 s) := by
  unfold execLstCommit
  grind [State.commitWrite_same, SameO.next]

theorem execTwsCommit_same {A : List Area} {u s : State} (h : SameBut A u s) (a0 a1)
    (_ : .regs ∈ A := by assumption) (_ : .shadow ∈ A := by assumption) (_ : .commits ∈ A := by assumption)
    (_ : .now ∈ A := by assumption) (_ : .time ∈ A := by assumption) (_ : .arbs ∈ A := by assumption)
    (_ : .hif ∈ A := by assumption) (_ : .serve ∈ A := by assumption) (_ : .sms ∈ A := by assumption)
    (_ : .lnk ∈ A := by assumption) (_ : .free ∈ A := by assumption) :
    SameO A u (execTwsCommit a0 a1 s) := by
  unfold execTwsCommit
  grind [State.commitWrite_same, SameO.next]

theorem execHifCommit_same {A : List Area} {u s : State} (h : SameBut A u s) (a0 a1)
    (_ : .regs ∈ A := by assumption) (_ : .shadow ∈ A := by assumption) (_ : .commits ∈ A := by assumption)
    (_ : .now ∈ A := by assumption) (_ : .time ∈ A := by assumption) (_ : .arbs ∈ A := by assumption)
    (_ : .hif ∈ A := by assumption) (_ : .serve ∈ A := by assumption) (_ : .sms ∈ A := by assumption)
    (_ : .lnk ∈ A := by assumption) (_ : .free ∈ A := by assumption) :
    SameO A u (execHifCommit a0 a1 s) := by
  unfold execHifCommit
  grind [State.commitWrite_same, SameO.next]

theorem execCpxCommit_same {A : List Area} {u s : State} (h : SameBut A u s) (a0 a1)
    (_ : .regs ∈ A := by assumption) (_ : .shadow ∈ A := by assumption) (_ : .commits ∈ A := by assumption)
    (_ : .now ∈ A := by assumption) (_ : .time ∈ A := by assumption) (_ : .arbs ∈ A := by assumption)
    (_ : .hif ∈ A := by assumption) (_ : .serve ∈ A := by assumption) (_ : .sms ∈ A := by assumption)
    (_ : .lnk ∈ A := by assumption) (_ : .free ∈ A := by assumption) :
    SameO A u (execCpxCommit a0 a1 s) := by
  unfold execCpxCommit
  grind [State.commitWrite_same, SameO.next]

theorem execCstCommit_same {A : List Area} {u s : State} (h : SameBut A u s) (a0 a1)
    (_ : .regs ∈ A := by assumption) (_ : .shadow ∈ A := by assumption) (_ : .commits ∈ A := by assumption)
    (_ : .now ∈ A := by assumption) (_ : .time ∈ A := by assumption) (_ : .arbs ∈ A := by assumption)
    (_ : .hif ∈ A := by assumption) (_ : .serve ∈ A := by assumption) (_ : .sms ∈ A := by assumption)
    (_ : .lnk ∈ A := by assumption) (_ : .free ∈ A := by assumption) :
    SameO A u (execCstCommit a0 a1 s) := by
  unfold execCstCommit
  grind [State.commitWrite_same, SameO.next]

theorem execMemCommit_same {A : List Area} {u s : State} (h : SameBut A u s) (a0 a1)
    (_ : .regs ∈ A := by assumption) (_ : .shadow ∈ A := by assumption) (_ : .commits ∈ A := by assumption)
    (_ : .now ∈ A := by assumption) (_ : .time ∈ A := by assumption) (_ : .arbs ∈ A := by assumption)
    (_ : .hif ∈ A := by assumption) (_ : .serve ∈ A := by assumption) (_ : .sms ∈ A := by assumption)
    (_ : .lnk ∈ A := by assumption) (_ : .free ∈ A := by assumption) :
    SameO A u (execMemCommit a0 a1 s) := by
  unfold execMemCommit
  grind [State.commitWrite_same, SameO.next]

theorem execPtmCommit_same {A : List Area} {u s : State} (h : SameBut A u s) (a0 a1)
    (_ : .regs ∈ A := by assumption) (_ : .shadow ∈ A := by assumption) (_ : .commits ∈ A := by assumption)
    (_ : .now ∈ A := by assumption) (_ : .time ∈ A := by assumption) (_ : .arbs ∈ A := by assumption)
    (_ : .hif ∈ A := by assumption) (_ : .serve ∈ A := by assumption) (_ : .sms ∈ A := by assumption)
    (_ : .lnk ∈ A := by assumption) (_ : .free ∈ A := by assumption) :
    SameO A u (execPtmCommit a0 a1 s) := by
  unfold execPtmCommit
  grind [State.commitWrite_same, SameO.next]

theorem execSmsCommit_same {A : List Area} {u s : State} (h : SameBut A u s) (a0 a1)
    (_ : .regs ∈ A := by assumption) (_ : .shadow ∈ A := by assumption) (_ : .commits ∈ A := by assumption)
    (_ : .now ∈ A := by assumption) (_ : .time ∈ A := by assumption) (_ : .arbs ∈ A := by assumption)
    (_ : .hif ∈ A := by assumption) (_ : .serve ∈ A := by assumption) (_ : .sms ∈ A := by assumption)
    (_ : .lnk ∈ A := by assumption) (_ : .free ∈ A := by assumption) :
    SameO A u (execSmsCommit a0 a1 s) := by
  unfold execSmsCommit
  grind [State.commitWrite_same, SameO.next]

theorem State.sliceFailed_same {A : List Area} {u s : State} (h : SameBut A u s) (a1 a2)
    (_ : .regs ∈ A := by assumption) (_ : .arbs ∈ A := by assumption) (_ : .hif ∈ A := by assumption)
    (_ : .serve ∈ A := by assumption) (_ : .ctl ∈ A := by assumption) (_ : .sms ∈ A := by assumption)
    (_ : .lnk ∈ A := by assumption) (_ : .mgt ∈ A := by assumption) :
    SameBut A u (State.sliceFailed s a1 a2) := by
  unfold State.sliceFailed
  grind [State.count_same, State.logEvent_same, State.smsEvent_same, State.suspect_same]

theorem State.slicePassed_same {A : List Area} {u s : State} (h : SameBut A u s) (a1)
    (_ : .regs ∈ A := by assumption) (_ : .serve ∈ A := by assumption) (_ : .sms ∈ A := by assumption) :
    SameBut A u (State.slicePassed s a1) := by
  unfold State.slicePassed
  grind [State.count_same, State.setHealth_same, SameBut.set_serve]

theorem State.siteSlice_same {A : List Area} {u s : State} (h : SameBut A u s) (a1 a2 a3)
    (_ : .regs ∈ A := by assumption) (_ : .hif ∈ A := by assumption) (_ : .sms ∈ A := by assumption) :
    SameBut A u (State.siteSlice s a1 a2 a3) := by
  unfold State.siteSlice
  grind [State.count_same, State.logEvent_same, State.setHealth_same, State.smsEvent_same]

theorem execIftSlice_same {A : List Area} {u s : State} (h : SameBut A u s) (a0 a1 a2 a3)
    (_ : .regs ∈ A := by assumption) (_ : .now ∈ A := by assumption) (_ : .arbs ∈ A := by assumption)
    (_ : .hif ∈ A := by assumption) (_ : .serve ∈ A := by assumption) (_ : .ctl ∈ A := by assumption)
    (_ : .sms ∈ A := by assumption) (_ : .lnk ∈ A := by assumption) (_ : .mgt ∈ A := by assumption) :
    SameO A u (execIftSlice a0 a1 a2 a3 s) := by
  unfold execIftSlice
  grind [State.advance_same, State.idleNow_same, State.setHealth_same, State.siteSlice_same, State.sliceFailed_same, State.slicePassed_same, SameO.next]

theorem execIftOverdue_same {A : List Area} {u s : State} (h : SameBut A u s) (a0 a1)
    (_ : .now ∈ A := by assumption) (_ : .serve ∈ A := by assumption) (_ : .sms ∈ A := by assumption) :
    SameO A u (execIftOverdue a0 a1 s) := by
  unfold execIftOverdue
  grind [State.advance_same, State.setHealth_same, SameBut.set_serve, SameO.next]

theorem execMarginDecay_same {A : List Area} {u s : State} (h : SameBut A u s) (a0 a1)
    (_ : .now ∈ A := by assumption) (_ : .sms ∈ A := by assumption) :
    SameO A u (execMarginDecay a0 a1 s) := by
  unfold execMarginDecay
  grind [State.advance_same, State.setHealth_same, SameO.next]

theorem State.port_same {A : List Area} {u s : State} (h : SameBut A u s) (a1 a2) (h2 : ∀ s, SameBut A u s → SameBut A u (a2 s)) (_ : .now ∈ A := by assumption) (_ : .mgt ∈ A := by assumption) :
    SameO A u (State.port s a1 a2) := by
  unfold State.port
  grind [State.advance_same, State.withMgt_same, SameO.next]

theorem State.setAddress_same {A : List Area} {u s : State} (h : SameBut A u s) (a1) (_ : .mgt ∈ A := by assumption) :
    SameBut A u (State.setAddress s a1) := by
  unfold State.setAddress
  grind [State.mgtSend_same, State.withMgt_same]

theorem execI3cSetdasa_same {A : List Area} {u s : State} (h : SameBut A u s) (a0 a1 a2)
    (_ : .now ∈ A := by assumption) (_ : .mgt ∈ A := by assumption) :
    SameO A u (execI3cSetdasa a0 a1 a2 s) := by
  unfold execI3cSetdasa
  grind [State.advance_same, State.setAddress_same, State.when_same, SameO.next, State.when]

theorem execI3cEntdaa_same {A : List Area} {u s : State} (h : SameBut A u s) (a0 a1)
    (_ : .now ∈ A := by assumption) (_ : .mgt ∈ A := by assumption) :
    SameO A u (execI3cEntdaa a0 a1 s) := by
  unfold execI3cEntdaa
  grind [State.advance_same, State.setAddress_same, State.when_same, SameO.next, State.when]

theorem execSetEndpointId_same {A : List Area} {u s : State} (h : SameBut A u s) (a0 a1)
    (_ : .now ∈ A := by assumption) (_ : .mgt ∈ A := by assumption) :
    SameO A u (execSetEndpointId a0 a1 s) := by
  unfold execSetEndpointId
  grind [State.mgtSend_same, State.port_same, State.withMgt_same, SameO.next]

theorem execGetEndpointId_same {A : List Area} {u s : State} (h : SameBut A u s) (a0)
    (_ : .now ∈ A := by assumption) (_ : .mgt ∈ A := by assumption) :
    SameO A u (execGetEndpointId a0 s) := by
  unfold execGetEndpointId
  grind [State.mgtSend_same, State.port_same, SameO.next]

theorem execGetEndpointUuid_same {A : List Area} {u s : State} (h : SameBut A u s) (a0)
    (_ : .now ∈ A := by assumption) (_ : .mgt ∈ A := by assumption) :
    SameO A u (execGetEndpointUuid a0 s) := by
  unfold execGetEndpointUuid
  grind [State.mgtSend_same, State.port_same, SameO.next]

theorem execGetMctpVersionSupport_same {A : List Area} {u s : State} (h : SameBut A u s) (a0)
    (_ : .now ∈ A := by assumption) (_ : .mgt ∈ A := by assumption) :
    SameO A u (execGetMctpVersionSupport a0 s) := by
  unfold execGetMctpVersionSupport
  grind [State.mgtSend_same, State.port_same, SameO.next]

theorem execGetMessageTypeSupport_same {A : List Area} {u s : State} (h : SameBut A u s) (a0)
    (_ : .now ∈ A := by assumption) (_ : .mgt ∈ A := by assumption) :
    SameO A u (execGetMessageTypeSupport a0 s) := by
  unfold execGetMessageTypeSupport
  grind [State.mgtSend_same, State.port_same, SameO.next]

theorem State.spdmAt_same {A : List Area} {u s : State} (h : SameBut A u s) (a1 a2) (h2 : ∀ s, SameBut A u s → SameBut A u (a2 s)) (_ : .mgt ∈ A := by assumption) :
    SameBut A u (State.spdmAt s a1 a2) := by
  unfold State.spdmAt
  grind [State.mgtSend_same]

theorem State.spdmSign_same {A : List Area} {u s : State} (h : SameBut A u s) (_ : .regs ∈ A := by assumption)
    (_ : .free ∈ A := by assumption) :
    SameBut A u (State.spdmSign s).2 := by
  unfold State.spdmSign
  grind [State.count_same, State.draw_same]

theorem execSpdmGetVersion_same {A : List Area} {u s : State} (h : SameBut A u s) (a0)
    (_ : .now ∈ A := by assumption) (_ : .mgt ∈ A := by assumption) :
    SameO A u (execSpdmGetVersion a0 s) := by
  unfold execSpdmGetVersion
  grind [State.mgtSend_same, State.port_same, State.withMgt_same, SameO.next]

theorem execGetCapabilities_same {A : List Area} {u s : State} (h : SameBut A u s) (a0)
    (_ : .now ∈ A := by assumption) (_ : .mgt ∈ A := by assumption) :
    SameO A u (execGetCapabilities a0 s) := by
  unfold execGetCapabilities
  grind [State.mgtSend_same, State.port_same, State.spdmAt_same, State.withMgt_same, SameO.next]

theorem execNegotiateAlgorithms_same {A : List Area} {u s : State} (h : SameBut A u s) (a0 a1)
    (_ : .now ∈ A := by assumption) (_ : .mgt ∈ A := by assumption) :
    SameO A u (execNegotiateAlgorithms a0 a1 s) := by
  unfold execNegotiateAlgorithms
  grind [State.mgtSend_same, State.port_same, State.spdmAt_same, State.withMgt_same, SameO.next]

theorem execGetDigests_same {A : List Area} {u s : State} (h : SameBut A u s) (a0) (_ : .now ∈ A := by assumption)
    (_ : .mgt ∈ A := by assumption) :
    SameO A u (execGetDigests a0 s) := by
  unfold execGetDigests
  grind [State.mgtSend_same, State.port_same, State.spdmAt_same, SameO.next]

theorem execGetCertificate_same {A : List Area} {u s : State} (h : SameBut A u s) (a0 a1 a2 a3)
    (_ : .now ∈ A := by assumption) (_ : .mgt ∈ A := by assumption) :
    SameO A u (execGetCertificate a0 a1 a2 a3 s) := by
  unfold execGetCertificate
  grind [State.mgtSend_same, State.port_same, State.spdmAt_same, SameO.next]

theorem execChallenge_same {A : List Area} {u s : State} (h : SameBut A u s) (a0 a1 a2)
    (_ : .regs ∈ A := by assumption) (_ : .now ∈ A := by assumption) (_ : .mgt ∈ A := by assumption)
    (_ : .free ∈ A := by assumption) :
    SameO A u (execChallenge a0 a1 a2 s) := by
  unfold execChallenge
  grind [State.mgtSend_same, State.port_same, State.spdmAt_same, State.spdmSign_same, SameO.next]

theorem execGetMeasurements_same {A : List Area} {u s : State} (h : SameBut A u s) (a0 a1 a2 a3)
    (_ : .regs ∈ A := by assumption) (_ : .now ∈ A := by assumption) (_ : .mgt ∈ A := by assumption)
    (_ : .free ∈ A := by assumption) :
    SameO A u (execGetMeasurements a0 a1 a2 a3 s) := by
  unfold execGetMeasurements
  grind [State.mgtSend_same, State.port_same, State.spdmAt_same, State.spdmSign_same, SameO.next]

theorem execGettid_same {A : List Area} {u s : State} (h : SameBut A u s) (a0) (_ : .now ∈ A := by assumption)
    (_ : .mgt ∈ A := by assumption) :
    SameO A u (execGettid a0 s) := by
  unfold execGettid
  grind [State.mgtSend_same, State.port_same, SameO.next]

theorem execSettid_same {A : List Area} {u s : State} (h : SameBut A u s) (a0 a1) (_ : .now ∈ A := by assumption)
    (_ : .mgt ∈ A := by assumption) :
    SameO A u (execSettid a0 a1 s) := by
  unfold execSettid
  grind [State.mgtSend_same, State.port_same, State.withMgt_same, SameO.next]

theorem execGetpldmversion_same {A : List Area} {u s : State} (h : SameBut A u s) (a0 a1)
    (_ : .now ∈ A := by assumption) (_ : .mgt ∈ A := by assumption) :
    SameO A u (execGetpldmversion a0 a1 s) := by
  unfold execGetpldmversion
  grind [State.mgtSend_same, State.port_same, SameO.next]

theorem execGetpldmtypes_same {A : List Area} {u s : State} (h : SameBut A u s) (a0)
    (_ : .now ∈ A := by assumption) (_ : .mgt ∈ A := by assumption) :
    SameO A u (execGetpldmtypes a0 s) := by
  unfold execGetpldmtypes
  grind [State.mgtSend_same, State.port_same, SameO.next]

theorem execGetpldmcommands_same {A : List Area} {u s : State} (h : SameBut A u s) (a0 a1)
    (_ : .now ∈ A := by assumption) (_ : .mgt ∈ A := by assumption) :
    SameO A u (execGetpldmcommands a0 a1 s) := by
  unfold execGetpldmcommands
  grind [State.mgtSend_same, State.port_same, SameO.next]

theorem execGetpdrrepositoryinfo_same {A : List Area} {u s : State} (h : SameBut A u s) (a0)
    (_ : .now ∈ A := by assumption) (_ : .mgt ∈ A := by assumption) :
    SameO A u (execGetpdrrepositoryinfo a0 s) := by
  unfold execGetpdrrepositoryinfo
  grind [State.mgtSend_same, State.port_same, SameO.next]

theorem execGetpdr_same {A : List Area} {u s : State} (h : SameBut A u s) (a0 a1) (_ : .now ∈ A := by assumption)
    (_ : .mgt ∈ A := by assumption) :
    SameO A u (execGetpdr a0 a1 s) := by
  unfold execGetpdr
  grind [State.mgtSend_same, State.port_same, SameO.next]

theorem execGetsensorreading_same {A : List Area} {u s : State} (h : SameBut A u s) (a0 a1)
    (_ : .now ∈ A := by assumption) (_ : .mgt ∈ A := by assumption) :
    SameO A u (execGetsensorreading a0 a1 s) := by
  unfold execGetsensorreading
  grind [State.mgtSend_same, State.port_same, SameO.next]

theorem execGetstatesensorreadings_same {A : List Area} {u s : State} (h : SameBut A u s) (a0 a1)
    (_ : .now ∈ A := by assumption) (_ : .mgt ∈ A := by assumption) :
    SameO A u (execGetstatesensorreadings a0 a1 s) := by
  unfold execGetstatesensorreadings
  grind [State.mgtSend_same, State.port_same, SameO.next]

theorem State.sendEvent_same {A : List Area} {u s : State} (h : SameBut A u s) (_ : .mgt ∈ A := by assumption) :
    SameBut A u (State.sendEvent s) := by
  unfold State.sendEvent
  grind [State.mgtSend_same]

theorem execSeteventreceiver_same {A : List Area} {u s : State} (h : SameBut A u s) (a0 a1)
    (_ : .now ∈ A := by assumption) (_ : .mgt ∈ A := by assumption) :
    SameO A u (execSeteventreceiver a0 a1 s) := by
  unfold execSeteventreceiver
  grind [State.mgtSend_same, State.port_same, State.sendEvent_same, State.withMgt_same, SameO.next]

theorem execPollforplatformeventmessage_same {A : List Area} {u s : State} (h : SameBut A u s) (a0)
    (_ : .now ∈ A := by assumption) (_ : .mgt ∈ A := by assumption) :
    SameO A u (execPollforplatformeventmessage a0 s) := by
  unfold execPollforplatformeventmessage
  grind [State.mgtSend_same, State.port_same, State.withMgt_same, SameO.next]

theorem execPlatformeventmessageAck_same {A : List Area} {u s : State} (h : SameBut A u s) (a0)
    (_ : .now ∈ A := by assumption) (_ : .mgt ∈ A := by assumption) :
    SameO A u (execPlatformeventmessageAck a0 s) := by
  unfold execPlatformeventmessageAck
  grind [State.port_same, State.sendEvent_same, State.withMgt_same, SameO.next]

theorem State.inUpdate_same {A : List Area} {u s : State} (h : SameBut A u s) (a1 a2 a3) (h3 : ∀ s y0, SameBut A u s → SameBut A u (a3 s y0)) (_ : .mgt ∈ A := by assumption) :
    SameBut A u (State.inUpdate s a1 a2 a3) := by
  unfold State.inUpdate
  grind [State.mgtSend_same]

theorem State.setUpdate_same {A : List Area} {u s : State} (h : SameBut A u s) (a1) (_ : .mgt ∈ A := by assumption) :
    SameBut A u (State.setUpdate s a1) := by
  unfold State.setUpdate
  grind [State.withMgt_same]

theorem execQuerydeviceidentifiers_same {A : List Area} {u s : State} (h : SameBut A u s) (a0)
    (_ : .now ∈ A := by assumption) (_ : .mgt ∈ A := by assumption) :
    SameO A u (execQuerydeviceidentifiers a0 s) := by
  unfold execQuerydeviceidentifiers
  grind [State.mgtSend_same, State.port_same, SameO.next]

theorem execGetfirmwareparameters_same {A : List Area} {u s : State} (h : SameBut A u s) (a0)
    (_ : .now ∈ A := by assumption) (_ : .mgt ∈ A := by assumption) :
    SameO A u (execGetfirmwareparameters a0 s) := by
  unfold execGetfirmwareparameters
  grind [State.mgtSend_same, State.port_same, SameO.next]

theorem execRequestupdate_same {A : List Area} {u s : State} (h : SameBut A u s) (a0 a1)
    (_ : .now ∈ A := by assumption) (_ : .mgt ∈ A := by assumption) :
    SameO A u (execRequestupdate a0 a1 s) := by
  unfold execRequestupdate
  grind [State.mgtSend_same, State.port_same, State.setUpdate_same, State.withMgt_same, SameO.next]

theorem execPasscomponenttable_same {A : List Area} {u s : State} (h : SameBut A u s) (a0 a1)
    (_ : .now ∈ A := by assumption) (_ : .mgt ∈ A := by assumption) :
    SameO A u (execPasscomponenttable a0 a1 s) := by
  unfold execPasscomponenttable
  grind [State.inUpdate_same, State.mgtSend_same, State.port_same, State.setUpdate_same, SameO.next]

theorem State.askData_same {A : List Area} {u s : State} (h : SameBut A u s) (a1) (_ : .mgt ∈ A := by assumption) :
    SameBut A u (State.askData s a1) := by
  unfold State.askData
  grind [State.mgtSend_same]

theorem execUpdatecomponent_same {A : List Area} {u s : State} (h : SameBut A u s) (a0 a1 a2)
    (_ : .now ∈ A := by assumption) (_ : .mgt ∈ A := by assumption) :
    SameO A u (execUpdatecomponent a0 a1 a2 s) := by
  unfold execUpdatecomponent
  grind [State.askData_same, State.inUpdate_same, State.mgtSend_same, State.port_same, State.setSlot_same, State.setUpdate_same, SameO.next]

theorem State.refuseImage_same {A : List Area} {u s : State} (h : SameBut A u s) (a1 a2)
    (_ : .regs ∈ A := by assumption) (_ : .mgt ∈ A := by assumption) :
    SameBut A u (State.refuseImage s a1 a2) := by
  unfold State.refuseImage
  grind [State.count_same, State.mgtSend_same, State.setUpdate_same]

theorem State.verifyImage_same {A : List Area} {u s : State} (h : SameBut A u s) (a1)
    (_ : .regs ∈ A := by assumption) (_ : .mgt ∈ A := by assumption) :
    SameBut A u (State.verifyImage s a1) := by
  unfold State.verifyImage
  grind [State.mgtSend_same, State.refuseImage_same, State.setSlot_same, State.setUpdate_same]

theorem execFirmwareDataReceive_same {A : List Area} {u s : State} (h : SameBut A u s) (a0 a1 a2)
    (_ : .regs ∈ A := by assumption) (_ : .now ∈ A := by assumption) (_ : .mgt ∈ A := by assumption) :
    SameO A u (execFirmwareDataReceive a0 a1 a2 s) := by
  unfold execFirmwareDataReceive
  grind [State.askData_same, State.inUpdate_same, State.port_same, State.refuseImage_same, State.setUpdate_same, State.verifyImage_same, SameO.next]

theorem execActivatefirmware_same {A : List Area} {u s : State} (h : SameBut A u s) (a0 a1)
    (_ : .now ∈ A := by assumption) (_ : .mgt ∈ A := by assumption) :
    SameO A u (execActivatefirmware a0 a1 s) := by
  unfold execActivatefirmware
  grind [State.inUpdate_same, State.mgtSend_same, State.port_same, State.setSlot_same, State.setUpdate_same, SameO.next]

theorem execGetstatus_same {A : List Area} {u s : State} (h : SameBut A u s) (a0) (_ : .now ∈ A := by assumption)
    (_ : .mgt ∈ A := by assumption) :
    SameO A u (execGetstatus a0 s) := by
  unfold execGetstatus
  grind [State.mgtSend_same, State.port_same, SameO.next]

theorem State.dropImage_same {A : List Area} {u s : State} (h : SameBut A u s) (a1) (_ : .mgt ∈ A := by assumption) :
    SameBut A u (State.dropImage s a1) := by
  unfold State.dropImage
  grind [State.setSlot_same]

theorem execCancelupdatecomponent_same {A : List Area} {u s : State} (h : SameBut A u s) (a0 a1)
    (_ : .now ∈ A := by assumption) (_ : .mgt ∈ A := by assumption) :
    SameO A u (execCancelupdatecomponent a0 a1 s) := by
  unfold execCancelupdatecomponent
  grind [State.dropImage_same, State.inUpdate_same, State.mgtSend_same, State.port_same, State.setUpdate_same, SameO.next]

theorem execCancelupdate_same {A : List Area} {u s : State} (h : SameBut A u s) (a0 a1)
    (_ : .now ∈ A := by assumption) (_ : .mgt ∈ A := by assumption) :
    SameO A u (execCancelupdate a0 a1 s) := by
  unfold execCancelupdate
  grind [State.dropImage_same, State.inUpdate_same, State.mgtSend_same, State.port_same, State.setUpdate_same, SameO.next]

theorem State.debugWord_same {A : List Area} {u s : State} (h : SameBut A u s) (a1) (_ : .free ∈ A := by assumption) :
    SameBut A u (State.debugWord s a1).2 := by
  unfold State.debugWord
  grind [State.draw_same]

theorem State.debugRead_same {A : List Area} {u s : State} (h : SameBut A u s) (_ : .regs ∈ A := by assumption)
    (_ : .free ∈ A := by assumption) :
    SameBut A u (State.debugRead s).2 := by
  unfold State.debugRead
  grind [State.debugWord_same, State.setBit_same, State.wr_same]

theorem State.logRead_same {A : List Area} {u s : State} (h : SameBut A u s) (a1 a2)
    (_ : .regs ∈ A := by assumption) (_ : .fab ∈ A := by assumption) :
    SameBut A u (State.logRead s a1 a2) := by
  unfold State.logRead
  grind [State.holdLog_same, State.releaseLog_same]

theorem State.readPlace_same {A : List Area} {u s : State} (h : SameBut A u s) (a1 a2)
    (_ : .regs ∈ A := by assumption) (_ : .fab ∈ A := by assumption) (_ : .mgt ∈ A := by assumption)
    (_ : .free ∈ A := by assumption) :
    SameBut A u (State.readPlace s a1 a2).2 := by
  unfold State.readPlace
  grind [State.debugRead_same, State.logRead_same, State.measHold_same]

theorem State.readWord_same {A : List Area} {u s : State} (h : SameBut A u s) (a1 a2 a3)
    (_ : .regs ∈ A := by assumption) (_ : .fab ∈ A := by assumption) (_ : .mgt ∈ A := by assumption)
    (_ : .free ∈ A := by assumption) :
    SameBut A u (State.readWord s a1 a2 a3).2 := by
  unfold State.readWord
  grind [State.readPlace_same]

theorem State.read4_same {A : List Area} {u s : State} (h : SameBut A u s) (a1 a2 a3)
    (_ : .regs ∈ A := by assumption) (_ : .hif ∈ A := by assumption) (_ : .fab ∈ A := by assumption)
    (_ : .mgt ∈ A := by assumption) (_ : .free ∈ A := by assumption) :
    SameBut A u (State.read4 s a1 a2 a3).2 := by
  unfold State.read4
  grind [State.readWord_same, State.withHif_same]

theorem State.readWords_same {A : List Area} {u s : State} (h : SameBut A u s) (fn bar off n : Nat)
    (_ : .regs ∈ A := by assumption) (_ : .fab ∈ A := by assumption) (_ : .mgt ∈ A := by assumption)
    (_ : .free ∈ A := by assumption) : SameBut A u (s.readWords fn bar off n).2 := by
  induction n generalizing s off with
  | zero => exact h
  | succ n ih => unfold State.readWords; grind [State.readWord_same]

theorem State.barRead_same {A : List Area} {u s : State} (h : SameBut A u s) (a1 a2 a3 a4)
    (_ : .regs ∈ A := by assumption) (_ : .hif ∈ A := by assumption) (_ : .fab ∈ A := by assumption)
    (_ : .mgt ∈ A := by assumption) (_ : .free ∈ A := by assumption) :
    SameBut A u (State.barRead s a1 a2 a3 a4).2 := by
  unfold State.barRead
  grind [State.draw_same, State.read4_same, State.readWords_same]

theorem State.readDone_same {A : List Area} {u : State} (r : Nat × State) (h : SameBut A u r.2)
    (_ : .hif ∈ A := by assumption) : SameBut A u (State.readDone r) :=
  State.withHif_same h _

theorem execHalfLatchRead_same {A : List Area} {u s : State} (h : SameBut A u s) (a0 a1 a2 a3 a4)
    (_ : .regs ∈ A := by assumption) (_ : .now ∈ A := by assumption) (_ : .hif ∈ A := by assumption)
    (_ : .fab ∈ A := by assumption) (_ : .mgt ∈ A := by assumption) (_ : .free ∈ A := by assumption) :
    SameO A u (execHalfLatchRead a0 a1 a2 a3 a4 s) := by
  unfold execHalfLatchRead
  grind [State.advance_same, State.barRead_same, State.readDone_same, SameO.next]

theorem execCpxDbgDataRead_same {A : List Area} {u s : State} (h : SameBut A u s) (a0 a1)
    (_ : .regs ∈ A := by assumption) (_ : .now ∈ A := by assumption) (_ : .hif ∈ A := by assumption)
    (_ : .fab ∈ A := by assumption) (_ : .mgt ∈ A := by assumption) (_ : .free ∈ A := by assumption) :
    SameO A u (execCpxDbgDataRead a0 a1 s) := by
  unfold execCpxDbgDataRead
  grind [State.advance_same, State.barRead_same, State.readDone_same, SameO.next]

theorem State.clearEverywhere_same {A : List Area} {u s : State} (h : SameBut A u s) (l : List Fld)
    (_ : .regs ∈ A := by assumption) : SameBut A u (s.clearEverywhere l) :=
  SameBut.set_regs h _

theorem State.clearCounters_same {A : List Area} {u s : State} (h : SameBut A u s) (a1)
    (_ : .regs ∈ A := by assumption) (_ : .fab ∈ A := by assumption) :
    SameBut A u (State.clearCounters s a1) := by
  unfold State.clearCounters
  grind [State.clearEverywhere_same, State.dropLogs_same]

theorem State.counterClear_same {A : List Area} {u s : State} (h : SameBut A u s) (a1 a2 a3)
    (_ : .regs ∈ A := by assumption) (_ : .now ∈ A := by assumption) (_ : .fab ∈ A := by assumption) :
    SameBut A u (State.counterClear s a1 a2 a3) := by
  unfold State.counterClear
  grind [State.advance_same, State.clearCounters_same, State.when_same, State.when]

theorem execAmfCntClr_same {A : List Area} {u s : State} (h : SameBut A u s) (a0 a1)
    (_ : .regs ∈ A := by assumption) (_ : .now ∈ A := by assumption) (_ : .fab ∈ A := by assumption) :
    SameO A u (execAmfCntClr a0 a1 s) := by
  unfold execAmfCntClr
  grind [State.counterClear_same, SameO.next]

theorem execCcvCntClr_same {A : List Area} {u s : State} (h : SameBut A u s) (a0 a1)
    (_ : .regs ∈ A := by assumption) (_ : .now ∈ A := by assumption) (_ : .fab ∈ A := by assumption) :
    SameO A u (execCcvCntClr a0 a1 s) := by
  unfold execCcvCntClr
  grind [State.counterClear_same, SameO.next]

theorem execWltCntClr_same {A : List Area} {u s : State} (h : SameBut A u s) (a0 a1)
    (_ : .regs ∈ A := by assumption) (_ : .now ∈ A := by assumption) (_ : .fab ∈ A := by assumption) :
    SameO A u (execWltCntClr a0 a1 s) := by
  unfold execWltCntClr
  grind [State.counterClear_same, SameO.next]

theorem execAcrCntClr_same {A : List Area} {u s : State} (h : SameBut A u s) (a0 a1)
    (_ : .regs ∈ A := by assumption) (_ : .now ∈ A := by assumption) (_ : .fab ∈ A := by assumption) :
    SameO A u (execAcrCntClr a0 a1 s) := by
  unfold execAcrCntClr
  grind [State.counterClear_same, SameO.next]

theorem execAtnCntClr_same {A : List Area} {u s : State} (h : SameBut A u s) (a0 a1)
    (_ : .regs ∈ A := by assumption) (_ : .now ∈ A := by assumption) (_ : .fab ∈ A := by assumption) :
    SameO A u (execAtnCntClr a0 a1 s) := by
  unfold execAtnCntClr
  grind [State.counterClear_same, SameO.next]

theorem execKvmCntClr_same {A : List Area} {u s : State} (h : SameBut A u s) (a0 a1)
    (_ : .regs ∈ A := by assumption) (_ : .now ∈ A := by assumption) (_ : .fab ∈ A := by assumption) :
    SameO A u (execKvmCntClr a0 a1 s) := by
  unfold execKvmCntClr
  grind [State.counterClear_same, SameO.next]

theorem execLstCntClr_same {A : List Area} {u s : State} (h : SameBut A u s) (a0 a1)
    (_ : .regs ∈ A := by assumption) (_ : .now ∈ A := by assumption) (_ : .fab ∈ A := by assumption) :
    SameO A u (execLstCntClr a0 a1 s) := by
  unfold execLstCntClr
  grind [State.counterClear_same, SameO.next]

theorem execTwsCntClr_same {A : List Area} {u s : State} (h : SameBut A u s) (a0 a1)
    (_ : .regs ∈ A := by assumption) (_ : .now ∈ A := by assumption) (_ : .fab ∈ A := by assumption) :
    SameO A u (execTwsCntClr a0 a1 s) := by
  unfold execTwsCntClr
  grind [State.counterClear_same, SameO.next]

theorem execHifCntClr_same {A : List Area} {u s : State} (h : SameBut A u s) (a0 a1)
    (_ : .regs ∈ A := by assumption) (_ : .now ∈ A := by assumption) (_ : .fab ∈ A := by assumption) :
    SameO A u (execHifCntClr a0 a1 s) := by
  unfold execHifCntClr
  grind [State.counterClear_same, SameO.next]

theorem execLnkCntClr_same {A : List Area} {u s : State} (h : SameBut A u s) (a0 a1)
    (_ : .regs ∈ A := by assumption) (_ : .now ∈ A := by assumption) (_ : .fab ∈ A := by assumption) :
    SameO A u (execLnkCntClr a0 a1 s) := by
  unfold execLnkCntClr
  grind [State.counterClear_same, SameO.next]

theorem execCpxCntClr_same {A : List Area} {u s : State} (h : SameBut A u s) (a0 a1)
    (_ : .regs ∈ A := by assumption) (_ : .now ∈ A := by assumption) (_ : .fab ∈ A := by assumption) :
    SameO A u (execCpxCntClr a0 a1 s) := by
  unfold execCpxCntClr
  grind [State.counterClear_same, SameO.next]

theorem execCstCntClr_same {A : List Area} {u s : State} (h : SameBut A u s) (a0 a1)
    (_ : .regs ∈ A := by assumption) (_ : .now ∈ A := by assumption) (_ : .fab ∈ A := by assumption) :
    SameO A u (execCstCntClr a0 a1 s) := by
  unfold execCstCntClr
  grind [State.counterClear_same, SameO.next]

theorem execMemCntClr_same {A : List Area} {u s : State} (h : SameBut A u s) (a0 a1)
    (_ : .regs ∈ A := by assumption) (_ : .now ∈ A := by assumption) (_ : .fab ∈ A := by assumption) :
    SameO A u (execMemCntClr a0 a1 s) := by
  unfold execMemCntClr
  grind [State.counterClear_same, SameO.next]

theorem execPtmCntClr_same {A : List Area} {u s : State} (h : SameBut A u s) (a0 a1)
    (_ : .regs ∈ A := by assumption) (_ : .now ∈ A := by assumption) (_ : .fab ∈ A := by assumption) :
    SameO A u (execPtmCntClr a0 a1 s) := by
  unfold execPtmCntClr
  grind [State.counterClear_same, SameO.next]

theorem execSmsCntClr_same {A : List Area} {u s : State} (h : SameBut A u s) (a0 a1)
    (_ : .regs ∈ A := by assumption) (_ : .now ∈ A := by assumption) (_ : .fab ∈ A := by assumption) :
    SameO A u (execSmsCntClr a0 a1 s) := by
  unfold execSmsCntClr
  grind [State.counterClear_same, SameO.next]

theorem execSmsIdCntClr_same {A : List Area} {u s : State} (h : SameBut A u s) (a0 a1)
    (_ : .regs ∈ A := by assumption) (_ : .now ∈ A := by assumption) (_ : .fab ∈ A := by assumption) :
    SameO A u (execSmsIdCntClr a0 a1 s) := by
  unfold execSmsIdCntClr
  grind [State.counterClear_same, SameO.next]

theorem State.kvmEnable_same {A : List Area} {u s : State} (h : SameBut A u s) (_ : .regs ∈ A := by assumption) :
    SameBut A u (State.kvmEnable s) := by
  unfold State.kvmEnable
  grind [State.setBit_same]

theorem State.lstEnable_same {A : List Area} {u s : State} (h : SameBut A u s) (_ : .regs ∈ A := by assumption) :
    SameBut A u (State.lstEnable s) := by
  unfold State.lstEnable
  (repeat' split) <;> simp_all [State.setBit_same]

theorem execKvmCtrlEn_same {A : List Area} {u s : State} (h : SameBut A u s) (a0 a1)
    (_ : .regs ∈ A := by assumption) (_ : .now ∈ A := by assumption) :
    SameO A u (execKvmCtrlEn a0 a1 s) := by
  unfold execKvmCtrlEn
  grind [State.advance_same, State.kvmEnable_same, State.when_same, SameO.next, State.when]

theorem execLstCtrlEn_same {A : List Area} {u s : State} (h : SameBut A u s) (a0 a1)
    (_ : .regs ∈ A := by assumption) (_ : .now ∈ A := by assumption) :
    SameO A u (execLstCtrlEn a0 a1 s) := by
  unfold execLstCtrlEn
  grind [State.advance_same, State.lstEnable_same, State.when_same, SameO.next, State.when]

theorem execLstTrustLock_same {A : List Area} {u s : State} (h : SameBut A u s) (a0 a1)
    (_ : .regs ∈ A := by assumption) (_ : .now ∈ A := by assumption) :
    SameO A u (execLstTrustLock a0 a1 s) := by
  unfold execLstTrustLock
  grind [State.advance_same, State.setBit_same, State.when_same, SameO.next, State.when]

theorem after_same {A : List Area} {u s : State} (h : SameBut A u s) (o : Host.Outcome State Fault Refusal) (k : SameO A u o) : SameBut A u (after s o) := by
  cases o <;> simp_all [after, SameO]

theorem State.writeField_same {A : List Area} {u s : State} (h : SameBut A u s) (a1 a2 a3 a4)
    (_ : .regs ∈ A := by assumption) (_ : .shadow ∈ A := by assumption) :
    SameBut A u (State.writeField s a1 a2 a3 a4) := by
  unfold State.writeField
  grind [State.wr_same, SameBut.set_shadow]

theorem State.writeFields_same {A : List Area} {u s : State} (h : SameBut A u s) (a1 a2 a3 a4)
    (_ : .regs ∈ A := by assumption) (_ : .shadow ∈ A := by assumption) :
    SameBut A u (State.writeFields s a1 a2 a3 a4) := by
  unfold State.writeFields
  grind [State.writeField_same, forEach_same]

theorem State.writeEnable_same {A : List Area} {u s : State} (h : SameBut A u s) (a1 a2 a3 a4)
    (_ : .regs ∈ A := by assumption) (_ : .shadow ∈ A := by assumption) (_ : .hif ∈ A := by assumption) :
    SameBut A u (State.writeEnable s a1 a2 a3 a4) := by
  unfold State.writeEnable
  grind [State.pfEvent_same, State.when_same, State.writeFields_same, State.when]

theorem State.writeTrust_same {A : List Area} {u s : State} (h : SameBut A u s) (a1) (_ : .lst ∈ A := by assumption) :
    SameBut A u (State.writeTrust s a1) := by
  unfold State.writeTrust
  grind [State.withLst_same]

theorem State.writeMeasSel_same {A : List Area} {u s : State} (h : SameBut A u s) (a1)
    (_ : .regs ∈ A := by assumption) (_ : .shadow ∈ A := by assumption) (_ : .mgt ∈ A := by assumption) :
    SameBut A u (State.writeMeasSel s a1) := by
  unfold State.writeMeasSel
  grind [State.withMgt_same, State.writeFields_same]

theorem State.writePortCtrl_same {A : List Area} {u s : State} (h : SameBut A u s) (a1 a2)
    (_ : .regs ∈ A := by assumption) (_ : .shadow ∈ A := by assumption) (_ : .now ∈ A := by assumption)
    (_ : .time ∈ A := by assumption) (_ : .arbs ∈ A := by assumption) (_ : .hif ∈ A := by assumption)
    (_ : .lst ∈ A := by assumption) (_ : .lnk ∈ A := by assumption) (_ : .free ∈ A := by assumption) :
    SameBut A u (State.writePortCtrl s a1 a2) := by
  unfold State.writePortCtrl
  grind [State.setBit_same, State.writeFields_same, after_same, execStoragePortDisable_same]

theorem State.writeQpCtrl_same {A : List Area} {u s : State} (h : SameBut A u s) (a1 a2)
    (_ : .regs ∈ A := by assumption) (_ : .shadow ∈ A := by assumption) (_ : .now ∈ A := by assumption)
    (_ : .arbs ∈ A := by assumption) (_ : .hif ∈ A := by assumption) (_ : .lst ∈ A := by assumption)
    (_ : .lnk ∈ A := by assumption) :
    SameBut A u (State.writeQpCtrl s a1 a2) := by
  unfold State.writeQpCtrl
  grind [State.writeFields_same, after_same, execQpReset_same, execQpRts_same]

theorem State.writePstate_same {A : List Area} {u s : State} (h : SameBut A u s) (a1)
    (_ : .regs ∈ A := by assumption) (_ : .shadow ∈ A := by assumption) (_ : .fab ∈ A := by assumption)
    (_ : .ptm ∈ A := by assumption) :
    SameBut A u (State.writePstate s a1) := by
  unfold State.writePstate
  grind [State.enterMp1_same, State.leaveMp1_same, State.writeFields_same]

theorem State.writeTwsCtrl_same {A : List Area} {u s : State} (h : SameBut A u s) (a1)
    (_ : .regs ∈ A := by assumption) (_ : .shadow ∈ A := by assumption) (_ : .commits ∈ A := by assumption)
    (_ : .now ∈ A := by assumption) (_ : .time ∈ A := by assumption) (_ : .arbs ∈ A := by assumption)
    (_ : .hif ∈ A := by assumption) (_ : .serve ∈ A := by assumption) (_ : .lst ∈ A := by assumption)
    (_ : .sms ∈ A := by assumption) (_ : .fab ∈ A := by assumption) (_ : .lnk ∈ A := by assumption)
    (_ : .ptm ∈ A := by assumption) (_ : .free ∈ A := by assumption) :
    SameBut A u (State.writeTwsCtrl s a1) := by
  unfold State.writeTwsCtrl
  grind [State.runStart_same, State.runStop_same, State.writeFields_same]

theorem State.writeLnkCtrl_same {A : List Area} {u s : State} (h : SameBut A u s) (a1)
    (_ : .regs ∈ A := by assumption) (_ : .shadow ∈ A := by assumption) (_ : .now ∈ A := by assumption)
    (_ : .arbs ∈ A := by assumption) (_ : .lnk ∈ A := by assumption) :
    SameBut A u (State.writeLnkCtrl s a1) := by
  unfold State.writeLnkCtrl
  grind [State.writeFields_same, after_same, execLnkCtrlEn_same]

theorem State.writeBarForce_same {A : List Area} {u s : State} (h : SameBut A u s) (a1 a2)
    (_ : .regs ∈ A := by assumption) (_ : .now ∈ A := by assumption) (_ : .hif ∈ A := by assumption)
    (_ : .serve ∈ A := by assumption) (_ : .ctl ∈ A := by assumption) (_ : .sms ∈ A := by assumption) :
    SameBut A u (State.writeBarForce s a1 a2) := by
  unfold State.writeBarForce
  grind [after_same, execCpxBarForceRelease_same, execCpxBarForceSet_same]

theorem pfActions_same {A : List Area} (c : Nat × (State → Nat → Nat → State)) (hc : c ∈ pfActions) {u s : State} (h : SameBut A u s)
    (bank w : Nat) (_ : .regs ∈ A := by assumption) (_ : .shadow ∈ A := by assumption)
    (_ : .commits ∈ A := by assumption) (_ : .now ∈ A := by assumption) (_ : .time ∈ A := by assumption)
    (_ : .arbs ∈ A := by assumption) (_ : .hif ∈ A := by assumption) (_ : .serve ∈ A := by assumption)
    (_ : .lst ∈ A := by assumption) (_ : .ctl ∈ A := by assumption) (_ : .mem ∈ A := by assumption)
    (_ : .sms ∈ A := by assumption) (_ : .fab ∈ A := by assumption) (_ : .lnk ∈ A := by assumption)
    (_ : .ptm ∈ A := by assumption) (_ : .mgt ∈ A := by assumption)
    (_ : .free ∈ A := by assumption) : SameBut A u (c.2 s bank w) := by
  unfold pfActions at hc
  simp only [List.mem_cons, List.not_mem_nil, or_false] at hc
  rcases hc with rfl | rfl | rfl | rfl | rfl | rfl | rfl | rfl | rfl | rfl | rfl | rfl | rfl | rfl | rfl | rfl | rfl | rfl | rfl |
    rfl | rfl
  all_goals grind [State.when, State.writeTwsCtrl_same, State.withTime_same, State.setTime_same, State.writeEnable_same,
    State.writeFields_same, State.kvmEnable_same, State.lstEnable_same, State.setBit_same, State.writeTrust_same,
    State.startReset_same, State.writeFnQueues_same, State.writeFnReset_same, State.writeLnkCtrl_same,
    State.writePortCtrl_same, State.writeQpCtrl_same, State.chooseMaster_same, State.writePstate_same,
    State.writeBarForce_same, State.forcedDrain_same, State.writeMeasSel_same]

theorem State.writeReg_same {A : List Area} {u s : State} (h : SameBut A u s) (a bank w : Nat)
    (_ : .regs ∈ A := by assumption) (_ : .shadow ∈ A := by assumption) (_ : .commits ∈ A := by assumption)
    (_ : .now ∈ A := by assumption) (_ : .time ∈ A := by assumption) (_ : .arbs ∈ A := by assumption)
    (_ : .hif ∈ A := by assumption) (_ : .serve ∈ A := by assumption) (_ : .lst ∈ A := by assumption)
    (_ : .ctl ∈ A := by assumption) (_ : .mem ∈ A := by assumption) (_ : .sms ∈ A := by assumption)
    (_ : .fab ∈ A := by assumption) (_ : .lnk ∈ A := by assumption) (_ : .ptm ∈ A := by assumption)
    (_ : .mgt ∈ A := by assumption) (_ : .free ∈ A := by assumption) : SameBut A u (s.writeReg a bank w) := by
  unfold State.writeReg
  split
  · grind [State.when, State.commit_same]
  · grind [State.when, State.clearCounters_same]
  · exact pfActions_same _ (List.mem_of_find?_eq_some ‹_›) h bank w
  · grind [State.writeFields_same]

theorem State.writeQueueReg_same {A : List Area} {u s : State} (h : SameBut A u s) (a1 a2 a3 a4)
    (_ : .regs ∈ A := by assumption) (_ : .shadow ∈ A := by assumption) (_ : .hif ∈ A := by assumption) :
    SameBut A u (State.writeQueueReg s a1 a2 a3 a4) := by
  unfold State.writeQueueReg
  grind [State.queueDisable_same, State.queueEnable_same, State.writeFields_same]

theorem State.writeMsix_same {A : List Area} {u s : State} (h : SameBut A u s) (a1 a2 a3 a4)
    (_ : .hif ∈ A := by assumption) :
    SameBut A u (State.writeMsix s a1 a2 a3 a4) := by
  unfold State.writeMsix
  grind [State.msixMask_same, State.setVec_same]

theorem State.writeSend_same {A : List Area} {u s : State} (h : SameBut A u s) (a1 a2 a3 a4)
    (_ : .regs ∈ A := by assumption) (_ : .hif ∈ A := by assumption) (_ : .ctl ∈ A := by assumption) :
    SameBut A u (State.writeSend s a1 a2 a3 a4) := by
  unfold State.writeSend
  grind [State.mbxGo_same, State.setMbox_same, State.when_same, State.when]

theorem State.writePlace_same {A : List Area} {u s : State} (h : SameBut A u s) (a1 a2 a3)
    (_ : .regs ∈ A := by assumption) (_ : .shadow ∈ A := by assumption) (_ : .commits ∈ A := by assumption)
    (_ : .now ∈ A := by assumption) (_ : .time ∈ A := by assumption) (_ : .arbs ∈ A := by assumption)
    (_ : .hif ∈ A := by assumption) (_ : .serve ∈ A := by assumption) (_ : .lst ∈ A := by assumption)
    (_ : .ctl ∈ A := by assumption) (_ : .mem ∈ A := by assumption) (_ : .sms ∈ A := by assumption)
    (_ : .fab ∈ A := by assumption) (_ : .lnk ∈ A := by assumption) (_ : .ptm ∈ A := by assumption)
    (_ : .mgt ∈ A := by assumption) (_ : .free ∈ A := by assumption) :
    SameBut A u (State.writePlace s a1 a2 a3) := by
  unfold State.writePlace
  grind [State.doorbell_same, State.mbxDone_same, State.startReset_same, State.when_same, State.writeFields_same, State.writeMsix_same, State.writeQueueReg_same, State.writeReg_same, State.writeSend_same, State.when]

theorem State.writeWord_same {A : List Area} {u s : State} (h : SameBut A u s) (a1 a2 a3 a4)
    (_ : .regs ∈ A := by assumption) (_ : .shadow ∈ A := by assumption) (_ : .commits ∈ A := by assumption)
    (_ : .now ∈ A := by assumption) (_ : .time ∈ A := by assumption) (_ : .arbs ∈ A := by assumption)
    (_ : .hif ∈ A := by assumption) (_ : .serve ∈ A := by assumption) (_ : .lst ∈ A := by assumption)
    (_ : .ctl ∈ A := by assumption) (_ : .mem ∈ A := by assumption) (_ : .sms ∈ A := by assumption)
    (_ : .fab ∈ A := by assumption) (_ : .lnk ∈ A := by assumption) (_ : .ptm ∈ A := by assumption)
    (_ : .mgt ∈ A := by assumption) (_ : .free ∈ A := by assumption) :
    SameBut A u (State.writeWord s a1 a2 a3 a4) := by
  unfold State.writeWord
  grind [State.writePlace_same]

theorem State.badWrite_same {A : List Area} {u s : State} (h : SameBut A u s) (a1) (_ : .regs ∈ A := by assumption) :
    SameBut A u (State.badWrite s a1) := by
  unfold State.badWrite
  grind [State.count_same, State.when_same, State.when]

theorem State.bellWrite_same {A : List Area} {u s : State} (h : SameBut A u s) (a1 a2 a3)
    (_ : .regs ∈ A := by assumption) (_ : .shadow ∈ A := by assumption) (_ : .commits ∈ A := by assumption)
    (_ : .now ∈ A := by assumption) (_ : .time ∈ A := by assumption) (_ : .arbs ∈ A := by assumption)
    (_ : .hif ∈ A := by assumption) (_ : .serve ∈ A := by assumption) (_ : .lst ∈ A := by assumption)
    (_ : .ctl ∈ A := by assumption) (_ : .mem ∈ A := by assumption) (_ : .sms ∈ A := by assumption)
    (_ : .fab ∈ A := by assumption) (_ : .lnk ∈ A := by assumption) (_ : .ptm ∈ A := by assumption)
    (_ : .mgt ∈ A := by assumption) (_ : .free ∈ A := by assumption) :
    SameBut A u (State.bellWrite s a1 a2 a3) := by
  unfold State.bellWrite
  grind [State.badWrite_same, State.writeWord_same]

theorem State.barWrite_same {A : List Area} {u s : State} (h : SameBut A u s) (a1 a2 a3 a4 a5 a6)
    (_ : .regs ∈ A := by assumption) (_ : .shadow ∈ A := by assumption) (_ : .commits ∈ A := by assumption)
    (_ : .now ∈ A := by assumption) (_ : .time ∈ A := by assumption) (_ : .arbs ∈ A := by assumption)
    (_ : .hif ∈ A := by assumption) (_ : .serve ∈ A := by assumption) (_ : .lst ∈ A := by assumption)
    (_ : .ctl ∈ A := by assumption) (_ : .mem ∈ A := by assumption) (_ : .sms ∈ A := by assumption)
    (_ : .fab ∈ A := by assumption) (_ : .lnk ∈ A := by assumption) (_ : .ptm ∈ A := by assumption)
    (_ : .mgt ∈ A := by assumption) (_ : .free ∈ A := by assumption) :
    SameBut A u (State.barWrite s a1 a2 a3 a4 a5 a6) := by
  unfold State.barWrite
  grind [State.aer_same, State.badWrite_same, State.bellWrite_same, State.writeWord_same]

theorem execRegisterWrite_same {A : List Area} {u s : State} (h : SameBut A u s) (a0 a1 a2 a3 a4 a5 a6)
    (_ : .regs ∈ A := by assumption) (_ : .shadow ∈ A := by assumption) (_ : .commits ∈ A := by assumption)
    (_ : .now ∈ A := by assumption) (_ : .time ∈ A := by assumption) (_ : .arbs ∈ A := by assumption)
    (_ : .hif ∈ A := by assumption) (_ : .serve ∈ A := by assumption) (_ : .lst ∈ A := by assumption)
    (_ : .ctl ∈ A := by assumption) (_ : .mem ∈ A := by assumption) (_ : .sms ∈ A := by assumption)
    (_ : .fab ∈ A := by assumption) (_ : .lnk ∈ A := by assumption) (_ : .ptm ∈ A := by assumption)
    (_ : .mgt ∈ A := by assumption) (_ : .free ∈ A := by assumption) :
    SameO A u (execRegisterWrite a0 a1 a2 a3 a4 a5 a6 s) := by
  unfold execRegisterWrite
  grind [State.advance_same, State.barWrite_same, SameO.next]

theorem State.answerMail_same {A : List Area} {u s : State} (h : SameBut A u s) (me sender : Nat) (cmds : Nat → Bool)
    (f : State → Nat → List Word → State × Status × List Nat) (hf : ∀ s a b, SameBut A u s → SameBut A u (f s a b).1) (_ : .regs ∈ A := by assumption) (_ : .hif ∈ A := by assumption) (_ : .ctl ∈ A := by assumption) :
    SameBut A u (s.answerMail me sender cmds f) := by
  unfold State.answerMail
  split
  · exact h
  · dsimp only
    split
    · exact h
    · exact State.mbxGo_same (State.setMbox_same (hf _ _ _ (State.mbxDone_same h _ _)) _ _ _) _ _

theorem execFwGetVersion_same {A : List Area} {u s : State} (h : SameBut A u s) (a0 a1)
    (_ : .regs ∈ A := by assumption) (_ : .now ∈ A := by assumption) (_ : .hif ∈ A := by assumption)
    (_ : .ctl ∈ A := by assumption) :
    SameO A u (execFwGetVersion a0 a1 s) := by
  unfold execFwGetVersion
  grind [State.advance_same, State.answerMail_same, State.when_same, SameO.next, State.when]

theorem execSetTime_same {A : List Area} {u s : State} (h : SameBut A u s) (a0 a1) (_ : .regs ∈ A := by assumption)
    (_ : .now ∈ A := by assumption) (_ : .time ∈ A := by assumption) (_ : .hif ∈ A := by assumption)
    (_ : .lst ∈ A := by assumption) (_ : .ctl ∈ A := by assumption) (_ : .fab ∈ A := by assumption)
    (_ : .mgt ∈ A := by assumption) :
    SameO A u (execSetTime a0 a1 s) := by
  unfold execSetTime
  grind [State.advance_same, State.answerMail_same, State.setTime_same, State.when_same, SameO.next, State.when]

theorem execReadLog_same {A : List Area} {u s : State} (h : SameBut A u s) (a0 a1) (_ : .regs ∈ A := by assumption)
    (_ : .now ∈ A := by assumption) (_ : .hif ∈ A := by assumption) (_ : .ctl ∈ A := by assumption) :
    SameO A u (execReadLog a0 a1 s) := by
  unfold execReadLog
  grind [State.advance_same, State.answerMail_same, State.when_same, SameO.next, State.when]

theorem State.answerMc_same {A : List Area} {u s : State} (h : SameBut A u s) (a1 a2 a3)
    (_ : .regs ∈ A := by assumption) (_ : .hif ∈ A := by assumption) (_ : .ctl ∈ A := by assumption) :
    SameBut A u (State.answerMc s a1 a2 a3) := by
  unfold State.answerMc
  grind [State.answerMail_same]

theorem execMcGetVersion_same {A : List Area} {u s : State} (h : SameBut A u s) (a0 a1)
    (_ : .regs ∈ A := by assumption) (_ : .now ∈ A := by assumption) (_ : .hif ∈ A := by assumption)
    (_ : .ctl ∈ A := by assumption) :
    SameO A u (execMcGetVersion a0 a1 s) := by
  unfold execMcGetVersion
  grind [State.advance_same, State.answerMc_same, SameO.next]

theorem execGetIdentity_same {A : List Area} {u s : State} (h : SameBut A u s) (a0 a1)
    (_ : .regs ∈ A := by assumption) (_ : .now ∈ A := by assumption) (_ : .hif ∈ A := by assumption)
    (_ : .ctl ∈ A := by assumption) :
    SameO A u (execGetIdentity a0 a1 s) := by
  unfold execGetIdentity
  grind [State.advance_same, State.answerMc_same, SameO.next]

theorem execGetMeasurement_same {A : List Area} {u s : State} (h : SameBut A u s) (a0 a1)
    (_ : .regs ∈ A := by assumption) (_ : .now ∈ A := by assumption) (_ : .hif ∈ A := by assumption)
    (_ : .ctl ∈ A := by assumption) :
    SameO A u (execGetMeasurement a0 a1 s) := by
  unfold execGetMeasurement
  grind [State.advance_same, State.answerMc_same, SameO.next]

theorem execGetSensor_same {A : List Area} {u s : State} (h : SameBut A u s) (a0 a1)
    (_ : .regs ∈ A := by assumption) (_ : .now ∈ A := by assumption) (_ : .hif ∈ A := by assumption)
    (_ : .ctl ∈ A := by assumption) :
    SameO A u (execGetSensor a0 a1 s) := by
  unfold execGetSensor
  grind [State.advance_same, State.answerMc_same, SameO.next]

theorem execGetFwSlots_same {A : List Area} {u s : State} (h : SameBut A u s) (a0 a1)
    (_ : .regs ∈ A := by assumption) (_ : .now ∈ A := by assumption) (_ : .hif ∈ A := by assumption)
    (_ : .ctl ∈ A := by assumption) :
    SameO A u (execGetFwSlots a0 a1 s) := by
  unfold execGetFwSlots
  grind [State.advance_same, State.answerMc_same, SameO.next]

end Sys2Proof.Machine
end

