-- ==== Sys2Proof/Machine/Nominal.lean ====
section
/-! DEFINITION. The durations that the firmware plans with (spec/01_architecture.md R460, spec/11_serving.md R461).  No rule
guarantees a duration and no state of the module depends on one: they say what the model of each rule gives. -/

namespace Sys2Proof.Machine

/-- The time of one chunk of 64 positions on a hub core's decode units in ps (R460): fed or computed, whichever is longer, for a number
of row groups. -/
def nominalChunkTime (k4 : Bool) (groups : Nat) : Nat := max (if k4 then 22700 else 42700) (21300 * groups)

/-- The attention time of a layer in ps (R460): the last chunk counts as the fraction of its positions that stream. -/
def nominalAttention (k4 : Bool) (groups positions : Nat) : Nat := 400000 + positions * nominalChunkTime k4 groups / 64

/-- The nominal time of a decode step of 48 layers in ps (R460): one sequence, `q` query tokens, the positions it reads. -/
def nominalStep (k4 : Bool) (groups q positions : Nat) : Nat :=
  1000000 + 48 * (2650000 + 500000 * (q - 1) + nominalAttention k4 groups positions) + 4400000 + 2000000

/-- The nominal time of a chunk of `n` tokens in ps (R461). -/
def nominalPiece (n : Nat) : Nat :=
  let k := (n + 63) / 64
  let b := n - 64 * (k - 1)
  if k ≤ 1 then 12400000 + 30720000 * b else 12400000 + (k - 2) * 8192000 + 1966080000 + 128000 * b

end Sys2Proof.Machine
end

