-- ==== Sys2Proof/Tests/Slice0.lean ====
section
/-! SUPPORT. Witnesses of the statements' hypotheses with what the command then does, each on one small state, and a term that
each check of well-formedness refuses.  Each theorem is elaborated
before the next begins: each one's evaluation waits for the kernel's check of everything above it. -/

set_option Elab.async false
set_option linter.all false

namespace Sys2Proof.Tests

open Sys2Proof Sys2Proof.Machine

/-- A condition of the next state that an outcome answers. -/
def after (o : Host.Outcome State Fault Refusal) (p : State → Bool) : Bool :=
  match o with
  | .next u => p u
  | _ => false

/-- `SameBut` decided. -/
def sameBut (A : List Area) (s u : State) : Bool :=
  let ok (a : Area) (b : Bool) : Bool := A.contains a || b
  u.pending == s.pending && ok .regs (u.regs == s.regs) && ok .shadow (u.shadow == s.shadow)
    && ok .commits (u.commits == s.commits) && ok .now (u.time.now == s.time.now) && ok .time (u.time.rest == s.time.rest)
    && ok .arbs (u.arbs == s.arbs)
    && ok .hif (u.hif == s.hif) && ok .serve (u.serve == s.serve) && ok .lst (u.lst == s.lst) && ok .ctl (u.ctl == s.ctl)
    && ok .mem (u.mem == s.mem) && ok .sms (u.sms == s.sms) && ok .fab (u.fab == s.fab) && ok .lnk (u.lnk == s.lnk)
    && ok .ptm (u.ptm == s.ptm) && ok .pwr (u.pwr == s.pwr) && ok .mgt (u.mgt == s.mgt) && ok .free (u.free == s.free)

/-- `RegsBut` decided for the listed registers. -/
def regsBut (l : List (Fld × Nat)) (s u : State) : Bool :=
  let rest (m : SMap Nat) : SMap Nat := m.filter fun e => !(l.any fun f => f.1.key f.2 == e.1)
  rest s.regs == rest u.regs

/-- The module after its firmware is READY. -/
def up : State :=
  { (State.reset.wr CPX_FW_STATUS_STAGE 3) with
    pwr := { State.reset.pwr with perst := false }, ctl := { State.reset.ctl with ready := true }
    mgt := { State.reset.mgt with app := true } }

/-- The outcome is a next state in which only the listed areas may have changed and a condition holds. -/
def ends (A : List Area) (s : State) (c : Instr) (p : State → Bool) : Bool :=
  after (exec c s) fun u => sameBut A s u && p u

/-- `State.counted` decided. -/
def counts (s u : State) (f : Fld) (n : Nat := 1) (bank : Nat := 0) : Bool :=
  u.rd f bank == min (maxOf f.width) (s.rd f bank + n)

/-! Registers, counters and enables. -/

theorem test_StepRunsTheFrontCommand :
    after (step { up with pending := [.amfCntClr 5 0, .ccvCntClr 6 0] }) (fun u => u.pending == [.ccvCntClr 6 0] && u.now == 5) = true
    ∧ after (step up) (fun u => u == up) = true := by decide +kernel


theorem test_CountersClear :
    (up.accepts 0 = true)
    ∧ ends [.regs, .now] (up.wr AMF_PASS_CNT_COUNT 7 3) (.amfCntClr 5 0) (fun u => u.rd AMF_PASS_CNT_COUNT 3 == 0 && u.now == 5
          && regsBut [(AMF_PASS_CNT_COUNT, 3)] (up.wr AMF_PASS_CNT_COUNT 7 3) u) = true
    ∧ ends [.regs, .now] (up.wr LNK_Pp_CRC_ERR_COUNT 7 5) (.lnkCntClr 5 0) (fun u => u.rd LNK_Pp_CRC_ERR_COUNT 5 == 0) = true
    ∧ ends [.regs, .now, .fab] (up.withFab { up.fab with logHolds := [(8, { LogHold.init with held := true })] }) (.amfCntClr 5 0) (fun u =>
    u.fab.logHolds == [(8, { LogHold.init with held := true })]) = true
    ∧ ends [.now] (up.wr LNK_Pp_CRC_ERR_COUNT 7 5) (.lnkCntClr 5 1) (fun u => u.rd LNK_Pp_CRC_ERR_COUNT 5 == 7) = true := by decide +kernel


/-- KVM with 512 pages of tier A beside its table, above the firmware's region. -/
def pools : State := ((up.wr KVM_POOL_A_FIRST_PAGE 300000).wr KVM_POOL_A_COUNT_COUNT 512).wr KVM_TBL_BASE_ADDR 0x600000000
  |>.wr KVM_TBL_SIZE_SIZE_MIB 32
/-- A torus of 2 × 1 × 1 with this module at its origin. -/
def torus : State := ((up.wr LNK_TORUS_DIM_X 1).wr LNK_PART_EXT 1).wr LNK_PART_ID_PART 9

theorem test_BlocksAreEnabled :
    (up.accepts 0 = true)
    ∧ (pools.bit KVM_CTRL_EN = false)
    ∧ (pools.kvmSettingsOk = true)
    ∧ ends [.regs, .now] pools (.kvmCtrlEn 1 0) (fun u => regsBut [(KVM_CTRL_EN, 0)] pools u && u.bit KVM_CTRL_EN) = true
    ∧ (up.kvmSettingsOk = false)
    ∧ ends [.regs, .now] up (.kvmCtrlEn 1 0) (fun u => u.bit KVM_CTRL_CFG_ERR) = true
    ∧ (pools.lstSettingsOk = true)
    ∧ ends [.regs, .now] pools (.lstCtrlEn 1 0) (fun u => u.bit LST_CTRL_EN) = true
    ∧ ((pools.wr LST_OBJ_BASE_ADDR (2 ^ 42)).lstSettingsOk = false)
    ∧ ends [.regs, .now] (pools.wr LST_OBJ_BASE_ADDR (2 ^ 42)) (.lstCtrlEn 1 0) (fun u => u.bit LST_CTRL_CFG_ERR && !u.bit LST_CTRL_EN) = true
    ∧ ends [.regs, .now] up (.lstTrustLock 1 0) (fun u => u.bit LST_TRUST_LOCK_LOCK) = true
    ∧ (torus.bit LNK_CTRL_EN = false)
    ∧ (torus.linkCfgOk = true)
    ∧ ends [.regs, .now, .lnk] torus (.lnkCtrlEn 1 0 true) (fun u => u.bit LNK_CTRL_EN && u.rd LNK_Pp_STATUS_STATE 0 == 1
          && u.rd LNK_Pp_STATUS_STATE 1 == 1 && u.rd LNK_Pp_STATUS_STATE 2 == 0) = true
    ∧ ((torus.wr LNK_CTRL_EN 1).partitionBusy = false)
    ∧ ends [.regs, .now, .lnk] ((torus.wr LNK_CTRL_EN 1).wr LNK_Pp_STATUS_STATE 2 0) (.lnkCtrlEn 1 0 false)
          (fun u => !u.bit LNK_CTRL_EN && u.rd LNK_Pp_STATUS_STATE 0 == 0) = true
    ∧ ((torus.wr LNK_PART_EXT 2).linkCfgOk = false)
    ∧ ends [.regs, .now] (torus.wr LNK_PART_EXT 2) (.lnkCtrlEn 1 0 true) (fun u => u.bit LNK_CTRL_CFG_ERR && !u.bit LNK_CTRL_EN) = true := by decide +kernel


theorem test_RegistersAreWritten :
    (up.accepts 0 = true)
    ∧ (up.configOn = true)
    ∧ (up.bit LNK_CTRL_EN = false)
    ∧ ends [.regs, .now] up (.registerWrite 1 0 0 LNK_MODULE_NUM.addr 4 0xFFFF1234 false)
          (fun u => u.rd LNK_MODULE_NUM == 0x234 && regsBut [(LNK_MODULE_NUM, 0)] up u) = true
    ∧ ends [.now] (up.wr LNK_CTRL_EN 1) (.registerWrite 1 0 0 LNK_MODULE_NUM.addr 4 0xFFFF1234 false) (fun _ => true) = true
    ∧ ends [.shadow, .now] up (.registerWrite 1 0 0 CPX_BAR_TIMEOUT_TICKS.addr 4 0x70123 false)
          (fun u => u.shadow == [⟨.cpx, CPX_BAR_TIMEOUT_TICKS.key 0, CPX_BAR_TIMEOUT_TICKS.reset, 0x123⟩]) = true
    ∧ ends [.regs, .now] (up.wr CPX_DBG_STATUS_REFUSED 1) (.registerWrite 1 0 0 CPX_DBG_STATUS_REFUSED.addr 4 1 false)
          (fun u => !u.bit CPX_DBG_STATUS_REFUSED) = true
    ∧ ends [.regs, .now] up (.registerWrite 1 0 0 LNK_MODULE_NUM.addr 2 1 false)
          (fun u => counts up u HIF_BAD_ACCESS_CNT_COUNT && regsBut [(HIF_BAD_ACCESS_CNT_COUNT, 0)] up u) = true
    ∧ ends [.regs, .now] up (.registerWrite 1 0 0 (LNK_MODULE_NUM.addr + 4) 8 1 false) (fun u => counts up u HIF_BAD_ACCESS_CNT_COUNT || true) = true
    ∧ ends [.now, .hif] up (.registerWrite 1 0 0 LNK_MODULE_NUM.addr 4 1 true)
          (fun u => u.hif == { up.hif with aer := [(0, "Poisoned TLP Received")] }) = true := by decide +kernel


/-- The module with one virtual function. -/
def vf : State := up.withHif { up.hif with vfEnable := true, numVfs := 1 }

theorem test_RegistersAreWrittenByVf :
    (vf.fnExists 1 = true)
    ∧ ends [.now] vf (.registerWrite 1 1 0 LNK_MODULE_NUM.addr 4 5 false) (fun _ => true) = true
    ∧ ends [.now] vf (.registerWrite 1 1 0 0x9008 4 5 false) (fun _ => true) = true := by decide +kernel


theorem test_RegistersAreRead :
    (up.hif.latches = [])
    ∧ (up.ctl.ready = true)
    ∧ ends [.now, .hif] (up.wr LNK_MODULE_NUM 0x345) (.halfLatchRead 1 0 0 LNK_MODULE_NUM.addr 4)
          (fun u => u.hif == { up.hif with readData := 0x345 }) = true
    ∧ ends [.now, .hif] up (.halfLatchRead (2 ^ 32 * 7 + 5) 0 0 TWS_TIME_NS.addr 4)
          (fun u => u.hif.readData == 5 && SMap.get 0 u.hif.latches (latchKey 0 0 (TWS_TIME_NS.addr + 4)) == 8) = true
    ∧ (up.bit CPX_CTRL_DBG_EN = false)
    ∧ ends [.regs, .now, .hif] up (.cpxDbgDataRead 1 0) (fun u => u.hif.readData == 0 && u.bit CPX_DBG_STATUS_REFUSED
          && regsBut [(CPX_DBG_STATUS_REFUSED, 0)] up u) = true
    ∧ ((up.wr CPX_CTRL_DBG_EN 1).regionOf 0 64 = 3)
    ∧ (State.reset.ctl.ready = false)
    ∧ ends [.now, .hif] { State.reset with pwr := up.pwr } (.halfLatchRead 1 0 0 LNK_MODULE_NUM.addr 4)
          (fun u => u.hif == { up.hif with readData := 0 }) = true
    ∧ ends [.now, .hif] (up.withHif { up.hif with latches := [(latchKey 0 0 0x100, 10)] }) (.halfLatchRead 1 0 0 0x100 4)
          (fun u => u.hif.readData == 9 && u.hif.latches == []) = true := by decide +kernel

theorem test_VirtualFunctionsSeeNoLst :
    ends [.now] vf (.registerWrite 1 1 0 0x00500000 4 5 false) (fun _ => true) = true
    ∧ ends [.now, .hif] (vf.withHif { vf.hif with readData := 9 }) (.halfLatchRead 1 1 0 0x005FFFFC 4) (fun u => u.hif.readData == 0) = true := by decide +kernel

/-! Queues, doorbells, functions. -/

/-- A queue of the physical function, ACTIVE, with rings of 64 entries. -/
def ring : State := ((((((up.wr KVM_FN_SESSIONS_LIMIT 4).wr HIF_Q_STATUS_ASSIGNED 1 3).wr HIF_Q_STATUS_STATE 1 3).wr HIF_Q_SIZE_SQ_LOG2 6 3).wr HIF_Q_SIZE_CQ_LOG2 6 3).wr
  HIF_Q_SIZE_TQ_LOG2 6 3).wr HIF_Q_CTRL_EN 1 3

theorem test_DoorbellsMoveIndexes :
    (ring.rd CPX_FW_STATUS_STAGE = 3)
    ∧ (ring.ownsQueue (ring.owner 3) 3 = true)
    ∧ (ring.bellOk 3 .sqTail 64 = true)
    ∧ (ring.bellOk 3 .sqTail 65 = false)
    ∧ ((ring.queue 3).waiting = [])
    ∧ ends [.regs, .now, .hif] ring (.sqTail 9 0 3 64) (fun u => u.queue 3 == { ring.queue 3 with sqTail := 64 }
    && regsBut [(PTM_PSTATE_REQ, 0), (PTM_PSTATE_STATE, 0)] ring u) = true
    ∧ ends [.regs, .now, .hif, .fab, .ptm] (ring.wr PTM_PSTATE_STATE 1) (.sqTail 9 0 3 64) (fun u => u.rd PTM_PSTATE_STATE == 3
    && regsBut [(PTM_PSTATE_REQ, 0), (PTM_PSTATE_STATE, 0)] ring u) = true
    ∧ ((ring.setQueue 3 { ring.queue 3 with cqTail := 5, tqTail := 5 }).bellOk 3 .cqHead 5 = true)
    ∧ ends [.now, .hif] (ring.setQueue 3 { ring.queue 3 with cqTail := 5, tqTail := 5 }) (.cqHead 9 0 3 5) (fun u => (u.queue 3).cqHead == 5) = true
    ∧ ends [.now, .hif] (ring.setQueue 3 { ring.queue 3 with cqTail := 5, tqTail := 5 }) (.tqHead 9 0 3 5) (fun u => (u.queue 3).tqHead == 5
    && u.hif == { ring.hif with queues := u.hif.queues }) = true
    ∧ ends [.regs, .now, .hif] ring (.cqHead 9 0 3 1) (fun u => u.bit HIF_Q_STATUS_DB_ERR 3 && counts ring u HIF_DB_ERR_CNT_COUNT
    && u.queue 3 == ring.queue 3) = true
    ∧ ends [.regs, .now, .hif] ring (.sqTail 9 0 3 65) (fun u => u.bit HIF_Q_STATUS_DB_ERR 3 && u.queue 3 == ring.queue 3) = true
    ∧ ends [.now] (ring.setQueue 3 { ring.queue 3 with sqTail := 64 }) (.sqTail 9 0 3 64) (fun _ => true) = true
    ∧ ends [.now] ring (.sqTail 9 1 3 64) (fun _ => true) = true := by decide +kernel

theorem test_QueuesAreSetUp :
    ((ring.wr HIF_Q_STATUS_STATE 0 3).ownsQueue 0 3 = true)
    ∧ ((ring.wr HIF_Q_STATUS_STATE 0 3).ringSizesOk 3 = true)
    ∧ ends [.regs, .now, .hif] ((ring.wr HIF_Q_STATUS_STATE 0 3).setQueue 3 { ring.queue 3 with cqTail := 5 }) (.hifQEnable 1 0 3)
    (fun u => u.rd HIF_Q_STATUS_STATE 3 == 1 && u.bit HIF_Q_CTRL_EN 3 && u.queue 3 == QueueSt.init
      && regsBut [(HIF_Q_STATUS_STATE, 3), (HIF_Q_CTRL_EN, 3)] ring u) = true
    ∧ (((ring.wr HIF_Q_STATUS_STATE 0 3).wr HIF_Q_SIZE_TQ_LOG2 17 3).ringSizesOk 3 = false)
    ∧ ends [.regs, .now] ((ring.wr HIF_Q_STATUS_STATE 0 3).wr HIF_Q_SIZE_TQ_LOG2 17 3) (.hifQEnable 1 0 3) (fun u =>
    u.bit HIF_Q_STATUS_CFG_ERR 3 && u.rd HIF_Q_STATUS_STATE 3 == 0) = true
    ∧ ends [.regs, .now] ring (.hifQDisable 1 0 3) (fun u => u.rd HIF_Q_STATUS_STATE 3 == 2 && !u.bit HIF_Q_CTRL_EN 3
    && regsBut [(HIF_Q_STATUS_STATE, 3), (HIF_Q_CTRL_EN, 3)] ring u) = true
    ∧ ((ring.wr HIF_Q_STATUS_STATE 2 3).drained 3 = true)
    ∧ ends [.regs, .now] (ring.wr HIF_Q_STATUS_STATE 2 3) (.queueDrained 1 3) (fun u => u.rd HIF_Q_STATUS_STATE 3 == 0) = true
    ∧ ((up.wr HIF_FN_SEL_FN 2).rangeOk 2 240 16 = true)
    ∧ ends [.regs, .now] (up.wr HIF_FN_SEL_FN 2) (.hifFnQueues 1 0 (240 + 256 * 16)) (fun u => u.owner 240 == 2 && u.owner 255 == 2
    && u.bit HIF_Q_STATUS_ASSIGNED 255 && u.queuesOf 2 == natsFrom 240 16) = true
    ∧ ((up.wr HIF_FN_SEL_FN 2).rangeOk 2 241 16 = false)
    ∧ ends [.regs, .now] (up.wr HIF_FN_SEL_FN 2) (.hifFnQueues 1 0 (241 + 256 * 16)) (fun u => u.bit HIF_FN_QUEUES_ERR 2
    && regsBut [(HIF_FN_QUEUES_ERR, 2)] (up.wr HIF_FN_SEL_FN 2) u) = true := by decide +kernel

theorem test_RingIndexesRunFree :
    (occupancy 3 0xFFFFFFFC = 7)
    ∧ ends [.now, .arbs, .hif] (ring.setQueue 3 { ring.queue 3 with cqTail := 0xFFFFFFFF, cqHead := 0xFFFFFFFF })
    (.nop 7 ⟨0, 3, 0, 0, 42, 0, true⟩) (fun u => (u.queue 3).cqTail == 0
      && u.hif.out.head? == some (.completion 3 0xFFFFFFFF (63 * 32) (Completion.encode ⟨42, 0, 0, 0, 0, 7, 0, 0⟩))) = true
    ∧ ((ring.setQueue 3 { ring.queue 3 with sqTail := 1 }).fetchQueue = some 3)
    ∧ ends [.now, .arbs, .hif] (ring.setQueue 3 { ring.queue 3 with sqTail := 1 }) (.submissionFetch 7 (.data 0#512) false []) (fun u =>
    (u.queue 3).sqHead == 1 && (u.queue 3).cqTail == 1) = true
    ∧ ((let u := ring.writeToken 3 (tokenEntry 1 2 false false false false 9)
    (u.queue 3).tqTail == 1 && u.hif.out.head? == some (.token 3 0 0 (tokenEntry 1 2 false false false false 9))) = true) := by decide +kernel

/-- A vector of the physical function that ring 3 signals. -/
def bells : State := (((ring.wr HIF_Q_VEC_CQ_EN 1 3).wr HIF_Q_VEC_CQ_VEC 63 3).setFn 0 { ring.fn 0 with msixEnable := true }).setVec 0 63
  ⟨false, false, 0x1000, 77⟩ |>.setQueue 3 { ring.queue 3 with cqNew := 1 }

theorem test_SignalsAreSent :
    ((bells.advance 5).signalDue 3 false = true)
    ∧ (bells.hostOn 0 = true)
    ∧ ends [.now, .hif] bells (.ringSignal 5 3 false) (fun u => u.hif.out == [.status 3 0 0 0 0, .msix 0 63 0x1000 77] && (u.queue 3).cqNew == 0) = true
    ∧ ends [.now, .hif] (bells.setVec 0 63 ⟨true, false, 0x1000, 77⟩) (.ringSignal 5 3 false) (fun u => u.hif.out == [.status 3 0 0 0 0]
    && u.vec 0 63 == ⟨true, true, 0x1000, 77⟩) = true
    ∧ (bells.fnWrites 0 = true)
    ∧ ends [.now, .hif] bells (.msixUnmask 5 0 (.vector 63 true)) (fun u => u.vec 0 63 == ⟨true, false, 0x1000, 77⟩) = true
    ∧ ends [.now, .hif] (bells.setVec 0 63 ⟨true, true, 0x1000, 77⟩) (.msixUnmask 5 0 (.vector 63 false)) (fun u =>
    u.hif.out == [.msix 0 63 0x1000 77] && u.vec 0 63 == ⟨false, false, 0x1000, 77⟩) = true
    ∧ ends [.now, .hif] ((bells.setFn 0 { bells.fn 0 with fnMask := true }).setVec 0 63 ⟨false, true, 0x1000, 77⟩) (.msixUnmask 5 0 (.control true false))
    (fun u => u.hif.out == [.msix 0 63 0x1000 77] && !(u.fn 0).fnMask) = true := by decide +kernel

theorem test_FunctionResetsBegin :
    (vf.configOn = true)
    ∧ (vf.resetting 1 = false)
    ∧ ends [.regs, .now, .hif, .serve, .lst, .ctl, .lnk] vf (.vfFlr 9 1) (fun u => (u.fn 1).reset == some (9, false)
    && counts vf u HIF_FLR_CNT_COUNT && counts vf u HIF_FN_STATE_RESETS 1 1) = true
    ∧ ends [.regs, .now, .hif, .serve, .lst, .ctl, .lnk] (vf.wr HIF_FN_SEL_FN 1) (.hifFnResetFlr 9 0) (fun u => (u.fn 1).reset == some (9, false)) = true
    ∧ ends [.regs, .now, .hif, .serve, .lst, .ctl, .lnk] (vf.wr HIF_FN_SEL_FN 1) (.hifFnResetServe 9 0) (fun u => (u.fn 1).reset == some (9, true)) = true
    ∧ ends [.regs, .now, .hif, .serve, .lst, .ctl, .lnk] vf (.hifCtrlServeReset 9 0) (fun u => (u.fn 0).reset == some (9, true)) = true
    ∧ ends [.regs, .now, .hif, .serve, .lst, .ctl, .lnk] vf (.hifVfCtrlServeReset 9 1) (fun u => (u.fn 1).reset == some (9, true)) = true
    ∧ ends [.now] (vf.setFn 1 { vf.fn 1 with reset := some (1, false) }) (.vfFlr 9 1) (fun _ => true) = true
    ∧ ends [.now] (vf.setFn 1 { vf.fn 1 with reset := some (1, false) }) (.hifVfCtrlServeReset 9 1) (fun _ => true) = true := by decide +kernel

theorem test_FunctionResetsEnd :
    ends [.regs, .now, .hif, .serve, .lst] ((vf.setFn 1 { vf.fn 1 with reset := some (9, false), msixEnable := true }).setVec 1 5 ⟨false, true, 4, 4⟩)
    (.functionResetReady 10 1) (fun u => u.now == 95000009 && (u.fn 1).reset.isNone && !(u.fn 1).msixEnable && u.vec 1 5 == MsixSt.init) = true := by decide +kernel

theorem test_FunctionsComeAndGo :
    (up.hif.vfEnable = false)
    ∧ ends [.now, .hif] up (.vfEnableSet 1 31 true) (fun u => u.fnExists 31 && !u.fnExists 32) = true
    ∧ ends [.now, .hif] up (.vfEnableSet 1 7 false) (fun u => u.fnExists 7 && !u.fnExists 8) = true
    ∧ ends [.now] up (.vfEnableSet 1 8 false) (fun _ => true) = true
    ∧ ends [.regs, .now, .hif, .serve, .lst, .ctl, .lnk] vf (.vfEnableClear 4) (fun u => !u.hif.vfEnable && (u.fn 1).reset == some (4, false)
    && (u.fn 2).reset.isNone) = true
    ∧ ends [.now, .hif] vf (.functionPowerState 4 1 true) (fun u => (u.fn 1).d3) = true
    ∧ ends [.regs, .now, .hif, .serve, .lst, .ctl, .lnk] vf (.pfFlr 4) (fun u => (u.fn 0).pfFlr && (u.fn 0).reset == some (4, false)
    && (u.fn 1).reset == some (4, false) && !u.hif.vfEnable) = true
    ∧ ends [.now] (vf.setFn 0 { vf.fn 0 with pfFlr := true }) (.pfFlr 4) (fun _ => true) = true := by decide +kernel

theorem test_HostErrors :
    ends [.regs, .now, .hif] ring (.completionTimeout 4 (.fetch 3)) (fun u => u.rd HIF_Q_STATUS_STATE 3 == 3 && u.bit HIF_Q_STATUS_FETCH_ERR 3
    && counts ring u HIF_FETCH_ERR_CNT_COUNT && counts ring u HIF_CPL_TIMEOUT_CNT_COUNT && u.hif.aer == [(0, "Completion Timeout")]) = true
    ∧ ends [.regs, .now, .hif, .serve, .sms] ring (.hifUncorrectable 4 2) (fun u => u.hif.stopped && !u.hostOn 3 && u.sms.log.length == 1) = true := by decide +kernel

/-! Sessions and their requests. -/

/-- The header of an entry read from ring 3. -/
def hdr : EntryHdr := ⟨0, 3, 0, 0, 42, 0x77, true⟩
/-- An empty session of function 0, and one that holds a prompt of three tokens with the next one pending. -/
def s0 : Session := mkSession 1 0x77 0 2 3 0 0
def s3 : Session := { s0 with committed := 3, written := 3, tokenPages := [5], pending := some 10 }
/-- Ring 3 with the given sessions. -/
def sess (l : List Session) : State := { ring with serve := { ring.serve with sessions := l } }
/-- A completion stands in what the host has received. -/
def posted (u : State) (c : Completion) : Bool := u.hif.out.any fun w => match w with
  | .completion 3 _ _ e => e == c.encode
  | _ => false
def gen5 : GenerateOps := ⟨⟨0, 0, 0#16, 0#16, 0#16, 0⟩, 5, 0, 0xFFFFFF, 0xFFFFFF, 0, 0, 0, 0⟩
def tune9 : TuneOps := ⟨9, 0#16, 0, 0, 0⟩
def prompt4 (n : Nat) : PromptOps := ⟨⟨0, 0, 0#16, 0#16, 0#16, 0⟩, n, 4⟩

theorem test_RingEntriesComplete :
    (ring.hostOn (ring.owner 3) && (ring.queue 3).waiting.isEmpty && (ring.queue 3).fences.isEmpty)
    ∧ ends [.now, .arbs, .hif] ring (.nop 7 hdr) (fun u => posted u ⟨42, 0, 0, 0, 0, 7, 0, 0⟩) = true
    ∧ ends [.now, .arbs, .hif] ring (.fence 7 hdr) (fun u => posted u ⟨42, 0, 0x1F, 0, 0, 7, 0, 0⟩) = true
    ∧ ends [.now, .arbs, .hif] ((ring.setQueue 3 { ring.queue 3 with open_ := [4] }).withHif { (ring.setQueue 3 { ring.queue 3 with open_ := [4] }).hif with serial := 5 })
    (.fence 7 hdr) (fun u => (u.queue 3).fences == [(5, 42)] && u.hif.out == []) = true := by decide +kernel

theorem test_SessionOpens :
    (ring.isHome = true)
    ∧ (ring.handleTaken 0 0x77 = false)
    ∧ (ring.fnOpen 0 < ring.rd KVM_FN_SESSIONS_LIMIT 0)
    ∧ ends [.now, .arbs, .hif, .serve, .free] ring (.sessionOpen 7 hdr 2 3) (fun u => u.serve.sessions.length == 1
    && u.serve.sessions.all (fun x => x.handle == 0x77 && x.job == 2 && x.prio == 3 && x.state == .active && x.committed == 0 && x.queue.isEmpty)
    && (u.job 0 2).isSome && posted u ⟨42, 0, 1, 0, 0x77, 7, 0, 0⟩) = true := by decide +kernel

theorem test_CancelAndClose :
    ((sess [s3]).openSess 0 0x77 = some s3)
    ∧ ends [.now, .arbs, .hif, .serve] (sess [{ s3 with queue := [{ mkRequest 9 { hdr with tag := 6 } (.generate gen5) with phase := .accepted }] }])
    (.cancel 7 hdr 6) (fun u => (u.sess 1).any (·.queue.isEmpty) && posted u ⟨42, 0, 8, 0, 0x77, 7, 6, 0⟩
      && u.hif.out.any (fun w => match w with | .completion _ _ _ e => e.toNat % 2 ^ 48 == 6 + 2 ^ 32 + 3 * 2 ^ 40 | _ => false)) = true
    ∧ ends [.now, .arbs, .hif] (sess [s3]) (.cancel 7 hdr 6) (fun u => posted u ⟨42, 2, 8, 0, 0x77, 7, 6, 0⟩) = true
    ∧ ends [.now, .arbs, .hif, .serve] (sess [s3, { s0 with num := 2, handle := 8 }]) (.close 7 hdr) (fun u => (u.sess 1).isNone
    && u.sess 2 == some { s0 with num := 2, handle := 8 } && posted u ⟨42, 0, 9, 0, 0x77, 7, 3, 0⟩) = true := by decide +kernel

theorem test_RunRequestsAreAccepted :
    ((sess [s0]).openSess 0 0x77 = some s0)
    ∧ ((sess [s0]).sess 1 = some s0)
    ∧ ends [.now, .arbs, .hif, .serve] (sess [s0]) (.prefill 7 hdr (prompt4 1048576)) (fun u => (u.sess 1).any fun x => x.queue ==
    [{ mkRequest 0 hdr (.prompt true (prompt4 1048576)) with phase := .accepted, acceptAt := 7, readyAt := 7, mayLaunch := u.firstK 7 }]) = true
    ∧ ends [.now, .arbs, .hif, .serve] (sess [s3]) (.append 7 hdr (prompt4 1048572)) (fun u => (u.sess 1).any fun x => x.queue.map (·.phase) == [.accepted]) = true
    ∧ ends [.now, .arbs, .hif, .serve] (sess [s3]) (.generate 7 hdr gen5) (fun u => (u.sess 1).any fun x => x.queue.map (·.phase) == [.accepted]) = true
    ∧ (((sess [s3]).withLst { up.lst with adapters := [⟨0, 1, 4, none⟩] }).adapterLoaded 0 1 = true)
    ∧ ends [.now, .arbs, .hif, .serve] ((sess [s3]).withLst { up.lst with adapters := [⟨0, 1, 4, none⟩] }) (.adapterTune 7 { hdr with adapter := 1 } tune9)
    (fun u => (u.sess 1).any fun x => x.queue.map (·.phase) == [.accepted]) = true := by decide +kernel

/-- A column of one page in a tier. -/
def col (i : Nat) (b : Bool) : Column := ⟨i, b, 1, 0x2000000 + 16 * i, [40 + i], false, 0, 0, false, none, 0⟩

/-- Ring 3 with KVM's pools on, quotas for function 0, and sessions. -/
def kv (l : List Session) : State := ((((((((sess l).wr KVM_TBL_SIZE_SIZE_MIB 64).wr KVM_CTRL_EN 1).wr KVM_POOL_A_FIRST_PAGE 300000).wr KVM_POOL_A_COUNT_COUNT 512).wr KVM_POOL_B_FIRST_PAGE 0).wr
  KVM_POOL_B_COUNT_COUNT 512).wr KVM_FN_QUOTA_A_PAGES 512 0).wr KVM_FN_QUOTA_B_PAGES 512 0

theorem test_PauseAndResume :
    ((kv [{ s3 with columns := [col 0 false] }]).cstFits 0 1 = true)
    ∧ ((kv [{ s3 with columns := [col 0 false] }]).fits 0 true 1 = true)
    ∧ ({ s3 with columns := [col 0 false] }.nextColumn false = some (col 0 false))
    ∧ ends [.now, .arbs, .hif, .serve] (sess [s3]) (.pause 7 hdr 100) (fun u => u.sess 1 == some { s3 with state := .paused, pausedAt := 7, expiry := 107 }
    && posted u ⟨42, 0, 5, 0, 0x77, 7, 3, 0⟩) = true
    ∧ ends [.now, .arbs, .hif, .serve, .free] (kv [{ s3 with columns := [col 0 false] }]) (.pause 7 hdr 0) (fun u => (u.sess 1).any fun y =>
    y.state == .pausing && y.pausedAt == 7 && y.expiry == 0 && y.columns.map (fun c => (c.pages, c.tierB, c.move.map (·.1.length))) == [([40], false, some 1)]) = true
    ∧ ends [.regs, .now, .arbs, .time, .hif, .serve, .mem, .free] (sess [{ s3 with columns := [col 0 false] }]) (.pause 7 hdr 100) (fun u => (u.sess 1).any fun y =>
    y.state == .pausing && y.expiry == 107 && y.columns.map (fun c => (c.pages, c.move)) == [([40], none)]) = true
    ∧ ends [.now, .arbs, .hif, .serve] (sess [{ s3 with state := .paused, expiry := 9, pausedAt := 3 }]) (.resume 7 hdr) (fun u => u.sess 1 == some s3
    && posted u ⟨42, 0, 6, 0, 0x77, 7, 3, 0⟩) = true
    ∧ ends [.now, .arbs, .hif, .serve] (sess [{ s3 with state := .paused, expiry := 9, columns := [col 0 true] }]) (.resume 7 hdr) (fun u =>
    (u.sess 1).any (fun y => y.state == .resuming && y.expiry == 0 && y.queue.map (·.tag) == [42]) && u.hif.out == []) = true
    ∧ ends [.now, .arbs, .hif, .serve] (sess [s3]) (.resume 7 hdr) (fun u => u.sess 1 == some s3 && posted u ⟨42, 0, 6, 0, 0x77, 7, 3, 0⟩) = true := by decide +kernel

def clone8 : Session := { s3 with num := 2, handle := 8, columns := [col 0 false], cloneOf := some (1, 9, 3, 6) }

theorem test_CloneCopies :
    ((kv [{ s3 with columns := [col 0 false] }]).fits 0 false 1 = true)
    ∧ ((kv [{ s3 with columns := [col 0 false] }]).fits 0 true 1 = true)
    ∧ ((kv [s3]).handleTaken 0 8 = false)
    ∧ ((let s := kv [s3]; (s.placeExtents (s.extents 65536) []).1.isSome) = true)
    ∧ ((kv [s3]).fits 0 true (ceilDiv 3 16384) = true)
    ∧ ends [.regs, .now, .arbs, .time, .hif, .serve, .mem, .free] (kv [s0]) (.clone 7 hdr 8 0 false) (fun u => u.hif.out == []
    && u.serve.sessions.any (fun y => y.handle == 8 && y.prio == 3 && y.tokenPages == [] && y.columns == [] && y.cloneOf == some (1, 0, 3, 42))) = true
    ∧ (((kv [s3, clone8]).advance 1000000000).copyEnd clone8.copyFrom 2 ≤ ((kv [s3, clone8]).advance 1000000000).copyCap)
    ∧ ends [.regs, .now, .arbs, .hif, .serve, .mem, .free] (kv [s3, clone8]) (.cloneComplete 1000000000 0 8 []) (fun u => u.sess 2 == some { clone8 with cloneOf := none }
    && counts (kv [s3]) u KVM_CLONE_CNT_COUNT && posted u ⟨6, 0, 7, 0, 8, 1000000000, 3, 0⟩) = true := by decide +kernel

/-! Requests, slots and steps. -/

/-- The wheel runs with slots of 32 µs and a budget, a generation is current, and the sessions are given. -/
def wheel (l : List Session) : State :=
  let s := ((((kv l).wr TWS_CTRL_RUN 1).wr TWS_FN_SHARE_WEIGHT 1 0).wr KVM_TBL_SIZE_SIZE_MIB 64).withLst { up.lst with current := some (0, 1) }
  s.withPtm { s.ptm with capNow := 300 }
def gReq : Request := { mkRequest 9 hdr (.generate gen5) with phase := .accepted }
def gSess : Session := { s3 with gen := 1, queue := [gReq], columns := (List.range 9).map fun i => { col i false with gen := 1 } }
def plan : AdmitPlan := ⟨0, 1, 1, [0], .data [], 0, [], ⟨0, 0, 0, none⟩, []⟩

theorem test_RequestsAreAdmitted :
    ends [.now, .serve] (sess [{ s3 with queue := [{ gReq with phase := .queued }] }]) (.sessionQueueAccept 7 0 0x77) (fun u =>
    (u.sess 1).any fun x => x.queue.map (fun r => (r.phase, r.acceptAt)) == [(.accepted, 7)]) = true
    ∧ ((sess [s3]).runCheck s3 gReq = none)
    ∧ ((wheel [gSess]).admissible gSess gReq 0 = true)
    ∧ ((wheel [gSess]).firstInOrder gSess gReq 0 = true)
    ∧ ((wheel [gSess]).energyFits 0 0 ((wheel [gSess]).estimate gSess gReq) = true)
    ∧ ((wheel [gSess]).admitCheck gSess gReq 1 plan.buffer = none)
    ∧ ((wheel [gSess]).cstFits 0 ((wheel [gSess]).stepBlocks gSess plan) = true)
    ∧ ends [.regs, .now, .arbs, .time, .hif, .serve, .ctl, .mem, .lnk, .free] (wheel [gSess]) (.requestAdmit 0 0 0x77 plan) (fun u =>
    (u.sess 1).any (fun x => x.queue.map (fun r => (r.phase, r.gen, r.c0, r.launch)) == [(.admitted, 1, 3, u.serve.launches.map (·.id) |>.headD 99)])
    && u.serve.launches.map (fun l => (l.slot, l.inFlight, l.fn, l.job, l.gen)) == [(0, false, 0, 2, 1)]
    && u.serve.launches.all (fun l => l.entries.any fun e => e.session == 1 && e.serial == 9)) = true
    ∧ ((let r : Request := { mkRequest 9 hdr (.prompt true (prompt4 4)) with phase := .accepted }
  let x : Session := { s0 with queue := [r] }
  (wheel [x]).admissible x r 0 && (wheel [x]).firstInOrder x r 0 && (wheel [x]).energyFits 0 0 ((wheel [x]).estimate x r)
    && ends [.regs, .now, .arbs, .hif, .serve, .ctl, .lnk, .free] (wheel [x]) (.requestAdmit 0 0 0x77 { plan with buffer := .error }) (fun u =>
      posted u ⟨42, 0x34, 2, 0, 0x77, 0, 0, 0⟩)) = true) := by decide +kernel

/-- The premise of an admission on its allocation: the step's positions have their columns and token page already. -/
theorem test_admission_allocates (a : SMap Arbiter) (lo hi tok : Nat) (h : hi ≤ 2051) (ht : tok ≤ 2051) :
    ((((wheel [gSess]).advance 0).withArbs a).allocStep gSess.num plan.layerHeads 1 lo hi tok).1 = true := by
  have all : ∀ i < 9, gSess.columns.any (·.index == i) = true := by decide +kernel
  have hm : gSess.missing lo hi = [] := by
    unfold Session.missing
    show (if hi ≤ lo then [] else _) = _
    split
    · rfl
    · refine List.filter_eq_nil_iff.mpr fun i hi' => ?_
      obtain ⟨j, hj, rfl⟩ := List.mem_map.mp hi'
      have := List.mem_range.mp hj
      have hw : colSpan gSess.kvFmt = 256 := by decide
      rw [hw] at this ⊢
      simp [all (lo / 256 + j) (by omega)]
  have frame {s : State} {a : SMap Arbiter} {n : Nat} : (s.withArbs a).sess n = s.sess n := rfl
  have hp : gSess.missingTokenPages tok = 0 := by
    show ceilDiv tok 16384 - 1 = 0
    rw [ceilDiv, if_neg (by decide)]
    omega
  have hs : (((wheel [gSess]).advance 0).withArbs a).sess gSess.num = some gSess :=
    Eq.trans (frame (a := a)) (by decide +kernel : ((wheel [gSess]).advance 0).sess gSess.num = some gSess)
  unfold State.allocStep
  simp [hs, hm, hp]

theorem test_BoundaryMovesOn :
    ((wheel []).running = true)
    ∧ ((wheel []).boundary 0 ≤ 0)
    ∧ ends [.regs, .commits, .now, .time, .hif, .serve, .lst, .ctl, .mem, .sms, .fab, .ptm, .free] (wheel []) (.slotBoundary 0 true []) (fun u =>
    u.time.nextK == 1 && u.time.slotNow == some 0 && u.inForce TWS_SLOT_NOW_SLOT 0 == 0) = true
    ∧ ends [.now] (let s := wheel []; s.withTime { s.time with nextK := 1 }) (.slotBoundary 31999 true []) (fun _ => true) = true := by decide +kernel

theorem test_TtlExpires :
    ends [.regs, .now, .serve] (wheel [{ s3 with state := .paused, expiry := 1, columns := [col 0 true] }] |>.withTime { up.time with nextK := 1 })
    (.ttlExpire 7 0 0x77) (fun u => counts up u KVM_TTL_EXPIRE_CNT_COUNT
      && (u.sess 1).any fun y => y.state == .paused && y.expired && y.columns.isEmpty && y.committed == 3) = true := by decide +kernel

def dec : Launch := ⟨6, 0, 0, 2, 1, false, false, [0], [⟨1, 9, .decode 1, ⟨0, 0, 0, none⟩⟩], true, false, 0, 1, 0, 0, 0, []⟩
def stepping (l : Launch) (r : Request) : State :=
  let s := wheel [{ s3 with gen := 1, pins := [6], queue := [{ r with launch := 6, phase := .admitted }] }]
  { s with fab := { s.fab with samples := [⟨9, 0, 33, false⟩] }, serve := { s.serve with launches := [l], jobs := [⟨0, 2, 0, false, 0, false, [], false, none, false, 0⟩] } }

theorem test_CompletionsCommit :
    ((stepping dec gReq).launch 6 = some dec)
    ∧ ((stepping dec gReq).mayEnd dec && (stepping dec gReq).sampled 9 1 == some [(33, false)])
    ∧ ends [.regs, .now, .arbs, .hif, .serve, .ctl, .mem, .fab, .lnk, .free] (stepping dec gReq) (.stepComplete 9 6 [⟨9, false, false, false⟩]) (fun u =>
    (u.launch 6).isNone && (u.sess 1).any fun y => y.committed == 4 && y.lastStep == 9 && u.readBytes .tierB (65536 * 5 + 12) 4 == leBytes 4 10 && y.pending == some 33) = true
    ∧ ((let l : Launch := { dec with chunk := true, entries := [⟨1, 9, .prefill 2 false, ⟨0, 0, 0, none⟩⟩] }
  let r : Request := mkRequest 9 hdr (.prompt true (prompt4 4))
  ends [.regs, .now, .hif, .serve, .lst, .ctl, .mem, .fab, .lnk, .free] (stepping l { r with buffer := [5, 6, 7, 8] }) (.chunkComplete 9 6 []) (fun u =>
    (u.launch 6).isNone && (u.sess 1).any fun y => y.committed == 5 && y.queue.map (fun q => (q.done, q.launch)) == [(2, 0)])) = true) := by decide +kernel

def held1 : Held := ⟨50, tokenEntry 42 33 false false false false 50, 3, 9, 0, 0x77, 0⟩
def holding : State := let s := sess [{ s3 with queue := [gReq] }]; { s with serve := { s.serve with held := [held1] } }

theorem test_HeldTokensAreReleased :
    ends [.regs, .now, .arbs, .hif, .serve] holding (.tokenRelease 50 0 0x77) (fun u => u.serve.held == []
    && u.hif.out.head? == some (.token 3 0 0 held1.entry)) = true
    ∧ ends [.now] holding (.tokenRelease 49 0 0x77) (fun _ => true) = true
    ∧ ends [.now] (let s := sess [{ s3 with queue := [{ gReq with cancelAt := some 40 }] }]; { s with serve := { s.serve with held := [held1] } }) (.tokenRelease 50 0 0x77) (fun _ => true) = true := by decide +kernel

/-! Sequencers, engines, barriers and queue entries. -/

/-- The 32 bytes of an entry of an engine with operation 1 and a last header byte (R359). -/
def entB (engine top : Nat) : List Byte := [BitVec.ofNat 8 (16 + engine), 0#8, 0#8, BitVec.ofNat 8 top] ++ List.replicate 28 0#8
def ent : EngineEntry := engineEntry (entB 8 0)
/-- Array core 4 with its sequencer running. -/
def core4 : CoreCtl := { CoreCtl.init with seq := .running }
def ctl (c : CoreCtl) : State := up.setCore 4 c
/-- A queue entry of 64 with valid slot 5. -/
def qent (seen used : Bool) : QEntry := { QEntry.init with validSlot := 5, written := true, visible := seen, consumed := used }

theorem test_SequencerRuns :
    ends [.now, .ctl] (ctl core4) (.enginePush 1 4 (entB 12 0) .good) (fun u => SMap.get [] (u.core 4).queued 12 == [{ ent with engine := 12 }] && (u.core 4).index == 1) = true
    ∧ ends [.now, .ctl] (ctl { core4 with queued := [(8, List.replicate 16 ent)] }) (.enginePush 1 4 (entB 8 0) .good) (fun u =>
    (u.core 4).blocked == some ent && (SMap.get [] (u.core 4).queued 8).length == 16) = true
    ∧ ends [.regs, .now, .arbs, .hif, .serve, .ctl, .sms, .lnk] (ctl core4) (.enginePush 1 4 (entB 8 64) .good) (fun u => (u.core 4).seq == .fault) = true
    ∧ ends [.regs, .now, .arbs, .hif, .serve, .ctl, .sms, .lnk] (ctl core4) (.enginePush 1 4 (entB 13 0) .good) (fun u => (u.core 4).seq == .fault) = true
    ∧ ends [.now, .ctl] (ctl core4) (.barCfg 1 4 63 16) (fun u => (u.core 4).bar 63 == { Barrier.init with count := 16 }) = true
    ∧ ends [.regs, .now, .arbs, .hif, .serve, .ctl, .sms, .lnk] (ctl core4) (.barCfg 1 4 63 0) (fun u => (u.core 4).seq == .fault) = true
    ∧ ends [.regs, .now, .arbs, .hif, .serve, .ctl, .sms, .lnk] (ctl core4) (.barCfg 1 4 63 17) (fun u => (u.core 4).seq == .fault) = true
    ∧ ends [.now, .ctl] ((ctl core4).setEntry 64 (qent true false)) (.waitQ 1 4 64 5) (fun u => u.core 4 == { core4 with index := 1 }) = true
    ∧ ends [.now, .ctl] ((ctl core4).setEntry 64 (qent true true)) (.waitQ 1 4 64 9) (fun u => (u.core 4).seq == .running
    && (u.core 4).stalls == [⟨64, 9, false, true, none⟩]) = true
    ∧ ends [.regs, .now, .arbs, .hif, .serve, .ctl, .sms, .lnk, .mgt] (ctl core4) (.enginePush 1 4 (entB 8 0) (.parity 3 64)) (fun u => (u.core 4).seq == .fault && counts up u SMS_PARITY_CNT_COUNT) = true
    ∧ (((ctl core4).withTime { up.time with slotNow := some 5 }).slotCome 5 = true)
    ∧ ends [.regs, .now, .ctl] ((ctl core4).withTime { up.time with slotNow := some 5 }) (.waitQ 1 4 64 5) (fun u => (u.core 4).seq == .stalled
    && (u.core 4).stalls == [⟨64, 5, false, true, some 1⟩] && counts up u TWS_PLAN_OVERRUN_COUNT && counts up u VEC_FOLD_WAIT_CNT_COUNT 0) = true
    ∧ ends [.now, .ctl] (ctl core4) (.endList 1 4) (fun u => (u.core 4).ended) = true
    ∧ ends [.now, .ctl] (ctl { core4 with ended := true }) (.sequencerStepEnd 1 4) (fun u => u.core 4 == { core4 with seq := .idle }) = true
    ∧ ends [.now, .ctl, .fab] ({ ctl { core4 with ended := true, next := [7, 9] } with
      serve := { up.serve with launches := [⟨7, 0, 0, 0, 0, false, false, [4], [], true, false, 0, 0, 0, 0, 0, []⟩] } }) (.sequencerStepEnd 1 4) (fun u =>
    (u.core 4).seq == .running && (u.core 4).launch == 7 && (u.core 4).next == [9]) = true := by decide +kernel

theorem test_EnginesStartAndRetire :
    ends [.now, .ctl] (ctl { core4 with queued := [(8, [ent, { ent with op := 2 }])] }) (.engineEntryStart 1 4 8) (fun u =>
    u.core 4 == { core4 with queued := [(8, [{ ent with op := 2 }])], flying := [(8, [(ent, 0)])] }) = true
    ∧ ends [.now] (ctl { core4 with queued := [(8, [{ ent with waitEn := true, waitRound := 1 }])] }) (.engineEntryStart 1 4 8) (fun _ => true) = true
    ∧ ends [.now] (ctl { core4 with flying := [(0, [(ent, 0)])] }) (.engineEntryComplete 1 4 0 .good) (fun _ => true) = true
    ∧ ends [.now, .ctl] (ctl { core4 with flying := [(8, [(ent, 0)])] }) (.engineEntryComplete 1 4 8 .good) (fun u => u.core 4 == core4) = true
    ∧ ((let s := (ctl { core4 with flying := [(0, [(ent, 0)])] }); ({ s with fab := { s.fab with issued := [(32, 1)] } } : State).entryRetired 4 0 (ent, 0)) = true) := by decide +kernel

/-- Core 4 with an arrival in flight at barrier 63 of two participants. -/
def arrive (b : Barrier) : State := ctl { core4 with
  flying := [(8, [({ ent with arriveEn := true, arriveBar := 63, part := 1 }, 0)])], barriers := [(63, { b with count := 2 })] }
def bar0 : Barrier := Barrier.init

theorem test_BarriersCompleteRounds :
    ends [.now, .arbs, .ctl] (arrive bar0) (.engineEntryComplete 1 4 8 .good) (fun u => ((u.core 4).bar 63).arrived == 2 && ((u.core 4).bar 63).round == 0) = true
    ∧ ends [.now, .arbs, .ctl] (arrive { bar0 with arrived := 1, early := 1, round := 65535 }) (.engineEntryComplete 1 4 8 .good) (fun u =>
    ((u.core 4).bar 63).arrived == 1 && ((u.core 4).bar 63).early == 0 && ((u.core 4).bar 63).round == 0) = true
    ∧ ends [.now, .arbs, .ctl] (arrive { bar0 with arrived := 2 }) (.engineEntryComplete 1 4 8 .good) (fun u =>
    ((u.core 4).bar 63).early == 2 && ((u.core 4).bar 63).held == [8]) = true
    ∧ ends [.regs, .now, .arbs, .hif, .serve, .ctl, .sms, .lnk] (arrive { bar0 with arrived := 2, early := 2 }) (.engineEntryComplete 1 4 8 .good) (fun u =>
    ((u.core 4).bar 63).faulted && counts up u CPX_BAR_OVERRUN_CNT_COUNT) = true := by decide +kernel

def dbg (b : Barrier) : State := ((ctl { core4 with barriers := [(63, { b with count := 2 })] }).wr CPX_CTRL_DBG_EN 1).wr CPX_BAR_SEL_BAR 63 4

theorem test_BarriersHangAndAreForced :
    ends [.regs, .now, .hif, .sms, .ctl] ((dbg { bar0 with waitFrom := some 5 }).wr CPX_CTRL_HANG_MODE 1) (.barrierHang (5 + 4096000) 4 63) (fun u =>
    ((u.core 4).bar 63).hung && counts up u CPX_BAR_HANG_CNT_COUNT && u.bit SMS_EVENT_JOB_FAULT) = true
    ∧ ends [.regs, .now, .hif, .serve, .sms, .ctl] (dbg { bar0 with hung := true, arrived := 1, early := 2, round := 7 }) (.cpxBarForceRelease 1 0 4) (fun u =>
    (u.core 4).bar 63 == { bar0 with count := 2, arrived := 2, round := 8 } && counts up u CPX_BAR_FORCE_CNT_COUNT) = true
    ∧ ends [.regs, .now, .hif, .serve, .sms, .ctl] ((dbg { bar0 with hung := true, arrived := 1, round := 7 }).wr CPX_BAR_SET_VAL_ARRIVED 2 4 |>.wr CPX_BAR_SET_VAL_EARLY 1 4)
    (.cpxBarForceSet 1 0 4) (fun u => (u.core 4).bar 63 == { bar0 with count := 2, arrived := 2, early := 1, round := 7 }) = true
    ∧ ends [.now] (ctl core4) (.cpxBarForceSet 1 0 4) (fun _ => true) = true := by decide +kernel

theorem test_QueueEntriesAreWritten :
    ends [.now, .ctl, .mem] (ctl core4) (.queueEntryWrite 1 64 5 0 2 [9#8]) (fun u => u.entry 64 == ⟨5, true, false, false, 0, 2, [9#8], [], []⟩) = true
    ∧ ends [.now, .ctl, .mem] ((ctl { core4 with seq := .stalled, stalls := [⟨64, 5, false, true, some 0⟩, ⟨65, 5, true, false, some 0⟩] }).withTime { up.time with slotNow := some 5 })
    (.queueEntryWrite 1 64 5 0 2 [9#8]) (fun u => (u.entry 64).visible && u.core 4 == { core4 with seq := .stalled, stalls := [⟨65, 5, true, false, some 0⟩] } && u.readByte .cst 64 == 9#8) = true
    ∧ ends [.regs, .now, .arbs, .hif, .serve, .ctl, .sms, .lnk] (up.setEntry 64 (qent true false)) (.queueEntryWrite 1 64 6 0 2 [9#8]) (fun u =>
    u.entry 64 == qent true false) = true
    ∧ ends [.regs, .now, .arbs, .hif, .serve, .ctl, .sms, .lnk] (ctl { core4 with seq := .stalled, stalls := [⟨65, 5, true, false, some 9⟩, ⟨64, 5, false, true, some 7⟩] })
    (.queueStallTimeout 256007 4) (fun u => u.core 4 == { core4 with seq := .idle }) = true := by decide +kernel

/-! The fabric: vectors, banks, checks and drains. -/

/-- One matrix on cluster 2 of core 4 in generation 1. -/
def recA : ClusterRec := ⟨7, 4, 2, false, 1, 1, 0, 1, 0, 0⟩
def image1 : ObjSlot := { ObjSlot.init with state := .current, content := { ObjContent.init with clusters := [recA] } }
def fabric : State := (up.wr AMF_CL_MODE_BOUND 4 4).withLst { up.lst with current := some (0, 1), slots := [(0, image1)] }
def zeroBlk : A8Block := ⟨127, true, false, List.replicate 512 0⟩
def vload : VectorOps := ⟨4, 2, 3, 0, []⟩
def act (scale : Nat) : VecBuf := .a8 none 6 [{ zeroBlk with scale := scale, zero := scale != 255 }] []
def sourced (b : VecBuf) : State := fabric.setBuf 4 3 b
def tload : TransposeOps := ⟨4, 2, 7, 3⟩
def grads : VecBuf := .vec none 0 (List.replicate 512 0#32) [] []

theorem test_VectorsLoad :
    (fabric.clusterBound 4 2 = true)
    ∧ ((fabric.bank 4 2 0).state = .free)
    ∧ (((sourced (act 127)).image ((sourced (act 127)).genOf 4 none)).clustersAt 4 2 = [recA])
    ∧ ((match (sourced (act 127)).vectorInput vload [recA] with | some (q, num, bs, dig) => q == none && num == 6 && bs == some zeroBlk :: List.replicate 7 none && dig == [] | none => false) = true)
    ∧ (badScale zeroBlk = false)
    ∧ (badScale { zeroBlk with scale := 255, zero := false } = true)
    ∧ after (exec (.vectorLoad 5 vload) (sourced (act 127))) (fun u => sameBut [.regs, .now, .arbs, .hif, .serve, .ctl, .mem, .sms, .fab, .lnk] (sourced (act 127)) u && (u.bank 4 2 0).state == .loaded
    && (u.bank 4 2 0).num == 6 && (u.bank 4 2 0).driveAt == 21 && (u.bank 4 2 0).flowAt == 21 + 64 * (2 * (u.bank 4 2 0).n - 1) + 136
    && SMap.get 0 u.fab.nextBank 34 == 1 && SMap.get 0 u.fab.busyUntil 34 == 21 + 128 * (u.bank 4 2 0).n) = true
    ∧ ends [.regs, .now, .arbs, .hif, .serve, .ctl, .sms, .fab, .lnk] (sourced (act 255)) (.vectorLoad 5 vload) (fun u => (u.bank 4 2 0).state == .free) = true
    ∧ ends [.regs, .now, .fab] (fabric.setBank 4 2 0 { Vector.init with state := .loaded }) (.vectorLoad 5 vload) (fun u =>
    u.fab.waiting.map (·.load) == [.forward vload] && counts up u ACR_BANK_WAIT_CNT_COUNT) = true := by decide +kernel

theorem test_TransposeVectorsTakeBothBanks :
    ((sourced grads).readVec 4 3 = some (none, 0, List.replicate 512 0#32))
    ∧ ((((sourced grads).image ((sourced grads).genOf 4 none)).clustersAt 4 2).find? (·.matrix == 7) = some recA)
    ∧ ends [.regs, .now, .fab] (fabric.setBank 4 2 1 { Vector.init with state := .loaded }) (.transposeVector 5 tload []) (fun u => counts up u ACR_BANK_WAIT_CNT_COUNT) = true := by decide +kernel

def held4 (v : Vector) : State := fabric.setBank 4 2 0 v
def loaded : Vector := { Vector.init with state := .loaded, gen := 1, serial := some 9, flowAt := 300 }

theorem test_VectorsComplete :
    ends [.regs, .now, .hif, .serve, .ctl, .sms, .fab, .lnk, .mgt] (held4 loaded) (.columnFlowArrive 300 4 2 0 [] (.residue 1 2)) (fun u => (u.bank 4 2 0).arrived
    && (u.bank 4 2 0).state == .flowing && counts up u SMS_RESIDUE_CNT_COUNT) = true
    ∧ ends [.regs, .now, .hif, .serve, .ctl, .sms, .fab, .lnk, .mgt] (held4 { loaded with termsDone := true }) (.columnFlowArrive 300 4 2 0 [] .good) (fun u =>
    (u.bank 4 2 0).state == .complete) = true
    ∧ ends [.regs, .now, .fab] (held4 { loaded with state := .flowing, arrived := true }) (.weltWorkComplete 301 4 2 0 .good) (fun u => counts up u WLT_LATE_CNT_COUNT
    && (u.bank 4 2 0).state == .complete && (u.bank 4 2 0).termsDone) = true
    ∧ ends [.now, .fab] (held4 loaded) (.weltWorkComplete 300 4 2 0 .good) (fun u => (u.bank 4 2 0).state == .loaded && (u.bank 4 2 0).termsDone) = true
    ∧ ends [.regs, .now, .fab] (held4 { loaded with state := .flowing, arrived := true, flags := [(0, 0, 7)] }) (.saturationRescue 301 4 2 0 0 0 7) (fun u =>
    counts up u WLT_SAT_RESCUE_CNT_COUNT && (u.bank 4 2 0).flags == []) = true := by decide +kernel

def complete : Vector := { loaded with state := .complete, arrived := true, termsDone := true }

theorem test_BanksAreDrained :
    (((held4 complete).image 1).clustersAt 4 2 = [recA])
    ∧ ends [.regs, .now, .arbs, .fab] (held4 complete) (.drain 400 4 2 0 [(7, .here (.buf 65535))] .good) (fun u => counts up u ACR_DRAIN_CNT_COUNT
    && u.bank 4 2 0 == { Vector.init with drainTo := 420 } && (match u.buf 4 65535 with | .parts (some 9) [p] => p.kind == 0 && p.matrix == 7 && p.gen == 1 | _ => false)) = true
    ∧ (({ Vector.init with drainTo := 420 } : Vector).stateAt 400 = .draining)
    ∧ ends [.now] (held4 loaded) (.drain 400 4 2 0 [(7, .here (.buf 65535))] .good) (fun _ => true) = true
    ∧ ((let s := ((held4 complete).wr ACR_CTRL_DBG_DRAIN_EN 1).wr ACR_DBG_ADDR_ADDR 0x07F00000 4
  s.accepts 0 = true ∧ s.bit ACR_CTRL_DBG_DRAIN_EN = true ∧ s.rd ACR_DBG_ADDR_ADDR 4 / 64 * 64 = 0x07F00000))
    ∧ (({ complete with transpose := true } : Vector).stateAt 400 = .complete)
    ∧ ends [.regs, .now, .arbs, .fab] (held4 { complete with transpose := true }) (.drain 400 4 2 0 [] .good) (fun u => u.bank 4 2 0 == { Vector.init with drainTo := 440 } && u.bank 4 2 1 == { Vector.init with drainTo := 440 }) = true
    ∧ ends [.now] (((held4 complete).wr ACR_CTRL_DBG_DRAIN_EN 1).wr ACR_DBG_ADDR_ADDR (0x08000000 - 16896) 4) (.acrDbgDrain 400 0 4 2 0) (fun _ => true) = true
    ∧ ends [.now] ((held4 complete).wr ACR_DBG_ADDR_ADDR 0x07F00000 4) (.acrDbgDrain 400 0 4 2 0) (fun _ => true) = true := by decide +kernel

def due (d : Int) : State := fabric.withFab { fabric.fab with checks := [⟨4, 2, 0, 0, 31, false, none, d, 5⟩] }

theorem test_ChecksAndRescues :
    ends [.regs, .now, .fab] (due (-5)) (.shadowCheck 5 4 2 0 0 31) (fun u => counts up u WLT_SHADOW_CNT_COUNT && u.fab.checks == []) = true
    ∧ ends [.regs, .now, .hif, .serve, .ctl, .sms, .fab, .lnk, .mgt] (due 6) (.shadowCheck 5 4 2 0 0 31) (fun u => counts up u WLT_SHADOW_CNT_COUNT
    && counts up u WLT_SHADOW_FAIL_CNT_COUNT && u.bit WLT_SHADOW_LOG0_VALID 4 && u.fab.checks == []) = true
    ∧ ends [.regs, .now, .fab] (fabric.setBuf 4 9 (.vec none 0 [1#32, 2#32] [false, false] [(1, 7#32)])) (.cancelRescue 5 4 9 1) (fun u =>
    u.buf 4 9 == .vec none 0 [1#32, 7#32] [false, false] [] && counts up u WLT_CANCEL_RESCUE_CNT_COUNT) = true := by decide +kernel

/-! The vector engine, DMA and attention. -/

def one : F32 := 0x3F800000#32
def vec (l : List F32) : State := fabric.setBuf 4 9 (.vec (some 7) 100 l [] [])
def entOf (l : List Byte) : State := fabric.setEntry 64 { qent true false with job := 2, bytes := l }

theorem test_VectorOperations :
    ((vec [one, 0x40000000#32]).readVec 4 9 = some (some 7, 100, [one, 0x40000000#32]))
    ∧ ends [.now, .fab] (vec [0#32]) (.siluGate 5 4 9 9 3) (fun u => match u.buf 4 3 with | .vec (some 7) 100 [0#32] _ _ => true | _ => false) = true
    ∧ ends [.now, .fab] (vec [0#32]) (.geluGate 5 4 9 9 3) (fun u => match u.buf 4 3 with | .vec (some 7) 100 [0#32] _ _ => true | _ => false) = true
    ∧ ends [.now, .fab] (vec [one]) (.rotary 5 4 9 1 2 3) (fun u => match u.buf 4 3 with | .vec (some 7) 100 l _ _ => l.length == 128 | _ => false) = true
    ∧ ((match (fabric.setBuf 4 8 (.topk none 0 [(5, one)] (some one) one false)).buf 4 8 with | .topk _ _ _ (some _) _ _ => true | _ => false) = true)
    ∧ ends [.now, .fab] ((vec [one]).setBuf 4 8 (.topk none 0 [(5, one)] (some one) one false)) (.expSum 5 4 9 8 .none 3 2) (fun u => match u.buf 4 3, u.buf 4 2 with
    | .vec (some 7) 100 [a] _ _, .vec (some 7) 0 [b] _ _ => a == one && b == one | _, _ => false) = true := by decide +kernel

theorem test_VectorConversions :
    ((fabric.image 1).digital = [])
    ∧ ([one].any bf16Overflows = false)
    ∧ ([0x7F7FFFFF#32].any bf16Overflows = true)
    ∧ ends [.now, .fab] (vec [one]) (.toBf16 5 4 9 0 3) (fun u => match u.buf 4 3 with | .bf16 (some 7) l => l == [0x3F80#16] | _ => false) = true
    ∧ ends [.now, .fab] (vec [0x7F7FFFFF#32]) (.toBf16 5 4 9 0 3) (fun u => (match u.buf 4 3 with | .bf16 (some 7) l => l == [bf16NaN] | _ => false)
    && u.fab.numericMarks.contains 7) = true
    ∧ ends [.now, .fab] (vec [one]) (.toBf16 5 4 9 1 3) (fun u => match u.buf 4 3 with | .kv (some 7) l => l.length ≠ 0 | _ => false) = true
    ∧ ends [.now, .fab] (vec [one]) (.qRecordWrite 5 4 9 3) (fun u => match u.buf 4 3 with | .qrecs (some 7) [r] => r.length == 136 | _ => false) = true
    ∧ ends [.regs, .now, .arbs, .fab] (vec [one, 0x40000000#32]) (.topk 5 4 9 1 .none 3) (fun u => counts up u VEC_TOPK_CNT_COUNT
    && (match u.buf 4 3 with | .topk (some 7) 100 l (some m) _ _ => l == [(101, 0x40000000#32)] && m == 0x40000000#32 | _ => false)) = true := by decide +kernel

def part1 (g : Nat) : State := fabric.setBuf 4 9 (.parts (some 7) [⟨0, false, 0, 0, g, 7, 0, [⟨one, one, false, false, true, one, false⟩]⟩])
def listed (l : List (Nat × F32)) : VecBuf := .topk none 0 l (some one) one false
/-- The request of serial 9 draws from one candidate list. -/
def drawing : State := let s := fabric.setBuf 4 9 (listed [(5, one)])
  { s with serve := { s.serve with sessions := [{ s3 with queue := [gReq] }] } }

def stall4 : State := ((ctl core4).withTime { up.time with slotNow := some 5 }).setEntry 64 { QEntry.init with validSlot := 5 }

theorem test_FoldsAndSamples :
    (((part1 1).foldRecs 4 ((part1 1).refOn 4 (some 7)) [.buf 9]).all (·.1.gen == (part1 1).genOf 4 (some 7)) = true)
    ∧ ends [.regs, .now, .fab] (part1 1) (.fold 5 4 0 1 [.buf 9] 3 (some 7)) (fun u => match u.buf 4 3 with | .vec (some 7) 0 l oob _ => l == [one] && oob == [false] | _ => false) = true
    ∧ ((entOf []).foldRecs 4 ((entOf []).refOn 4 none) [.entry 64 5] = [])
    ∧ ends [.regs, .now, .time, .ctl, .fab] (entOf []) (.fold 5 4 0 1 [.entry 64 5] 3 none) (fun u => (u.entry 64).consumed
    && (match u.buf 4 3 with | .vec none 0 l _ _ => l.length == 1 | _ => false)) = true
    ∧ ((stall4.entry 64).written = false ∧ stall4.slotCome 5 = true ∧ (stall4.core 4).stalls = [])
    ∧ ends [.regs, .now, .arbs, .ctl] stall4 (.fold 5 4 0 1 [.entry 64 5] 3 none) (fun u => (u.core 4).seq == .stalled && (u.core 4).stalls == [⟨64, 5, true, false, some 5⟩]
    && counts up u TWS_PLAN_OVERRUN_COUNT && counts up u VEC_FOLD_WAIT_CNT_COUNT) = true
    ∧ ((drawing.candidateLists 4 [.buf 9]).any (·.items != []) = true)
    ∧ ((drawing.findReq (some 9)).any (fun e => e.2.sampling.isSome) = true)
    ∧ ends [.regs, .now, .arbs, .fab] drawing (.sample 5 4 [.buf 9] 9 0 3) (fun u => counts up u VEC_SAMPLE_CNT_COUNT
    && (match u.buf 4 3 with | .token (some 9) 5 => true | _ => false)) = true := by decide +kernel

def routed : State := (fabric.setBuf 4 9 (.a8 (some 7) 6 [zeroBlk] [])).setBuf 4 8 (listed [(5, one)])

theorem test_Experts :
    ends [.now, .arbs, .fab] routed (.expertDispatch 5 4 9 8 [(5, .here (.buf 3))]) (fun u => match u.buf 4 3 with | .a8 (some 7) 6 [b] [] => b == zeroBlk | _ => false) = true
    ∧ ends [.now, .arbs, .time, .ctl, .mem] routed (.expertDispatch 5 4 9 8 [(5, .here (.entry 64 5))]) (fun u => (u.entry 64).written && (u.entry 64).validSlot == 5) = true
    ∧ ends [.now, .arbs] routed (.expertDispatch 5 4 9 8 [(6, .here (.buf 3))]) (fun _ => true) = true
    ∧ (((vec [one]).expertOuts 4 [] (byNumber (expertWeights false [] 0#32 0#32))).any (·.isEmpty) = true)
    ∧ ends [.now, .arbs, .fab] ((vec [one]).setBuf 4 8 (.topk none 0 [] none 0#32 false)) (.expertCombine 5 4 9 8 1 [] 3)
    (fun u => match u.buf 4 3 with | .bf16 (some 7) l => l == [0x3F80#16] | _ => false) = true := by decide +kernel

theorem test_DmaMoves :
    ends [.now, .arbs, .time, .fab] fabric (.dma 5 4 none (.load 100 2 3 .bf16) []) (fun u => match u.buf 4 3 with | .bf16 none l => l == [0#16] | _ => false) = true
    ∧ ends [.now, .arbs, .time, .mem] (fabric.setBuf 4 9 (.bytes [1, 2])) (.dma 5 4 none (.store 9 100) []) (fun u => u.mem.cst == [(100, 1), (101, 2)]) = true
    ∧ ends [.now, .arbs, .time, .ctl, .fab] (entOf [1, 2]) (.dma 5 4 none (.readEntry 64 5 3 .raw) []) (fun u => (u.entry 64).consumed
    && (match u.buf 4 3 with | .bytes l => l == [1, 2] | _ => false)) = true
    ∧ ends [.now, .arbs, .time, .ctl, .mem] (fabric.setBuf 4 9 (.bytes [1, 2])) (.dma 5 4 none (.writeEntry 9 (.here (.entry 64 5))) []) (fun u => (u.entry 64).written && (u.entry 64).validSlot == 5
    && !(u.entry 64).visible && u.mem.cst == [(64, 1), (65, 2)]) = true := by decide +kernel

/-- A hub core with its step, whose length-table entry names one query token of a session with one column. -/
def hub1 : Launch := ⟨6, 0, 0, 2, 0, false, false, [512], [⟨1, 9, .decode 1, ⟨0, 0, 0, none⟩⟩], true, false, 0, 0, 0, 0, 0, []⟩
def attending (qcnt core : Nat) : State :=
  let s := sess [{ s3 with columns := [col 0 false] }]
  { s with serve := { s.serve with launches := [{ hub1 with cores := [core] }] } }.writeBytes .cst 4096 (leBytes 4 0 ++ leBytes 4 qcnt ++ leBytes 4 0 ++ leBytes 4 1)
def attn1 (core : Nat) : AttnOps := ⟨core, 0, 4096, 0, 1, 0, [3], 8, 0, 1, 0, 0⟩

theorem test_AttentionWorks :
    ((let s := attending 1 512; let e := s.lenAt (attn1 512).table
  e.ok && e.qcnt == 1 && (s.launchOn 512).any (·.gen == 0) && (s.sess e.pt).any (fun x => !pteBad x e 0 [0]) && decide (e.qcnt ≤ s.hubMax)) = true)
    ∧ ((let s := attending 17 4; let e := s.lenAt (attn1 4).table
  e.ok && e.qcnt == 17 && (s.launchOn 4).any (·.gen == 0) && (s.sess e.pt).any (fun x => !pteBad x e 0 [0]) && !decide (e.qcnt ≤ s.hubMax)) = true)
    ∧ after (exec (.attentionForward 5 (attn1 512) [0] (.buf 3) .good []) (attending 0 512)) (fun u => u == (attending 0 512).advance 5) = true
    ∧ ends [.regs, .now, .time, .ctl, .mem, .fab] ((entOf []).setBuf 4 9 (.rows none 0 [3] 1 2 none [])) (.segmentMerge 5 4 9 64 5) (fun u => (u.entry 64).consumed) = true := by decide +kernel

/-- Core 4 with the step of serial 9, which writes position 3, whose value bytes its VEC holds. -/
def kvStep (fmt : Nat) : State :=
  let s := sess [{ s3 with columns := [{ col 0 false with pages := [40, 41] }], kvFmt := fmt, queue := [gReq] }]
  ({ s with serve := { s.serve with launches := [{ hub1 with cores := [4] }] } }).setBuf 4 9 (.kv (some 9) (List.replicate (if fmt = 0 then 128 else 68) 9#8))
def toHost (src pos : Nat) : DmaOp := .writeKv src 1 0 1 0 pos true

theorem test_KeysAndValuesAreWritten :
    ((match (kvStep 0).sess 1 with | some x => (x.columnAt 3).isSome && x.kvFmt == 0 && ((kvStep 0).workLaunch 4 (some 9)).any (fun w => w.entries.any fun e =>
    e.session == x.num && x.queue.any fun r => r.serial == e.serial && stepWrites x r e 3) | none => false) = true)
    ∧ after (exec (.dma 5 4 (some 9) (toHost 9 4) []) (kvStep 0)) (fun u => u == (kvStep 0).advance 5) = true
    ∧ after (exec (.dma 5 4 (some 9) (toHost 9 3) []) (kvStep 0)) (fun u =>
    sameBut [.regs, .now, .arbs, .mem] (kvStep 0) u && (List.range 2).all (fun i => u.readByte .tierA (40 * 65536 + 32768 + 384 + 127 * i) == 9#8)
    && u.readByte .tierA (40 * 65536 + 32768 + 512) == (kvStep 0).readByte .tierA (40 * 65536 + 32768 + 512)) = true
    ∧ after (exec (.dma 5 4 (some 9) (toHost 9 3) []) (kvStep 1)) (fun u =>
    sameBut [.regs, .now, .arbs, .mem] (kvStep 1) u && u.readByte .tierA (40 * 65536 + 32768 + 192) == 9#8 && u.readByte .tierA (41 * 65536 + 28) == 9#8) = true := by decide +kernel

/-- This module and module 1 beside it. -/
def sender : State := ((fabric.wr LNK_TORUS_DIM_X 1).setBuf 4 9 (.bytes [1, 2]))

theorem test_DmaSendsAndFetches :
    (sender.moduleNum ≠ 1)
    ∧ ends [.regs, .now, .arbs, .lnk] sender (.dma 5 4 none (.writeEntry 9 (.torus 1 64 5)) []) (fun u => counts sender u LNK_MSG_TX_CNT_COUNT) = true
    ∧ ends [.regs, .now, .arbs, .lnk] sender (.dma 5 4 none (.collective 9 1 3 64 5) []) (fun u => counts sender u LNK_MSG_TX_CNT_COUNT) = true
    ∧ ends [.now, .arbs, .ctl, .mem] sender (.dma 5 4 none (.embedding 2 4 64 5) []) (fun u => (u.entry 64).bytes.length == 4 && (u.entry 64).validSlot == 5) = true
    ∧ ends [.regs, .now, .arbs, .ctl] sender (.dma 5 4 none (.readEntry 64 5 3 .raw) []) (fun u => (u.core 4).stalls == [⟨64, 5, false, false, none⟩]) = true := by decide +kernel

/-! Columns, weights, lastings and tracking. -/

def moving (st : SessState) (b : Bool) (r : Nat) : Session := { s3 with state := st, columns := [{ col 0 b with retryAt := r }] }
def late : Nat := 1000000000

/-- A session whose one column is being moved to the page 60 of the other tier. -/
def carrying (st : SessState) (b : Bool) : Session := { s3 with state := st, columns := [{ col 0 b with move := some ([60], 0) }] }

theorem test_ColumnsMove :
    ((kv [carrying .pausing false]).openSess 0 0x77 = some (carrying .pausing false))
    ∧ ((carrying .pausing false).lowestOf (·.move.isSome) = (carrying .pausing false).columns.head?)
    ∧ (((kv [carrying .pausing false]).advance late).copyEnd 0 1 ≤ ((kv [carrying .pausing false]).advance late).copyCap)
    ∧ ends [.regs, .now, .arbs, .time, .serve, .mem] (kv [carrying .pausing false]) (.demoteColumn late 0 0x77 []) (fun u => counts up u KVM_DEMOTE_CNT_COUNT
    && (u.sess 1).any fun y => y.state == .paused && y.columns.map (fun c => (c.tierB, c.pages, c.move)) == [(true, [60], none)]) = true
    ∧ ends [.regs, .now, .arbs, .time, .hif, .serve, .mem] (kv [{ carrying .resuming true with queue := [{ mkRequest 9 hdr .resume with phase := .accepted }] }]) (.promoteColumn late 0 0x77 [])
    (fun u => counts up u KVM_PROMOTE_CNT_COUNT && posted u ⟨42, 0, 6, 0, 0x77, late, 3, 0⟩
      && (u.sess 1).any fun y => y.state == .active && y.columns.map (·.tierB) == [false] && y.queue == []) = true
    ∧ (((kv [moving .pausing false 5]).advance late).mayMove (moving .pausing false 5) = true)
    ∧ ((moving .pausing false 5).lowestOf (fun d => d.tierB == false && ((kv [moving .pausing false 5]).advance late).takable d && d.retryAt != 0 && decide (d.retryAt ≤ late))
    = (moving .pausing false 5).columns.head?)
    ∧ ((kv [moving .pausing false 5]).fits 0 true 1 = true)
    ∧ ends [.now, .serve] ((kv [moving .pausing false 5]).wr KVM_FN_QUOTA_B_PAGES 0 0) (.migrationRetry late 0 0x77) (fun u =>
    (u.sess 1).any fun y => y.columns.map (·.retryAt) == [late + 1000 * up.slotLen * 1000]) = true := by decide +kernel

def mani (k : Nat) : Manifest := ⟨k, 5, 0, 0, 0, 4096, [], []⟩
def objOf (k : Nat) (st : ObjState) : ObjSlot :=
  { ObjSlot.init with state := st, content := { ObjContent.init with manifest := some (mani k) } }
/-- The wheel runs over the given weights. -/
def weights (l : LstSt) : State := ((((wheel []).withLst l).wr LNK_Ss_QP_CTRL_STATE 1 (qpBank 1 2)).wr LNK_Ss_CTRL_EN 1 1).wr LST_CTRL_EN 1
  |>.wr LST_OBJ_SIZE_GIB 1
def load2 : LoadOps := ⟨2, 1, 2, 77, 4096, 8192⟩

theorem test_WeightRequestsBegin :
    (((weights { up.lst with slots := [(2, objOf 1 .checked)] }).bindable (objOf 1 .checked).content) = true)
    ∧ ends [.regs, .now, .arbs, .hif, .lst, .mem, .fab] (weights { up.lst with slots := [(2, objOf 1 .checked)] }) (.bindWeights 5 hdr 2 9 []) (fun u =>
    u.lst.bind == some ⟨2, 9, some ⟨up.hif.serial, 0, 3, 42⟩, [], []⟩) = true
    ∧ ends [.now, .arbs, .hif, .lst] (weights { up.lst with slots := [(1, objOf 1 .current), (2, objOf 1 .checked)], current := some (1, 9) })
    (.swapWeights 5 hdr 2 10) (fun u => u.lst.swap.any fun w => w.phase == .prepare && w.slot == 2 && w.gen == 10 && w.oldSlot == 1 && w.oldGen == 9) = true
    ∧ ((weights { up.lst with slots := [] }).slotAvailable 0 2 ∧ (weights up.lst).qpReady 0 1 2 = true ∧ 8192 ≤ (weights up.lst).objFree)
    ∧ ends [.now, .arbs, .hif, .lst, .lnk] (weights up.lst) (.loadObject 5 hdr load2) (fun u => (u.obj 2).state == .loading && u.lst.loads == [2]
    && u.lnk.reads == [] && u.lnk.readsHeld == [⟨1, 2, 77, 4096, 4096, 0, 4096, 0, none, 26⟩]) = true
    ∧ ends [.now, .arbs, .hif, .lst, .lnk] ((weights up.lst).wr LNK_Ss_STATUS_LINK_UP 1 1) (.loadObject 5 hdr load2) (fun u =>
    u.lnk.reads == [⟨1, 2, 77, 4096, 4096, 0, 4096, 0, none, 26⟩] && u.lnk.readsHeld == []) = true
    ∧ (adapterShaped (objOf 2 .checked).content (objOf 1 .current).content = true ∧ adapterRanked (objOf 2 .checked).content (objOf 1 .current).content = true ∧ adapterFits (objOf 1 .current).content [] = true)
    ∧ ((objOf 2 .checked).content.factorsFor (objOf 1 .current).content = some [])
    ∧ ends [.now, .arbs, .hif, .lst] (weights { up.lst with slots := [(1, objOf 1 .current), (2, objOf 2 .checked)], current := some (1, 9) })
    (.adapterLoad 5 { hdr with adapter := 63 } 2) (fun u => u.lst.adapters == [⟨0, 63, 2, none⟩] && (u.obj 2).state == .adapter
    && posted u ⟨42, 0x00, 0x13, 0, 0, 5, 2, 0⟩) = true
    ∧ ends [.now, .arbs, .hif, .lst] (weights { up.lst with adapters := [⟨0, 63, 2, none⟩] }) (.adapterUnload 5 { hdr with adapter := 63 })
    (fun u => u.lst.adapters == [⟨0, 63, 2, some (some ⟨up.hif.serial, 0, 3, 42⟩)⟩]) = true := by decide +kernel

def own3 : Owner := ⟨7, 0, 3, 42⟩
/-- An object without tiles whose manifest holds the digest of no bytes, read to its end. -/
def read2 : ObjSlot := { objOf 2 .loading with size := 1048577, content := { ObjContent.init with manifest := some { mani 1 with canonDigest := sha512 [] } }, loading := some ⟨own3, load2, [], [], 8192, [], 8192⟩ }
def swapping (p : SwapPhase) : State := weights { up.lst with
  slots := [(1, objOf 1 .current), (2, objOf 1 (if p == .tail then .old else .checked))], current := some (1, 9)
  swap := some ⟨2, 1, 10, 9, some own3, p, [], none, 33⟩ }

/-- The home module of a block of two, whose other module has finished its lastings. -/
def parting : State :=
  let s := (((swapping .lasting).wr LNK_TORUS_DIM_X 1).wr LNK_PART_EXT 1).wr LNK_CTRL_EN 1 |>.wr LNK_PART_POS_HOME 1
  s.withLnk { s.lnk with peers := [(1, some ⟨s.slotLen, 0, true, 0, true, [], some 10⟩)] }

theorem test_read_object_checks : read2.content.canonOk = true := by
  simp [read2, ObjContent.canonOk, ObjContent.init]

theorem test_WeightRequestsEnd :
    ((weights up.lst).hostOn ((weights up.lst).owner 3) = true)
    ∧ (((weights { up.lst with slots := [(2, read2)], loads := [2] }).obj 2).loading.any (fun l => l.owner == own3 && l.left == [] && decide (l.ops.length ≤ l.next)) = true)
    ∧ ends [.regs, .now, .arbs, .hif, .lst] (weights { up.lst with slots := [(2, objOf 1 .checked)], bind := some ⟨2, 9, some own3, [], []⟩ }) (.bindComplete 5)
    (fun u => u.lst.bind == none && u.lst.current == some (2, 9) && (u.obj 2).state == .current && posted u ⟨42, 0x00, 0x10, 0, 0, 5, 9, 0⟩) = true
    ∧ ends [.now, .lst, .mem] (swapping .prepare) (.swapPrepareComplete 5) (fun u => u.lst.swap.any fun w => w.phase == .lasting) = true
    ∧ ((swapping .lasting).inPartition = false)
    ∧ (parting.inPartition = true ∧ parting.isHome = true ∧ (parting.otherModules.all fun p => ((SMap.get none parting.lnk.peers p).bind (·.lasted)) == some 10) = true)
    ∧ ends [.now, .lst] parting (.swapSwitch 5) (fun u => u.lst.swap.any fun w => w.announced == some (parting.time.nextK + 64) && w.phase == .lasting) = true
    ∧ ends [.regs, .now, .lst, .free] (swapping .lasting) (.swapSwitch 5) (fun u => u.lst.current == some (2, 10) && (u.obj 2).state == .current
    && (u.obj 1).state == .old && u.lst.swap.any fun w => w.phase == .tail && w.switchAt == 5) = true
    ∧ ends [.now, .arbs, .hif, .lst] (swapping .tail) (.swapEnd 5) (fun u => u.lst.swap == none && (u.obj 1).state == .checked
    && posted u ⟨42, 0x00, 0x11, 0, 0, 33, 10, 0⟩) = true
    ∧ ends [.now, .arbs, .hif, .lst] (weights { up.lst with slots := [(2, objOf 2 .adapter)], adapters := [⟨0, 63, 2, some (some own3)⟩] })
    (.adapterUnloadComplete 5 0 63) (fun u => u.lst.adapters == [] && (u.obj 2).state == .checked && posted u ⟨42, 0x00, 0x13, 0, 0, 5, 2, 0⟩) = true := by decide +kernel

def lasting5 : Lasting := ⟨460, 9, .refresh, 100, false, false⟩
def asking : State := (weights { up.lst with holds := [(460, 10)], refreshQ := [⟨460, 4, 600, []⟩] }).wr LST_CTRL_LEHR_EN 1
def lastings : State := weights { up.lst with lastings := [lasting5], holds := [(460, 10)] }

theorem test_LastingsAndLehr :
    (lastings.lst.lastings.find? (·.pos == 460) = some lasting5)
    ∧ (lasting5.why ≠ .retire ∧ lasting5.why ≠ .site ∧ lasting5.start + 803840 ≤ max lastings.now 8000100 ∧ lastings.spareFree 460 = true)
    ∧ ends [.regs, .now, .lst] lastings (.lastingWatchdog 8000100 460) (fun u => counts up u LST_WATCHDOG_CNT_COUNT && counts up u LST_XB_SUB_CNT_COUNT
    && u.lst.onSpare == [(460, true)] && u.lst.lastings.map (·.start) == [8000100]) = true
    ∧ ends [.now] lastings (.lastingWatchdog 8000099 460) (fun _ => true) = true
    ∧ ((weights { up.lst with holds := [(460, 10)] }).lehrTarget = some 460)
    ∧ ((weights { up.lst with holds := [(460, 10)] }).lst.bind = none ∧ (weights { up.lst with holds := [(460, 10)] }).lehrHeld = false
    ∧ ((weights { up.lst with holds := [(460, 10)] }).wr LST_CTRL_LEHR_EN 1).bit LST_CTRL_LEHR_EN = true)
    ∧ (asking.nextRefresh = some ⟨460, 4, 600, []⟩ ∧ 0 < asking.maxRefresh ∧ 0 < asking.maxLastings ∧ asking.coreLastings (posCore 460) < 4) := by decide +kernel

def used : State := weights { up.lst with holds := [(460, 10)], slots := [(1, { objOf 1 .current with content := { ObjContent.init with
  manifest := some (mani 1), clusters := [⟨7, 0, 6, false, 8, 8, 0, 8, 0, 0⟩] } })], current := some (1, 9) }

theorem test_TrackingVisits :
    (used.visitsRun 460 = true)
    ∧ after (exec (.trackVisit late 460 []) used) (fun u => (u.trk 460).visit == some (0, false) && (u.trk 460).last == late) = true
    ∧ ends [.now, .fab] (used.setTrk 460 { XbTrk.init with visit := some (3, false) }) (.trackSwapIn late 460) (fun u => (u.trk 460).visit == some (3, true)) = true
    ∧ after (exec (.trackSwapOut late 460 []) (used.setTrk 460 { XbTrk.init with visit := some (25, false), next := 24 }))
    (fun u => (u.trk 460).visit == none && (u.trk 460).next == 0) = true
    ∧ ends [.now, .lst, .fab, .ptm] used (.wltDriftUpdate 60000000000) (fun u => u.fab.driftAt == 60000000000) = true
    ∧ ends [.now] used (.wltDriftUpdate 5) (fun _ => used.rd WLT_DRIFT_CTRL_PERIOD ≠ 0) = true
    ∧ after (exec (.monitorTrackVisit 5 2 ⟨0, 0, 0⟩) used) (fun u => SMap.get 0 u.ptm.convNext 2 == 1 && (SMap.get MonConv.init u.ptm.convs 32).visited) = true := by decide +kernel


/-! Time, commits and fetches. -/

def clock (x : TimeSt) : State := up.withTime x
def tm : TimeSt := TimeSt.init
/-- Storage port 0 hears PTP on domain 0. -/
def hears (x : TimeSt) : State := ((((clock x).wr LNK_PTP_CTRL_EN 1).wr LNK_Ss_CTRL_EN 1 0).wr LNK_Ss_STATUS_LINK_UP 1 0).wr TWS_DISC_CTRL_SRC 2
def from7 : PtpFrom := ⟨0, 0, 0, 7⟩

theorem test_TimeSources :
    (up.mainOn = true)
    ∧ ends [.now, .time] (clock { tm with ppsLast := some 1000, ppsGood := 6 }) (.ppsEdge 5 2000001200) (fun u => u.time.ppsGood == 7 && u.time.ppsLast == some 2000001200) = true
    ∧ ends [.regs, .now, .time, .hif, .mgt] ((clock { tm with ppsLast := some 1000, ppsGood := 7 }).wr TWS_DISC_CTRL_SRC 1) (.ppsEdge 5 2000001200)
    (fun u => u.bit TWS_STATUS_PPS_OK && u.rd TWS_STATUS_QUALITY == 2 && u.time.errBase == some 50) = true
    ∧ ends [.now, .time] (clock { tm with ppsLast := some 1000, ppsGood := 6 }) (.ppsEdge 5 2000001201) (fun u => u.time.ppsGood == 0) = true
    ∧ ends [.regs, .now, .time, .hif] ((up.wr TWS_STATUS_PPS_OK 1).wr TWS_STATUS_QUALITY 2) (.ppsLoss 2000010000) (fun u => !u.bit TWS_STATUS_PPS_OK
    && u.rd TWS_STATUS_QUALITY == 4 && counts up u TWS_HOLDOVER_CNT_COUNT) = true
    ∧ ends [.now] ((up.wr TWS_STATUS_PPS_OK 1).wr TWS_STATUS_QUALITY 2) (.ppsLoss 2000009999) (fun _ => true) = true
    ∧ ((hears { tm with master := some (0, 7) }).fromMaster from7 = true)
    ∧ ends [.regs, .now, .arbs, .time] (hears { tm with master := some (0, 7), ptpSeen := 1, ptpGood := 14 }) (.ptpSync 5 from7 900 60 2000000000 0) (fun u =>
    u.time.ptpGood == 15 && u.time.ptpT1 == 1920 && u.time.ptpLastOff == 1920 && counts up u LNK_PTP_SYNC_CNT_COUNT) = true
    ∧ ((hears { tm with master := some (0, 7), ptpSeen := 1, ptpGood := 15 }).usesPtp = true)
    ∧ ends [.now, .arbs, .time, .lnk] (hears { tm with master := some (0, 7) }) (.ptpDelayReq 5 4000) (fun u => u.lnk.delayReqs == up.lnk.delayReqs + 1 && u.time.ptpT3 == some 4000 && u.time.ptpDelayAt == 5) = true
    ∧ ends [.now] (hears { tm with master := some (0, 7), ptpDelayMin := 6 }) (.ptpDelayReq 5 4000) (fun _ => true) = true
    ∧ ends [.now, .arbs, .time] (hears { tm with master := some (0, 7), ptpSeen := 1, ptpT1 := 10, ptpT2 := 30, ptpT3 := some 50 }) (.ptpDelayResp 5 from7 50 15 7)
    (fun u => u.time.ptpT3 == none && u.time.ptpDelayMin == 7 && u.time.ptpDelay == 20) = true
    ∧ ends [.regs, .now, .arbs, .time, .hif, .free] (hears tm) (.ptpAnnounce 5 from7 [1] 1000) (fun u => u.time.master == some (0, 7) && u.rd LNK_PTP_MASTER_ID == 7
    && u.time.masters == [⟨0, 7, [1], 5, 1000, 0, 0⟩]) = true
    ∧ ends [.regs, .now, .arbs, .time, .hif, .free] (hears { tm with masters := [⟨0, 7, [1], 5, 1000, 0, 0⟩, ⟨0, 8, [1], 6, 1000, 0, 0⟩] }) (.ptpAnnounceTimeout 3005 0 7)
    (fun u => u.time.masters == [⟨0, 8, [1], 6, 1000, 0, 0⟩]) = true
    ∧ ends [.regs, .now, .time, .hif, .free] ((clock { tm with ptpSeen := 1 }).wr TWS_STATUS_PTP_OK 1) (.ptpLoss 4000000001) (fun u => !u.bit TWS_STATUS_PTP_OK) = true
    ∧ ends [.now] ((clock { tm with ptpSeen := 1 }).wr TWS_STATUS_PTP_OK 1) (.ptpLoss 4000000000) (fun _ => true) = true := by decide +kernel

def running : State := up.wr TWS_CTRL_RUN 1
def lenOf (n : Nat) : State := up.wr TWS_SLOT_LEN_LEN n

theorem test_TimeAndTheWheel :
    ends [.regs, .now] (up.wr TWS_STATUS_TREF_OK 1) (.trefLoss 5) (fun u => !u.bit TWS_STATUS_TREF_OK) = true
    ∧ ends [.regs, .now] up (.trefReturn 5) (fun u => u.bit TWS_STATUS_TREF_OK) = true
    ∧ (up.accepts 0 = true ∧ up.running = false)
    ∧ ends [.regs, .now, .time, .hif, .lst, .fab, .mgt] up (.twsTimeSet 5 0 (2 ^ 64 - 1)) (fun u => u.now == 2 ^ 64 - 1 && u.rd TWS_STATUS_QUALITY == 1 && u.time.errBase == some 0) = true
    ∧ ends [.regs, .now, .time, .hif] running (.twsTimeSet 5 0 1000) (fun u => u.now == 5 && u.time.slewLeft == 995 && u.rd TWS_STATUS_QUALITY == 1) = true
    ∧ ends [.regs, .now, .time] (lenOf 8) (.twsRunStart 5 0) (fun u => u.running) = true
    ∧ ends [.regs, .now] (lenOf 7) (.twsRunStart 5 0) (fun u => u.bit TWS_CTRL_CFG_ERR) = true
    ∧ ends [.regs, .now] (lenOf 1025) (.twsRunStart 5 0) (fun u => u.bit TWS_CTRL_CFG_ERR) = true
    ∧ (running.mayStop = true ∧ running.commits = [])
    ∧ ends [.regs, .commits, .now, .time, .hif, .serve, .lst, .sms, .fab, .ptm, .free] running (.twsRunStop 5 0) (fun u => !u.running && u.time.slotNow == none) = true
    ∧ ends [.regs, .now] (weights { up.lst with bind := some ⟨2, 9, none, [], []⟩ }) (.twsRunStop 5 0) (fun u => u.bit TWS_CTRL_CFG_ERR && u.running) = true
    ∧ ends [.regs, .now, .time, .hif] (clock { tm with unlocked := false }) (.errorEstimateUnlock 5) (fun u => u.bit TWS_EVENT_UNLOCK && u.time.unlocked) = true := by decide +kernel

def rate9 : List ShWrite := [⟨.kvm, KVM_MIG_CTRL_RATE.key 0, KVM_MIG_CTRL_RATE.reset, 9⟩]

theorem test_CommitsLatch :
    ends [.shadow, .commits, .now] { running with shadow := rate9 } (.kvmCommit 5 0) (fun u => u.shadow == [] && u.commits == [(5, rate9)]) = true
    ∧ ends [.regs, .shadow, .now, .arbs, .time, .hif, .serve, .sms, .free] { up with shadow := rate9 } (.kvmCommit 5 0) (fun u => u.shadow == [] && u.rd KVM_MIG_CTRL_RATE == 9) = true
    ∧ ends [.now] { up with shadow := rate9 } (.lstCommit 5 0) (fun u => u.shadow == rate9) = true
    ∧ ends [.now] { up with shadow := rate9 } (.kvmCommit 5 1) (fun u => u.shadow == rate9) = true := by decide +kernel

def entryWord (op : Nat) : Entry512 := BitVec.ofNat 512 op

theorem test_FetchRunsTheEntry :
    (({ ring with hif := { (ring.setQueue 3 { ring.queue 3 with sqTail := 1 }).hif with visit := 3, visited := 0 } }).mayFetch 3 = true)
    ∧ (0 < ring.fetchMax 3)
    ∧ ends [.regs, .now, .arbs, .hif] { ring with hif := { (ring.setQueue 3 { ring.queue 3 with sqTail := 1 }).hif with visit := 3, visited := 0 } }
    (.submissionFetch 5 (.data (entryWord 0)) true []) (fun u => (u.queue 3).sqHead == 1 && posted u ⟨0, 0, 0, 0, 0, 5, 0, 0⟩) = true
    ∧ ends [.regs, .now, .arbs, .hif] { ring with hif := { (ring.setQueue 3 { ring.queue 3 with sqTail := 1 }).hif with visit := 3, visited := 0 } }
    (.submissionFetch 5 .error false []) (fun u => u.bit HIF_Q_STATUS_FETCH_ERR 3) = true := by decide +kernel


/-! The links. -/

/-- Torus port 5 ACTIVE with the given state, in a partition of 2 × 1 × 1. -/
def port5 (x : TorusPort) : State := ((torus.wr LNK_CTRL_EN 1).wr LNK_Pp_STATUS_STATE 2 5).withLnk { up.lnk with ports := [(5, x)] }
def flit (kind seq ack : Nat) (pay : List Byte) : List Byte :=
  (⟨kind, 1, true, false, seq, ack, pay ++ List.replicate (248 - pay.length) 0⟩ : Flit).bytes
def ser (n off : Nat) : List Byte := leBytes 2 (4096 * n) ++ leBytes 2 0 ++ leBytes 2 9 ++ leBytes 2 0 ++ leBytes 4 off ++ leBytes 4 2 ++ leBytes 4 5
  ++ leBytes 8 0
def tp : TorusPort := { TorusPort.init with rxNext := 4095 }
def kept (n r : Nat) : Kept := ⟨⟨1, 0, true, true, n, 0, []⟩, r, 100⟩

/-- The message of a flit on a port goes on through port 0, which is UP with a credit. -/
def through : State := ((port5 tp).wr LNK_Pp_STATUS_STATE 2 0).withLnk { (port5 tp).lnk with
  ports := [(0, { TorusPort.init with credit0 := 1, credit1 := 1 }), (5, tp)] }

theorem test_TorusFlitsAreTaken :
    ((port5 tp).rd LNK_Pp_STATUS_STATE 5 = 2 ∧ (port5 tp).tport 5 = tp)
    ∧ (flitOf (flit 1 4095 9 [0, 64]) = some ⟨1, 1, true, false, 4095, 9, 0 :: 64 :: List.replicate 246 0⟩)
    ∧ ends [.now, .arbs, .lnk] (port5 tp) (.dataFlit 5 5 (flit 1 4095 9 [0, 64])) (fun u => (u.tport 5).rxNext == 0
    && (u.tport 5).rx1 == .gather (0 :: 64 :: List.replicate 246 0) && (u.tport 5).rx0 == .none && u.lnk.sent.map (fun e => (e.1, e.2.kind, e.2.ack)) == [(5, 0, 4095)]) = true
    ∧ ends [.now, .arbs, .lnk] (port5 tp) (.dataFlit 5 5 (⟨1, 1, true, true, 4095, 9, ser 0 64 ++ List.replicate 216 0⟩ : Flit).bytes) (fun u =>
    u.lnk.arrived.map (fun a => (a.port, a.vc, a.flits, a.bytes.length)) == [(5, 1, 1, 34)] && (u.tport 5).rx1 == .none) = true
    ∧ ends [.now, .arbs, .lnk] (port5 { tp with rx1 := .discard }) (.dataFlit 5 5 (⟨1, 1, false, false, 4095, 9, List.replicate 248 0⟩ : Flit).bytes) (fun u =>
    u.lnk.sent.map (fun e => (e.1, e.2.kind, e.2.payload == controlPayload 2 0 0 1 0 5)) == [(5, 2, true), (5, 0, false)]) = true
    ∧ (through.hop 256 = some (0, false) ∧ nextVc (some 5) 1 0 false = 0 ∧ (through.tport 0).credit0 = 1 ∧ (through.arb (arbLink 0)).ends ≤ arbTicks (max through.now 5))
    ∧ (flitOf (flit 1 4095 9 [0, 1]) = some ⟨1, 1, true, false, 4095, 9, 0 :: 1 :: List.replicate 246 0⟩)
    ∧ ends [.now, .arbs, .lnk] (port5 { tp with unacked := [kept 8 0, kept 9 0] }) (.idleFlit 5 5 (flit 0 4095 8 [])) (fun u =>
    (u.tport 5).unacked == [kept 9 0] && (u.tport 5).rxNext == 4095) = true
    ∧ ends [.now, .arbs, .lnk] (port5 { tp with credit0 := 1000 }) (.credit 5 5 (flit 2 4095 9 (controlPayload 2 0 100 3 0 0))) (fun u =>
    (u.tport 5).credit0 == 1024 && (u.tport 5).credit1 == 3) = true
    ∧ ends [.now, .lnk] (port5 tp) (.dataFlit 5 5 (flit 1 0 9 [7])) (fun u => (u.tport 5).rxIgnore && (u.tport 5).rxNext == 4095 && u.lnk.sent.length == 1) = true
    ∧ (flitOf [] = none)
    ∧ ends [.regs, .now, .lnk] (port5 tp) (.train 5 5 0 []) (fun u => counts up u LNK_Pp_CRC_ERR_COUNT 1 5 && (u.tport 5).rxIgnore) = true := by decide +kernel

theorem test_TorusPortsReplayAndTrain :
    ends [.regs, .now, .arbs, .lnk] (port5 { tp with unacked := [kept 8 7, kept 9 0] }) (.nak 300 5 (flit 2 4095 7 (controlPayload 1 8 0 0 0 0))) (fun u =>
    counts up u LNK_Pp_REPLAY_COUNT 1 5 && u.lnk.sent.map (fun e => (e.1, e.2.kind, e.2.seq)) == [(5, 1, 8), (5, 1, 9), (5, 0, 0)]
    && (u.tport 5).unacked == [{ kept 8 8 with sentAt := 300 }, { kept 9 1 with sentAt := 300 }]) = true
    ∧ ends [.regs, .now, .arbs, .hif, .serve, .sms, .lnk] (port5 { tp with unacked := [kept 8 8] }) (.nak 300 5 (flit 2 4095 7 (controlPayload 1 8 0 0 0 0))) (fun u =>
    u.rd LNK_Pp_STATUS_STATE 5 == 4 && counts up u LNK_Pp_DOWN_COUNT 1 5 && u.tport 5 == TorusPort.init) = true
    ∧ ends [.regs, .now, .arbs, .hif, .serve, .sms, .lnk] (port5 { tp with unacked := [kept 8 0] }) (.nak 300 5 (flit 2 4095 7 (controlPayload 1 10 0 0 0 0))) (fun u =>
    u.rd LNK_Pp_STATUS_STATE 5 == 4) = true
    ∧ ends [.regs, .now, .arbs, .lnk] (port5 { tp with unacked := [{ kept 8 0 with sentAt := 101 }, kept 9 7] }) (.replayTimeout 2100 5) (fun u =>
    u.lnk.sent == [(5, (kept 9 0).flit)]) = true
    ∧ ends [.regs, .now, .arbs, .hif, .serve, .sms, .lnk] (port5 tp) (.torusPortDown 5 5) (fun u => u.rd LNK_Pp_STATUS_STATE 5 == 4 && u.tport 5 == TorusPort.init) = true
    ∧ ends [.regs, .now, .arbs, .lnk] ((port5 TorusPort.init).wr LNK_Pp_STATUS_STATE 4 5) (.torusPortRetrain 5 5) (fun u => u.rd LNK_Pp_STATUS_STATE 5 == 1
    && u.lnk.sent.length == 1) = true
    ∧ ((port5 TorusPort.init).neighbourOf 0 = 256 ∧ (port5 TorusPort.init).neighbourOf 5 = 0)
    ∧ ends [.regs, .now, .arbs, .hif, .sms, .lnk] ((port5 tp).wr LNK_Pp_STATUS_STATE 1 5) (.train 5 5 9 (flit 2 4095 9 (controlPayload 3 0 1024 7 0 4))) (fun u =>
    u.rd LNK_Pp_STATUS_STATE 5 == 2 && (u.tport 5).credit0 == 1024 && (u.tport 5).credit1 == 7) = true
    ∧ ends [.regs, .now, .arbs, .hif, .sms, .lnk] ((port5 tp).wr LNK_Pp_STATUS_STATE 3 5) (.train 5 5 9 (flit 2 4095 9 (controlPayload 3 0 1024 7 0 5))) (fun u =>
    u.rd LNK_Pp_STATUS_STATE 5 == 3) = true := by decide +kernel

/-- A message of partition 9 with two bytes. -/
def msg (n off : Nat) : List Byte := ser n off ++ leBytes 4 (messageCrc (ser n off ++ [0, 0, 0, 0, 1, 2])) ++ [1, 2]
def comes (n off : Nat) : State := (torus.wr LNK_CTRL_EN 1).withLnk { up.lnk with arrived := [⟨5, 1, 2, msg n off⟩], windows := [(1, 64, 2)] }

theorem test_MessagesAreDelivered :
    ((comes 0 64).messageFate (msg 0 64) = some true ∧ (comes 0 64).windowOf 64 2 = some 1)
    ∧ ends [.regs, .now, .arbs, .time, .ctl, .mem, .lnk] (comes 0 64) (.queueWrite 5) (fun u => (u.entry 64).bytes == [1, 2] && (u.entry 64).validSlot == 5
    && u.mem.cst == [(64, 1), (65, 2)] && counts up u LNK_MSG_RX_CNT_COUNT && u.lnk.arrived == []) = true
    ∧ ends [.regs, .now, .arbs, .time, .ctl, .mem, .lnk] (comes 1 64) (.collective 5) (fun u => (u.entry 64).written) = true
    ∧ ends [.regs, .now, .arbs, .hif, .serve, .sms, .lnk] (comes 0 65) (.queueWrite 5) (fun u => counts up u LNK_WIN_FAULT_CNT_COUNT && u.lnk.arrived == []) = true
    ∧ ends [.regs, .now, .arbs, .hif, .serve, .ctl, .sms, .lnk] ((comes 0 64).setEntry 64 { qent true false with bytes := [9] }) (.queueWrite 5) (fun u =>
    counts up u LNK_WIN_FAULT_CNT_COUNT && (u.entry 64).bytes == [9]) = true
    ∧ ends [.regs, .now, .arbs, .lnk] ((comes 0 64).wr LNK_PART_ID_PART 8) (.queueWrite 5) (fun u => counts up u LNK_MSG_DROP_CNT_COUNT) = true := by decide +kernel

theorem test_crc_byte_fits (n c : Nat) (h : c < 2 ^ 32) : crc32cByte n c < 2 ^ 32 := by
  induction n generalizing c with
  | zero => exact h
  | succ n ih =>
    unfold crc32cByte
    refine ih _ ?_
    split
    · exact Nat.xor_lt_two_pow (by omega) (by decide)
    · omega
theorem test_crc_fits (l : List Byte) : crc32c l < 2 ^ 32 := by
  unfold crc32c
  refine Nat.xor_lt_two_pow (by decide) ?_
  suffices ∀ c, c < 2 ^ 32 → l.foldl (fun c b => crc32cByte 8 (Nat.xor c b.toNat)) c < 2 ^ 32 from this _ (by decide)
  induction l with
  | nil => exact fun _ h => h
  | cons b t ih => exact fun c h => ih _ (test_crc_byte_fits _ _ (Nat.xor_lt_two_pow h (by have := b.isLt; omega)))
theorem test_bytes_spell (x : Nat) (h : x < 2 ^ 32) : ofLeBytes (leBytes 4 x) = x := by
  simp only [leBytes, ofLeBytes, BitVec.toNat_ofNat]; omega

/-- A CONTROL message of partition 9 with two bytes and a check word. -/
def control (c off : Nat) : List Byte := ser 2 off ++ leBytes 4 c ++ [1, 2]
theorem test_control_fields (c off : Nat) : numAt (control c off) 4 2 = 9 ∧ numAt (control c off) 12 4 = 2
    ∧ numAt (control c off) 28 4 = ofLeBytes (leBytes 4 c) ∧ (control c off).length = 34
    ∧ (control c off).take 28 ++ List.replicate 4 0#8 ++ (control c off).drop 32 = control 0 off := ⟨rfl, rfl, rfl, rfl, rfl⟩
theorem test_control_fate (s : State) (off : Nat) (e : s.bit LNK_CTRL_EN = true) (p : s.rd LNK_PART_ID_PART = 9) :
    s.messageFate (control (crc32c (control 0 off)) off) = some true := by
  generalize hc : crc32c (control 0 off) = c
  have hb : c < 2 ^ 32 := hc ▸ test_crc_fits _
  obtain ⟨a, b, d, l, f⟩ := test_control_fields c off
  unfold State.messageFate messageCrc
  rw [a, b, d, f, hc, p, l, test_bytes_spell c hb, e]
  simp [messageMax]
theorem test_control_open : (torus.wr LNK_CTRL_EN 1).bit LNK_CTRL_EN = true ∧ (torus.wr LNK_CTRL_EN 1).rd LNK_PART_ID_PART = 9 := by
  decide +kernel
theorem test_control_row (c off : Nat) (h : off < 2 ^ 32) : numAt (control c off) 0 2 / 4096 = 2 ∧ numAt (control c off) 8 4 = off
    ∧ numAt (control c off) 12 4 = 2 := by
  have a : numAt (control c off) 0 2 = ofLeBytes (leBytes 2 8192) := rfl
  have b : numAt (control c off) 8 4 = ofLeBytes (leBytes 4 off) := rfl
  have d : ofLeBytes (leBytes 2 8192) = 8192 := by decide +kernel
  exact ⟨by rw [a, d], by rw [b, test_bytes_spell off h], (test_control_fields c off).2.1⟩
theorem test_control_at (off : Nat) (h : off < 2 ^ 32) : ∃ l, (torus.wr LNK_CTRL_EN 1).messageFate l = some true
    ∧ numAt l 0 2 / 4096 = 2 ∧ numAt l 8 4 = off ∧ numAt l 12 4 = 2 :=
  ⟨control (crc32c (control 0 off)) off, test_control_fate _ off test_control_open.1 test_control_open.2, test_control_row _ off h⟩
theorem test_control_in_window : ∃ l, (torus.wr LNK_CTRL_EN 1).messageFate l = some true ∧ numAt l 0 2 / 4096 = 2
    ∧ numAt l 8 4 = fwWindow ∧ numAt l 12 4 = 2 :=
  test_control_at fwWindow (by have := Config.firmwareWindow.isLt; unfold fwWindow; omega)
theorem test_control_outside : ∃ l, (torus.wr LNK_CTRL_EN 1).messageFate l = some true ∧ numAt l 0 2 / 4096 = 2
    ∧ numAt l 8 4 = fwWindow + 65504 ∧ numAt l 12 4 = 2 := by
  have h : fwWindow + 65504 < 2 ^ 32 := by unfold fwWindow; generalize Config.firmwareWindow = n; omega
  revert h
  generalize fwWindow + 65504 = n
  exact test_control_at n

theorem test_MessagesAreRouted :
    ((through.tport 0).queue = [] ∧ (through.tport 0).busy0 = none ∧ through.rd LNK_Pp_STATUS_STATE 0 = 2)
    ∧ ((through.route 256 0 0 0 (msg 0 64)).lnk.sent.map (fun e => (e.1, e.2.kind, e.2.vc, e.2.last)) = [(0, 1, 0, true)])
    ∧ ((through.route 256 0 0 0 (msg 0 64)).lnk.nextMsg = 1 ∧ ((through.route 256 0 0 0 (msg 0 64)).tport 0).credit0 = 0)
    ∧ (through.hop 0 = none) := by decide +kernel

/-- A READ of port 1 that waited for its link. -/
def held2 : ReadReq := ⟨1, 5, 77, 4096, 4096, 0, 4096, 0, none, 26⟩
/-- A load of slot 2 on queue pair 2 of port 1, its first READ outstanding. -/
def reading (tries : Nat) : State := (weights { up.lst with slots := [(2, { objOf 2 .loading with
  loading := some ⟨own3, load2, [], [], 0, [(0, 2)], 4096⟩ })], loads := [2] }).wr LNK_Ss_STATUS_LINK_UP 1 1
  |>.wr LNK_Ss_QP_CTRL_RETRY 7 (qpBank 1 2) |>.withLnk { up.lnk with tries := SMap.put 0 [] (qpBank 1 2) tries, readsHeld := [held2] }

theorem test_StorageLinks :
    (((reading 3).advance 5).portSends 1 = true ∧ (reading 3).qpMtu 1 2 = 4096)
    ∧ ends [.regs, .now, .arbs, .lst, .mem, .lnk] (reading 3) (.storageReadResponse 5 1 2 2 0 0 true false [6, 7]) (fun u => counts (reading 3) u LNK_Ss_READ_BYTES_COUNT 2 1
    && ((u.obj 2).loading.any fun l => l.bytes == [6, 7] && l.next == 2 && l.outstanding == []) && u.lnk.tries == [] && u.lnk.reads == [held2] && u.lnk.psnWant == [(qpBank 1 2, 1)]) = true
    ∧ ends [.now, .lnk] (reading 3) (.storageReadResponse 5 1 2 2 0 1 true false [6, 7]) (fun u => u.lnk.reads == [held2] && u.lnk.readsHeld == []) = true
    ∧ ends [.regs, .now, .lnk] (reading 6) (.rdmaRetryTimeout late 1 2) (fun u => counts up u LNK_Ss_RETRY_CNT_COUNT 1 1 && u.lnk.tries == [(qpBank 1 2, 7)]
    && u.lnk.reads == [held2, ⟨1, 2, 77, 4096, 2, 0, 4096, 0, none, 26⟩]) = true
    ∧ ends [.regs, .now, .arbs, .hif, .lst, .lnk] (reading 7) (.rdmaRetryTimeout late 1 2) (fun u => u.rd LNK_Ss_QP_CTRL_STATE (qpBank 1 2) == 2
    && u.rd LNK_Ss_QP_ERR_CAUSE (qpBank 1 2) == 3) = true
    ∧ ends [.regs, .now, .arbs, .hif, .lst, .lnk] (reading 0) (.storageNak 5 1 2 true) (fun u => u.rd LNK_Ss_QP_ERR_CAUSE (qpBank 1 2) == 1) = true
    ∧ ends [.regs, .now, .arbs, .hif, .lst, .lnk] (reading 0) (.storageNak 5 1 2 false) (fun u => u.rd LNK_Ss_QP_ERR_CAUSE (qpBank 1 2) == 2) = true
    ∧ ends [.regs, .now] (up.wr LNK_Ss_QP_CTRL_MTU 1 (qpBank 1 63)) (.qpRts 5 0 1 63) (fun u => u.rd LNK_Ss_QP_CTRL_STATE (qpBank 1 63) == 1) = true
    ∧ ends [.now] (up.wr LNK_Ss_QP_CTRL_MTU 0 (qpBank 1 63)) (.qpRts 5 0 1 63) (fun _ => true) = true
    ∧ ends [.regs, .now, .arbs, .lnk] ((up.wr LNK_Ss_QP_CTRL_STATE 2 (qpBank 1 63)).wr LNK_Ss_QP_ERR_CAUSE 3 (qpBank 1 63)) (.qpReset 5 0 1 63) (fun u =>
    u.rd LNK_Ss_QP_CTRL_STATE (qpBank 1 63) == 0 && u.rd LNK_Ss_QP_ERR_CAUSE (qpBank 1 63) == 0) = true
    ∧ ends [.regs, .now, .arbs, .time, .hif, .lst, .lnk, .free] (reading 0) (.storagePortDisable 5 0 1) (fun u => !u.bit LNK_Ss_CTRL_EN 1 && !u.bit LNK_Ss_STATUS_LINK_UP 1
    && u.rd LNK_Ss_QP_ERR_CAUSE (qpBank 1 2) == 4) = true
    ∧ ends [.regs, .now, .arbs, .time, .hif, .free] (up.wr LNK_Ss_CTRL_EN 1 1) (.storageLinkUp 5 1) (fun u => u.bit LNK_Ss_STATUS_LINK_UP 1) = true
    ∧ ends [.regs, .now, .arbs, .time, .hif, .lst, .lnk, .free] (reading 0) (.storageLinkDown 5 1) (fun u => !u.bit LNK_Ss_STATUS_LINK_UP 1
    && u.rd LNK_Ss_QP_CTRL_STATE (qpBank 1 2) == 2 && u.rd LNK_Ss_QP_ERR_CAUSE (qpBank 1 2) == 4) = true
    ∧ ends [.regs, .now] up (.inboundRequestDiscard 5 1) (fun u => counts up u LNK_Ss_DISCARD_CNT_COUNT 1 1) = true
    ∧ ends [.now, .arbs, .lnk] (((up.wr LNK_Ss_CTRL_EN 1 1).wr LNK_Ss_CTRL_PFC_EN 1 1).wr LNK_Ss_CTRL_PFC_PRIO 7 1) (.pfcFrame 5 1 128 [0, 0, 0, 0, 0, 0, 0, 100])
    (fun u => u.lnk.pausedTo == [(1, 133)]) = true
    ∧ ends [.regs, .now, .time, .hif, .lnk, .free] ((reading 0).wr LNK_Ss_STATUS_LINK_UP 0 1) (.storageLinkUp 5 1) (fun u => u.lnk.reads == [held2]) = true := by decide +kernel


/-! Mailboxes, firmware, power, upkeep and the management port. -/

/-- A message of host function 0 for a receiver; READY. -/
def mail (dst cmd arg : Nat) : State := up.withCtl { up.ctl with mbx := [(dst, ⟨List.replicate 16 0#32, true, false, false, false, 3,
  some ([BitVec.ofNat 32 cmd, 0#32, BitVec.ofNat 32 arg] ++ List.replicate 13 0#32, 0, 3)⟩)] }
def reply (u : State) (me st : Nat) (data : List Nat) : Bool :=
  match (u.mbox me 0).msg with
  | some (l, who, 1) => who == me && nth 0#32 l 1 == BitVec.ofNat 32 st && !(u.mbox 0 me).busy
      && (List.range data.length).all fun k => nth 0#32 l (2 + k) == BitVec.ofNat 32 (nth 0 data k)
  | _ => false

theorem test_MailboxesPass :
    ((up.goAccepted 0 0x21) = true ∧ ((up.wr CPX_FW_STATUS_STAGE 2).goAccepted 0 0x21) = false ∧ (up.wr CPX_FW_STATUS_STAGE 2).goAccepted 0 0x20 = true)
    ∧ ends [.regs, .now, .hif, .ctl] up (.mbxSGo 5 0 0x21 []) (fun u => counts up u CPX_MBX_SENT_CNT_COUNT && (u.mbox 0 0x21).busy
    && (u.mbox 0 0x21).receiveWord 0x44 == 1 + 65536) = true
    ∧ ends [.regs, .now, .hif, .ctl] (up.wr CPX_FW_STATUS_STAGE 1) (.mbxSGo 5 0x21 0 [7]) (fun u => (u.mbox 0x21 0).receiveWord 0x44 == 1 + 256 * 0x22 + 65536
    && (u.mbox 0x21 0).receiveWord 0 == 7) = true
    ∧ ends [.now, .ctl] (mail 0x21 1 0) (.mbxSGo 5 0 0x21 []) (fun u => (u.mbox 0 0x21).overrun && (u.mbox 0 0x21).seq == 3) = true
    ∧ ends [.now] (up.wr CPX_FW_STATUS_STAGE 2) (.mbxSGo 5 0 0x21 []) (fun _ => true) = true
    ∧ ends [.now, .hif, .ctl] (mail 0x21 1 0) (.mbxRDone 5 0 0x21) (fun u => !(u.mbox 0 0x21).busy && (u.mbox 0 0x21).emptied && (u.mbox 0 0x21).receiveWord 0 == 0) = true := by decide +kernel

theorem test_MailboxCommandsAreAnswered :
    (up.fwServes = true ∧ up.chanOpen 0x21 0 = true ∧ up.chanOpen 0x20 0 = true)
    ∧ ends [.regs, .now, .hif, .ctl] (mail 0x21 1 0) (.fwGetVersion 5 0) (fun u => reply u 0x21 0 [0, 0, 0, 0]) = true
    ∧ ends [.regs, .now, .hif, .ctl] (mail 0x21 4 0) (.fwGetVersion 5 0) (fun u => reply u 0x21 0x11 []) = true
    ∧ ends [.regs, .now, .time, .hif, .lst, .ctl, .fab, .mgt] (mail 0x21 2 77) (.setTime 5 0) (fun u => reply u 0x21 0 [] && u.now == 77) = true
    ∧ ends [.regs, .now, .hif, .ctl] (mail 0x21 3 99) (.readLog 5 0) (fun u => reply u 0x21 0x10 []) = true
    ∧ ends [.regs, .now, .hif, .ctl] (mail 0x20 1 0) (.mcGetVersion 5 0) (fun u => reply u 0x20 0 [0, 0, 1]) = true
    ∧ ends [.regs, .now, .hif, .ctl] (mail 0x20 0x103 15) (.getSensor 5 0) (fun u => reply u 0x20 0 [0, 1]) = true
    ∧ ends [.regs, .now, .hif, .ctl] (mail 0x20 0x103 99) (.getSensor 5 0) (fun u => reply u 0x20 0 [0, 0]) = true
    ∧ ends [.regs, .now, .hif, .ctl] (mail 0x20 0x104 0) (.getFwSlots 5 0) (fun u => reply u 0x20 0 [(up.slot 0).word, (up.slot 1).word]) = true
    ∧ ends [.regs, .now, .hif, .ctl] (mail 0x20 0x102 10) (.getMeasurement 5 0) (fun u => reply u 0x20 0x10 []) = true
    ∧ ends [.regs, .now, .hif, .ctl] ((mail 0x20 0x104 0).withMgt { up.mgt with app := false }) (.getFwSlots 5 0) (fun u => reply u 0x20 0x11 []) = true := by decide +kernel

def trial1 : State := { up with mgt := { up.mgt with trial := true, running := 1, slot1 := { FwSlot.factory with state := .trial, svnFloor := 3 } } }

def go : StartOps := ⟨none, true, [], true, true, [], []⟩
/-- Main rails up and a start's boot ROM running; slot 0 is confirmed. -/
def booting (m : MgtSt) : State := { up with ctl := { State.reset.ctl with boot := some go }, mgt := m }

theorem test_FirmwareStartsAndRestarts :
    ((up.slot 0).state = .confirmed ∧ up.imageOk [] 0 = true ∧ up.trialSlot = none ∧ (up.slot 1).version ≤ (up.slot 0).version)
    ∧ after (step (booting up.mgt)) (fun u => u.rd CPX_FW_STATUS_STAGE == 2 && u.rd CPX_FW_STATUS_SLOT == 0 && u.rd CPX_FW_STATUS_CORES_UP == 15 && u.ctl.boot == none && !u.mgt.trial) = true
    ∧ after (step (booting { up.mgt with slot1 := { up.slot 0 with version := (up.slot 0).version + 1 } })) (fun u => u.rd CPX_FW_STATUS_SLOT == 1 && u.mgt.running == 1) = true
    ∧ after (step (booting { up.mgt with slot1 := { up.slot 0 with state := .trial, boots := 2 } })) (fun u => u.mgt.trial && (u.slot 1).boots == 3) = true
    ∧ after (step (booting { up.mgt with slot0 := { up.slot 0 with state := .failed }, slot1 := { up.slot 1 with state := .failed } })) (fun u => u.rd CPX_FW_STATUS_STAGE == 4 && u.rd CPX_FW_STATUS_CORES_UP == 0) = true
    ∧ (up.sms.inSecond < 1000)
    ∧ ends [.regs, .now, .hif, .serve, .ctl, .sms, .lnk, .mgt] up (.firmwareRestart 5 0) (fun u => u.rd CPX_FW_STATUS_STAGE == 2 && counts up u CPX_FW_STATUS_RESTARTS
    && u.ctl.restarting && u.sms.log.any fun r => r.type_ == 0x0D && r.detail == [0, 1]) = true
    ∧ after (exec (.firmwareRestart 5 2) { up with ctl := { up.ctl with stores := { StoreSt.init with loaded := true } } }) (fun u => u.ctl.stores.toCheck == List.range 520) = true
    ∧ ends [.regs, .now, .hif, .serve, .ctl, .sms, .lnk, .mgt] up (.controlWatchdog 5 3) (fun u => u.ctl.restarting) = true
    ∧ ends [.now] (up.wr CPX_FW_STATUS_STAGE 1) (.controlWatchdog 5 3) (fun _ => true) = true
    ∧ ((up.wr CPX_FW_STATUS_STAGE 2).mainOn = true ∧ up.ctl.boot = none)
    ∧ ends [.regs, .now, .hif, .sms, .mgt] (up.wr CPX_FW_STATUS_STAGE 2) (.firmwareReady 5 ⟨true, none, []⟩) (fun u => u.rd CPX_FW_STATUS_STAGE == 4) = true
    ∧ ends [.regs, .now, .arbs, .hif, .serve, .lst, .ctl, .sms, .lnk, .ptm, .mgt] ((up.wr CPX_FW_STATUS_STAGE 2).withCtl { up.ctl with ready := false, stores := ⟨true, [3], []⟩ })
    (.firmwareReady 5 ⟨false, none, []⟩)
    (fun u => u.rd CPX_FW_STATUS_STAGE == 3 && u.ctl.ready && u.mgt.app && u.mgt.readyAt == 5 && u.ctl.stores.toCheck == [] && u.ctl.stores.loaded) = true
    ∧ ((let s := (ring.wr CPX_FW_STATUS_STAGE 2).setQueue 3 { ring.queue 3 with waiting := [.completion 0 7#256] }
  after (exec (.firmwareReady 5 ⟨false, none, []⟩) s) fun u => s.hostOn (s.owner 3) && u.hif.out.any fun w => match w with | .completion 3 _ _ e => e == 7#256 | _ => false) = true)
    ∧ (trial1.mainReady = true)
    ∧ ends [.now, .sms, .mgt] trial1 (.trialConfirm 60000000000) (fun u => (u.slot 1).state == .confirmed && !u.mgt.trial && u.mgt.floor == 3) = true
    ∧ ends [.now] trial1 (.trialConfirm 59999999999) (fun _ => true) = true
    ∧ ends [.regs, .now, .arbs, .hif, .serve, .ctl, .sms, .lnk, .mgt] trial1 (.fallback 600000000000 []) (fun u => (u.slot 1).state == .failed && u.mgt.fellBack
    && u.ctl.stores == StoreSt.init && u.rd CPX_FW_STATUS_STAGE == 2) = true
    ∧ ends [.now] trial1 (.fallback 599999999999 []) (fun _ => true) = true
    ∧ ends [.regs, .now, .hif, .ctl, .mgt] up (.mcWatchdog 5) (fun u => !u.mgt.app) = true := by decide +kernel

/-- A value on each side of a channel's window, where the factory made one that holds a value. -/
theorem test_window_sides (c : Nat) : outside c ((Config.windowHi c).toInt + 1) = true
    ∧ ((Config.windowLo c).toInt ≤ (Config.windowHi c).toInt → outside c (Config.windowLo c).toInt = false) := by
  constructor
  · have : (Config.windowHi c).toInt < (Config.windowHi c).toInt + 1 := by omega
    simp [outside, this]
  · intro h
    simp [outside, h]

/-- The module with its main rails up, and a temperature at the trip point. -/
def hot : State := up.withPtm { up.ptm with started := true, temps := [(535, 0x42E60000#32)] }

theorem test_MonitorRounds :
    (up.mainOn = true ∧ up.rd PTM_PSTATE_STATE ≠ 1 ∧ up.ptm.fastAt = 0 ∧ up.pwr.tripLatch = false ∧ up.ptm.started = false)
    ∧ ends [.now] { up with ptm := { up.ptm with fastAt := 1 } } (.fastRound 7999 [] [] 0 0 0) (fun _ => true) = true
    ∧ (up.ptm.slowAt + up.slowPeriod ≤ 4000000000 / 1000000 + 1)
    ∧ (f32Le 0x42E60000#32 (hot.temp 535) = true ∧ f32Le 0x42E60000#32 (up.temp 535) = false)
    ∧ (({ up with ptm := { up.ptm with inject := [(600, 0)] } }).ptm.inject.find? (·.1 == 600) = some (600, 0))
    ∧ (((up.diode 79).failed || up.pwr.tripLatch) = false) := by decide +kernel

theorem test_PowerStatesFollowRequests :
    ((up.advance 5).quiet = true ∧ up.lastingsAhead = false)
    ∧ ends [.regs, .now] up (.ptmPstateEnterMp1 5 0) (fun u => u.bit PTM_PSTATE_REQ && u.rd PTM_PSTATE_STATE == 2) = true
    ∧ ends [.regs, .now] (lastings) (.ptmPstateEnterMp1 5 0) (fun u => !u.bit PTM_PSTATE_REQ && u.bit PTM_PSTATE_CFG_ERR && u.rd PTM_PSTATE_STATE == 0) = true
    ∧ ends [.regs, .now, .fab, .ptm] (up.wr PTM_PSTATE_STATE 1) (.ptmPstateExitMp1 5 0) (fun u => u.rd PTM_PSTATE_STATE == 3 && u.ptm.verifyDue) = true
    ∧ ends [.regs, .now] up (.ptmPstateExitMp1 5 0) (fun u => u.rd PTM_PSTATE_STATE == 0) = true
    ∧ ends [.regs, .now, .fab, .ptm] ((up.wr PTM_PSTATE_STATE 2).wr PTM_PSTATE_REQ 1) (.mp1EntryComplete 5) (fun u => u.rd PTM_PSTATE_STATE == 1) = true
    ∧ ends [.regs, .now, .fab, .ptm] (up.wr PTM_PSTATE_STATE 2) (.mp1EntryComplete 5) (fun u => u.rd PTM_PSTATE_STATE == 3) = true
    ∧ ends [.regs, .now, .lst, .ptm] { up.wr PTM_PSTATE_STATE 3 with ptm := { up.ptm with verifyDue := true, roundDue := false } } (.mp0ReturnComplete 5 [])
    (fun u => u.rd PTM_PSTATE_STATE == 0 && !u.ptm.verifyDue) = true := by decide +kernel

def pwr (p : PwrSt) : State := { up with pwr := p }

theorem test_SuppliesAndResets :
    ends [.now, .pwr] up (.standbySample 5 330 9) (fun u => u.pwr.standbyV == 330 && u.pwr.standbyI == 9) = true
    ∧ ends [.regs, .now, .pwr, .mgt] (pwr { up.pwr with standby := false, up := false, rails := false, tripLatch := true, pwrEn := false }) (.standbyApply 5 100000000)
    (fun u => u.pwr.up && !u.pwr.tripLatch && !u.pwr.rails) = true
    ∧ after (exec (.standbyRemove 5) up) (fun u => !u.pwr.rails && !u.pwr.standby && u.mem == MemSt.init && u.shadow == [] && u.hif.out == up.hif.out) = true
    ∧ ends [.now, .pwr] (pwr { up.pwr with rails := false, pwrEn := false }) (.pwrEnRise 5 true) (fun u => u.pwr.rails && u.pwr.pwrEn) = true
    ∧ after (exec (.pwrEnFall 5 true) up) (fun u => !u.pwr.rails && !u.pwr.main54 && u.pwr.pwrEn && !u.mgt.app) = true
    ∧ ends [.now, .pwr] (pwr { up.pwr with pwrGood := false, perst := true }) (.pwrGoodRise 5 go) (fun u => u.pwr.pwrGood) = true
    ∧ after (exec (.pwrGoodRise 5 go) (pwr { up.pwr with pwrGood := false })) (fun u => u.pwr.pwrGood && u.rd CPX_FW_STATUS_STAGE == 1 && u.rd CPX_FW_STATUS_CORES_UP == 1 && u.ctl.boot == some go) = true
    ∧ after (exec (.perstNAssert 5 .pin) up) (fun u => u.pwr == { up.pwr with perst := true } && u.time == TimeSt.init) = true
    ∧ after (exec (.perstNAssert 5 (.inBand go)) up) (fun u => u.pwr.perst == false && u.rd CPX_FW_STATUS_STAGE == 1) = true
    ∧ after (exec (.perstNRelease 5 go) (pwr { up.pwr with perst := true })) (fun u => u.rd CPX_FW_STATUS_STAGE == 1 && u.ctl.boot == some go) = true
    ∧ ends [.now, .pwr] (pwr { up.pwr with perst := true, rails := false }) (.perstNRelease 5 go) (fun u => !u.pwr.perst) = true
    ∧ ends [.now, .pwr] up (.peRefclkLoss 5 go) (fun u => !u.pwr.refclk) = true
    ∧ after (exec (.peRefclkLoss 5 go) (up.wr HIF_LINK_SPEED 6)) (fun u => !u.pwr.refclk && u.rd HIF_LINK_SPEED == 0) = true := by decide +kernel

/-- Core 519 with the given health, its test due at once. -/
def sick (h : Health) : State := { up with sms := { up.sms with health := [(519, h)] } }

def scrubbing : State := (up.wr MEM_CTRL_SCRUB_EN 1).withMem { up.mem with scrubFrom := 1 }

theorem test_UpkeepRuns :
    (((sick { Health.init with due := 7, slice := 62 }).advance 400005).sliceMayRun 519 = true)
    ∧ ends [.now, .sms] ((sick { Health.init with level := 3, quietFrom := 7 }).wr SMS_CTRL_DECAY_DAYS 1) (.marginDecay (7 + 24 * hourNs) 519) (fun u =>
    (u.health 519).downPending) = true
    ∧ ends [.now] ((sick { Health.init with level := 3, quietFrom := 7 }).wr SMS_CTRL_DECAY_DAYS 1) (.marginDecay (6 + 24 * hourNs) 519) (fun _ => true) = true
    ∧ ends [.regs, .now, .serve, .sms] (sick { Health.init with due := 7, slice := 62 }) (.iftSlice 400005 519 true 0) (fun u => (u.health 519).slice == 63
    && counts up u SMS_IFT_SLICE_CNT_COUNT) = true
    ∧ ends [.regs, .now, .serve, .sms] (sick { Health.init with due := 7, slice := 63 }) (.iftSlice 400005 519 true 0) (fun u => (u.health 519).slice == 0
    && (u.health 519).due == 7 + up.iftPeriod) = true
    ∧ ends [.regs, .now, .arbs, .hif, .serve, .ctl, .sms, .lnk, .mgt] (sick { Health.init with due := 7, slice := 63 }) (.iftSlice 400005 519 false 0) (fun u => (u.health 519).slice == 63
    && counts up u SMS_IFT_FAIL_CNT_COUNT && counts up u SMS_SUSPECT_CNT_COUNT && u.bit SMS_EVENT_IFT_FAIL) = true
    ∧ ends [.regs, .now, .sms] up (.iftSlice 5 551 true 0) (fun u => counts up u SMS_IFT_SLICE_CNT_COUNT && (u.health 551).slice == 1) = true
    ∧ ends [.regs, .now, .hif, .sms] up (.iftSlice 5 520 false 0) (fun u => counts up u SMS_IFT_FAIL_CNT_COUNT && u.bit SMS_EVENT_IFT_FAIL) = true
    ∧ ends [.now, .serve, .sms] (sick { Health.init with due := 7 }) (.iftOverdue 7 519) (fun u => (u.health 519).overdue && SMap.get 0 u.serve.testPause 519 == 1) = true
    ∧ ends [.now] (sick { Health.init with due := 7 }) (.iftOverdue 6 519) (fun _ => true) = true
    ∧ ((scrubbing.scrubOn && decide (scrubbing.mem.scrubA < tierLines false)) = true)
    ∧ ends [.regs, .now, .arbs, .mem] scrubbing (.scrubRead 5 false 3 []) (fun u => u.mem.scrubA == 3) = true
    ∧ after (exec (.scrubRead 5 false 3 [⟨0, 130, false, true, 0⟩]) scrubbing) (fun u => counts up u MEM_CE_A_CNT_COUNT && u.bit MEM_ERR_LOG0_VALID
    && u.rd MEM_ERR_ADDR_ADDR == 128) = true
    ∧ ends [.now] (up.wr MEM_CTRL_SCRUB_EN 0) (.scrubRead 5 false 3 []) (fun _ => true) = true
    ∧ ends [.now, .lnk] (up.withLnk { up.lnk with bridgeReplays := [(2, 5), (3, 7)] }) (.bridgeFlitReceive 5 1 true true) (fun u => u.lnk.bridgeReplays == [(2, 5), (3, 8)]) = true
    ∧ ends [.now, .lnk] (up.withLnk { up.lnk with bridgeReplays := [(2, 5), (3, 8)] }) (.bridgeFlitReceive 5 1 true false) (fun u => u.lnk.bridgeReplays == [(2, 5)]) = true
    ∧ ends [.regs, .now, .arbs, .hif, .serve, .ctl, .sms, .lnk] (up.withLnk { up.lnk with bridgeReplays := [(2, 5), (3, 8)] }) (.bridgeFlitReceive 5 1 true true) (fun u =>
    u.lnk.bridgeDown == [(1, true)] && u.lnk.bridgeReplays == [] && u.sms.log.any fun r => r.type_ == 0x07 && r.detail == [1, 8]) = true
    ∧ ends [.now, .lnk] (up.withLnk { up.lnk with bridgeDown := [(1, true)] }) (.bridgeRetrain 5 1) (fun u => u.lnk.bridgeDown == []) = true := by decide +kernel

def mgt (m : MgtSt) : State := { up with mgt := m }
/-- One message sent on the management port. -/
def sends (s : State) (c : Instr) (m : MgtMsg) (p : State → Bool) : Bool := ends [.now, .mgt] s c fun u => u.mgt.out == [m] && p u

theorem test_MctpControlAnswers :
    (up.pwr.up = true)
    ∧ (sends up (.setEndpointId 5 254) (.endpoint 254) (fun u => u.mgt.eid == 254 && u.mgt.mode == 1))
    ∧ (sends up (.getMctpVersionSupport 5) (.mctpVersions [0x13]) (fun _ => true))
    ∧ (sends up (.i3cSetdasa 5 0x4D 127) (.address 127) (fun u => u.mgt.dynAddr == 127 && u.mgt.mode == 2))
    ∧ (sends up (.i3cEntdaa 5 8) (.address 8) (fun u => u.mgt.dynAddr == 8 && u.mgt.mode == 2)) := by decide +kernel

theorem test_SpdmAnswers :
    (sends up (.spdmGetVersion 5) (.spdmVersions [0x12]) (fun u => u.mgt.spdm == .version))
    ∧ (sends (mgt { up.mgt with spdm := .capabilities }) (.getCapabilities 5) (.spdmCapabilities 1 1 2 13 1024 1024) (fun _ => true))
    ∧ (sends (mgt { up.mgt with spdm := .capabilities }) (.negotiateAlgorithms 5 true) .spdmAlgorithms (fun u => u.mgt.spdm == .negotiated))
    ∧ (sends (mgt { up.mgt with spdm := .negotiated }) (.getMeasurements 5 0 false []) (.spdmMeasurementCount 9 none) (fun _ => true)) := by decide +kernel

theorem test_PldmBaseAnswers :
    (sends up (.settid 5 254) (.completion 0) (fun u => u.mgt.tid == 254))
    ∧ (sends up (.getpldmversion 5 2) (.pldmVersion 2 1 2) (fun _ => true))
    ∧ (sends up (.getpldmtypes 5) (.pldmTypes [0, 2, 5]) (fun _ => true)) := by decide +kernel

theorem test_PldmMonitors :
    (sensorIds.contains 1 = true ∧ sensorIds.contains 103 = true)
    ∧ (sends up (.getsensorreading 5 15) (.reading 15 (some 0)) (fun _ => true))
    ∧ (sends up (.getstatesensorreadings 5 103) (.reading 103 (some 3)) (fun _ => true))
    ∧ (sends (mgt { up.mgt with events := [(100, 1), (103, 2)] }) (.pollforplatformeventmessage 5) (.event 100 1) (fun u => u.mgt.events == [(103, 2)]))
    ∧ (sends up (.pollforplatformeventmessage 5) .noEvent (fun _ => true))
    ∧ (sends (mgt { up.mgt with events := [(100, 1), (103, 2)], receiver := some 9 }) (.platformeventmessageAck 5) (.event 103 2) (fun u => u.mgt.events == [(103, 2)])) := by decide +kernel

def updating (p : UpdPhase) (l : List Byte) : State := mgt { up.mgt with update := some ⟨7, 1, p, 3000, l⟩ }

theorem test_UpdatesRun :
    (up.trialSlot = none ∧ up.flashUp = true)
    ∧ (sends up (.requestupdate 5 7) (.completion 0) (fun u => u.mgt.update == some ⟨7, 1, .learn, 0, []⟩))
    ∧ (sends (updating .learn []) (.passcomponenttable 5 7) (.completion 0) (fun u => u.mgt.update == some ⟨7, 1, .ready, 3000, []⟩))
    ∧ ends [.now, .mgt] (updating .ready []) (.updatecomponent 5 7 1025) (fun u => u.mgt.out == [.completion 0, .requestData 0 1024] && (u.slot 1).state == .empty) = true
    ∧ (sends (updating .ready []) (.requestupdate 5 8) (.completion 0x81) (fun _ => true))
    ∧ ((updating .download (List.replicate 100 0)).mgt.update = some ⟨7, 1, .download, 3000, List.replicate 100 0⟩)
    ∧ ends [.now, .mgt] (updating .applied []) (.activatefirmware 5 7) (fun u => u.mgt.update == none && (u.slot 1).state == .trial && (u.slot 1).boots == 0) = true
    ∧ ends [.now, .mgt] (updating .applied []) (.cancelupdatecomponent 5 7) (fun u => u.mgt.update == some ⟨7, 1, .ready, 3000, []⟩ && (u.slot 1).state == .empty) = true
    ∧ ends [.now, .mgt] (updating .download []) (.cancelupdate 5 7) (fun u => u.mgt.update == none && (u.slot 1).state == .empty) = true := by decide +kernel

theorem test_BufferReadsTimeOut :
    ends [.regs, .now, .arbs, .hif, .serve] (sess [{ s3 with queue := [{ mkRequest 9 hdr (.tune tune9) with phase := .accepted }] }]) (.completionTimeout 5 (.buffer 0 0x77))
    (fun u => counts up u HIF_CPL_TIMEOUT_CNT_COUNT && u.hif.aer == [(0, "Completion Timeout")]) = true := by decide +kernel

/-- Windows and LSBs at their bounds. -/
def edgeRun : XbRun := ⟨0, 0, 0, [], false, [8, 8], List.replicate 2 (List.replicate 8 16), [0], ⟨0, 0, []⟩, none⟩

theorem test_PartialsStayInBound :
    (codeOf (255 * 4096 + 3000) 16 = 255 ∧ codeOf (-255 * 4096 - 3000) 16 = -255)
    ∧ ((∀ m ∈ edgeRun.wins, m ≤ 8) ∧ (∀ l ∈ edgeRun.lsbs, l.length ≤ 8 ∧ ∀ n ∈ l, n ≤ 16))
    ∧ ((zeroBlk.elems.length = 512 ∧ ∀ q ∈ zeroBlk.elems, q.natAbs ≤ 128)) := by decide +kernel

theorem test_NominalTimes :
    (nominalStep false 1 1 300 = 163407488 ∧ nominalStep false 1 1 4096 / 1000000 = 284)
    ∧ (nominalPiece 2048 / 100000 = 22324 ∧ nominalPiece 1846 / 100000 = 22065 ∧ nominalPiece 768 / 100000 = 20685 ∧ nominalPiece 36 / 100000 = 11183) := by decide +kernel

/-! Ill-formed terms, one for each check of `Instr.wf`, beside a well-formed neighbour at the bound. -/

theorem test_wf_functions_and_queues :
    ((Instr.kvmCommit 0 31).wf = true ∧ (Instr.kvmCommit 0 32).wf = false)
    ∧ ((Instr.queueDrained 0 255).wf = true ∧ (Instr.queueDrained 0 256).wf = false)
    ∧ ((Instr.nop 0 { hdr with adapter := 63 }).wf = true ∧ (Instr.nop 0 { hdr with adapter := 64 }).wf = false)
    ∧ ((Instr.sessionOpen 0 hdr 65535 7).wf = true ∧ (Instr.sessionOpen 0 hdr 65536 7).wf = false ∧ (Instr.sessionOpen 0 hdr 0 8).wf = false)
    ∧ ((Instr.pause 0 hdr (2 ^ 64)).wf = false ∧ (Instr.cancel 0 hdr (2 ^ 32)).wf = false ∧ (Instr.setEndpointId 0 256).wf = false)
    ∧ ((Instr.prefill 0 hdr (prompt4 (2 ^ 32 - 1))).wf = true ∧ (Instr.prefill 0 hdr (prompt4 (2 ^ 32))).wf = false)
    ∧ ((Instr.prefill 0 hdr ⟨⟨256, 0, 0#16, 0#16, 0#16, 0⟩, 1, 4⟩).wf = false)
    ∧ ((Instr.generate 0 hdr { gen5 with draftMax := 7 }).wf = true ∧ (Instr.generate 0 hdr { gen5 with draftMax := 8 }).wf = false)
    ∧ ((Instr.adapterTune 0 hdr { tune9 with count := 2 ^ 32 }).wf = false ∧ (Instr.loadObject 0 hdr { load2 with slot := 256 }).wf = false)
    ∧ ((Instr.halfLatchRead 0 0 1 0 8).wf = false ∧ (Instr.halfLatchRead 0 0 2 0 0).wf = false ∧ (Instr.halfLatchRead 0 0 4 0 8).wf = true)
    ∧ ((Instr.msixUnmask 0 0 (.vector 63 false)).wf = true ∧ (Instr.msixUnmask 0 0 (.vector 64 false)).wf = false)
    ∧ ((Instr.completionTimeout 0 (.fetch 256)).wf = false) := by decide +kernel

theorem test_wf_cores_and_vectors :
    ((Instr.endList 0 519).wf = true ∧ (Instr.endList 0 520).wf = false)
    ∧ ((Instr.shadowCheck 0 511 7 8 7 0).wf = true ∧ (Instr.shadowCheck 0 512 7 8 7 0).wf = false ∧ (Instr.shadowCheck 0 511 8 8 7 0).wf = false)
    ∧ ((Instr.shadowCheck 0 511 7 9 7 0).wf = false ∧ (Instr.shadowCheck 0 511 7 8 8 0).wf = false)
    ∧ ((Instr.weltWorkComplete 0 511 7 1 .good).wf = true ∧ (Instr.weltWorkComplete 0 511 7 2 .good).wf = false)
    ∧ ((Instr.vectorLoad 0 vload).wf = true ∧ (Instr.vectorLoad 0 { vload with cluster := 8 }).wf = false)
    ∧ ((Instr.transposeVector 0 { tload with core := 512 } []).wf = false)
    ∧ ((Instr.columnFlowArrive 0 4 2 0 [⟨8, 7, 3, 7, [(539, 1)]⟩] .good).wf = true ∧ (Instr.columnFlowArrive 0 4 2 0 [⟨8, 7, 4, 7, []⟩] .good).wf = false)
    ∧ ((Instr.columnFlowArrive 0 4 2 0 [⟨8, 7, 3, 8, []⟩] .good).wf = false ∧ (Instr.columnFlowArrive 0 4 2 0 [⟨8, 7, 3, 7, [(520, 1)]⟩] .good).wf = false)
    ∧ ((Instr.columnFlowArrive 0 4 2 0 [] (.residue (2 ^ 32) 0)).wf = false ∧ (Instr.lastingComplete 0 460 [⟨512, 0, 0, 1⟩]).wf = false)
    ∧ ((Instr.drain 0 4 2 0 [(7, .torus 4096 0 0)] .good).wf = false ∧ (Instr.drain 0 4 2 0 [(7, .torus 1 32 0)] .good).wf = false)
    ∧ ((Instr.enginePush 0 4 (entB 8 0) .good).wf = true ∧ (Instr.enginePush 0 4 (entB 8 0).tail .good).wf = false)
    ∧ ((Instr.engineEntryStart 0 4 13).wf = false ∧ (Instr.barrierHang 0 4 64).wf = false ∧ (Instr.lehrRefresh 0 (576 * 512)).wf = false)
    ∧ ((Instr.attentionForward 0 (attn1 519) [] (.buf 3) .good []).wf = true ∧ (Instr.attentionForward 0 { attn1 519 with heads := [] } [] (.buf 3) .good []).wf = false)
    ∧ ((Instr.attentionForward 0 { attn1 519 with unit := 8 } [] (.buf 3) .good []).wf = false ∧ (Instr.attentionForward 0 { attn1 519 with table := 0x2FFFFFF0 } [] (.buf 3) .good []).wf = false)
    ∧ ((Instr.dma 0 4 none (.load 0x2FFFFFF0 16 3 .raw) []).wf = true ∧ (Instr.dma 0 4 none (.load 0x2FFFFFF0 17 3 .raw) []).wf = false)
    ∧ ((Instr.dma 0 4 none (.readEntry 64 (2 ^ 32) 3 .raw) []).wf = false ∧ (Instr.queueEntryWrite 0 0x2FFFFFFF 5 0 2 [1, 2]).wf = false)
    ∧ ((Instr.scrubRead 0 false 1 [⟨3, 0, false, true, 0⟩]).wf = false) := by decide +kernel

theorem test_wf_links_and_management :
    ((Instr.torusPortDown 0 5).wf = true ∧ (Instr.torusPortDown 0 6).wf = false ∧ (Instr.dataFlit 0 5 []).wf = false)
    ∧ ((Instr.storageLinkUp 0 1).wf = true ∧ (Instr.storageLinkUp 0 2).wf = false ∧ (Instr.storageNak 0 1 64 true).wf = false)
    ∧ ((Instr.mbxSGo 0 0 1 (List.replicate 17 0)).wf = false ∧ (Instr.controlWatchdog 0 4).wf = false ∧ (Instr.monitorTrackVisit 0 3 ⟨0, 0, 0⟩).wf = false)
    ∧ ((Instr.bridgeRetrain 0 2).wf = false ∧ (Instr.i3cEntdaa 0 128).wf = false ∧ (Instr.challenge 0 0 []).wf = false)
    ∧ ((Instr.getpdr 0 (2 ^ 32)).wf = false ∧ (Instr.vfEnableSet 0 65536 true).wf = false) := by decide +kernel

theorem test_no_word_spells_a_command :
    (decodeTableWord 0 0 = none)
    ∧ (State.reset.withFetchWord 0 0 = State.reset) := by decide +kernel

theorem test_idle_and_first_in_first_out :
    after (step State.reset) (fun u => u == State.reset) = true
    ∧ after (step { up with pending := [.lstCommit 3 0, .kvmCommit 9 0] }) (fun u => u.pending == [.kvmCommit 9 0] && u.now == 3) = true := by decide +kernel

/-- A state that meets the invariant, with a command that waits. -/
def waits : State := { State.reset with pending := [.lstCommit 3 31] }

theorem test_StepsKeepInvariant : waits.Inv ∧ after (step waits) (fun u => u.pending.isEmpty) = true :=
  ⟨⟨fun c h => by rw [List.mem_singleton.mp h]; decide, show SMap.rises _ = true by decide, by decide, by decide, by decide⟩, by decide +kernel⟩


end Sys2Proof.Tests
end

section
/-! PROOFS. Which register fields an update changes, how COMMIT acts (R8, R244), and the state after reset (R7, R456). -/

namespace Sys2Proof.Machine

/-! Which register fields an update may change. -/

theorem RegsBut.refl (l : List (Fld × Nat)) (s : State) : RegsBut l s s := fun _ _ _ => rfl

theorem RegsBut.trans {l : List (Fld × Nat)} {s t u : State} (h : RegsBut l s t) (k : RegsBut l t u) : RegsBut l s u :=
  fun f b n => (k f b n).trans (h f b n)

/-- A write of a listed field changes no other. -/
theorem RegsBut.wr {l : List (Fld × Nat)} {s t : State} (h : RegsBut l s t) {f : Fld} {b : Nat} (hf : (f, b) ∈ l) (v : Nat) :
    RegsBut l s (t.wr f v b) := by
  intro g c n
  have hne : g.key c ≠ f.key b := n (f, b) hf
  rw [State.rd_wr_ne t g f v c b hne, h g c n]

/-- An update that leaves the register table alone changes no field. -/
theorem RegsBut.of_regs {l : List (Fld × Nat)} {s t u : State} (h : RegsBut l s t) (e : u.regs = t.regs) : RegsBut l s u :=
  fun g c n => (show u.rd g c = t.rd g c by unfold State.rd; rw [e]).trans (h g c n)

theorem State.pfEvent_regs (s : State) (src : EvtSrc) : (s.pfEvent src).regs = s.regs :=
  (State.pfEvent_same (A := [.hif]) (SameBut.refl _ s) src (by decide)).regs (by decide)

/-- An event bit that is raised changes only that bit. -/
theorem RegsBut.raise {l : List (Fld × Nat)} {s t : State} (h : RegsBut l s t) {ev : Fld} (hf : (ev, 0) ∈ l)
    (enabled : Bool) (src : EvtSrc) : RegsBut l s (t.raise ev enabled src) := by
  have hset : RegsBut l s (t.setBit ev) := h.wr hf 1
  unfold State.raise State.when
  split
  · exact h
  · split
    · exact hset.of_regs (State.pfEvent_regs _ src)
    · exact hset

/-! What a change of settings does to the sources of time (R238, R239, R262). -/

/-- The fields that follow the sources of external time: the locks, QUALITY, the holdover count and the two events. -/
def sourceFields : List (Fld × Nat) :=
  [(TWS_STATUS_PPS_OK, 0), (TWS_STATUS_PTP_OK, 0), (TWS_STATUS_QUALITY, 0), (TWS_HOLDOVER_CNT_COUNT, 0),
    (TWS_EVENT_UNLOCK, 0), (TWS_EVENT_QUALITY_CHG, 0)]

theorem State.checkUnlock_regsBut {s t : State} (h : RegsBut sourceFields s t) : RegsBut sourceFields s t.checkUnlock := by
  refine RegsBut.of_regs (t := t.when _ _) ?_ rfl
  unfold State.when
  split
  · exact h.raise (by simp [sourceFields]) _ _
  · exact h

theorem State.setErr_regsBut {s t : State} (h : RegsBut sourceFields s t) (v : Nat) (grows : Bool) :
    RegsBut sourceFields s (t.setErr v grows) :=
  State.checkUnlock_regsBut (h.of_regs rfl)

theorem State.setQuality_regsBut {s t : State} (h : RegsBut sourceFields s t) (q : Nat) :
    RegsBut sourceFields s (t.setQuality q) := by
  unfold State.setQuality
  split
  · exact h
  · exact (h.wr (by simp [sourceFields]) q).raise (by simp [sourceFields]) _ _

theorem State.requality_regsBut {s t : State} (h : RegsBut sourceFields s t) : RegsBut sourceFields s t.requality := by
  unfold State.requality
  dsimp only
  split
  · exact State.setErr_regsBut (State.setQuality_regsBut (RegsBut.of_regs (u := t.draw.2) h rfl) 3) _ _
  · split
    · exact State.setErr_regsBut (State.setQuality_regsBut h 2) _ _
    · split
      · exact (State.setErr_regsBut (State.setQuality_regsBut h 4) _ _).wr (by simp [sourceFields]) _
      · exact h

/-- Settings that change move, beside themselves, only what follows the sources of time. -/
theorem State.retime_regsBut (s : State) : RegsBut sourceFields s s.retime := by
  unfold State.retime
  extract_lets pps ptp s1 s2
  have h1 : RegsBut sourceFields s s1 := by
    unfold s1
    split
    · exact RegsBut.refl _ s
    · exact (RegsBut.refl _ s).wr (by simp [sourceFields]) 0
  have h2 : RegsBut sourceFields s s2 := by
    unfold s2
    split
    · exact h1
    · exact h1.wr (by simp [sourceFields]) 0
  apply State.checkUnlock_regsBut
  split
  · exact State.requality_regsBut h2
  · exact h2

/-! COMMIT (R8, R244). -/

/-- The command that writes a block's COMMIT register. -/
def Blk.commitInstr : Blk → Nat → Nat → Instr
  | .amf => .amfCommit
  | .ccv => .ccvCommit
  | .wlt => .wltCommit
  | .acr => .acrCommit
  | .atn => .atnCommit
  | .kvm => .kvmCommit
  | .lst => .lstCommit
  | .tws => .twsCommit
  | .hif => .hifCommit
  | .cpx => .cpxCommit
  | .cst => .cstCommit
  | .mem => .memCommit
  | .ptm => .ptmCommit
  | .sms => .smsCommit

theorem exec_commitInstr (b : Blk) (t fn : Nat) (s : State) : exec (b.commitInstr t fn) s = .next (s.commitWrite t fn b) := by
  cases b <;> rfl

theorem State.commitWrite_of_accepts {s : State} (h : s.accepts 0 = true) (t : Nat) (b : Blk) :
    s.commitWrite t 0 b = (s.advance t).commit b := if_pos h

/-- A COMMIT register is the physical function's alone (R328). -/
theorem State.commitWrite_of_ne {fn : Nat} (h : fn ≠ 0) (s : State) (t : Nat) (b : Blk) :
    s.commitWrite t fn b = s.advance t :=
  if_neg (by simp [State.accepts, h])

/-- The writes of a block that wait in its shadow. -/
def State.shadowOf (s : State) (b : Blk) : List ShWrite := s.shadow.filter (·.blk == b)

/-- The state without a block's shadow writes. -/
def State.withoutShadowOf (s : State) (b : Blk) : State := { s with shadow := s.shadow.filter (·.blk != b) }

theorem State.commit_of_empty {s : State} {b : Blk} (h : s.shadowOf b = []) : s.commit b = s :=
  if_pos (List.isEmpty_iff.mpr h)

theorem State.commit_of_nonempty {s : State} {b : Blk} (h : s.shadowOf b ≠ []) :
    s.commit b = if s.running then { s.withoutShadowOf b with commits := s.commits ++ [(s.now, s.shadowOf b)] }
      else (s.withoutShadowOf b).applyShadow (s.shadowOf b) :=
  if_neg (by rwa [List.isEmpty_iff])

/-- While the wheel runs a block's writes wait for a boundary with the time of the commit (R244). -/
theorem State.commit_of_running {s : State} {b : Blk} (hr : s.running = true) (h : s.shadowOf b ≠ []) :
    s.commit b = { s.withoutShadowOf b with commits := s.commits ++ [(s.now, s.shadowOf b)] } :=
  (State.commit_of_nonempty h).trans (if_pos hr)

/-- While the wheel stands a block's writes act at once (R244). -/
theorem State.commit_of_standing {s : State} {b : Blk} (hr : s.running = false) (h : s.shadowOf b ≠ []) :
    s.commit b = (s.withoutShadowOf b).applyShadow (s.shadowOf b) :=
  (State.commit_of_nonempty h).trans (if_neg (by simp [hr]))

/-- Shadowed values that take effect leave the shadow as it is. -/
theorem State.applyShadow_shadow (s : State) (l : List ShWrite) : (s.applyShadow l).shadow = s.shadow :=
  (State.applyShadow_same (A := [.regs, .now, .time, .arbs, .hif, .serve, .sms, .lnk, .free]) (SameBut.refl _ s) l
    (by decide) (by decide) (by decide) (by decide) (by decide) (by decide) (by decide) (by decide) (by decide)).shadow
    (by decide)

/-- A shadowed value that is in effect is the one its field reads, but for a characterisation mode, whose record follows. -/
theorem State.applyWrite_rd (s : State) (b : Blk) (f : Fld) (v : Nat) (h : isCharacter ⟨b, f.key 0, f.reset, v⟩ = none) :
    (s.applyWrite ⟨b, f.key 0, f.reset, v⟩).rd f = v := by
  unfold State.applyWrite
  rw [h]
  exact SMap.get_put_same _ _ _ _

/-- One shadowed value takes effect as a write between what is settled before it and what follows it. -/
theorem State.applyShadow_singleton (s : State) (w : ShWrite) :
    ∃ r : State, s.applyShadow [w] = (r.applyWrite w).renewArbs.retime := ⟨_, rfl⟩

/-- A shadowed field that takes effect alone reads as the value written (R8), where it neither is a characterisation mode nor
follows the sources of time. -/
theorem State.applyShadow_singleton_rd (s : State) (b : Blk) (f : Fld) (v : Nat)
    (hc : isCharacter ⟨b, f.key 0, f.reset, v⟩ = none) (hf : ∀ e ∈ sourceFields, f.key 0 ≠ e.1.key e.2) :
    (s.applyShadow [⟨b, f.key 0, f.reset, v⟩]).rd f = v := by
  obtain ⟨r, hr⟩ := s.applyShadow_singleton ⟨b, f.key 0, f.reset, v⟩
  rw [hr]
  calc (r.applyWrite ⟨b, f.key 0, f.reset, v⟩).renewArbs.retime.rd f
      = (r.applyWrite ⟨b, f.key 0, f.reset, v⟩).renewArbs.rd f := State.retime_regsBut _ f 0 hf
    _ = (r.applyWrite ⟨b, f.key 0, f.reset, v⟩).rd f := State.withArbs_rd _ _ f 0
    _ = v := r.applyWrite_rd b f v hc

/-- A block's COMMIT while the wheel runs (R244). -/
theorem commit_waits_while_running (t : Nat) (s : State) (b : Blk) (ha : s.accepts 0 = true) (hr : s.running = true)
    (hm : s.shadowOf b ≠ []) :
    Ends (exec (b.commitInstr t 0) s) fun u => SameBut [.shadow, .commits, .now] s u
      ∧ u.shadow = s.shadow.filter (·.blk != b) ∧ u.commits = s.commits ++ [(max s.now t, s.shadowOf b)] := by
  rw [exec_commitInstr, ends_next, State.commitWrite_of_accepts ha,
    State.commit_of_running (s := s.advance t) hr hm]
  exact ⟨SameBut.set_commits (SameBut.set_shadow (State.advance_same (SameBut.refl _ s) t (by decide)) _ (by decide)) _
    (by decide), rfl, rfl⟩

/-- A block's COMMIT while the wheel stands (R244). -/
theorem commit_acts_while_standing (t : Nat) (s : State) (b : Blk) (ha : s.accepts 0 = true) (hr : s.running = false)
    (hm : s.shadowOf b ≠ []) :
    exec (b.commitInstr t 0) s = .next (((s.advance t).withoutShadowOf b).applyShadow (s.shadowOf b)) := by
  rw [exec_commitInstr, State.commitWrite_of_accepts ha, State.commit_of_standing (s := s.advance t) hr hm]
  rfl

theorem commit_standing_frame (t : Nat) (s : State) (b : Blk) (l : List ShWrite) :
    SameBut [.regs, .shadow, .now, .time, .arbs, .hif, .serve, .sms, .lnk, .free] s
      (((s.advance t).withoutShadowOf b).applyShadow l) :=
  State.applyShadow_same (SameBut.set_shadow (State.advance_same (SameBut.refl _ s) t (by decide)) _ (by decide)) l
    (by decide) (by decide) (by decide) (by decide) (by decide) (by decide) (by decide) (by decide) (by decide)

theorem commit_standing_shadow (t : Nat) (s : State) (b : Blk) (l : List ShWrite) :
    (((s.advance t).withoutShadowOf b).applyShadow l).shadow = s.shadow.filter (·.blk != b) :=
  State.applyShadow_shadow _ l

/-- A COMMIT with nothing pending only moves time on. -/
theorem commit_of_nothing_pending (t : Nat) (s : State) (b : Blk) (ha : s.accepts 0 = true) (hm : s.shadowOf b = []) :
    exec (b.commitInstr t 0) s = .next (s.advance t) := by
  rw [exec_commitInstr, State.commitWrite_of_accepts ha, State.commit_of_empty (s := s.advance t) hm]

/-- Settles O9: the commit's three cases by the wheel and what waits in the shadow; the value in force is that of the last write of
the register table, which what follows it leaves alone. -/
theorem commitsLatch : Obligations.CommitsLatch := by
  unfold Obligations.CommitsLatch
  refine ⟨fun t s c b ha hc => ?_, fun t v s c b f ha hr hc _ hm => ?_⟩
  · obtain rfl : c = b.commitInstr := by
      obtain ⟨b', -, h⟩ := List.mem_map (f := fun b : Blk => (b.commitInstr, b))
        (l := [Blk.amf, .ccv, .wlt, .acr, .atn, .kvm, .lst, .tws, .hif, .cpx, .cst, .mem, .ptm, .sms]) |>.mp hc
      cases h; rfl
    refine ⟨fun hr hm => commit_waits_while_running t s b ha hr hm, fun hr hm => ?_,
      fun hm => commit_of_nothing_pending t s b ha hm, fun fn hfn => ?_⟩
    · rw [commit_acts_while_standing t s b ha hr hm, ends_next]
      exact ⟨commit_standing_frame t s b _, commit_standing_shadow t s b _⟩
    · rw [exec_commitInstr, State.commitWrite_of_ne hfn]
  · have hcase : c = b.commitInstr ∧ isCharacter ⟨b, f.key 0, f.reset, v⟩ = none
        ∧ ∀ e ∈ sourceFields, f.key 0 ≠ e.1.key e.2 := by
      simp only [List.mem_cons, Prod.mk.injEq, List.not_mem_nil, or_false] at hc
      rcases hc with ⟨rfl, rfl, rfl⟩ | ⟨rfl, rfl, rfl⟩ | ⟨rfl, rfl, rfl⟩ | ⟨rfl, rfl, rfl⟩ | ⟨rfl, rfl, rfl⟩ <;>
        exact ⟨rfl, rfl, by decide⟩
    obtain ⟨rfl, hchar, hsrc⟩ := hcase
    have hmine : s.shadowOf b = [⟨b, f.key 0, f.reset, v⟩] := hm
    rw [commit_acts_while_standing t s b ha hr (by simp [hmine]), ends_next, hmine]
    exact ⟨State.applyShadow_singleton_rd _ b f v hchar hsrc, commit_standing_shadow t s b _⟩

/-! The state after reset (R7, R456). -/

/-- With nothing listed in the register table every field reads its reset value. -/
theorem State.rd_of_regs_nil {s : State} (h : s.regs = []) (f : Fld) (b : Nat) : s.rd f b = f.reset := by
  unfold State.rd
  rw [h]
  rfl

@[simp] theorem State.reset_rd (f : Fld) (b : Nat) : State.reset.rd f b = f.reset := State.rd_of_regs_nil rfl f b

@[simp] theorem State.reset_readByte (sp : Space) (a : Nat) : State.reset.readByte sp a = 0#8 := by
  cases sp <;> rfl

/-- Every counter, and every VALID bit that is cleared with them, resets to 0. -/
theorem CntBlk.fields_reset (k : CntBlk) : ∀ f ∈ k.fields, f.reset = 0 := by
  cases k <;> decide

/-- Settles O3: nothing waits, and an empty table and an empty memory are canonical. -/
theorem resetMeetsInvariant : Obligations.ResetMeetsInvariant := by
  unfold Obligations.ResetMeetsInvariant
  have hqueue : State.reset.queueWf := fun _ h => absurd h List.not_mem_nil
  have hregs : State.reset.regsRise := rfl
  have hmem : State.reset.mem.wf := ⟨rfl, rfl, rfl⟩
  exact ⟨hqueue, hregs, hmem⟩

/-- Settles O5: the registers by the empty table, each kind of thing that could be held by its empty list. -/
theorem resetLeavesNothing : Obligations.ResetLeavesNothing := by
  unfold Obligations.ResetLeavesNothing
  have hrunning : State.reset.running = false := by simp [State.running, State.bit, TWS_CTRL_RUN]
  refine ⟨State.reset_rd, State.reset_rd _ _, hrunning, State.reset_rd _ _, ?_⟩
  have hsessions : State.reset.serve.sessions = [] := rfl
  have hlaunches : State.reset.serve.launches = [] := rfl
  have hobjects : ∀ n, State.reset.obj n = ObjSlot.init := fun _ => rfl
  have hqueues : ∀ q, State.reset.queue q = QueueSt.init := fun _ => rfl
  have hmailboxes : ∀ a b, State.reset.mbox a b = Mbx.init := fun _ _ => rfl
  have hports : ∀ p, State.reset.tport p = TorusPort.init := fun _ => rfl
  have harbiters : ∀ p, State.reset.arb p = Arbiter.init := fun _ => rfl
  have hboot : State.reset.ctl.boot = none := rfl
  have hloads : ∀ port qp, State.reset.loadOn port qp = none := fun _ _ => rfl
  have hcores : ∀ core, State.reset.core core = CoreCtl.init := fun _ => rfl
  exact ⟨hsessions, hlaunches, hobjects, hqueues, hmailboxes, hports, harbiters, hboot, hloads, hcores,
    State.reset_readByte, fun k _ => k.fields_reset⟩

end Sys2Proof.Machine
end

section
/-! PROOFS. What reads give after the updates of memory, of queue entries and of a core's waits (R16, R17, R18), and how a CST queue
entry is written. -/

namespace Sys2Proof.Machine

/-! Tables, lists and folds. -/

@[simp] theorem forEach_nil {α : Type} (s : State) (f : State → α → State) : forEach [] s f = s := rfl

@[simp] theorem forEach_cons {α : Type} (x : α) (l : List α) (s : State) (f : State → α → State) :
    forEach (x :: l) s f = forEach l (f s x) f := rfl

/-- What no turn of a fold changes, the fold does not change. -/
theorem forEach_unchanged {α β : Type} (g : State → β) {f : State → α → State} (hf : ∀ s x, g (f s x) = g s) (l : List α)
    (s : State) : g (forEach l s f) = g s := by
  induction l generalizing s with
  | nil => rfl
  | cons x l ih => rw [forEach_cons, ih, hf]

/-- A key whose value meets a condition that the default does not meet is among the keys that meet it. -/
theorem SMap.mem_keysIf {α : Type} {p : Nat → α → Bool} {d : α} {m : SMap α} {k : Nat} (hd : p k d = false)
    (h : p k (SMap.get d m k) = true) : k ∈ SMap.keysIf p m := by
  induction m with
  | nil => simp [SMap.get, hd] at h
  | cons e m ih =>
    obtain ⟨i, v⟩ := e
    by_cases hi : i = k
    · subst hi
      have hv : p i v = true := by simpa [SMap.get] using h
      simp [SMap.keysIf, hv]
    · have hm : k ∈ SMap.keysIf p m := ih (by simpa [SMap.get, hi] using h)
      by_cases hv : p i v = true <;> simp_all [SMap.keysIf]

/-! Memory. -/

theorem State.readByte_writeByte (s : State) (sp : Space) (a x : Nat) (v : Byte) :
    (s.writeByte sp a v).readByte sp x = if x = a then v else s.readByte sp x := by
  split
  next h => subst h; cases sp <;> exact SMap.get_put_same _ _ _ _
  next h => cases sp <;> exact SMap.get_put_ne _ _ _ _ _ _ h

/-- A byte after bytes were written in its space: theirs where they lie, else the old one. -/
theorem State.readByte_writeBytes (s : State) (sp : Space) (a x : Nat) (l : List Byte) :
    (s.writeBytes sp a l).readByte sp x = if a ≤ x ∧ x < a + l.length then nth 0#8 l (x - a) else s.readByte sp x := by
  induction l generalizing s a with
  | nil =>
    rw [if_neg (by simp only [List.length_nil]; omega)]
    rfl
  | cons b l ih =>
    rw [State.writeBytes, ih, State.readByte_writeByte, List.length_cons]
    rcases Nat.lt_trichotomy x a with h | h | h
    · rw [if_neg (by omega), if_neg (by omega), if_neg (by omega)]
    · subst h
      rw [if_neg (by omega), if_pos rfl, if_pos (by omega), Nat.sub_self]
      rfl
    · obtain ⟨k, rfl⟩ := Nat.exists_eq_add_of_lt h
      rw [if_neg (c := _ = a) (by omega), show a + k + 1 - (a + 1) = k by omega, show a + k + 1 - a = k + 1 by omega]
      exact ite_congr (propext (by omega)) (fun _ => rfl) fun _ => rfl

/-- Bytes written to CST change CST alone. -/
theorem State.writeBytes_cst_mem (s : State) (a : Nat) (l : List Byte) :
    (s.writeBytes .cst a l).mem = { s.mem with cst := (s.writeBytes .cst a l).mem.cst } := by
  induction l generalizing s a with
  | nil => rfl
  | cons b l ih => exact ih _ _

/-! Cores and queue entries. -/

@[simp] theorem State.core_setCore_same (s : State) (n : Nat) (c : CoreCtl) : (s.setCore n c).core n = c :=
  SMap.get_put_same _ _ _ _

theorem State.core_setCore_ne (s : State) {n k : Nat} (c : CoreCtl) (h : k ≠ n) : (s.setCore n c).core k = s.core k :=
  SMap.get_put_ne _ _ _ _ _ _ h

@[simp] theorem State.entry_setEntry_same (s : State) (a : Nat) (e : QEntry) : (s.setEntry a e).entry a = e :=
  SMap.get_put_same _ _ _ _

theorem State.entry_setEntry_ne (s : State) {a x : Nat} (e : QEntry) (h : x ≠ a) : (s.setEntry a e).entry x = s.entry x :=
  SMap.get_put_ne _ _ _ _ _ _ h

/-- What leaves the controls alone leaves the cores alone. -/
theorem State.core_of_ctl {s u : State} (h : u.ctl = s.ctl) (n : Nat) : u.core n = s.core n := by
  unfold State.core
  rw [h]

/-- What leaves the controls alone leaves the queue entries alone. -/
theorem State.entry_of_ctl {s u : State} (h : u.ctl = s.ctl) (a : Nat) : u.entry a = s.entry a := by
  unfold State.entry
  rw [h]

/-- An entry can be written (R18): it is not written yet, or what stands there has been consumed. -/
def State.openAt (s : State) (a : Nat) : Prop := (s.entry a).written = false ∨ (s.entry a).consumed = true

theorem State.openAt_iff {s : State} {a : Nat} : s.openAt a ↔ ((s.entry a).written && !(s.entry a).consumed) = false := by
  unfold State.openAt
  cases (s.entry a).written <;> cases (s.entry a).consumed <;> simp

/-- A core on a list waits no longer on an entry, and any other waits as before. -/
theorem State.forEach_unstall_stalls (a n : Nat) (l : List Nat) (s : State) :
    ((forEach l s fun s core => s.setCore core ((s.core core).unstall a)).core n).stalls
      = if n ∈ l then (s.core n).stalls.filter (·.entry != a) else (s.core n).stalls := by
  induction l generalizing s with
  | nil => rfl
  | cons k l ih =>
    rw [forEach_cons, ih]
    by_cases hk : n = k
    · subst hk
      simp [CoreCtl.unstall]
    · simp [hk, State.core_setCore_ne]

/-- A written entry that can be seen is waited for by no core any more (R17). -/
theorem State.resume_stalls (s : State) (a n : Nat) :
    ((s.resume a).core n).stalls = (s.core n).stalls.filter (·.entry != a) := by
  unfold State.resume
  rw [State.forEach_unstall_stalls]
  split
  · rfl
  next h =>
    refine (List.filter_eq_self.mpr fun w hw => bne_iff_ne.mpr fun he => ?_).symm
    exact h (SMap.mem_keysIf (d := CoreCtl.init) rfl (List.any_eq_true.mpr ⟨w, hw, beq_iff_eq.mpr he⟩))

@[simp] theorem State.resume_entry (s : State) (a x : Nat) : (s.resume a).entry x = s.entry x := by
  unfold State.resume
  exact forEach_unchanged (State.entry · x) (f := fun s core => s.setCore core ((s.core core).unstall a)) (fun _ _ => rfl) _ s

/-! The write of a queue entry (R16, R18). -/

/-- A queue entry is written with its content, to be seen once its valid slot has come. -/
def State.fillEntry (s : State) (a slot fn job : Nat) (bytes : List Byte) (driven : List Bool) : State :=
  (s.writeBytes .cst a bytes).setEntry a ⟨slot, true, s.slotCome slot, false, fn, job, bytes, [], driven⟩

/-- No load goes on where none waits. -/
theorem State.goLoads_of_none {s : State} (h : s.fab.waiting = []) : s.goLoads = s := by
  unfold State.goLoads
  rw [h]
  rfl

/-- The write of an open entry (R16). -/
theorem State.writeEntry_of_open {s : State} {a : Nat} (h : s.openAt a) (slot fn job : Nat) (bytes : List Byte) (driven : List Bool) :
    s.writeEntry a slot fn job bytes driven
      = (s.fillEntry a slot fn job bytes driven).when (s.slotCome slot) (·.resume a) := by
  unfold State.writeEntry
  exact if_neg (by simp [State.openAt_iff.mp h])

theorem State.writeEntry_of_open_same {s : State} {a : Nat} (h : s.openAt a) (slot fn job : Nat) (bytes : List Byte)
    (driven : List Bool) : SameBut [.ctl, .mem] s (s.writeEntry a slot fn job bytes driven) := by
  rw [State.writeEntry_of_open h]
  have hfill : SameBut [.ctl, .mem] s (s.fillEntry a slot fn job bytes driven) :=
    State.setEntry_same (State.writeBytes_same (SameBut.refl _ s) _ _ _ (by decide)) _ _ (by decide)
  exact State.when_same hfill _ _ fun u hu => State.resume_same hu _ (by decide)

/-- The write of an open entry where no load waits (R16). -/
theorem State.putEntry_of_open {s : State} {a : Nat} (h : s.openAt a) (hw : s.fab.waiting = []) (slot fn job : Nat)
    (bytes : List Byte) (driven : List Bool) :
    s.putEntry a slot fn job bytes driven
      = (s.fillEntry a slot fn job bytes driven).when (s.slotCome slot) (·.resume a) := by
  have hfab := (State.writeEntry_of_open_same h slot fn job bytes driven).fab (by decide)
  unfold State.putEntry
  rw [State.goLoads_of_none (by rw [hfab, hw]), State.writeEntry_of_open h]

theorem State.putEntry_of_open_same {s : State} {a : Nat} (h : s.openAt a) (hw : s.fab.waiting = []) (slot fn job : Nat)
    (bytes : List Byte) (driven : List Bool) : SameBut [.ctl, .mem] s (s.putEntry a slot fn job bytes driven) := by
  rw [State.putEntry_of_open h hw, ← State.writeEntry_of_open h]
  exact State.writeEntry_of_open_same h slot fn job bytes driven

theorem State.when_resume_entry (s : State) (c : Bool) (a x : Nat) : (s.when c (·.resume a)).entry x = s.entry x := by
  unfold State.when
  split <;> simp

theorem State.when_resume_mem (s : State) (c : Bool) (a : Nat) : (s.when c (·.resume a)).mem = s.mem :=
  (State.when_same (A := [.ctl]) (SameBut.refl _ s) _ _ fun _ h => State.resume_same h _ (by decide)).mem (by decide)

/-- The entry that has been written (R16). -/
theorem State.putEntry_of_open_entry {s : State} {a : Nat} (h : s.openAt a) (hw : s.fab.waiting = []) (slot fn job : Nat)
    (bytes : List Byte) (driven : List Bool) :
    (s.putEntry a slot fn job bytes driven).entry a = ⟨slot, true, s.slotCome slot, false, fn, job, bytes, [], driven⟩ := by
  rw [State.putEntry_of_open h hw, State.when_resume_entry]
  exact State.entry_setEntry_same _ _ _

/-- A write of one entry leaves the others as they are. -/
theorem State.putEntry_of_open_entry_ne {s : State} {a x : Nat} (h : s.openAt a) (hw : s.fab.waiting = []) (hx : x ≠ a)
    (slot fn job : Nat) (bytes : List Byte) (driven : List Bool) :
    (s.putEntry a slot fn job bytes driven).entry x = s.entry x := by
  rw [State.putEntry_of_open h hw, State.when_resume_entry]
  have hmem : SameBut [.mem] s (s.writeBytes .cst a bytes) := State.writeBytes_same (SameBut.refl _ s) _ _ _ (by decide)
  exact (State.entry_setEntry_ne _ _ hx).trans (State.entry_of_ctl (hmem.ctl (by decide)) x)

/-- Where the entry can be seen at once, no core waits on it any more (R17). -/
theorem State.putEntry_of_open_stalls {s : State} {a slot : Nat} (h : s.openAt a) (hw : s.fab.waiting = [])
    (hs : s.slotCome slot = true) (fn job : Nat) (bytes : List Byte) (driven : List Bool) (n : Nat) :
    ((s.putEntry a slot fn job bytes driven).core n).stalls = (s.core n).stalls.filter (·.entry != a) := by
  rw [State.putEntry_of_open h hw, hs]
  have hmem : SameBut [.mem] s (s.writeBytes .cst a bytes) := State.writeBytes_same (SameBut.refl _ s) _ _ _ (by decide)
  have hcore : (s.fillEntry a slot fn job bytes driven).core n = s.core n := State.core_of_ctl (hmem.ctl (by decide)) n
  exact (State.resume_stalls _ a n).trans (by rw [hcore])

theorem State.putEntry_of_open_mem {s : State} {a : Nat} (h : s.openAt a) (hw : s.fab.waiting = []) (slot fn job : Nat)
    (bytes : List Byte) (driven : List Bool) :
    (s.putEntry a slot fn job bytes driven).mem = (s.writeBytes .cst a bytes).mem := by
  rw [State.putEntry_of_open h hw, State.when_resume_mem]
  rfl

/-! What a fault of a job leaves of the sequencers and the queue entries (R411, R412). -/

/-- The cores' sequencers and the queue entries are the same. -/
def SameQueues (s u : State) : Prop := u.ctl.cores = s.ctl.cores ∧ u.ctl.entries = s.ctl.entries

theorem SameQueues.of_ctl {s t u : State} (h : SameQueues s t) (e : u.ctl = t.ctl) : SameQueues s u := by
  unfold SameQueues
  rw [e]
  exact h

theorem SameQueues.core {s u : State} (h : SameQueues s u) (n : Nat) : u.core n = s.core n := by
  unfold State.core
  rw [h.1]

theorem State.checkStores_queues {s t : State} (h : SameQueues s t) : SameQueues s t.checkStores := by
  unfold State.checkStores
  extract_lets
  split <;> exact h

/-- A launch that is gone gives back its blocks and may free program stores to be checked, and nothing else of the controls. -/
theorem State.dropLaunch_queues {s t : State} (h : SameQueues s t) (l : Launch) : SameQueues s (t.dropLaunch l) := by
  unfold State.dropLaunch
  extract_lets s1 s2
  have h2 : SameQueues s s2 := by
    unfold s2
    split
    · exact State.checkStores_queues h
    · exact h
  exact h2

theorem State.unplan_queues {s t : State} (h : SameQueues s t) (p : Launch → Bool) : SameQueues s (t.unplan p) := by
  have hall (l : List Launch) (f : Launch → State → LaunchEntry → State) (hf : ∀ x v e, SameBut [.serve] v (f x v e)) :
      SameQueues s (forEach l t fun v x => forEach x.entries (v.dropLaunch x) (f x)) := by
    induction l generalizing t with
    | nil => exact h
    | cons x l ih =>
      refine ih ((State.dropLaunch_queues h x).of_ctl ?_)
      exact (forEach_same (A := [.serve]) _ (f x) (fun v e hv => hv.trans (hf x v e)) _ (SameBut.refl _ _)).ctl (by decide)
  refine hall _ _ fun l v e => ?_
  split
  · exact SameBut.refl _ v
  · exact State.setSess_same (SameBut.refl _ v) _ (by decide)

theorem State.jobDown_queues {s t : State} (h : SameQueues s t) (j : Job) (step : Option Nat) :
    SameQueues s (t.jobDown j step) := by
  unfold State.jobDown
  extract_lets f n s1 step' s2 s3 s4
  have h1 : s1.ctl = t.ctl :=
    (State.smsEvent_same (A := [.regs, .hif]) (State.count_same (SameBut.refl _ t) _ _ _ (by decide)) _ (by decide)
      (by decide)).ctl (by decide)
  have h2 : s2.ctl = s1.ctl :=
    (State.markFaulted_same (A := [.serve]) (State.setJob_same (SameBut.refl _ s1) _ (by decide)) _ _ (by decide)).ctl
      (by decide)
  have h4 : SameQueues s s4 := State.unplan_queues (h.of_ctl (h2.trans h1)) _
  clear_value step' s4
  cases step' with
  | some _ => exact h4
  | none =>
    exact h4.of_ctl ((State.endJobIdle_same (A := [.regs, .arbs, .hif, .serve]) (SameBut.refl _ s4) _ _ _ (by decide)
      (by decide) (by decide) (by decide)).ctl (by decide))

theorem State.logEvent_queues {s t : State} (h : SameQueues s t) (r : EventRec) : SameQueues s (t.logEvent r) :=
  h.of_ctl ((State.logEvent_same (A := [.regs, .hif, .sms]) (SameBut.refl _ t) r (by decide) (by decide) (by decide)).ctl
    (by decide))

/-- A fault of a job leaves every sequencer and every queue entry as it is. -/
theorem State.faultJob_queues {s t : State} (h : SameQueues s t) (f n : Nat) (step : Option Nat) (r : EventRec) :
    SameQueues s (t.faultJob f n step r) := by
  unfold State.faultJob
  split
  · exact State.logEvent_queues h _
  · extract_lets t1
    split
    · exact State.logEvent_queues h _
    · exact State.jobDown_queues (State.logEvent_queues h _) _ _

theorem State.coreJobFault_queues {s t : State} (h : SameQueues s t) (core type_ : Nat) (detail : List Nat) :
    SameQueues s (t.coreJobFault core type_ detail) := by
  unfold State.coreJobFault State.faultCore
  split
  · exact State.faultJob_queues h _ _ _ _
  · exact State.logEvent_queues h _

/-! A write over an entry, and a stall of 256 ticks (R17, R18). -/

/-- A write over an entry that is not consumed faults the writer's job (R18, R411). -/
theorem State.writeEntry_of_taken {s : State} {a : Nat} (hw : (s.entry a).written = true) (hc : (s.entry a).consumed = false)
    (slot fn job : Nat) (bytes : List Byte) :
    ∃ step r, s.writeEntry a slot fn job bytes = s.faultJob fn job step r := by
  unfold State.writeEntry
  simp only [hw, hc]
  exact ⟨_, _, rfl⟩

/-- The areas that a job fault may change. -/
theorem State.faultJob_areas (s : State) (f n : Nat) (step : Option Nat) (r : EventRec) :
    SameBut [.regs, .arbs, .hif, .serve, .ctl, .sms, .lnk] s (s.faultJob f n step r) :=
  State.faultJob_same (SameBut.refl _ s) _ _ _ _ (by decide) (by decide) (by decide) (by decide) (by decide) (by decide) (by decide)

/-- A write over an entry that is not consumed, where no load waits, changes no entry and no memory (R18). -/
theorem State.putEntry_of_taken {s : State} {a : Nat} (hw : (s.entry a).written = true) (hc : (s.entry a).consumed = false)
    (hl : s.fab.waiting = []) (slot fn job : Nat) (bytes : List Byte) :
    SameBut [.regs, .arbs, .hif, .serve, .ctl, .sms, .lnk] s (s.putEntry a slot fn job bytes)
      ∧ SameQueues s (s.putEntry a slot fn job bytes) := by
  obtain ⟨step, r, hr⟩ := State.writeEntry_of_taken hw hc slot fn job bytes
  have harea := s.faultJob_areas fn job step r
  have hfab := harea.fab (by decide)
  unfold State.putEntry
  rw [hr, State.goLoads_of_none (by rw [hfab, hl])]
  exact ⟨harea, State.faultJob_queues ⟨rfl, rfl⟩ _ _ _ _⟩

/-- An idle sequencer for which no program waits stays as it is (R357). -/
theorem State.nextProgram_of_none {s : State} {core : Nat} (hs : (s.core core).seq = .idle) (hn : (s.core core).next = []) :
    s.nextProgram core = s.setCore core (s.core core) := by
  unfold State.nextProgram
  simp only [hs, hn, ne_eq, not_true_eq_false, if_false, List.dropWhile_nil]
  rw [← hs, ← hn]

/-- A stall of 256 ticks idles the sequencer, with a fault of its job (R17). -/
theorem execQueueStallTimeout_of_stall (t core : Nat) (s : State) {w : Stall} {b : Nat} (hw : w ∈ (s.core core).stalls)
    (hb : w.since = some b) (ht : b + 256000 ≤ max s.now t) :
    ∃ detail, execQueueStallTimeout t core s = .next
      ((((s.advance t).setCore core { s.core core with seq := .idle, stalls := [], blocked := none }).coreJobFault core 0x0B
        detail).nextProgram core) := by
  have hfound : (((s.advance t).core core).stalls.find? fun w =>
      w.since.any fun from_ => decide (from_ + 256000 ≤ (s.advance t).now)).isSome = true :=
    List.find?_isSome.mpr ⟨w, hw, by rw [hb]; exact decide_eq_true ht⟩
  obtain ⟨v, hv⟩ := Option.isSome_iff_exists.mp hfound
  refine ⟨[v.slot, v.entry], ?_⟩
  unfold execQueueStallTimeout
  simp only [hv]
  rfl

/-- Settles O27: a write of an open entry by what each part of it leaves, a write over another and a stall by what a job fault leaves
of the queues. -/
theorem queueEntriesAreWritten : Obligations.QueueEntriesAreWritten := by
  unfold Obligations.QueueEntriesAreWritten
  refine fun t s => ⟨fun a slot fn job bytes ho hl => ?_, fun a slot fn job bytes hw hc hl => ?_, fun core w b hw hb ht hn => ?_⟩
  · have hopen : (s.advance t).openAt a := ho
    have hnone : (s.advance t).fab.waiting = [] := hl
    have hadv : SameBut [.now, .ctl, .mem] s (s.advance t) := State.advance_same (SameBut.refl _ s) t (by decide)
    refine ⟨(s.advance t).putEntry a slot fn job bytes, rfl, ?_, ?_, ?_, ?_, ?_, ?_⟩
    · exact hadv.trans ((State.putEntry_of_open_same hopen hnone slot fn job bytes []).mono (by decide))
    · exact State.putEntry_of_open_entry hopen hnone slot fn job bytes []
    · exact fun x hx => State.putEntry_of_open_entry_ne hopen hnone hx slot fn job bytes []
    · exact fun hs n => State.putEntry_of_open_stalls hopen hnone hs fn job bytes [] n
    · rw [State.putEntry_of_open_mem hopen hnone]
      exact State.writeBytes_cst_mem (s.advance t) a bytes
    · intro x
      refine Eq.trans ?_ (State.readByte_writeBytes (s.advance t) .cst a x bytes)
      exact congrArg (fun m : MemSt => SMap.get 0#8 m.cst x) (State.putEntry_of_open_mem hopen hnone slot fn job bytes [])
  · obtain ⟨harea, hqueues⟩ := State.putEntry_of_taken (s := s.advance t) hw hc hl slot fn job bytes
    exact ⟨(s.advance t).putEntry a slot fn job bytes, rfl,
      (State.advance_same (SameBut.refl _ s) t (by decide)).trans (harea.mono (by decide)), hqueues.2⟩
  · obtain ⟨detail, hexec⟩ := execQueueStallTimeout_of_stall t core s hw hb ht
    refine ⟨_, hexec, ?_⟩
    generalize hi : (s.advance t).setCore core { s.core core with seq := .idle, stalls := [], blocked := none } = i
    have hidle : (i.coreJobFault core 0x0B detail).core core
        = { s.core core with seq := .idle, stalls := [], blocked := none } := by
      rw [(State.coreJobFault_queues ⟨rfl, rfl⟩ core 0x0B detail).core, ← hi]
      exact State.core_setCore_same _ _ _
    rw [State.nextProgram_of_none (by rw [hidle]) (by rw [hidle]; exact hn), hidle]
    refine ⟨?_, State.core_setCore_same _ _ _⟩
    have hset : SameBut [.regs, .now, .arbs, .hif, .serve, .ctl, .sms, .lnk] s i :=
      hi ▸ State.setCore_same (State.advance_same (SameBut.refl _ s) t (by decide)) _ _ (by decide)
    exact State.setCore_same (State.coreJobFault_same hset _ _ _ _ _ _ (by decide) (by decide) (by decide) (by decide)
      (by decide) (by decide) (by decide)) _ _ (by decide)

end Sys2Proof.Machine
end

section
/-! PROOFS. Folds, sampling and experts (R15, R22, R148, R150, R154, R157, R158): what each leaves of the data path, what a consumer's
wait does, and that a sampled token is one of the candidates. -/

namespace Sys2Proof.Machine

/-! Lists. -/

theorem mem_insertBy {α : Type} (key : α → Nat) (x y : α) (l : List α) : y ∈ insertBy key x l ↔ y = x ∨ y ∈ l := by
  induction l with
  | nil => simp [insertBy]
  | cons z l ih =>
    unfold insertBy
    split
    · simp
    · simp only [List.mem_cons, ih]
      exact or_left_comm

/-- Sorting keeps the elements. -/
theorem mem_sortBy {α : Type} (key : α → Nat) (y : α) (l : List α) : y ∈ sortBy key l ↔ y ∈ l := by
  have hfold (acc : List α) : y ∈ l.foldl (fun acc x => insertBy key x acc) acc ↔ y ∈ acc ∨ y ∈ l := by
    induction l generalizing acc with
    | nil => simp
    | cons x l ih =>
      rw [List.foldl_cons, ih, mem_insertBy, List.mem_cons]
      exact (or_congr or_comm Iff.rfl).trans or_assoc
  exact (hfold []).trans (by simp)

/-! Counters. -/

/-- A counter that is raised changes no other field. -/
theorem RegsBut.count {l : List (Fld × Nat)} {s t : State} (h : RegsBut l s t) {f : Fld} {b : Nat} (hf : (f, b) ∈ l) (n : Nat) :
    RegsBut l s (t.count f n b) := h.wr hf _

/-- A counter that has been raised reads so (R8): it saturates at all ones. -/
theorem State.rd_count_same (s : State) (f : Fld) (n b : Nat) : (s.count f n b).rd f b = min (maxOf f.width) (s.rd f b + n) := by
  have hlt : min (maxOf f.width) (s.rd f b + n) < 2 ^ f.width :=
    Nat.lt_of_le_of_lt (Nat.min_le_left _ _) (Nat.sub_lt (Nat.two_pow_pos _) Nat.one_pos)
  exact (State.rd_wr_same s f _ b).trans (Nat.mod_eq_of_lt hlt)

/-- What leaves the register table alone leaves every field alone. -/
theorem State.rd_of_regs {s u : State} (h : u.regs = s.regs) (f : Fld) (b : Nat) : u.rd f b = s.rd f b := by
  unfold State.rd
  rw [h]

theorem State.rd_count_ne (s : State) {f g : Fld} {b c : Nat} (h : f.key b ≠ g.key c) (n : Nat) :
    (s.count g n c).rd f b = s.rd f b :=
  State.rd_wr_ne s f g _ b c h

/-! Buffers of VEC and marks of requests. -/

theorem State.setBuf_fab (s : State) (core n : Nat) (b : VecBuf) :
    (s.setBuf core n b).fab = { s.fab with bufs := SMap.put .empty s.fab.bufs (65536 * core + n) b } := rfl

@[simp] theorem State.buf_setBuf_same (s : State) (core n : Nat) (b : VecBuf) : (s.setBuf core n b).buf core n = b :=
  SMap.get_put_same _ _ _ _

theorem State.get_bufs_setBuf_ne (s : State) {core n k : Nat} (b : VecBuf) (h : k ≠ 65536 * core + n) :
    SMap.get .empty (s.setBuf core n b).fab.bufs k = SMap.get .empty s.fab.bufs k :=
  SMap.get_put_ne _ _ _ _ _ _ h

/-- From `s` to `u` the data path has changed only in which requests have met a NUMERIC event or have results outside the bound, and in
how many elements were taken for rescue. -/
def MarksOnly (s u : State) : Prop :=
  u.fab = { s.fab with rescues := u.fab.rescues, oobMarks := u.fab.oobMarks, numericMarks := u.fab.numericMarks }

theorem MarksOnly.trans {s t u : State} (h : MarksOnly s t) (k : MarksOnly t u) : MarksOnly s u := by
  unfold MarksOnly at h k ⊢
  rw [k, h]

theorem MarksOnly.bufs {s u : State} (h : MarksOnly s u) : u.fab.bufs = s.fab.bufs := by rw [h]

theorem State.markNumeric_marks (s : State) (serial : Option Nat) : MarksOnly s (s.markNumeric serial) := by
  unfold State.markNumeric
  split
  · rfl
  · split <;> rfl

/-- From `s` to `u` the data path has changed only in which requests have met a NUMERIC event. -/
def NumericOnly (s u : State) : Prop := u.fab = { s.fab with numericMarks := u.fab.numericMarks }

theorem State.markNumeric_numeric (s : State) (serial : Option Nat) : NumericOnly s (s.markNumeric serial) := by
  unfold State.markNumeric
  split
  · rfl
  · split <;> rfl

theorem State.markOob_marks (s : State) (serial : Option Nat) : MarksOnly s (s.markOob serial) := by
  unfold State.markOob
  split
  · rfl
  · split <;> rfl

/-- A NUMERIC event of a request's data where there is one. -/
theorem State.markNumeric_if_same (s : State) (c : Prop) [Decidable c] (serial : Option Nat) :
    SameBut [.fab] s (if c then s.markNumeric serial else s) := by
  split
  · exact State.markNumeric_same (SameBut.refl _ s) _ (by decide)
  · exact SameBut.refl _ s

theorem State.markNumeric_if_numeric (s : State) (c : Prop) [Decidable c] (serial : Option Nat) :
    NumericOnly s (if c then s.markNumeric serial else s) := by
  split
  · exact s.markNumeric_numeric serial
  · rfl

/-- A buffer is written after at most a NUMERIC event of its request. -/
theorem State.onlyBuf_setBuf_markNumeric (s : State) (c : Prop) [Decidable c] (serial : Option Nat) (core n : Nat) (b : VecBuf) :
    s.onlyBuf ((if c then s.markNumeric serial else s).setBuf core n b) core n := by
  have hfab := s.markNumeric_if_numeric c serial
  refine ⟨?_, fun k hk => (State.get_bufs_setBuf_ne _ b hk).trans (by rw [hfab])⟩
  rw [State.setBuf_fab, hfab]

theorem State.onlyBuf_setBuf (s : State) (core n : Nat) (b : VecBuf) : s.onlyBuf (s.setBuf core n b) core n :=
  s.onlyBuf_setBuf_markNumeric False none core n b

/-! The wait for an entry (R16, R17). -/

/-- A consumer sees an entry: it is written, its slot has come, and it is not consumed. -/
def State.sees (s : State) (a : Nat) : Prop :=
  (s.entry a).written = true ∧ (s.entry a).visible = true ∧ (s.entry a).consumed = false

theorem State.sees_iff {s : State} {a : Nat} :
    s.sees a ↔ ((s.entry a).written && (s.entry a).visible && !(s.entry a).consumed) = true := by
  simp [State.sees, and_assoc]

theorem State.not_sees_of_open {s : State} {a : Nat} (h : s.openAt a) :
    ((s.entry a).written && (s.entry a).visible && !(s.entry a).consumed) = false := by
  rcases h with h | h <;> simp [h]

@[simp] theorem State.missing_nil (s : State) : s.missing [] = none := rfl

theorem State.missing_of_sees {s : State} {a : Nat} (h : s.sees a) (slot : Nat) : s.missing [(a, slot)] = none := by
  simp [State.missing, List.find?, State.sees_iff.mp h]

theorem State.missing_of_open {s : State} {a : Nat} (h : s.openAt a) (slot : Nat) : s.missing [(a, slot)] = some (a, slot) := by
  simp [State.missing, List.find?, State.not_sees_of_open h]

@[simp] theorem State.slotCome_setCore (s : State) (n : Nat) (c : CoreCtl) (slot : Nat) :
    (s.setCore n c).slotCome slot = s.slotCome slot := rfl

/-- The core once a consumer of it waits on one more entry, from which on its sequencer stalls where a time is given (R17). -/
def CoreCtl.waitOn (c : CoreCtl) (w : Stall) : CoreCtl :=
  { c with seq := if w.since.isSome && decide (c.seq = .running) then .stalled else c.seq, stalls := c.stalls ++ [w] }

/-- The new wait of a core on an entry that nothing of it waits on yet begins to stall: of its waits that one alone. -/
theorem stalls_from_wait {l : List Stall} {a : Nat} (h : ∀ x ∈ l, x.entry ≠ a) (slot now : Nat) (fold own : Bool) :
    let w : Stall := ⟨a, slot, fold, own, none⟩
    (l ++ [w]).filter (fun w => w.since.isNone && w.entry == a) = [w]
      ∧ (l ++ [w]).map (fun w => if w.since.isNone && w.entry == a then { w with since := some now } else w)
        = l ++ [{ w with since := some now }] := by
  have hne : ∀ x ∈ l, (x.since.isNone && x.entry == a) = false := fun x hx => by simp [h x hx]
  constructor
  · rw [List.filter_append, List.filter_eq_nil_iff.mpr (fun x hx => by simp [hne x hx])]
    simp
  · rw [List.map_append, List.map_congr_left (g := id) (fun x hx => by simp [hne x hx])]
    simp

/-- A consumer whose entry is not there at its valid slot stalls the sequencer, which counts a plan overrun, and a fold wait for a
fold (R17, R148). -/
theorem State.reach_of_late {s : State} {core a slot : Nat} (h : s.openAt a) (hn : ∀ x ∈ (s.core core).stalls, x.entry ≠ a)
    (hs : s.slotCome slot = true) (fold : Bool) :
    ∃ c, (s.reach core a slot fold).2
      = (((s.setCore core c).setCore core ((s.core core).waitOn ⟨a, slot, fold, false, some s.now⟩)).count
          TWS_PLAN_OVERRUN_COUNT 1).count VEC_FOLD_WAIT_CNT_COUNT (if fold then 1 else 0) := by
  obtain ⟨hnew, hall⟩ := stalls_from_wait hn slot s.now fold false
  have hany : (s.core core).stalls.any (·.entry == a) = false :=
    List.any_eq_false.mpr fun x hx => by simpa using hn x hx
  refine ⟨{ s.core core with stalls := (s.core core).stalls ++ [⟨a, slot, fold, false, none⟩] }, ?_⟩
  unfold State.reach
  simp only [State.not_sees_of_open h, hany, Bool.false_eq_true, if_false, State.slotCome_setCore, hs, if_true]
  unfold State.stallCore
  simp only [State.core_setCore_same, State.setCore_now, hnew, hall]
  cases fold <;> simp [CoreCtl.waitOn]

/-! Folds (R22, R48, R122–R124, R148). -/

@[simp] theorem entriesOf_bufs (bufs : List Nat) : entriesOf (bufs.map PartPlace.buf) = [] := by
  simp [entriesOf]

theorem State.foldRecs_advance (s : State) (t core : Nat) (ref : Bool) (srcs : List PartPlace) :
    (s.advance t).foldRecs core ref srcs = s.foldRecs core ref srcs := by
  induction srcs with
  | nil => rfl
  | cons p srcs ih => cases p <;> simp only [State.foldRecs, ih] <;> rfl

theorem State.takeRescue_marks (s : State) (core : Nat) (recs : List (PartRec × Bool)) (out : Nat) (e : Folded) :
    MarksOnly s (s.takeRescue core recs out e).2 := by
  unfold State.takeRescue
  split
  · extract_lets
    split <;> rfl
  · rfl

theorem State.takeRescues_marks (s : State) (core first : Nat) (recs : List (PartRec × Bool)) (l : List (Folded × Nat)) :
    MarksOnly s (s.takeRescues core first recs l).2 := by
  induction l generalizing s with
  | nil => rfl
  | cons x l ih => exact (s.takeRescue_marks core recs _ _).trans (ih _)

/-- The counts of a fold, and the marks of its request: some of its elements lie outside the bound, one overflows (R122, R148). -/
def State.foldMarks (s : State) (flagged marks : Nat) (event : Bool) (serial : Option Nat) : State :=
  let s := (s.count WLT_CANCEL_FLAG_CNT_COUNT flagged).count WLT_OOB_CNT_COUNT marks
  let s := if marks = 0 then s else s.markOob serial
  if event then s.markNumeric serial else s

theorem State.markOob_if_same (s : State) (c : Prop) [Decidable c] (serial : Option Nat) :
    SameBut [.fab] s (if c then s else s.markOob serial) := by
  split
  · exact SameBut.refl _ s
  · exact State.markOob_same (SameBut.refl _ s) _ (by decide)

theorem State.foldMarks_same (s : State) (flagged marks : Nat) (event : Bool) (serial : Option Nat) :
    SameBut [.fab] ((s.count WLT_CANCEL_FLAG_CNT_COUNT flagged).count WLT_OOB_CNT_COUNT marks)
      (s.foldMarks flagged marks event serial) :=
  (State.markOob_if_same _ _ _).trans (State.markNumeric_if_same _ _ _)

theorem State.foldMarks_marks (s : State) (flagged marks : Nat) (event : Bool) (serial : Option Nat) :
    MarksOnly s (s.foldMarks flagged marks event serial) := by
  unfold State.foldMarks
  extract_lets s1 s2
  have h1 : MarksOnly s s1 := rfl
  have h2 : MarksOnly s s2 := by
    unfold s2
    split
    · exact h1
    · exact h1.trans (s1.markOob_marks serial)
  split
  · exact h2.trans (s2.markNumeric_marks serial)
  · exact h2

/-- The data path and the counters of a fold from `s` on: marks, rescues and the two counts of welt. -/
structure FoldFrame (s v : State) : Prop where
  areas : SameBut [.regs, .fab] s v
  marks : MarksOnly s v
  counts : RegsBut [(WLT_CANCEL_FLAG_CNT_COUNT, 0), (WLT_OOB_CNT_COUNT, 0)] s v

theorem State.takeRescues_foldFrame (s : State) (core first : Nat) (recs : List (PartRec × Bool)) (l : List (Folded × Nat))
    (flagged marks : Nat) (event : Bool) (serial : Option Nat) :
    FoldFrame s ((s.takeRescues core first recs l).2.foldMarks flagged marks event serial) := by
  have hrescues : SameBut [.fab] s (s.takeRescues core first recs l).2 :=
    State.takeRescues_same (SameBut.refl _ s) core first recs l (by decide)
  generalize hv : (s.takeRescues core first recs l).2 = v at hrescues ⊢
  have hmarks : MarksOnly s v := hv ▸ s.takeRescues_marks core first recs l
  have hfold := v.foldMarks_same flagged marks event serial
  have hcount : SameBut [.regs, .fab] s ((v.count WLT_CANCEL_FLAG_CNT_COUNT flagged).count WLT_OOB_CNT_COUNT marks) :=
    State.count_same (State.count_same (hrescues.mono (by decide)) _ _ _ (by decide)) _ _ _ (by decide)
  refine ⟨hcount.trans (hfold.mono (by decide)), hmarks.trans (v.foldMarks_marks flagged marks event serial), ?_⟩
  refine RegsBut.of_regs (RegsBut.count (RegsBut.count ((RegsBut.refl _ s).of_regs (hrescues.regs (by decide))) ?_ flagged) ?_ marks)
    (hfold.regs (by decide))
  · exact List.mem_cons_self
  · exact List.mem_cons_of_mem _ List.mem_cons_self

/-- A fold leaves marks, counts and one buffer: the elements' folds, or NaN throughout where one overflows (R41, R46, R148). -/
theorem State.foldInto_leaves (s : State) (core first n dst : Nat) (serial : Option Nat) (recs : List (PartRec × Bool)) :
    let es := (List.range n).map fun i => foldElem recs (first + i)
    ∃ v vals oob rescue, FoldFrame s v
      ∧ s.foldInto core first n dst serial recs = v.setBuf core dst (.vec serial first vals oob rescue)
      ∧ oob.length = n ∧ vals = if es.any fun e => !e.nanIn && f32NonFinite e.val then es.map fun _ => f32NaN else es.map (·.val) := by
  intro es
  refine ⟨_, _, _, _, s.takeRescues_foldFrame _ _ _ _ _ _ _ _, rfl, by simp, ?_⟩
  split <;> simp only [es, *]

/-- Records of one generation, in order, hold none of another. -/
theorem sortRecs_of_gen {l : List (PartRec × Bool)} {gen : Nat} (h : ∀ r ∈ l, r.1.gen = gen) :
    ¬ (sortRecs l).any (fun r => r.1.gen ≠ gen) = true := by
  rw [Bool.not_eq_true, List.any_eq_false]
  exact fun r hr => by simpa using h r ((mem_sortBy _ r l).mp hr)

/-- A fold of buffers whose records are of the step's generation (R22, R148). -/
theorem execFold_of_bufs (t core first n dst : Nat) (serial : Option Nat) (s : State) (bufs : List Nat)
    (h : ∀ r ∈ s.foldRecs core (s.refOn core serial) (bufs.map PartPlace.buf), r.1.gen = s.genOf core serial) :
    execFold t core first n (bufs.map PartPlace.buf) dst serial s = .next ((s.advance t).foldInto core first n dst serial
      (sortRecs (s.foldRecs core (s.refOn core serial) (bufs.map PartPlace.buf)))) := by
  have hgen := sortRecs_of_gen h
  unfold execFold
  simp only [entriesOf_bufs, forEach_nil, State.foldRecs_advance]
  exact if_neg hgen

/-- A fold of an entry that the core sees, its records of the step's generation: it takes the entry (R15, R18, R22, R148). -/
theorem execFold_of_entry (t core first n dst : Nat) (serial : Option Nat) (s : State) {a : Nat} (slot : Nat) (hs : s.sees a)
    (h : ∀ r ∈ s.foldRecs core (s.refOn core serial) [.entry a slot], r.1.gen = s.genOf core serial) :
    execFold t core first n [.entry a slot] dst serial s = .next (((s.advance t).takeEntry core serial a).foldInto core first n dst
      serial (sortRecs (s.foldRecs core (s.refOn core serial) [.entry a slot]))) := by
  have hgen := sortRecs_of_gen h
  have hmissing : (s.advance t).missing (entriesOf [.entry a slot]) = none := State.missing_of_sees (s := s.advance t) hs slot
  unfold execFold
  simp only [hmissing, State.foldRecs_advance]
  exact if_neg hgen

/-- A fold of an entry that is not there waits for it (R17, R148). -/
theorem execFold_of_open (t core first n dst : Nat) (serial : Option Nat) (s : State) {a : Nat} (slot : Nat) (h : s.openAt a) :
    execFold t core first n [.entry a slot] dst serial s = .next ((s.advance t).reach core a slot (fold := true)).2 := by
  have hmissing : (s.advance t).missing (entriesOf [.entry a slot]) = some (a, slot) :=
    State.missing_of_open (s := s.advance t) h slot
  unfold execFold
  simp only [hmissing]

/-- An entry that a core takes is consumed, and CST's arbiters are asked for it (R15, R18). -/
theorem State.takeEntry_areas (s : State) (core : Nat) (serial : Option Nat) (a : Nat) :
    SameBut [.arbs, .ctl] s (s.takeEntry core serial a) :=
  State.takeEntry_same (SameBut.refl _ s) _ _ _ (by decide) (by decide)

theorem State.takeEntry_entry (s : State) (core : Nat) (serial : Option Nat) (a : Nat) :
    (s.takeEntry core serial a).entry a = { s.entry a with consumed := true } := State.entry_setEntry_same _ _ _

theorem State.takeEntry_entry_ne (s : State) (core : Nat) (serial : Option Nat) {a x : Nat} (h : x ≠ a) :
    (s.takeEntry core serial a).entry x = s.entry x := State.entry_setEntry_ne _ _ h

/-! Sampling (R149, R150, R154). -/

theorem mem_topkInsert {k : Nat} {x y : Nat × F32} {l : List (Nat × F32)} (h : y ∈ topkInsert k x l) : y = x ∨ y ∈ l := by
  have hmem := List.mem_of_mem_take h
  rw [List.mem_append, List.mem_cons] at hmem
  rcases hmem with h | h | h
  · exact .inr ((List.takeWhile_sublist _).mem h)
  · exact .inl h
  · exact .inr ((List.dropWhile_sublist _).mem h)

theorem topkInsert_ne_nil {k : Nat} (hk : 0 < k) (x : Nat × F32) (l : List (Nat × F32)) : topkInsert k x l ≠ [] := by
  unfold topkInsert
  simp [List.take_eq_nil_iff]
  omega

theorem mem_mergeTopk {k : Nat} {y : Nat × F32} {a b : List (Nat × F32)} (h : y ∈ mergeTopk k a b) : y ∈ a ∨ y ∈ b := by
  unfold mergeTopk at h
  induction b generalizing a with
  | nil => exact .inl h
  | cons x b ih =>
    rw [List.mem_cons]
    rcases ih h with h | h
    · rcases mem_topkInsert h with h | h
      · exact .inr (.inl h)
      · exact .inl h
    · exact .inr (.inr h)

theorem mergeTopk_ne_nil {k : Nat} (hk : 0 < k) {a b : List (Nat × F32)} (h : a ≠ [] ∨ b ≠ []) : mergeTopk k a b ≠ [] := by
  unfold mergeTopk
  induction b generalizing a with
  | nil => exact h.resolve_right (fun hb => hb rfl)
  | cons x b ih => exact ih (.inl (topkInsert_ne_nil hk x a))

/-- The candidates that lists merge into (R150). -/
def mergedItems (acc : List (Nat × F32)) (ls : List TopList) : List (Nat × F32) :=
  ls.foldl (fun acc l => mergeTopk 64 acc l.items) acc

theorem mem_mergedItems {y : Nat × F32} {acc : List (Nat × F32)} {ls : List TopList} (h : y ∈ mergedItems acc ls) :
    y ∈ acc ∨ ∃ l ∈ ls, y ∈ l.items := by
  unfold mergedItems at h
  induction ls generalizing acc with
  | nil => exact .inl h
  | cons l ls ih =>
    rcases ih h with h | ⟨m, hm, hy⟩
    · exact (mem_mergeTopk h).imp id fun hy => ⟨l, List.mem_cons_self, hy⟩
    · exact .inr ⟨m, List.mem_cons_of_mem _ hm, hy⟩

theorem mergedItems_ne_nil {acc : List (Nat × F32)} {ls : List TopList} (h : acc ≠ [] ∨ ∃ l ∈ ls, l.items ≠ []) :
    mergedItems acc ls ≠ [] := by
  unfold mergedItems
  induction ls generalizing acc with
  | nil => simpa using h
  | cons l ls ih =>
    refine ih ?_
    rcases h with h | ⟨m, hm, hi⟩
    · exact .inl (mergeTopk_ne_nil (by decide) (.inl h))
    · rcases List.mem_cons.mp hm with rfl | hm
      · exact .inl (mergeTopk_ne_nil (by decide) (.inr hi))
      · exact .inr ⟨m, hm, hi⟩

theorem topPrefix_sublist (p acc : F32) (l : List (Nat × F32 × F32)) : (topPrefix p acc l).Sublist l := by
  induction l generalizing acc with
  | nil => exact List.Sublist.refl _
  | cons x l ih =>
    unfold topPrefix
    extract_lets acc'
    split
    · exact List.singleton_sublist.mpr List.mem_cons_self
    · exact (ih _).cons_cons x

theorem topPrefix_ne_nil (p acc : F32) {l : List (Nat × F32 × F32)} (h : l ≠ []) : topPrefix p acc l ≠ [] := by
  cases l with
  | nil => exact absurd rfl h
  | cons x l =>
    unfold topPrefix
    extract_lets acc'
    split <;> simp

/-- The choice falls on one of the kept candidates (R154 step 6). -/
theorem chooseToken_mem (target acc : F32) {l : List (Nat × F32 × F32)} (h : l ≠ []) :
    ∃ x ∈ l, chooseToken target acc l = some x.1 := by
  induction l generalizing acc with
  | nil => exact absurd rfl h
  | cons x l ih =>
    cases l with
    | nil => exact ⟨x, List.mem_cons_self, rfl⟩
    | cons y l =>
      unfold chooseToken
      extract_lets acc'
      split
      · exact ⟨x, List.mem_cons_self, rfl⟩
      · obtain ⟨z, hz, he⟩ := ih acc' (List.cons_ne_nil _ _)
        exact ⟨z, List.mem_cons_of_mem _ hz, he⟩

/-- Where each kept candidate carries the token of one of a list, so does the choice. -/
theorem chooseToken_of_tokens (target acc : F32) {l : List (Nat × F32 × F32)} (h : l ≠ []) {cands : List (Nat × F32)}
    (hl : ∀ x ∈ l, ∃ c ∈ cands, c.1 = x.1) : ∃ c ∈ cands, chooseToken target acc l = some c.1 := by
  obtain ⟨x, hx, he⟩ := chooseToken_mem target acc h
  obtain ⟨c, hc, htok⟩ := hl x hx
  exact ⟨c, hc, htok ▸ he⟩

/-- A token is sampled from any candidates there are, and is one of them (R154). -/
theorem sampleToken_mem (o : SampleOps) {cands : List (Nat × F32)} (m z : F32) (h : cands ≠ []) :
    ∃ c ∈ cands, sampleToken o cands m z = some c.1 := by
  unfold sampleToken
  extract_lets T weighed kept u
  split
  · cases cands with
    | nil => exact absurd rfl h
    | cons c cands => exact ⟨c, List.mem_cons_self, rfl⟩
  · have hweighed : weighed ≠ [] := by simpa [weighed] using h
    have htokens : ∀ x ∈ weighed, ∃ c ∈ cands, c.1 = x.1 := by
      intro x hx
      obtain ⟨c, hc, rfl⟩ := List.mem_map.mp hx
      exact ⟨c, hc, rfl⟩
    have hsub : kept.Sublist weighed := by
      unfold kept
      split
      · exact List.Sublist.refl _
      · exact topPrefix_sublist _ _ _
    have hkept : kept ≠ [] := by
      unfold kept
      split
      · exact hweighed
      · exact topPrefix_ne_nil _ _ hweighed
    clear_value kept
    cases kept with
    | nil => exact absurd rfl hkept
    | cons k0 rest =>
      exact chooseToken_of_tokens _ _ (List.cons_ne_nil _ _) fun x hx =>
        htokens x (hsub.mem ((List.filter_sublist.cons_cons k0).mem hx))

/-- A token sampled from lists that hold a candidate is one of these, and is kept for its request (R150, R154). -/
theorem State.sampleFrom_of_candidates (s : State) (core dst serial j : Nat) (o : SampleOps) {ls : List TopList}
    (h : ∃ l ∈ ls, l.items ≠ []) :
    ∃ v tok, SameBut [.fab] s v ∧ NumericOnly s v ∧ (∃ l ∈ ls, ∃ x, (tok, x) ∈ l.items)
      ∧ s.sampleFrom core dst serial j o ls = ((v.addSample ⟨serial, j, tok, ls.any (·.oob)⟩).setBuf core dst
          (.token (some serial) tok)).count VEC_SAMPLE_CNT_COUNT := by
  unfold State.sampleFrom
  extract_lets cands temp kept
  have hne : cands ≠ [] := mergedItems_ne_nil (.inr h)
  have hmem : ∀ c ∈ cands, ∃ l ∈ ls, c ∈ l.items := fun c hc =>
    (mem_mergedItems (acc := []) hc).resolve_left List.not_mem_nil
  clear_value cands
  cases cands with
  | nil => exact absurd rfl hne
  | cons c0 rest =>
    dsimp only
    have hkept : kept ≠ [] := by
      unfold kept
      rw [Ne, List.take_eq_nil_iff]
      split <;> simp_all
    obtain ⟨c, hc, he⟩ := sampleToken_mem o c0.2 (denominator ls c0.2 temp) hkept
    obtain ⟨l, hl, hi⟩ := hmem c (List.mem_of_mem_take hc)
    rw [he]
    refine ⟨_, c.1, ?_, ?_, ⟨l, hl, c.2, hi⟩, rfl⟩
    · exact s.markNumeric_if_same _ _
    · exact s.markNumeric_if_numeric _ _

theorem State.addSample_fab (s : State) (x : Sample) : (s.addSample x).fab
    = { s.fab with samples := (s.fab.samples.filter fun y => !(y.serial == x.serial && y.j == x.j)) ++ [x] } := rfl

/-- A vector result in a buffer is as long as what was formed, with no element marked (R41, R46). -/
theorem State.putVec_leaves (s : State) (core dst : Nat) (serial : Option Nat) (first : Nat) (ins sums outs : List F32) :
    ∃ (event : Bool) (l : List F32), l.length = outs.length
      ∧ s.putVec core dst serial first ins sums outs = (if event then s.markNumeric serial else s).setBuf core dst
          (.vec serial first l (l.map fun _ => false) []) := by
  unfold State.putVec
  extract_lets event s1
  have hmarks : (outs.map fun _ => false) = (if event then outs.map fun _ => f32NaN else outs).map fun _ => false := by
    split <;> simp
  refine ⟨event, if event then outs.map fun _ => f32NaN else outs, ?_, ?_⟩
  · split <;> simp
  · rw [hmarks]

/-- From `s` to `u` the data path has changed only in which requests have met a NUMERIC event and in the targets evaluated. -/
def TargetsOnly (s u : State) : Prop := u.fab = { s.fab with numericMarks := u.fab.numericMarks, targets := u.fab.targets }

/-- What a target of a tune keeps for its loss (R296). -/
def State.keepTarget (s : State) (x : TuneTarget) : State :=
  s.withFab { s.fab with targets := (s.fab.targets.filter fun y => !(y.serial == x.serial && y.index == x.index)) ++ [x] }

/-- A target of a tune keeps what its loss needs, and its logit gradient goes into a buffer (R296). -/
theorem State.tuneTarget_of_max (s : State) (core dst : Nat) (r : Request) (i : Nat) {parts : List (List F32)} {m : F32}
    (h : maxOfVals parts.flatten = some m) :
    ∃ v z l, SameBut [.fab] s v ∧ TargetsOnly s v
      ∧ ⟨r.serial, i, m, z, nth 0#32 parts.flatten (nth 0 r.buffer i % 2 ^ 24)⟩ ∈ v.fab.targets
      ∧ l.length = parts.flatten.length
      ∧ s.tuneTarget core dst r i parts = v.setBuf core dst (.vec (some r.serial) 0 l (l.map fun _ => false) []) := by
  have hput : ∃ z sums grads, grads.length = parts.flatten.length ∧ s.tuneTarget core dst r i parts
      = (s.keepTarget ⟨r.serial, i, m, z, nth 0#32 parts.flatten (nth 0 r.buffer i % 2 ^ 24)⟩).putVec core dst (some r.serial) 0
          parts.flatten sums grads := by
    unfold State.tuneTarget
    simp only [h]
    refine ⟨_, _, _, ?_, rfl⟩
    simp
  obtain ⟨z, sums, grads, hgrads, hput⟩ := hput
  generalize hx : (⟨r.serial, i, m, z, nth 0#32 parts.flatten (nth 0 r.buffer i % 2 ^ 24)⟩ : TuneTarget) = x at hput
  obtain ⟨event, l, hlen, hleaves⟩ := (s.keepTarget x).putVec_leaves core dst (some r.serial) 0 parts.flatten sums grads
  have hfab := (s.keepTarget x).markNumeric_if_numeric (event = true) (some r.serial)
  have hsame : SameBut [.fab] s (s.keepTarget x) := State.withFab_same (SameBut.refl _ s) _ (by decide)
  refine ⟨_, z, l, hsame.trans ((s.keepTarget x).markNumeric_if_same _ _), ?_, ?_, hlen.trans hgrads, hput.trans hleaves⟩
  · unfold TargetsOnly
    rw [hfab]
    rfl
  · rw [hfab, hx]
    exact List.mem_append_right _ List.mem_cons_self

/-- A request's sample from buffers (R150, R154). -/
theorem execSample_of_sampling (t core q j dst : Nat) (bufs : List Nat) (s : State) {x : Session} {r : Request} {b : SampleBlock}
    (h : s.findReq (some q) = some (x, r)) (hb : r.sampling = some b) :
    execSample t core (bufs.map PartPlace.buf) q j dst s = .next ((s.advance t).sampleFrom core dst q j
      (sampleOps b (x.samplePosition r j)) (s.candidateLists core (bufs.map PartPlace.buf))) := by
  have hreq : (s.advance t).findReq (some q) = some (x, r) := h
  unfold execSample
  simp only [hreq, entriesOf_bufs, State.missing_nil, hb]
  rfl

/-- A tune's target from buffers (R296). -/
theorem execSample_of_target (t core q j dst : Nat) (bufs : List Nat) (s : State) {x : Session} {r : Request}
    (h : s.findReq (some q) = some (x, r)) (hb : r.sampling = none) (hj : (targetIndexes r.buffer).contains j = true) :
    execSample t core (bufs.map PartPlace.buf) q j dst s
      = .next ((s.advance t).tuneTarget core dst r j (s.logitParts core (bufs.map PartPlace.buf))) := by
  have hreq : (s.advance t).findReq (some q) = some (x, r) := h
  unfold execSample
  simp only [hreq, entriesOf_bufs, State.missing_nil, hb]
  exact if_pos hj

/-! Experts (R15, R157, R158). -/

theorem State.expertOuts_advance (s : State) (t core : Nat) (outs : List (Nat × Nat)) (l : List (Nat × F32)) :
    (s.advance t).expertOuts core outs l = s.expertOuts core outs l := by
  induction l with
  | nil => rfl
  | cons x l ih =>
    simp only [State.expertOuts, ih]
    rfl

section
variable (t core src router : Nat) {s : State} {e num f : Nat} {serial sr : Option Nat} {bs : List A8Block}
  {dig : List (Nat × BF16)} {items : List (Nat × F32)} {m : Option F32} {z : F32} {oob : Bool}

/-- The dispatch to one place, by whether the router's list selects its expert (R157). -/
theorem execExpertDispatch_of_one (hs : s.buf core src = .a8 serial num bs dig)
    (hr : s.buf core router = .topk sr f items m z oob) (place : DrainPlace) :
    execExpertDispatch t core src router [(e, place)] s
      = .next (if e != 0xFFFFFFFF && items.any (·.1 == e) then (s.advance t).putPlace core serial place (.a8 serial num bs dig)
        else s.advance t) := by
  have hsrc : (s.advance t).buf core src = .a8 serial num bs dig := hs
  have hrouter : (s.advance t).buf core router = .topk sr f items m z oob := hr
  have hsort : sortBy (·.1) [(e, place)] = [(e, place)] := rfl
  unfold execExpertDispatch
  simp only [hsrc, hrouter, hsort, List.filter_cons, List.filter_nil]
  split <;> rfl

/-- The activation goes to the place of an expert that the list selects. -/
theorem execExpertDispatch_of_selected (hs : s.buf core src = .a8 serial num bs dig)
    (hr : s.buf core router = .topk sr f items m z oob) (hi : items.any (·.1 == e) = true) (he : e ≠ 0xFFFFFFFF)
    (place : DrainPlace) :
    execExpertDispatch t core src router [(e, place)] s
      = .next ((s.advance t).putPlace core serial place (.a8 serial num bs dig)) := by
  rw [execExpertDispatch_of_one t core src router hs hr place, if_pos (by simp [hi, he])]

/-- It goes to the place of no other. -/
theorem execExpertDispatch_of_unselected (hs : s.buf core src = .a8 serial num bs dig)
    (hr : s.buf core router = .topk sr f items m z oob) (hi : items.any (·.1 == e) = false) (place : DrainPlace) :
    execExpertDispatch t core src router [(e, place)] s = .next (s.advance t) := by
  rw [execExpertDispatch_of_one t core src router hs hr place, if_neg (by simp [hi])]

end

/-- What goes to an open queue entry of this module fills it, where no load waits (R15, R16). -/
theorem State.putPlace_of_open {s : State} {a : Nat} (h : s.openAt a) (hw : s.fab.waiting = []) (core : Nat)
    (serial : Option Nat) (slot : Nat) (b : VecBuf) :
    let u := s.putPlace core serial (.here (.entry a slot)) b
    SameBut [.arbs, .ctl, .mem] s u ∧ (∀ x, x ≠ a → u.entry x = s.entry x)
      ∧ u.entry a = ⟨slot, true, s.slotCome slot, false, (s.workOn core serial).1, (s.workOn core serial).2, b.stored, [], []⟩ := by
  intro u
  have harbs : SameBut [.arbs] s (s.coreCst core serial a b.stored.length) :=
    State.coreCst_same (SameBut.refl _ s) _ _ _ _ (by decide)
  have hctl := harbs.ctl (by decide)
  have hopen : (s.coreCst core serial a b.stored.length).openAt a := h
  have hnone : (s.coreCst core serial a b.stored.length).fab.waiting = [] := hw
  refine ⟨?_, fun x hx => ?_, ?_⟩
  · exact (harbs.mono (by decide)).trans ((State.putEntry_of_open_same hopen hnone _ _ _ _ _).mono (by decide))
  · exact (State.putEntry_of_open_entry_ne hopen hnone hx _ _ _ _ _).trans (State.entry_of_ctl hctl x)
  · exact State.putEntry_of_open_entry hopen hnone _ _ _ _ _

/-- The combination of the experts' outputs that are there (R158). -/
theorem execExpertCombine_of_outs (t core residual router layer dst : Nat) (outs : List (Nat × Nat)) (s : State) {first f : Nat}
    {serial sr : Option Nat} {res : List F32} {items : List (Nat × F32)} {m : Option F32} {z : F32} {oob : Bool}
    {ys : List (F32 × List F32)} (hres : s.readVec core residual = some (serial, first, res))
    (hrouter : s.buf core router = .topk sr f items m z oob)
    (hys : (let full := nth 0#32 ((s.image (s.genOf core serial)).table 7 layer) 0 == 0x3F800000#32
      s.expertOuts core outs (byNumber (expertWeights full (items.filter (·.1 != 0xFFFFFFFF)) (m.getD 0#32) z)) = some ys)) :
    let sum := res.zipIdx.map fun (x, i) => ys.foldl (fun acc (w, y) => f32Add acc (f32Mul w (nth 0#32 y i))) x
    let full := nth 0#32 ((s.image (s.genOf core serial)).table 7 layer) 0 == 0x3F800000#32
    let chosen := items.filter (·.1 != 0xFFFFFFFF)
    let peak := if full then m.getD 0#32 else (chosen.head?.map (·.2)).getD 0#32
    let far := chosen.any fun c => expOverflows 0x3F800000#32 peak c.2
    let event := (far || sum.any fun x => f32NonFinite x || bf16Overflows x) && !(res ++ (ys.map (·.2)).flatten).any f32IsNaN
    execExpertCombine t core residual router layer outs dst s
      = .next ((if event then (s.advance t).markNumeric serial else s.advance t).setBuf core dst
          (.bf16 serial (sum.map fun x => if event then bf16NaN else f32ToBf16 x))) := by
  have hread : (s.advance t).readVec core residual = some (serial, first, res) := hres
  have hbuf : (s.advance t).buf core router = .topk sr f items m z oob := hrouter
  have houts : (s.advance t).expertOuts core outs (byNumber (expertWeights
      (nth 0#32 (((s.advance t).image ((s.advance t).genOf core serial)).table 7 layer) 0 == 0x3F800000#32)
      (items.filter (·.1 != 0xFFFFFFFF)) (m.getD 0#32) z)) = some ys := (State.expertOuts_advance s t core outs _).trans hys
  unfold execExpertCombine
  simp only [hread, hbuf, houts]
  rfl

/-! The state once time has moved on (log 1). -/

theorem SameBut.after_advance {A : List Area} {s u : State} {t : Nat} (h : SameBut A (s.advance t) u) :
    SameBut (.now :: A) s u :=
  (State.advance_same (SameBut.refl _ s) t List.mem_cons_self).trans (h.mono fun _ => List.mem_cons_of_mem _)

/-- A fold's frame, counted from the state before time moved on to it, with the fold's buffer written. -/
theorem FoldFrame.setBuf_after_advance {s v : State} {t core dst : Nat} {b : VecBuf} (h : FoldFrame (s.advance t) v) :
    SameBut [.regs, .now, .fab] s (v.setBuf core dst b)
      ∧ RegsBut [(WLT_CANCEL_FLAG_CNT_COUNT, 0), (WLT_OOB_CNT_COUNT, 0)] s (v.setBuf core dst b)
      ∧ (v.setBuf core dst b).fab = { s.fab with
          bufs := (v.setBuf core dst b).fab.bufs, rescues := (v.setBuf core dst b).fab.rescues
          oobMarks := (v.setBuf core dst b).fab.oobMarks, numericMarks := (v.setBuf core dst b).fab.numericMarks }
      ∧ ∀ k, k ≠ 65536 * core + dst → SMap.get .empty (v.setBuf core dst b).fab.bufs k = SMap.get .empty s.fab.bufs k := by
  obtain ⟨hareas, hmarks, hcounts⟩ := h
  refine ⟨?_, hcounts, ?_, fun k hk => ?_⟩
  · exact State.setBuf_same (hareas.after_advance.mono (by decide)) _ _ _ (by decide)
  · rw [State.setBuf_fab, hmarks]
    rfl
  · rw [State.get_bufs_setBuf_ne _ _ hk, hmarks.bufs]
    rfl

/-- Settles O33: folds by the marks and the buffer that they leave, a wait by the stall that it begins, a sample by the choice
among the candidates, and the experts by the place or the sum of each. -/
theorem foldsSamplesExperts : Obligations.FoldsSamplesExperts := by
  unfold Obligations.FoldsSamplesExperts
  refine ⟨fun t core first n dst serial s => ⟨?_, ?_, ?_, ?_, ?_⟩, fun t core s => ⟨?_, ?_⟩⟩
  · intro bufs recs hgen es
    obtain ⟨v, vals, oob, rescue, hframe, hfold, hlen, hvals⟩ :=
      (s.advance t).foldInto_leaves core first n dst serial (sortRecs recs)
    obtain ⟨hareas, hcounts, hfab, hbufs⟩ := hframe.setBuf_after_advance (core := core) (dst := dst)
      (b := .vec serial first vals oob rescue)
    exact ⟨_, (execFold_of_bufs t core first n dst serial s bufs hgen).trans (congrArg _ hfold), hareas, hcounts, hfab, hbufs,
      vals, oob, rescue, State.buf_setBuf_same _ _ _ _, hlen, hvals⟩
  · intro a slot hw hv hc hgen
    obtain ⟨v, vals, oob, rescue, hframe, hfold, hlen, hvals⟩ :=
      ((s.advance t).takeEntry core serial a).foldInto_leaves core first n dst serial
        (sortRecs (s.foldRecs core (s.refOn core serial) [.entry a slot]))
    have hctl : v.ctl = ((s.advance t).takeEntry core serial a).ctl := hframe.areas.ctl (by decide)
    refine ⟨_, (execFold_of_entry t core first n dst serial s slot ⟨hw, hv, hc⟩ hgen).trans (congrArg _ hfold), ?_, ?_,
      fun x hx => ?_, vals, oob, rescue, State.buf_setBuf_same _ _ _ _, ?_⟩
    · have htake := ((s.advance t).takeEntry_areas core serial a).after_advance
      exact State.setBuf_same ((htake.mono (by decide)).trans (hframe.areas.mono (by decide))) _ _ _ (by decide)
    · exact (State.entry_of_ctl hctl a).trans (State.takeEntry_entry _ _ _ _)
    · exact (State.entry_of_ctl hctl x).trans (State.takeEntry_entry_ne _ _ _ hx)
    · rw [hvals]
      split <;> simp
  · intro a slot ho hn hs
    obtain ⟨c, hreach⟩ := State.reach_of_late (s := s.advance t) (core := core) ho hn hs true
    refine ⟨_, (execFold_of_open t core first n dst serial s slot ho).trans (congrArg _ hreach), ?_, ?_, ?_, ?_, ?_, ?_⟩
    · have hareas := State.reach_same (A := [.regs, .ctl]) (SameBut.refl _ (s.advance t)) core a slot true false (by decide)
        (by decide)
      rw [hreach] at hareas
      exact hareas.after_advance.mono (by decide)
    · exact (RegsBut.count (RegsBut.refl _ s |>.of_regs rfl) List.mem_cons_self _).count
        (List.mem_cons_of_mem _ List.mem_cons_self) _
    · exact (State.rd_count_ne _ (by decide) _).trans (State.rd_count_same _ _ _ _)
    · refine (State.rd_count_same _ _ _ _).trans ?_
      rw [State.rd_count_ne _ (by decide)]
      rfl
    · exact congrArg CoreCtl.stalls (State.core_setCore_same _ _ _)
    · intro hrun
      refine (congrArg CoreCtl.seq (State.core_setCore_same _ _ _)).trans ?_
      exact if_pos (by rw [decide_eq_true (show ((s.advance t).core core).seq = .running from hrun)]; rfl)
  · intro bufs q j x r b ls hreq hb hls
    obtain ⟨v, tok, hsame, hnum, htok, hsample⟩ := (s.advance t).sampleFrom_of_candidates core dst q j
      (sampleOps b (x.samplePosition r j)) hls
    refine ⟨_, (execSample_of_sampling t core q j dst bufs s hreq hb).trans (congrArg _ hsample), ?_, ?_, ?_, ?_, fun k hk => ?_,
      tok, State.buf_setBuf_same _ _ _ _, List.mem_append_right _ List.mem_cons_self, htok⟩
    · exact State.count_same (State.setBuf_same (State.withFab_same (hsame.after_advance.mono (by decide)) _ (by decide)) _ _ _
        (by decide)) _ _ _ (by decide)
    · exact ((RegsBut.refl _ s).of_regs (hsame.regs (by decide))).count List.mem_cons_self _
    · refine (State.rd_count_same _ _ _ _).trans ?_
      exact congrArg (fun n => min (maxOf VEC_SAMPLE_CNT_COUNT.width) (n + 1)) (State.rd_of_regs (hsame.regs (by decide)) _ _)
    · rw [State.count_fab, State.setBuf_fab, State.addSample_fab, hnum]
      rfl
    · refine (State.get_bufs_setBuf_ne _ _ hk).trans ?_
      rw [State.addSample_fab, hnum]
      rfl
  · intro bufs q j x r m vals hreq hb hj hm
    obtain ⟨v, z, l, hsame, htargets, hmem, hlen, htune⟩ := (s.advance t).tuneTarget_of_max core dst r j hm
    refine ⟨_, (execSample_of_target t core q j dst bufs s hreq hb hj).trans (congrArg _ htune), ?_, ?_, ⟨z, ?_⟩, l,
      State.buf_setBuf_same _ _ _ _, hlen⟩
    · exact State.setBuf_same (hsame.after_advance.mono (by decide)) _ _ _ (by decide)
    · rw [State.setBuf_fab, htargets]
      rfl
    · exact hmem
  · intro src router e serial num bs dig sr f items m z oob hsrc hrouter
    refine ⟨fun hi he => ⟨fun k => ?_, fun a slot ho hl => ?_⟩, fun hi place => ?_⟩
    · exact ⟨_, execExpertDispatch_of_selected t core src router hsrc hrouter hi he _,
        State.setBuf_same (State.advance_same (SameBut.refl _ s) t (by decide)) _ _ _ (by decide),
        (s.advance t).onlyBuf_setBuf core k _, State.buf_setBuf_same _ _ _ _⟩
    · obtain ⟨hareas, hothers, hentry⟩ := State.putPlace_of_open (s := s.advance t) ho hl core serial slot (.a8 serial num bs dig)
      exact ⟨_, execExpertDispatch_of_selected t core src router hsrc hrouter hi he _, hareas.after_advance,
        congrArg QEntry.written hentry, congrArg QEntry.validSlot hentry, congrArg QEntry.bytes hentry, hothers⟩
    · exact execExpertDispatch_of_unselected t core src router hsrc hrouter hi place
  · intro residual router layer outs dst serial first res sr f items m z oob ys hres hrouter hys sum full chosen peak far event
    refine ⟨_, execExpertCombine_of_outs t core residual router layer dst outs s hres hrouter hys, ?_, ?_, ?_⟩
    · exact State.setBuf_same (((s.advance t).markNumeric_if_same _ _).after_advance) _ _ _ (by decide)
    · exact (s.advance t).onlyBuf_setBuf_markNumeric _ serial core dst _
    · exact State.buf_setBuf_same _ _ _ _

end Sys2Proof.Machine
end

section
/-! PROOFS. DMA of a queue entry that is not there before its valid slot (R16, R17, R358), and why the statement about DMA fails. -/

namespace Sys2Proof.Machine

/-- A consumer that reaches an entry before its valid slot, the first of its core to do so, waits, and nothing else changes (R17). -/
theorem State.reach_of_early {s : State} {core a slot : Nat} (h : s.openAt a) (hn : ∀ x ∈ (s.core core).stalls, x.entry ≠ a)
    (hs : s.slotCome slot = false) :
    s.reach core a slot = (false, s.setCore core ((s.core core).waitOn ⟨a, slot, false, false, none⟩)) := by
  have hany : (s.core core).stalls.any (·.entry == a) = false :=
    List.any_eq_false.mpr fun x hx => by simpa using hn x hx
  unfold State.reach
  simp only [State.not_sees_of_open h, hany, Bool.false_eq_true, if_false, State.slotCome_setCore, hs]
  rfl

/-- The DMA of an entry that is not there before its valid slot leaves every register as it is. -/
theorem exec_dma_readEntry_of_early (t core : Nat) (serial : Option Nat) (s : State) {a slot : Nat} (dst : Nat) (kind : DmaKind)
    (h : s.openAt a) (hn : ∀ x ∈ (s.core core).stalls, x.entry ≠ a) (hs : s.slotCome slot = false) :
    exec (.dma t core serial (.readEntry a slot dst kind) []) s
      = .next ((s.advance t).setCore core ((s.core core).waitOn ⟨a, slot, false, false, none⟩)) := by
  have hreach := State.reach_of_early (s := s.advance t) h hn hs
  show Host.Outcome.next ((s.advance t).dma core serial (.readEntry a slot dst kind)) = _
  unfold State.dma
  simp only [hreach]
  rfl

/-- The state after reset, but that the register table holds 2^32 for the overrun counter, a value above the field's 32 bits. -/
def overrunAboveWidth : State := { State.reset with regs := [(TWS_PLAN_OVERRUN_COUNT.key 0, 2 ^ 32)] }

/-- Refutes O34: of an entry that is not there before its valid slot it says that the overrun counter reads the least of all ones and
its old value, but the wait does not write the counter; where the register table holds more than the field's width, which no write
makes and the statement does not leave out, the two differ. -/
theorem not_dmaMoves : ¬ Obligations.DmaMoves := by
  unfold Obligations.DmaMoves
  intro h
  obtain ⟨-, -, hread, -⟩ := h 0 0 none overrunAboveWidth
  have hopen : overrunAboveWidth.openAt 64 := .inl rfl
  have hnone : ∀ x ∈ (overrunAboveWidth.core 0).stalls, x.entry ≠ 64 := fun _ hx => absurd hx List.not_mem_nil
  obtain ⟨u, hu, -, -, -, -, -, -, hcount⟩ := (hread 64 5 3 .raw).2 hopen hnone
  obtain rfl := Host.Outcome.next.inj
    (hu.symm.trans (exec_dma_readEntry_of_early 0 0 none overrunAboveWidth 3 .raw hopen hnone rfl))
  have hkept : 2 ^ 32 = min (maxOf 32) (2 ^ 32 + 0) := hcount
  exact absurd hkept (by decide)

end Sys2Proof.Machine
end

section
/-! PROOFS. The write of a CNT_CLR register (R82, R103, R135, R160, R183, R204, R234, R264, R327, R352, R371, R386, R387, R406, R424,
R446): where the register table keeps the banks of a field, and what clearing a block's counters leaves. -/

namespace Sys2Proof.Machine

/-! The places of fields. -/

/-- The banks of a field stand 2^32 places apart in the register table. -/
theorem Fld.key_mod (f : Fld) (b : Nat) : f.key b % 2 ^ 32 = f.key 0 % 2 ^ 32 := by
  unfold Fld.key
  omega

/-- Every counter stands within the first bank's places, behind the first 1,024, which a virtual function's window has as its own
in the next bank. -/
theorem CntBlk.fields_place (k : CntBlk) : ∀ g ∈ k.fields, 1024 ≤ g.key 0 ∧ g.key 0 < 2 ^ 32 := by
  cases k <;> decide

/-- A field of the register table stands within the first bank's places, or in the window of a virtual function. -/
theorem regTable_place : ∀ f ∈ regTable, f.key 0 < 2 ^ 32 ∨ f.key 0 % 2 ^ 32 < 1024 := by
  decide +kernel

/-- No bank of a field that is none of a block's counters stands at one of their places. -/
theorem Fld.key_mod_ne_counter {f : Fld} (hf : f ∈ regTable) {k : CntBlk} (h : ∀ g ∈ k.fields, f.key 0 ≠ g.key 0) (b : Nat) :
    ∀ g ∈ k.fields, f.key b % 2 ^ 32 ≠ g.key 0 := by
  intro g hg
  obtain ⟨hlow, hhigh⟩ := k.fields_place g hg
  have hne := h g hg
  rw [f.key_mod]
  rcases regTable_place f hf with hplace | hwindow
  · rwa [Nat.mod_eq_of_lt hplace]
  · omega

/-! Tables with keys dropped. -/

theorem SMap.get_dropIf_of_dropped {α : Type} (d : α) (p : Nat → Bool) (m : SMap α) {k : Nat} (h : p k = true) :
    SMap.get d (SMap.dropIf (fun j _ => p j) m) k = d := by
  unfold SMap.dropIf
  induction m with
  | nil => rfl
  | cons e m ih =>
    by_cases he : p e.1 = true
    · simpa [he] using ih
    · have hne : e.1 ≠ k := fun hk => he (hk ▸ h)
      simpa [he, SMap.get, hne] using ih

theorem SMap.get_dropIf_of_kept {α : Type} (d : α) (p : Nat → Bool) (m : SMap α) {k : Nat} (h : p k = false) :
    SMap.get d (SMap.dropIf (fun j _ => p j) m) k = SMap.get d m k := by
  unfold SMap.dropIf
  induction m with
  | nil => rfl
  | cons e m ih =>
    by_cases he : p e.1 = true
    · have hne : e.1 ≠ k := fun hk => absurd (hk ▸ he) (by simp [h])
      simpa [he, SMap.get, hne] using ih
    · simp only [he, Bool.not_false, List.filter_cons_of_pos, SMap.get, ih]

/-! Counters. -/

/-- A cleared field reads its reset value in every bank. -/
theorem State.rd_clearEverywhere_of_mem (s : State) {l : List Fld} {f : Fld} (hf : f ∈ l) (hplace : f.key 0 < 2 ^ 32) (b : Nat) :
    (s.clearEverywhere l).rd f b = f.reset := by
  have hmod : f.key b % 2 ^ 32 = f.key 0 := (f.key_mod b).trans (Nat.mod_eq_of_lt hplace)
  exact SMap.get_dropIf_of_dropped f.reset (fun k => l.any fun g => k % 2 ^ 32 == g.key 0) s.regs
    (List.any_eq_true.mpr ⟨f, hf, beq_iff_eq.mpr hmod⟩)

/-- A field that stands at no place of the cleared ones reads as before. -/
theorem State.rd_clearEverywhere_of_ne (s : State) {l : List Fld} {f : Fld} {b : Nat} (h : ∀ g ∈ l, f.key b % 2 ^ 32 ≠ g.key 0) :
    (s.clearEverywhere l).rd f b = s.rd f b :=
  SMap.get_dropIf_of_kept f.reset (fun k => l.any fun g => k % 2 ^ 32 == g.key 0) s.regs
    (List.any_eq_false.mpr fun g hg hkey => h g hg (beq_iff_eq.mp hkey))

/-- The registers of a block whose counters are cleared are those with its fields cleared. -/
theorem State.clearCounters_regs (s : State) (k : CntBlk) : (s.clearCounters k).regs = (s.clearEverywhere k.fields).regs := by
  cases k <;> rfl

/-- From `s` to `u` the data path has changed only in what waits for log pairs. -/
def LogsOnly (s u : State) : Prop := u.fab = { s.fab with logHolds := u.fab.logHolds }

theorem State.clearCounters_logs (s : State) (k : CntBlk) : LogsOnly s (s.clearCounters k) := by
  cases k <;> rfl

/-- Only AMF and WLT have log pairs (R82, R135). -/
theorem State.clearCounters_fab (s : State) {k : CntBlk} (hamf : k ≠ .amf) (hwlt : k ≠ .wlt) : (s.clearCounters k).fab = s.fab := by
  cases k with
  | amf => exact absurd rfl hamf
  | wlt => exact absurd rfl hwlt
  | _ => rfl

/-- The command that writes a block's CNT_CLR register. -/
def CntBlk.clearInstr : CntBlk → Nat → Nat → Instr
  | .amf => .amfCntClr
  | .ccv => .ccvCntClr
  | .wlt => .wltCntClr
  | .acr => .acrCntClr
  | .atn => .atnCntClr
  | .kvm => .kvmCntClr
  | .lst => .lstCntClr
  | .tws => .twsCntClr
  | .hif => .hifCntClr
  | .lnk => .lnkCntClr
  | .cpx => .cpxCntClr
  | .cst => .cstCntClr
  | .mem => .memCntClr
  | .ptm => .ptmCntClr
  | .sms => .smsCntClr
  | .smsId => .smsIdCntClr

theorem exec_clearInstr (k : CntBlk) (t fn : Nat) (s : State) : exec (k.clearInstr t fn) s = .next (s.counterClear t fn k) := by
  cases k <;> rfl

theorem State.counterClear_of_accepts {s : State} (h : s.accepts 0 = true) (t : Nat) (k : CntBlk) :
    s.counterClear t 0 k = (s.advance t).clearCounters k := if_pos h

/-- A CNT_CLR register is the physical function's alone (R328). -/
theorem State.counterClear_of_ne {fn : Nat} (h : fn ≠ 0) (s : State) (t : Nat) (k : CntBlk) :
    s.counterClear t fn k = s.advance t :=
  if_neg (by simp [State.accepts, h])

/-- Settles O6: a field reads by whether its place, cut to the first bank's, is that of one of the block's counters; the rest of the
state is what the write's frame leaves. -/
theorem countersClear : Obligations.CountersClear := by
  unfold Obligations.CountersClear
  intro t s c k hc
  obtain rfl : c = k.clearInstr := by
    obtain ⟨k', -, h⟩ := List.mem_map (f := fun k : CntBlk => (k.clearInstr, k))
      (l := [CntBlk.amf, .ccv, .wlt, .acr, .atn, .kvm, .lst, .tws, .hif, .lnk, .cpx, .cst, .mem, .ptm, .sms, .smsId]) |>.mp hc
    cases h; rfl
  refine ⟨fun ha => ?_, fun fn hfn => ?_⟩
  · have hread (f : Fld) (bank : Nat) : ((s.advance t).clearCounters k).rd f bank = ((s.advance t).clearEverywhere k.fields).rd f bank :=
      State.rd_of_regs (State.clearCounters_regs _ k) f bank
    rw [exec_clearInstr, State.counterClear_of_accepts ha, ends_next]
    refine ⟨?_, (s.advance t).clearCounters_logs k, fun hamf hwlt => (s.advance t).clearCounters_fab hamf hwlt,
      fun f hf bank => ?_, fun f hf hne bank => ?_⟩
    · exact State.clearCounters_same (State.advance_same (SameBut.refl _ s) t (by decide)) k (by decide) (by decide)
    · calc ((s.advance t).clearCounters k).rd f bank
          = f.reset := (hread f bank).trans (State.rd_clearEverywhere_of_mem _ hf (k.fields_place f hf).2 bank)
        _ = 0 := k.fields_reset f hf
    · exact (hread f bank).trans (State.rd_clearEverywhere_of_ne _ (Fld.key_mod_ne_counter hf hne bank))
  · rw [exec_clearInstr, State.counterClear_of_ne hfn]

end Sys2Proof.Machine
end

section
/-! PROOFS. Which register fields a fault of a job, a suspect event and a check of a unit may change (R75, R93, R409–R417), in the
order of the model's operations. -/

namespace Sys2Proof.Machine

/-- From `s` to `u` every register field but those listed, in any of their banks, reads as before. -/
def FieldsOnly (W : List Fld) (s u : State) : Prop :=
  ∀ (f : Fld) (b : Nat), (∀ g ∈ W, ∀ c, f.key b ≠ g.key c) → u.rd f b = s.rd f b

/-- The fields that a fault of a job, a module fault or a suspect event may change. -/
def faultFields : List Fld :=
  [KVM_SPEC_FREE_CNT_COUNT, KVM_EVICT_CNT_COUNT, SMS_LOG_DROP_CNT_COUNT, SMS_EVENT_LOG_DROP, SMS_JOB_FAULT_CNT_COUNT,
    SMS_EVENT_JOB_FAULT, SMS_STATUS_MODULE_FAULT, SMS_STATUS_FAULT_N, SMS_EVENT_MODULE_FAULT, SMS_RETIRE_CNT_COUNT,
    SMS_EVENT_RETIRE, SMS_SUSPECT_CNT_COUNT, SMS_EVENT_SUSPECT]

/-- Fields whose places differ in the first bank's share of the register table stand at different places in every bank. -/
theorem Fld.key_ne_of_place {f g : Fld} (h : f.key 0 % 2 ^ 32 ≠ g.key 0 % 2 ^ 32) (b c : Nat) : f.key b ≠ g.key c := by
  intro he
  rw [← f.key_mod b, ← g.key_mod c, he] at h
  exact h rfl

section
variable {W : List Fld} {s t u : State}

theorem FieldsOnly.refl (W : List Fld) (s : State) : FieldsOnly W s s := fun _ _ _ => rfl

/-- A write of a listed field changes no other. -/
theorem FieldsOnly.wr (h : FieldsOnly W s t) {f : Fld} (hf : f ∈ W) (v b : Nat) : FieldsOnly W s (t.wr f v b) :=
  fun g c n => (State.rd_wr_ne t g f v c b (n f hf b)).trans (h g c n)

theorem FieldsOnly.count (h : FieldsOnly W s t) {f : Fld} (hf : f ∈ W) (n b : Nat) : FieldsOnly W s (t.count f n b) :=
  h.wr hf _ b

/-- An update that leaves the register table alone changes no field. -/
theorem FieldsOnly.of_regs (h : FieldsOnly W s t) (e : u.regs = t.regs) : FieldsOnly W s u :=
  fun g c n => (State.rd_of_regs e g c).trans (h g c n)

theorem FieldsOnly.of_same (h : FieldsOnly W s t) {A : List Area} (hA : .regs ∉ A) (k : SameBut A t u) : FieldsOnly W s u :=
  h.of_regs (k.regs hA)

/-- A fold stays within what each of its steps stays within. -/
theorem FieldsOnly.forEach {α : Type} (h : FieldsOnly W s t) {l : List α} {f : State → α → State}
    (hf : ∀ x ∈ l, ∀ v, FieldsOnly W s v → FieldsOnly W s (f v x)) : FieldsOnly W s (forEach l t f) := by
  unfold Machine.forEach
  induction l generalizing t with
  | nil => exact h
  | cons x l ih => exact ih (hf x List.mem_cons_self t h) fun y hy => hf y (List.mem_cons_of_mem x hy)

theorem FieldsOnly.raise (h : FieldsOnly W s t) {ev : Fld} (hf : ev ∈ W) (enabled : Bool) (src : EvtSrc) :
    FieldsOnly W s (t.raise ev enabled src) := by
  have hset : FieldsOnly W s (t.setBit ev) := h.wr hf 1 0
  unfold State.raise State.when
  split
  · exact h
  · split
    · exact hset.of_regs (State.pfEvent_regs _ src)
    · exact hset

theorem FieldsOnly.smsEvent (h : FieldsOnly W s t) {ev : Fld} (hf : ev ∈ W) : FieldsOnly W s (t.smsEvent ev) :=
  h.raise hf _ _

theorem FieldsOnly.logEvent (hW : faultFields ⊆ W) (h : FieldsOnly W s t) (r : EventRec) : FieldsOnly W s (t.logEvent r) := by
  unfold State.logEvent
  extract_lets sec n
  split
  · exact h.of_same (A := [.sms]) (by decide)
      (State.appendLog_same (SameBut.set_sms (SameBut.refl _ t) _ (by decide)) r (by decide))
  · exact (h.count (hW (by decide)) 1 0).smsEvent (hW (by decide))

/-! The end of requests (R197, R289–R292). -/

theorem FieldsOnly.setSess (h : FieldsOnly W s t) (x : Session) : FieldsOnly W s (t.setSess x) := h.of_regs rfl

theorem FieldsOnly.freeColumns (h : FieldsOnly W s t) (num : Nat) (p : Column → Bool) : FieldsOnly W s (t.freeColumns num p) :=
  h.of_same (A := [.serve]) (by decide) (State.freeColumns_same (SameBut.refl _ t) num p (by decide))

theorem FieldsOnly.settle (hW : faultFields ⊆ W) (h : FieldsOnly W s t) (num : Nat) : FieldsOnly W s (t.settle num) := by
  unfold State.settle
  split
  · exact h
  · extract_lets cols t1 n
    exact ((h.setSess _).freeColumns num _).count (hW (by decide)) n 0

theorem FieldsOnly.rollback (hW : faultFields ⊆ W) (h : FieldsOnly W s t) (num : Nat) (r : Request) (k : Nat) :
    FieldsOnly W s (t.rollback num r k) := by
  unfold State.rollback
  split
  · exact h
  · split
    · exact h
    · split
      · extract_lets c t1
        exact (h.setSess _).freeColumns num _
      · extract_lets c p t1
        exact (h.setSess _).freeColumns num _
      · exact h.settle hW num
      · exact h

theorem FieldsOnly.endReq (hW : faultFields ⊆ W) (h : FieldsOnly W s t) (num : Nat) (r : Request) (st : Status) (time endCode : Nat) :
    FieldsOnly W s (t.endReq num r st time endCode) := by
  unfold State.endReq
  extract_lets r1 k t1 r2 t2
  have h1 : FieldsOnly W s t1 := by
    unfold t1
    split
    · exact h.of_regs rfl
    · exact h
  have h2 : FieldsOnly W s t2 := by
    unfold t2
    split
    · exact h1
    · exact h1.rollback hW num r2 k
  split
  · exact h2.of_same (A := [.arbs, .hif, .serve]) (by decide)
      (State.completeReq_same (SameBut.refl _ t2) num r2 st time endCode (by decide) (by decide) (by decide))
  · exact h2.of_same (A := [.serve]) (by decide) (State.setReq_same (SameBut.refl _ t2) num _ (by decide))

theorem FieldsOnly.endWhere (hW : faultFields ⊆ W) (h : FieldsOnly W s t) (num : Nat) (p : Request → Bool) (st : Status)
    (time : Nat) : FieldsOnly W s (t.endWhere num p st time) := by
  unfold State.endWhere
  split
  · exact h
  · exact h.forEach fun r _ v hv => hv.endReq hW num r st time 0

theorem FieldsOnly.releaseOld (hW : faultFields ⊆ W) (h : FieldsOnly W s t) (num : Nat) : FieldsOnly W s (t.releaseOld num) := by
  unfold State.releaseOld
  split
  · exact h
  · exact (h.count (hW (by decide)) _ 0).of_same (A := [.serve]) (by decide)
      (State.freeOld_same (SameBut.refl _ _) num (by decide))

theorem FieldsOnly.abortClones (hW : faultFields ⊆ W) (h : FieldsOnly W s t) (num : Nat) (st : Status) :
    FieldsOnly W s (t.abortClones num st) := by
  unfold State.abortClones
  refine h.forEach fun y _ v hv => ?_
  split
  · exact hv
  · extract_lets c v1
    have h1 : FieldsOnly W s v1 := by
      unfold v1
      split
      · exact hv
      · extract_lets cols
        exact (hv.setSess _).releaseOld hW num
    exact h1.of_same (A := [.arbs, .hif, .serve]) (by decide)
      (State.complete_same (State.dropSession_same (SameBut.refl _ v1) _ (by decide)) _ _ _ (by decide) (by decide))

theorem FieldsOnly.endJobIdle (hW : faultFields ⊆ W) (h : FieldsOnly W s t) (f n time : Nat) :
    FieldsOnly W s (t.endJobIdle f n time) := by
  unfold State.endJobIdle
  refine h.forEach fun x _ v hv => ?_
  extract_lets copying v1
  have h1 : FieldsOnly W s v1 := by
    unfold v1
    split
    · exact hv.abortClones hW x.num .jobFault
    · exact hv
  exact h1.endWhere hW x.num _ .jobFault time

/-! Faults of jobs (R411, R412). -/

theorem FieldsOnly.jobDown (hW : faultFields ⊆ W) (h : FieldsOnly W s t) (j : Job) (step : Option Nat) :
    FieldsOnly W s (t.jobDown j step) := by
  unfold State.jobDown
  extract_lets f n t1 step' t2 t3 t4
  have h1 : FieldsOnly W s t1 := (h.count (hW (by decide)) 1 0).smsEvent (hW (by decide))
  have h2 : FieldsOnly W s t2 := h1.of_regs rfl
  have h3 : FieldsOnly W s t3 := h2.of_same (A := [.serve, .ctl, .lnk]) (by decide)
    (State.unplan_same (SameBut.refl _ t2) _ (by decide) (by decide) (by decide))
  have h4 : FieldsOnly W s t4 := h3.of_regs rfl
  clear_value step' t4
  cases step' with
  | some _ => exact h4
  | none => exact h4.endJobIdle hW f n _

theorem FieldsOnly.faultJob (hW : faultFields ⊆ W) (h : FieldsOnly W s t) (f n : Nat) (step : Option Nat) (r : EventRec) :
    FieldsOnly W s (t.faultJob f n step r) := by
  unfold State.faultJob
  split
  · exact h.logEvent hW _
  · extract_lets t1
    split
    · exact h.logEvent hW _
    · exact (h.logEvent hW _).jobDown hW _ step

theorem FieldsOnly.faultCore (hW : faultFields ⊆ W) (h : FieldsOnly W s t) (core : Nat) (r : EventRec) (serial : Option Nat) :
    FieldsOnly W s (t.faultCore core r serial) := by
  unfold State.faultCore
  split
  · exact h.faultJob hW _ _ _ _
  · exact h.logEvent hW _

theorem FieldsOnly.coreJobFault (hW : faultFields ⊆ W) (h : FieldsOnly W s t) (core type_ : Nat) (detail : List Nat) (place : Nat)
    (serial : Option Nat) (status : Nat) : FieldsOnly W s (t.coreJobFault core type_ detail place serial status) :=
  h.faultCore hW core _ serial

/-! Module faults, retirement and suspect events (R414–R417). -/

theorem FieldsOnly.moduleFault (hW : faultFields ⊆ W) (h : FieldsOnly W s t) (cause : Nat) :
    FieldsOnly W s (t.moduleFault cause) := by
  unfold State.moduleFault
  split
  · exact h
  · split
    · exact h.of_regs rfl
    · extract_lets t1 t2 t3 t4
      have h1 : FieldsOnly W s t1 := (h.wr (hW (by decide)) 1 0).wr (hW (by decide)) 1 0
      have h2 : FieldsOnly W s t2 := h1.smsEvent (hW (by decide))
      have h3 : FieldsOnly W s t3 := h2.of_same (A := [.mgt]) (by decide)
        (State.mgtEvent_same (SameBut.refl _ t2) 102 1 (by decide))
      exact (h3.logEvent hW _).forEach fun j _ v hv => hv.faultJob hW _ _ _ _

theorem FieldsOnly.setHealth (h : FieldsOnly W s t) (core : Nat) (x : Health) : FieldsOnly W s (t.setHealth core x) := h.of_regs rfl

theorem FieldsOnly.markRetire (hW : faultFields ⊆ W) (h : FieldsOnly W s t) (core : Nat) : FieldsOnly W s (t.markRetire core) := by
  unfold State.markRetire
  extract_lets +onlyGivenNames health
  split
  · exact h
  · extract_lets +onlyGivenNames t1
    have h1 : FieldsOnly W s t1 := (h.count (hW (by decide)) 1 0).smsEvent (hW (by decide))
    split
    · exact ((h1.setHealth core _).logEvent hW _).moduleFault hW 1
    · extract_lets +onlyGivenNames blank ev
      split
      · refine (h1.of_regs ?_).logEvent hW _
        rfl
      · refine (h1.of_regs ?_).logEvent hW _
        rfl
      · refine (h1.of_regs ?_).logEvent hW _
        split <;> rfl
      · extract_lets t2 t3
        have h3 : FieldsOnly W s t3 := (h1.setHealth core _).logEvent hW _
        split
        · exact h3.moduleFault hW 2
        · exact h3

theorem FieldsOnly.suspect (hW : faultFields ⊆ W) (h : FieldsOnly W s t) (core weight : Nat) (attr : Attr) :
    FieldsOnly W s (t.suspect core weight attr) := by
  unfold State.suspect
  extract_lets +onlyGivenNames t1 h0 health t2
  have h1 : FieldsOnly W s t1 := (h.count (hW (by decide)) 1 0).smsEvent (hW (by decide))
  split
  · exact h1.setHealth core _
  · extract_lets h'
    split
    · exact ((h1.setHealth core _).setHealth core _).markRetire hW core
    · exact (h1.setHealth core _).setHealth core _

end

/-- A residue mismatch that a unit's check found is counted once (R409). -/
theorem State.unitCheck_residue_counted (s : State) (core unit expected found : Nat) :
    s.counted (s.unitCheck core unit (.residue expected found)) SMS_RESIDUE_CNT_COUNT := by
  have hfault : FieldsOnly faultFields (s.count SMS_RESIDUE_CNT_COUNT) (s.unitCheck core unit (.residue expected found)) :=
    ((FieldsOnly.refl _ _).suspect (List.Subset.refl _) core 16 .core).coreJobFault (List.Subset.refl _)
      core 0x04 [unit, expected, found] 0 none 0
  have hplace : ∀ g ∈ faultFields, SMS_RESIDUE_CNT_COUNT.key 0 % 2 ^ 32 ≠ g.key 0 % 2 ^ 32 := by decide
  exact (hfault _ 0 fun g hg c => Fld.key_ne_of_place (hplace g hg) 0 c).trans (State.rd_count_same s _ 1 0)

end Sys2Proof.Machine
end

section
/-! PROOFS. A forward vector on its way through ACR (R62, R73–R75, R93, R125, R133, R143): what the checks of its crossbars leave, what
its column-flow sum, its welt's terms and its rescues make of its bank. -/

namespace Sys2Proof.Machine

/-! Banks. -/

@[simp] theorem State.bank_setBank_same (s : State) (core cluster b : Nat) (v : Vector) :
    (s.setBank core cluster b v).bank core cluster b = v := SMap.get_put_same _ _ _ _

theorem State.bank_of_fab {s u : State} (h : u.fab = s.fab) (core cluster b : Nat) : u.bank core cluster b = s.bank core cluster b := by
  unfold State.bank
  rw [h]

/-- The bank that holds a forward vector is the one named (R138). -/
theorem State.dataBank_of_forward {s : State} {core cluster b : Nat} (h : (s.bank core cluster b).transpose = false) :
    s.dataBank core cluster b = b :=
  if_neg (by simp [h])

/-- A bank that is settled is COMPLETE where its vector flows and all three parts are done (R143), and is else as it was. -/
theorem State.settleBank_bank (s : State) (core cluster b : Nat) :
    (s.settleBank core cluster b).bank core cluster b = { s.bank core cluster b with
      state := if (s.bank core cluster b).state = .flowing ∧ (s.bank core cluster b).arrived ∧ (s.bank core cluster b).termsDone
          ∧ (s.bank core cluster b).flags = [] then .complete else (s.bank core cluster b).state } := by
  unfold State.settleBank
  generalize hv : s.bank core cluster b = v
  by_cases h : v.state = .flowing ∧ v.arrived ∧ v.termsDone ∧ v.flags = []
  · simp [h]
  · rw [if_neg h, if_neg (by simpa [List.isEmpty_iff, and_assoc] using h), hv]

/-- Settling changes a bank alone. -/
theorem State.settleBank_fab (s : State) (core cluster b : Nat) :
    (s.settleBank core cluster b).fab = { s.fab with banks := (s.settleBank core cluster b).fab.banks } := by
  unfold State.settleBank
  extract_lets v
  split <;> rfl

theorem State.settleBank_regs (s : State) (core cluster b : Nat) : (s.settleBank core cluster b).regs = s.regs :=
  (State.settleBank_same (A := [.fab]) (SameBut.refl _ s) core cluster b (by decide)).regs (by decide)

/-! The checks of a vector's crossbars (R73–R75, R93). -/

/-- The fields that the checks of a vector's crossbars may change: those of faults and suspect events, the tally's and the
saturations'. -/
def checkFields : List Fld :=
  faultFields ++ [AMF_TALLY_ERR_CNT_COUNT, AMF_TALLY_ERR0_COUNT, AMF_TALLY_ERR1_COUNT, AMF_TALLY_ERR2_COUNT, AMF_TALLY_ERR3_COUNT,
    AMF_TALLY_ERR4_COUNT, AMF_TALLY_ERR5_COUNT, AMF_TALLY_ERR6_COUNT, AMF_TALLY_ERR7_COUNT] ++ tallyLog.1 ++ [tallyLog.2]
    ++ [CCV_SAT_CNT_COUNT, CCV_SAT_CORE_CNT_COUNT, CCV_SAT_LOG_CLUSTER, CCV_SAT_LOG_XB_ROW, CCV_SAT_LOG_XB_COL, CCV_SAT_LOG_GROUP,
      CCV_SAT_LOG_PASS, CCV_SAT_LOG_WINDOWS, CCV_SAT_LOG_LSB_IDX, CCV_SAT_LOG_VALID]

theorem faultFields_subset : faultFields ⊆ checkFields := by decide

/-- An entry of a list, or its default where that is one of the list, is one of the list. -/
theorem nth_mem {α : Type} {d : α} {l : List α} (hd : d ∈ l) (n : Nat) : nth d l n ∈ l := by
  have hall (m : List α) : ∀ n, nth d m n = d ∨ nth d m n ∈ m := by
    induction m with
    | nil => exact fun _ => .inl rfl
    | cons x m ih =>
      rintro (_ | n)
      · exact .inr List.mem_cons_self
      · exact (ih n).imp id (List.mem_cons_of_mem x)
  rcases hall l n with h | h
  · rwa [h]
  · exact h

theorem tallyErrFld_mem (cluster : Nat) : tallyErrFld cluster ∈ checkFields := by
  have hsub : [AMF_TALLY_ERR0_COUNT, AMF_TALLY_ERR1_COUNT, AMF_TALLY_ERR2_COUNT, AMF_TALLY_ERR3_COUNT, AMF_TALLY_ERR4_COUNT,
      AMF_TALLY_ERR5_COUNT, AMF_TALLY_ERR6_COUNT, AMF_TALLY_ERR7_COUNT] ⊆ checkFields := by decide
  exact hsub (nth_mem List.mem_cons_self cluster)

theorem LogsOnly.of_fab {s t u : State} (h : LogsOnly s t) (e : u.fab = t.fab) : LogsOnly s u := by
  unfold LogsOnly
  rw [e]
  exact h

theorem LogsOnly.set_logHolds {s t : State} (h : LogsOnly s t) (m : SMap LogHold) :
    LogsOnly s (t.withFab { t.fab with logHolds := m }) := by
  have hfab : t.fab = { s.fab with logHolds := t.fab.logHolds } := h
  have hset : ({ t.fab with logHolds := m } : FabSt) = { s.fab with logHolds := m } := by rw [hfab]
  exact hset

theorem LogsOnly.bufs {s u : State} (h : LogsOnly s u) : u.fab.bufs = s.fab.bufs := by rw [h]

/-- From `s` to `u` the checks of a vector's crossbars have changed, of the registers and the data path, only their own fields and
what waits for log pairs. -/
structure ChecksOnly (s u : State) : Prop where
  fields : FieldsOnly checkFields s u
  logs : LogsOnly s u

theorem ChecksOnly.refl (s : State) : ChecksOnly s s := ⟨FieldsOnly.refl _ s, rfl⟩

/-- What leaves the data path alone and changes only listed fields is within the checks' frame. -/
theorem ChecksOnly.of_same {s t u : State} (h : ChecksOnly s t) {A : List Area} (hA : .fab ∉ A) (k : SameBut A t u)
    (hf : FieldsOnly checkFields s t → FieldsOnly checkFields s u) : ChecksOnly s u :=
  ⟨hf h.fields, h.logs.of_fab (k.fab hA)⟩

theorem ChecksOnly.count {s t : State} (h : ChecksOnly s t) {f : Fld} (hf : f ∈ checkFields) (n b : Nat) :
    ChecksOnly s (t.count f n b) :=
  ⟨h.fields.count hf n b, h.logs.of_fab rfl⟩

theorem ChecksOnly.forEach {α : Type} {s t : State} (h : ChecksOnly s t) {f : State → α → State}
    (hf : ∀ x v, ChecksOnly s v → ChecksOnly s (f v x)) (l : List α) : ChecksOnly s (forEach l t f) := by
  unfold Machine.forEach
  induction l generalizing t with
  | nil => exact h
  | cons x l ih => exact ih (hf x t h)

theorem ChecksOnly.logEvent {s t : State} (h : ChecksOnly s t) (r : EventRec) : ChecksOnly s (t.logEvent r) :=
  h.of_same (A := [.regs, .hif, .sms]) (by decide)
    (State.logEvent_same (SameBut.refl _ t) r (by decide) (by decide) (by decide))
    fun hf => hf.logEvent faultFields_subset r

theorem ChecksOnly.faultCore {s t : State} (h : ChecksOnly s t) (core : Nat) (r : EventRec) (serial : Option Nat) :
    ChecksOnly s (t.faultCore core r serial) :=
  h.of_same (A := [.regs, .arbs, .hif, .serve, .ctl, .sms, .lnk]) (by decide)
    (State.faultCore_same (SameBut.refl _ t) core r serial (by decide) (by decide) (by decide) (by decide) (by decide) (by decide)
      (by decide))
    fun hf => hf.faultCore faultFields_subset core r serial

theorem ChecksOnly.suspect {s t : State} (h : ChecksOnly s t) (core weight : Nat) (attr : Attr) :
    ChecksOnly s (t.suspect core weight attr) :=
  h.of_same (A := [.regs, .arbs, .hif, .serve, .ctl, .sms, .lnk, .mgt]) (by decide)
    (State.suspect_same (SameBut.refl _ t) core weight attr (by decide) (by decide) (by decide) (by decide) (by decide) (by decide)
      (by decide) (by decide))
    fun hf => hf.suspect faultFields_subset core weight attr

/-- A tally failure enters the log pair, or waits for it (R83). -/
theorem ChecksOnly.logPair {s t : State} (h : ChecksOnly s t) (core : Nat) (p : LogPair) : ChecksOnly s (t.logPair core 0 p) := by
  have hlog : ∀ f ∈ tallyLog.1, f ∈ checkFields := by decide
  unfold State.logPair
  extract_lets hold
  split
  · exact ⟨h.fields.of_regs rfl, h.logs.set_logHolds _⟩
  · refine h.of_same (A := [.regs]) (by decide) (State.fillLog_same (SameBut.refl _ t) core 0 p (by decide)) fun hf => ?_
    exact (hf.forEach fun e he v hv => hv.wr (hlog e.1 (List.of_mem_zip he).1) e.2 core).wr (f := tallyLog.2) (by decide) p.delta core

theorem ChecksOnly.tallyFail {s t : State} (h : ChecksOnly s t) (core cluster : Nat) (serial : Option Nat) (x : XbRun) (v : XbValues)
    (pass g : Nat) : ChecksOnly s (t.tallyFail core cluster serial x v pass g) := by
  unfold State.tallyFail
  extract_lets cs d m t1 t2 pos t3 blank rec_
  have h1 : ChecksOnly s t1 := (h.count (tallyErrFld_mem cluster) 1 core).count (by decide) 1 0
  have h3 : ChecksOnly s t3 := (h1.logPair core _).suspect core 16 _
  split
  · exact h3.logEvent _
  · exact h3.faultCore core _ serial

theorem FieldsOnly.satLog {s t : State} (h : FieldsOnly checkFields s t) (core cluster row col group pass windows lsbIdx : Nat) :
    FieldsOnly checkFields s (t.satLog core cluster row col group pass windows lsbIdx) := by
  unfold State.satLog
  extract_lets t1 t2 t3 t4
  have h1 : FieldsOnly checkFields s t1 := (h.count (by decide) 1 0).count (by decide) 1 core
  have h2 : FieldsOnly checkFields s t2 := (h1.wr (by decide) cluster core).wr (by decide) row core
  have h3 : FieldsOnly checkFields s t3 := (h2.wr (by decide) col core).wr (by decide) group core
  have h4 : FieldsOnly checkFields s t4 := (h3.wr (by decide) pass core).wr (by decide) _ core
  exact (h4.wr (by decide) lsbIdx core).wr (by decide) 1 core

theorem ChecksOnly.satEvent {s t : State} (h : ChecksOnly s t) (core cluster row col group pass windows lsbIdx : Nat) :
    ChecksOnly s (t.satEvent core cluster row col group pass windows lsbIdx) := by
  unfold State.satEvent
  extract_lets t1 pos whole blank t2
  have h1 : ChecksOnly s t1 := ⟨h.fields.satLog core cluster row col group pass windows lsbIdx, h.logs.of_fab rfl⟩
  have h2 : ChecksOnly s t2 := by
    unfold t2
    split
    · exact h1.logEvent _
    · exact h1
  exact h2.suspect core 1 _

theorem State.checkResults_checks (s : State) (core cluster : Nat) (serial : Option Nat) (res : List XbResult) :
    ChecksOnly s (s.checkResults core cluster serial res) := by
  unfold State.checkResults
  refine (ChecksOnly.refl s).forEach (fun r v hv => ?_) res
  extract_lets v1
  have h1 : ChecksOnly s v1 := hv.forEach (fun g v hv => hv.satEvent core cluster _ _ _ _ _ _) r.flags
  split
  · exact h1
  · refine h1.forEach (fun k v hv => ?_) _
    extract_lets g pass
    split
    · exact hv
    · exact hv.tallyFail core cluster serial r.x r.v pass g

/-! The column-flow sum (R62). -/

/-- The bank of a vector whose sum has arrived flows; of the vector its sums and the flags and limits found with them are new. -/
theorem State.arriveFlow_bank (s : State) (core cluster b : Nat) (charges : List XbCharges) :
    ∃ acc mags deltas flags limited, (s.arriveFlow core cluster b charges).bank core cluster b
      = { s.bank core cluster b with
          state := .flowing, arrived := true, acc := acc, mags := mags, deltas := deltas, flags := flags, limited := limited } := by
  unfold State.arriveFlow
  extract_lets v c res s1 sums dues v1 s2
  have hbank : s2.bank core cluster b = v1 := s1.bank_setBank_same core cluster b v1
  exact ⟨_, _, _, _, _, hbank⟩

/-- The arrival of a sum changes no registers but those of its checks. -/
theorem State.arriveFlow_fields (s : State) (core cluster b : Nat) (charges : List XbCharges) :
    FieldsOnly checkFields s (s.arriveFlow core cluster b charges) :=
  (s.checkResults_checks core cluster _ _).fields.of_regs rfl

theorem State.arriveFlow_bufs (s : State) (core cluster b : Nat) (charges : List XbCharges) :
    (s.arriveFlow core cluster b charges).fab.bufs = s.fab.bufs :=
  (s.checkResults_checks core cluster (s.bank core cluster b).serial _).logs.bufs

/-- A sum that arrives with its bank settled counts no residue of its own. -/
theorem State.settleBank_arriveFlow_residue (s : State) (core cluster b : Nat) (charges : List XbCharges) :
    ((s.arriveFlow core cluster b charges).settleBank core cluster b).rd SMS_RESIDUE_CNT_COUNT = s.rd SMS_RESIDUE_CNT_COUNT := by
  have hplace : ∀ g ∈ checkFields, SMS_RESIDUE_CNT_COUNT.key 0 % 2 ^ 32 ≠ g.key 0 % 2 ^ 32 := by decide
  exact (State.rd_of_regs (State.settleBank_regs _ core cluster b) _ _).trans
    (s.arriveFlow_fields core cluster b charges _ 0 fun g hg c => Fld.key_ne_of_place (hplace g hg) 0 c)

/-- A unit's check leaves the data path alone. -/
theorem State.unitCheck_fab (s : State) (core unit : Nat) (check : UnitCheck) : (s.unitCheck core unit check).fab = s.fab :=
  (State.unitCheck_same (A := [.regs, .arbs, .hif, .serve, .ctl, .sms, .lnk, .mgt]) (SameBut.refl _ s) core unit check (by decide)
    (by decide) (by decide) (by decide) (by decide) (by decide) (by decide) (by decide)).fab (by decide)

theorem exec_columnFlowArrive_of_loaded (t core cluster b : Nat) (charges : List XbCharges) (check : UnitCheck) (s : State)
    (hl : (s.bank core cluster b).state = .loaded) (hf : (s.bank core cluster b).transpose = false) :
    exec (.columnFlowArrive t core cluster b charges check) s
      = .next ((((s.advance t).arriveFlow core cluster b charges).settleBank core cluster b).unitCheck core 0 check) := by
  have hloaded : ((s.advance t).bank core cluster b).state = .loaded := hl
  have hforward : ((s.advance t).bank core cluster b).transpose = false := hf
  exact if_neg (by simp [hloaded, hforward])

/-- The arrival of a loaded forward vector's sum (R62, R143, R409). -/
theorem columnFlowArrive_of_loaded (t core cluster b : Nat) (charges : List XbCharges) (check : UnitCheck) (s : State)
    (hl : (s.bank core cluster b).state = .loaded) (hf : (s.bank core cluster b).transpose = false) :
    Ends (exec (.columnFlowArrive t core cluster b charges check) s) fun u =>
      SameBut [.regs, .now, .arbs, .hif, .serve, .ctl, .sms, .fab, .lnk, .mgt] s u ∧ u.fab.bufs = s.fab.bufs
      ∧ (u.bank core cluster b).arrived = true ∧ (u.bank core cluster b).gen = (s.bank core cluster b).gen
      ∧ (u.bank core cluster b).state
          = (if (s.bank core cluster b).termsDone ∧ (u.bank core cluster b).flags = [] then .complete else .flowing)
      ∧ (∀ expected found, check = .residue expected found → s.counted u SMS_RESIDUE_CNT_COUNT) := by
  have hexec := exec_columnFlowArrive_of_loaded t core cluster b charges check s hl hf
  have hareas : SameO [.regs, .now, .arbs, .hif, .serve, .ctl, .sms, .fab, .lnk, .mgt] s
      (exec (.columnFlowArrive t core cluster b charges check) s) :=
    execColumnFlowArrive_same (SameBut.refl _ s) t core cluster b charges check (by decide) (by decide) (by decide) (by decide)
      (by decide) (by decide) (by decide) (by decide) (by decide) (by decide)
  obtain ⟨acc, mags, deltas, flags, limited, hbank⟩ := (s.advance t).arriveFlow_bank core cluster b charges
  have hbufs := (s.advance t).arriveFlow_bufs core cluster b charges
  have hresidue := (s.advance t).settleBank_arriveFlow_residue core cluster b charges
  generalize (s.advance t).arriveFlow core cluster b charges = a at hexec hbank hbufs hresidue
  have hfab := (a.settleBank core cluster b).unitCheck_fab core 0 check
  have hsettled : ((a.settleBank core cluster b).unitCheck core 0 check).bank core cluster b = _ :=
    (State.bank_of_fab hfab core cluster b).trans (a.settleBank_bank core cluster b)
  rw [hbank] at hsettled
  rw [hexec] at hareas ⊢
  rw [ends_next]
  refine ⟨hareas, ?_, ?_, ?_, ?_, ?_⟩
  · rw [hfab, State.settleBank_fab]
    exact hbufs
  · rw [hsettled]
  · rw [hsettled]
    rfl
  · rw [hsettled]
    simp only [true_and]
    rfl
  · rintro expected found rfl
    exact (State.unitCheck_residue_counted _ core 0 expected found).trans
      (congrArg (fun n => min (maxOf SMS_RESIDUE_CNT_COUNT.width) (n + 1)) hresidue)

/-! The welt's terms (R133). -/

/-- The state once the welt's terms of a bank are formed and counted as late where they end after the flow time. -/
def State.termsFormed (s : State) (core cluster b : Nat) : State :=
  let v := s.bank core cluster b
  let u := s.setBank core cluster b { v with termsDone := true }
  if v.flowAt < u.now then u.count WLT_LATE_CNT_COUNT else u

theorem exec_weltWorkComplete_of_undone (t core cluster b : Nat) (s : State) (hs : (s.bank core cluster b).state ≠ .free)
    (hd : (s.bank core cluster b).termsDone = false) (hf : (s.bank core cluster b).transpose = false) :
    exec (.weltWorkComplete t core cluster b .good) s = .next (((s.advance t).termsFormed core cluster b).settleBank core cluster b) := by
  have hstate : ((s.advance t).bank core cluster b).state ≠ .free := hs
  have hdone : ((s.advance t).bank core cluster b).termsDone = false := hd
  have hbank : (s.advance t).dataBank core cluster b = b := State.dataBank_of_forward hf
  show execWeltWorkComplete t core cluster b .good s = _
  unfold execWeltWorkComplete
  simp only [hbank, hdone, decide_eq_false hstate, Bool.or_self, Bool.false_eq_true, if_false]
  rfl

theorem State.termsFormed_bank (s : State) (core cluster b : Nat) :
    (s.termsFormed core cluster b).bank core cluster b = { s.bank core cluster b with termsDone := true } := by
  unfold State.termsFormed
  extract_lets v u
  have hbank : u.bank core cluster b = { v with termsDone := true } := s.bank_setBank_same core cluster b _
  split
  · exact (State.bank_of_fab (State.count_fab u _ _ _) core cluster b).trans hbank
  · exact hbank

theorem State.termsFormed_same (s : State) (core cluster b : Nat) : SameBut [.regs, .fab] s (s.termsFormed core cluster b) := by
  unfold State.termsFormed
  extract_lets v u
  have hareas : SameBut [.regs, .fab] s u := State.setBank_same (SameBut.refl _ s) core cluster b _ (by decide)
  split
  · exact State.count_same hareas _ _ _ (by decide)
  · exact hareas

theorem State.termsFormed_of_late {s : State} {core cluster b : Nat} (h : (s.bank core cluster b).flowAt < s.now) :
    (s.termsFormed core cluster b).regs = (s.count WLT_LATE_CNT_COUNT).regs := by
  refine (congrArg State.regs (if_pos h)).trans ?_
  rfl

theorem State.termsFormed_of_timely {s : State} {core cluster b : Nat} (h : s.now ≤ (s.bank core cluster b).flowAt) :
    (s.termsFormed core cluster b).regs = s.regs := by
  refine (congrArg State.regs (if_neg (Nat.not_lt.mpr h))).trans ?_
  rfl

/-- The terms of a forward vector are formed (R133, R143). -/
theorem weltWorkComplete_of_undone (t core cluster b : Nat) (s : State) (hs : (s.bank core cluster b).state ≠ .free)
    (hd : (s.bank core cluster b).termsDone = false) (hf : (s.bank core cluster b).transpose = false) :
    Ends (exec (.weltWorkComplete t core cluster b .good) s) fun u =>
      SameBut [.regs, .now, .fab] s u ∧ RegsBut [(WLT_LATE_CNT_COUNT, 0)] s u
      ∧ ((s.bank core cluster b).flowAt < max s.now t → s.counted u WLT_LATE_CNT_COUNT)
      ∧ (max s.now t ≤ (s.bank core cluster b).flowAt → u.regs = s.regs)
      ∧ (u.bank core cluster b).termsDone = true
      ∧ (u.bank core cluster b).state = (if (s.bank core cluster b).state = .flowing ∧ (s.bank core cluster b).arrived
          ∧ (s.bank core cluster b).flags = [] then .complete else (s.bank core cluster b).state) := by
  rw [exec_weltWorkComplete_of_undone t core cluster b s hs hd hf, ends_next]
  have hlate : (s.bank core cluster b).flowAt < max s.now t → ((s.advance t).termsFormed core cluster b).regs
      = (s.count WLT_LATE_CNT_COUNT).regs := fun h => State.termsFormed_of_late (s := s.advance t) h
  have htimely : max s.now t ≤ (s.bank core cluster b).flowAt → ((s.advance t).termsFormed core cluster b).regs = s.regs :=
    fun h => State.termsFormed_of_timely (s := s.advance t) h
  have hregs := ((s.advance t).termsFormed core cluster b).settleBank_regs core cluster b
  have hbank := ((s.advance t).termsFormed core cluster b).settleBank_bank core cluster b
  rw [State.termsFormed_bank] at hbank
  refine ⟨?_, ?_, fun h => ?_, fun h => hregs.trans (htimely h), ?_, ?_⟩
  · exact State.settleBank_same (((s.advance t).termsFormed_same core cluster b).after_advance.mono (by decide)) core cluster b
      (by decide)
  · rcases Nat.lt_or_ge (s.bank core cluster b).flowAt (max s.now t) with h | h
    · exact ((RegsBut.refl _ s).count List.mem_cons_self 1).of_regs (hregs.trans (hlate h))
    · exact (RegsBut.refl _ s).of_regs (hregs.trans (htimely h))
  · exact (State.rd_of_regs (hregs.trans (hlate h)) _ _).trans (State.rd_count_same s _ 1 0)
  · rw [hbank]
  · rw [hbank]
    simp only [true_and]
    rfl

/-! The saturation rescue (R125). -/

theorem nth_setNth_same {α : Type} (d : α) (l : List α) (n : Nat) (v : α) : nth d (setNth d l n v) n = v := by
  induction n generalizing l with
  | zero => cases l <;> rfl
  | succ n ih => cases l <;> exact ih _

theorem nth_setNth_ne {α : Type} (d : α) (l : List α) {n m : Nat} (v : α) (h : m ≠ n) : nth d (setNth d l n v) m = nth d l m := by
  have hnil (k : Nat) : nth d ([] : List α) k = d := by cases k <;> rfl
  induction n generalizing l m with
  | zero =>
    obtain ⟨m, rfl⟩ := Nat.exists_eq_succ_of_ne_zero h
    cases l with
    | nil => exact (hnil m).trans (hnil _).symm
    | cons a l => rfl
  | succ n ih =>
    cases m with
    | zero => cases l <;> rfl
    | succ m =>
      have hne : m ≠ n := fun he => h (congrArg Nat.succ he)
      cases l with
      | nil => exact (ih [] hne).trans ((hnil m).trans (hnil _).symm)
      | cons a l => exact ih l hne

/-- Integers added to a run of accumulators: each of the run has gained its own, any behind the run none. -/
theorem nth_addRun (base : Nat) (f : Nat → Int) (l : List Int) (n i : Nat) :
    nth 0 (((List.range n).map fun j => (base + j, f j)).foldl (fun l m => setNth 0 l m.1 (nth 0 l m.1 + m.2)) l) (base + i)
      = nth 0 l (base + i) + if i < n then f i else 0 := by
  induction n with
  | zero => simp
  | succ n ih =>
    rw [List.range_succ, List.map_append, List.foldl_append, List.map_singleton, List.foldl_cons, List.foldl_nil]
    rcases Nat.lt_trichotomy i n with h | rfl | h
    · rw [nth_setNth_ne _ _ _ (by omega), ih, if_pos h, if_pos (by omega)]
    · rw [nth_setNth_same, ih, if_neg (Nat.lt_irrefl i), if_pos (Nat.lt_succ_self i), Int.add_zero]
    · rw [nth_setNth_ne _ _ _ (by omega), ih, if_neg (by omega), if_neg (by omega)]

theorem Vector.addTo_acc (v : Vector) (ms : List (Nat × Int)) :
    (v.addTo ms).acc = ms.foldl (fun l m => setNth 0 l m.1 (nth 0 l m.1 + m.2)) v.acc := rfl

theorem Vector.rescue_acc (v : Vector) (f : Nat × Nat × Nat) : (v.rescue f).acc = v.acc := rfl

/-- The exact partials of a group of a crossbar that is not differential are added at its 32 accumulators (R125). -/
theorem Vector.rescueGroup_acc (v : Vector) {x : XbCells} (hx : x.diff = false) (row col g : Nat) {i : Nat} (hi : i < 32) :
    nth 0 (v.rescueGroup x row col g).acc (256 * col + 32 * g + i) = nth 0 v.acc (256 * col + 32 * g + i)
      + alignPartial (v.rowExp row) (v.kRef.getD 0) (exactPartial x.body (32 * g + i) (v.rowElems row)) := by
  have hrun := nth_addRun (col * 256 + g * 32)
    (fun i => alignPartial (v.rowExp row) (v.kRef.getD 0) (exactPartial x.body (g * 32 + i) (v.rowElems row))) v.acc 32 i
  rw [if_pos hi] at hrun
  unfold Vector.rescueGroup
  simp only [hx, channelsOf, Bool.false_eq_true, if_false, Nat.reduceDiv, Vector.addTo_acc, Vector.rescue_acc]
  rw [Nat.mul_comm 256, Nat.mul_comm 32]
  exact hrun

theorem exec_saturationRescue_of_flagged (t core cluster b row col g : Nat) (s : State)
    (hflag : (s.bank core cluster b).flags.contains (row, col, g) = true) (hf : (s.bank core cluster b).transpose = false) :
    exec (.saturationRescue t core cluster b row col g) s
      = .next ((((s.advance t).setBank core cluster b ((s.bank core cluster b).rescueGroup
          ((s.image (s.bank core cluster b).gen).cells core cluster row col) row col g)).count
            WLT_SAT_RESCUE_CNT_COUNT).settleBank core cluster b) := by
  have hflagged : ((s.advance t).bank core cluster b).flags.contains (row, col, g) = true := hflag
  have hforward : ((s.advance t).bank core cluster b).transpose = false := hf
  have hbank : (s.advance t).dataBank core cluster b = b := State.dataBank_of_forward hf
  show execSaturationRescue t core cluster b row col g s = _
  unfold execSaturationRescue
  simp only [hbank, hflagged, hforward, Bool.not_true, Bool.false_eq_true, if_false]
  rfl

/-- An outstanding group of a forward vector is rescued (R125). -/
theorem saturationRescue_of_flagged (t core cluster b row col g : Nat) (s : State)
    (hflag : (s.bank core cluster b).flags.contains (row, col, g) = true) (hf : (s.bank core cluster b).transpose = false) :
    let v := s.bank core cluster b
    let cells := (s.image v.gen).cells core cluster row col
    Ends (exec (.saturationRescue t core cluster b row col g) s) fun u => SameBut [.regs, .now, .fab] s u
      ∧ RegsBut [(WLT_SAT_RESCUE_CNT_COUNT, 0)] s u ∧ s.counted u WLT_SAT_RESCUE_CNT_COUNT
      ∧ (u.bank core cluster b).flags = v.flags.filter (· != (row, col, g))
      ∧ (u.bank core cluster b).rescued = v.rescued ++ [(row, col, g)]
      ∧ (cells.diff = false → ∀ i, i < 32 →
          nth 0 (u.bank core cluster b).acc (256 * col + 32 * g + i) = nth 0 v.acc (256 * col + 32 * g + i)
            + alignPartial (v.rowExp row) (v.kRef.getD 0) (exactPartial cells.body (32 * g + i) (v.rowElems row))) := by
  intro v cells
  have hexec := exec_saturationRescue_of_flagged t core cluster b row col g s hflag hf
  have hareas : SameO [.regs, .now, .fab] s (exec (.saturationRescue t core cluster b row col g) s) :=
    execSaturationRescue_same (SameBut.refl _ s) t core cluster b row col g (by decide) (by decide) (by decide)
  generalize hr : ((s.advance t).setBank core cluster b (v.rescueGroup cells row col g)).count WLT_SAT_RESCUE_CNT_COUNT = r at hexec
  have hregs : (r.settleBank core cluster b).regs = (s.count WLT_SAT_RESCUE_CNT_COUNT).regs := by
    rw [State.settleBank_regs, ← hr]
    rfl
  have hrescued : r.bank core cluster b = v.rescueGroup cells row col g := by
    rw [← hr]
    exact (State.bank_of_fab (State.count_fab _ _ _ _) core cluster b).trans (State.bank_setBank_same _ _ _ _ _)
  have hbank := r.settleBank_bank core cluster b
  rw [hrescued] at hbank
  rw [hexec] at hareas ⊢
  rw [ends_next]
  refine ⟨hareas, ?_, ?_, ?_, ?_, fun hdiff i hi => ?_⟩
  · exact ((RegsBut.refl _ s).count List.mem_cons_self 1).of_regs hregs
  · exact (State.rd_of_regs hregs _ _).trans (State.rd_count_same s _ 1 0)
  · rw [hbank]
    rfl
  · rw [hbank]
    rfl
  · rw [hbank]
    exact v.rescueGroup_acc hdiff row col g hi

/-- Settles O29: the sum, the terms and the rescue by what each makes of the vector in its bank, which is then settled; the residue
counter rises once, since neither the checks of the crossbars nor the job's fault write it. -/
theorem vectorsComplete : Obligations.VectorsComplete := by
  unfold Obligations.VectorsComplete
  intro t core cluster b s v hforward
  exact ⟨fun charges check hl => columnFlowArrive_of_loaded t core cluster b charges check s hl hforward,
    fun hs hd => weltWorkComplete_of_undone t core cluster b s hs hd hforward,
    fun row col g hflag => saturationRescue_of_flagged t core cluster b row col g s hflag hforward⟩

end Sys2Proof.Machine
end

section
/-! PROOFS. Tracking visits and drift updates (R94, R95, R98, R103, R115): the reading rules of the tracking and drift tables, what an
update of a slice and the end of a round leave, and the three commands of a visit. -/

namespace Sys2Proof.Machine

/-! A table whose values are all changed. -/

theorem SMap.risesFrom_tail {α : Type} {m : SMap α} {e : Nat × α} {lo : Nat} (h : SMap.risesFrom lo (e :: m) = true) :
    SMap.risesFrom (e.1 + 1) m = true := by
  rw [SMap.risesFrom, Bool.and_eq_true] at h
  exact h.2

theorem SMap.get_of_lt_risesFrom {α : Type} (d : α) {m : SMap α} {lo k : Nat} (h : SMap.risesFrom lo m = true) (hk : k < lo) :
    SMap.get d m k = d := by
  induction m generalizing lo with
  | nil => rfl
  | cons e m ih =>
    obtain ⟨a, v⟩ := e
    simp only [SMap.risesFrom, Bool.and_eq_true, decide_eq_true_eq] at h
    have ha : a ≠ k := by omega
    rw [SMap.get, if_neg ha]
    exact ih h.2 (by omega)

/-- A change of every value that leaves the default reads as the change of the value: one that becomes the default is dropped, so
where it does the keys must rise. -/
theorem SMap.get_mapVals {α : Type} [DecidableEq α] {d : α} {f : Nat → α → α} {m : SMap α} {k lo : Nat} (hd : f k d = d)
    (h : f k (SMap.get d m k) ≠ d ∨ SMap.risesFrom lo m = true) :
    SMap.get d (SMap.mapVals d f m) k = f k (SMap.get d m k) := by
  induction m generalizing lo with
  | nil => exact hd.symm
  | cons e m ih =>
    obtain ⟨a, v⟩ := e
    rw [SMap.get] at h ⊢
    by_cases ha : a = k
    · subst ha
      rw [if_pos rfl] at h ⊢
      by_cases hv : f a v = d
      · have hrises : SMap.risesFrom (a + 1) m = true := SMap.risesFrom_tail (h.resolve_left (not_not_intro hv))
        have hnone : SMap.get d m a = d := SMap.get_of_lt_risesFrom d hrises (Nat.lt_succ_self a)
        rw [SMap.mapVals, if_pos hv, ih (Or.inr hrises), hnone, hd, hv]
      · rw [SMap.mapVals, if_neg hv, SMap.get, if_pos rfl]
    · rw [if_neg ha] at h ⊢
      have hm : f k (SMap.get d m k) ≠ d ∨ SMap.risesFrom (a + 1) m = true := h.imp_right SMap.risesFrom_tail
      rw [SMap.mapVals]
      split
      · exact ih hm
      · rw [SMap.get, if_neg ha]
        exact ih hm

/-- What the default and every changed value meet, each value of the changed table meets. -/
theorem SMap.get_mapVals_all {α : Type} [DecidableEq α] {P : α → Prop} {d : α} {f : Nat → α → α} (hd : P d)
    (hf : ∀ k v, P (f k v)) (m : SMap α) (k : Nat) : P (SMap.get d (SMap.mapVals d f m) k) := by
  induction m with
  | nil => exact hd
  | cons e m ih =>
    obtain ⟨a, v⟩ := e
    rw [SMap.mapVals]
    split
    · exact ih
    · rw [SMap.get]
      split
      · exact hf a v
      · exact ih

/-! The tables of tracking and drift. -/

@[simp] theorem State.trk_setTrk_same (s : State) (p : Nat) (x : XbTrk) : (s.setTrk p x).trk p = x := SMap.get_put_same _ _ _ _

theorem State.trk_setTrk_ne (s : State) {p q : Nat} (x : XbTrk) (h : q ≠ p) : (s.setTrk p x).trk q = s.trk q :=
  SMap.get_put_ne _ _ _ _ _ _ h

theorem State.corr_of_fab {s u : State} (h : u.fab = s.fab) (p : Nat) : u.corr p = s.corr p := by
  unfold State.corr
  rw [h]

theorem State.trk_of_fab {s u : State} (h : u.fab = s.fab) (p : Nat) : u.trk p = s.trk p := by
  unfold State.trk
  rw [h]

@[simp] theorem State.corr_setCorr_same (s : State) (p : Nat) (c : XbCorr) : (s.setCorr p c).corr p = c := SMap.get_put_same _ _ _ _

theorem State.corr_setCorr_ne (s : State) {p q : Nat} (c : XbCorr) (h : q ≠ p) : (s.setCorr p c).corr q = s.corr q :=
  SMap.get_put_ne _ _ _ _ _ _ h

/-! An update of a slice (R95). -/

/-- A slice's newest values (R95): those that wait for a boundary, else those in force. -/
def XbTrk.latest (x : XbTrk) (k : Nat) : SliceTrk :=
  match x.waiting.find? (·.1 == k) with
  | some w => w.2
  | none => SMap.get SliceTrk.init x.slices k

/-- A slice's values after a visit's ladder set, and how many were stored at a limit. -/
def XbTrk.visited (x : XbTrk) (k : Nat) (l : List Ladder) : SliceTrk × Nat := (x.latest k).visit l

/-- A crossbar's tracking with the update of a slice waiting for a boundary. -/
def XbTrk.updated (x : XbTrk) (k : Nat) (l : List Ladder) : XbTrk :=
  { x with waiting := x.waiting.filter (·.1 != k) ++ [(k, (x.visited k l).1)] }

/-- A crossbar's tracking with the updates that waited in force. -/
def XbTrk.applied (x : XbTrk) : XbTrk :=
  { x with
    slices := x.waiting.foldl (fun m w => SMap.put SliceTrk.init m w.1 w.2) x.slices
    waiting := [] }

/-- A visited slice has been visited. -/
theorem XbTrk.visited_ne_init (x : XbTrk) (k : Nat) (l : List Ladder) : (x.visited k l).1 ≠ SliceTrk.init := by
  intro h
  have hvisits : min 4095 ((x.latest k).visits + 1) = 0 := congrArg SliceTrk.visits h
  omega

/-- The update that came last is the one in force. -/
theorem XbTrk.applied_updated_slice (x : XbTrk) (k : Nat) (l : List Ladder) :
    SMap.get SliceTrk.init (x.updated k l).applied.slices k = (x.visited k l).1 := by
  unfold XbTrk.applied XbTrk.updated
  rw [List.foldl_append]
  exact SMap.get_put_same _ _ _ _

theorem XbTrk.ne_init_of_slice {x : XbTrk} {k : Nat} (h : SMap.get SliceTrk.init x.slices k ≠ SliceTrk.init) : x ≠ XbTrk.init := by
  rintro rfl
  exact h rfl

theorem XbTrk.ne_init_of_waiting {x : XbTrk} (h : x.waiting ≠ []) : x ≠ XbTrk.init := by
  rintro rfl
  exact h rfl

theorem XbTrk.updated_waiting_ne_nil (x : XbTrk) (k : Nat) (l : List Ladder) : (x.updated k l).waiting ≠ [] :=
  List.append_ne_nil_of_right_ne_nil _ (List.cons_ne_nil _ _)

/-- The fields that the update of a slice may change. -/
def trackFields : List Fld := CCV_TRK_LIMIT_CNT_COUNT :: faultFields

/-- With every value within the limits the update only waits. -/
theorem State.trackUpdate_of_within (s : State) (phys k : Nat) (l : List Ladder) (h : ((s.trk phys).visited k l).2 = 0) :
    s.trackUpdate phys k l = s.setTrk phys ((s.trk phys).updated k l) := if_pos h

/-- Values at a limit are counted, logged and reported besides. -/
theorem State.trackUpdate_of_limit (s : State) (phys k : Nat) (l : List Ladder) (h : ((s.trk phys).visited k l).2 ≠ 0) :
    ∃ r attr, s.trackUpdate phys k l
      = (((s.setTrk phys ((s.trk phys).updated k l)).count CCV_TRK_LIMIT_CNT_COUNT ((s.trk phys).visited k l).2).logEvent r).suspect
          (posCore phys) 16 attr := ⟨_, _, if_neg h⟩

/-- A record and a suspect event change only the fields of faults. -/
theorem State.logEvent_suspect_fields (s : State) (r : EventRec) (core weight : Nat) (attr : Attr) :
    FieldsOnly faultFields s ((s.logEvent r).suspect core weight attr) :=
  ((FieldsOnly.refl _ s).logEvent (List.Subset.refl _) r).suspect (List.Subset.refl _) core weight attr

theorem State.logEvent_suspect_fab (s : State) (r : EventRec) (core weight : Nat) (attr : Attr) :
    ((s.logEvent r).suspect core weight attr).fab = s.fab :=
  (State.suspect_same (A := [.regs, .arbs, .hif, .serve, .ctl, .sms, .lnk, .mgt])
    (State.logEvent_same (SameBut.refl _ s) r (by decide) (by decide) (by decide)) core weight attr
    (by decide) (by decide) (by decide) (by decide) (by decide) (by decide) (by decide) (by decide)).fab (by decide)

/-- Of the data path an update changes only the crossbar's tracking. -/
theorem State.trackUpdate_fab (s : State) (phys k : Nat) (l : List Ladder) :
    (s.trackUpdate phys k l).fab = (s.setTrk phys ((s.trk phys).updated k l)).fab := by
  by_cases h : ((s.trk phys).visited k l).2 = 0
  · rw [s.trackUpdate_of_within phys k l h]
  · obtain ⟨r, attr, hu⟩ := s.trackUpdate_of_limit phys k l h
    rw [hu, State.logEvent_suspect_fab, State.count_fab]

theorem State.trackUpdate_fields (s : State) (phys k : Nat) (l : List Ladder) :
    FieldsOnly trackFields s (s.trackUpdate phys k l) := by
  have hset : FieldsOnly trackFields s (s.setTrk phys ((s.trk phys).updated k l)) := (FieldsOnly.refl _ s).of_regs rfl
  by_cases h : ((s.trk phys).visited k l).2 = 0
  · rw [s.trackUpdate_of_within phys k l h]
    exact hset
  · obtain ⟨r, attr, hu⟩ := s.trackUpdate_of_limit phys k l h
    have hW : faultFields ⊆ trackFields := List.subset_cons_self _ _
    rw [hu]
    exact ((hset.count List.mem_cons_self _ 0).logEvent hW r).suspect hW _ 16 attr

theorem State.trackUpdate_running (s : State) (phys k : Nat) (l : List Ladder) : (s.trackUpdate phys k l).running = s.running := by
  have hplace : ∀ g ∈ trackFields, TWS_CTRL_RUN.key 0 % 2 ^ 32 ≠ g.key 0 % 2 ^ 32 := by decide
  have hrun := s.trackUpdate_fields phys k l TWS_CTRL_RUN 0 fun g hg c => Fld.key_ne_of_place (hplace g hg) 0 c
  exact congrArg (· != 0) hrun

/-- Each value stored at its limit is counted (R95). -/
theorem State.trackUpdate_counted (s : State) (phys k : Nat) (l : List Ladder) (h : 0 < ((s.trk phys).visited k l).2) :
    s.counted (s.trackUpdate phys k l) CCV_TRK_LIMIT_CNT_COUNT ((s.trk phys).visited k l).2 := by
  obtain ⟨r, attr, hu⟩ := s.trackUpdate_of_limit phys k l (Nat.ne_of_gt h)
  have hplace : ∀ g ∈ faultFields, CCV_TRK_LIMIT_CNT_COUNT.key 0 % 2 ^ 32 ≠ g.key 0 % 2 ^ 32 := by decide
  rw [hu]
  exact (State.logEvent_suspect_fields _ r _ 16 attr CCV_TRK_LIMIT_CNT_COUNT 0
    fun g hg c => Fld.key_ne_of_place (hplace g hg) 0 c).trans (State.rd_count_same _ _ _ 0)

theorem State.trk_trackUpdate_same (s : State) (phys k : Nat) (l : List Ladder) :
    (s.trackUpdate phys k l).trk phys = (s.trk phys).updated k l :=
  (State.trk_of_fab (s.trackUpdate_fab phys k l) phys).trans (s.trk_setTrk_same phys _)

theorem State.trk_trackUpdate_ne (s : State) {phys p : Nat} (h : p ≠ phys) (k : Nat) (l : List Ladder) :
    (s.trackUpdate phys k l).trk p = s.trk p :=
  (State.trk_of_fab (s.trackUpdate_fab phys k l) p).trans (s.trk_setTrk_ne _ h)

theorem State.trackUpdate_rises (s : State) (phys k : Nat) (l : List Ladder) (h : SMap.rises s.fab.track = true) :
    SMap.rises (s.trackUpdate phys k l).fab.track = true := by
  rw [s.trackUpdate_fab phys k l]
  exact SMap.rises_put _ _ _ _ h

/-! Updates take effect at once where no boundary is to come (R244). -/

theorem State.trackNow_of_running {s : State} (h : s.running = true) : s.trackNow = s := if_pos h

theorem State.trackNow_of_standing {s : State} (h : s.running = false) : s.trackNow = s.applyTracking :=
  if_neg (by rw [h]; exact Bool.false_ne_true)

theorem State.trackNow_regs (s : State) : s.trackNow.regs = s.regs :=
  (State.trackNow_same (A := [.fab, .ptm]) (SameBut.refl _ s) (by decide) (by decide)).regs (by decide)

theorem State.trk_applyTracking {s : State} {p : Nat} (h : (s.trk p).applied ≠ XbTrk.init) :
    s.applyTracking.trk p = (s.trk p).applied :=
  SMap.get_mapVals (lo := 0) (f := fun _ => XbTrk.applied) rfl (Or.inl h)

/-! A round of visits (R103). -/

/-- Every other crossbar on which visits run has done its round. -/
def State.othersDone (s : State) (phys : Nat) : Prop :=
  ∀ p ∈ s.trackedXbs, p ≠ phys → s.visitsRun p = true → (s.trk p).round = true

/-- A crossbar's round marked as done. -/
def State.markRound (s : State) (phys : Nat) : State := s.setTrk phys { s.trk phys with round := true }

theorem State.markRound_round (s : State) (phys : Nat) : ((s.markRound phys).trk phys).round = true := by
  rw [State.markRound, State.trk_setTrk_same]

theorem State.markRound_regs (s : State) (phys : Nat) : (s.markRound phys).regs = s.regs := rfl

theorem State.visitsRun_setTrk_ne (s : State) {phys p : Nat} (x : XbTrk) (h : p ≠ phys) :
    (s.setTrk phys x).visitsRun p = s.visitsRun p := by
  unfold State.visitsRun
  rw [s.trk_setTrk_ne x h]
  rfl

/-- The round is over where every other crossbar has done its own: this one has. -/
theorem State.othersDone_iff (s : State) (phys : Nat) :
    ((s.markRound phys).trackedXbs.all fun p => !(s.markRound phys).visitsRun p || ((s.markRound phys).trk p).round) = true
      ↔ s.othersDone phys := by
  have htracked : (s.markRound phys).trackedXbs = s.trackedXbs := rfl
  rw [htracked, List.all_eq_true]
  refine forall₂_congr fun p _ => ?_
  by_cases hp : p = phys
  · subst hp
    simp [State.markRound]
  · rw [State.markRound, s.visitsRun_setTrk_ne _ hp, s.trk_setTrk_ne _ hp]
    cases s.visitsRun p <;> simp [hp]

theorem State.roundDone_of_open {s : State} {phys : Nat} (h : ¬s.othersDone phys) : s.roundDone phys = s.markRound phys :=
  if_neg fun hall => h ((s.othersDone_iff phys).mp hall)

theorem State.roundDone_of_over {s : State} {phys : Nat} (h : s.othersDone phys) :
    ∃ x, s.roundDone phys = (((s.markRound phys).count CCV_TRK_ROUND_COUNT).withPtm x).withFab
      { s.fab with track := SMap.mapVals XbTrk.init (fun _ t => { t with round := false }) (s.markRound phys).fab.track } :=
  ⟨_, if_pos ((s.othersDone_iff phys).mpr h)⟩

theorem State.roundDone_fields (s : State) (phys : Nat) : RegsBut [(CCV_TRK_ROUND_COUNT, 0)] s (s.roundDone phys) := by
  by_cases h : s.othersDone phys
  · obtain ⟨x, hu⟩ := State.roundDone_of_over h
    rw [hu]
    exact ((RegsBut.of_regs (RegsBut.refl _ s) rfl).count List.mem_cons_self 1).of_regs rfl
  · rw [State.roundDone_of_open h]
    exact RegsBut.refl _ s

theorem State.roundDone_counted {s : State} {phys : Nat} (h : s.othersDone phys) :
    s.counted (s.roundDone phys) CCV_TRK_ROUND_COUNT := by
  obtain ⟨x, hu⟩ := State.roundDone_of_over h
  rw [hu]
  exact State.rd_count_same (s.markRound phys) _ 1 0

/-- Where the round is over, a new one begins on every crossbar. -/
theorem State.roundDone_round {s : State} {phys : Nat} (h : s.othersDone phys) (p : Nat) :
    ((s.roundDone phys).trk p).round = false := by
  obtain ⟨x, hu⟩ := State.roundDone_of_over h
  rw [hu]
  exact SMap.get_mapVals_all (P := fun t : XbTrk => t.round = false) rfl (fun _ _ => rfl) _ p

theorem State.trk_markRound (s : State) (phys p : Nat) :
    { (s.markRound phys).trk p with round := false } = { s.trk p with round := false } := by
  by_cases hp : p = phys
  · subst hp
    rw [State.markRound, State.trk_setTrk_same]
  · rw [State.markRound, s.trk_setTrk_ne _ hp]

/-- The end of a round changes of a crossbar's tracking only whether its round is done. -/
theorem State.trk_roundDone {s : State} {phys p : Nat}
    (h : { s.trk p with round := false } ≠ XbTrk.init ∨ SMap.rises s.fab.track = true) :
    { (s.roundDone phys).trk p with round := false } = { s.trk p with round := false } := by
  by_cases hover : s.othersDone phys
  · obtain ⟨x, hu⟩ := State.roundDone_of_over hover
    rw [hu, ← s.trk_markRound phys p] at *
    have hget := SMap.get_mapVals (k := p) (lo := 0) (d := XbTrk.init) (f := fun _ t => { t with round := false })
      (m := (s.markRound phys).fab.track) rfl (h.imp id (SMap.rises_put _ _ _ _))
    exact congrArg (fun t : XbTrk => { t with round := false }) hget
  · rw [State.roundDone_of_open hover, s.trk_markRound]

/-! What a visit that updates a slice leaves (R95). -/

/-- From `s` to `u` a visit, which has left the crossbar's tracking as `y`, has updated slice `k`. -/
structure TrkUpdated (s u : State) (phys : Nat) (y : XbTrk) (k : Nat) (l : List Ladder) : Prop where
  areas : SameBut [.regs, .now, .arbs, .hif, .serve, .ctl, .sms, .fab, .lnk, .ptm, .mgt] s u
  others : s.running = true → SMap.rises s.fab.track = true →
    ∀ p, p ≠ phys → { u.trk p with round := false } = { s.trk p with round := false }
  waits : s.running = true → u.trk phys = { y.updated k l with round := (u.trk phys).round }
  applies : s.running = false → u.trk phys = { (y.updated k l).applied with round := (u.trk phys).round }
  counted : 0 < (y.visited k l).2 → s.counted u CCV_TRK_LIMIT_CNT_COUNT (y.visited k l).2
  within : (y.visited k l).2 = 0 → SameBut [.regs, .now, .fab, .ptm] s u
  fields : (y.visited k l).2 = 0 → RegsBut [(CCV_TRK_ROUND_COUNT, 0)] s u

section
variable {s w : State} {phys : Nat} {y : XbTrk}

/-- The update of a slice, once the visit has left the crossbar's tracking as `y`. -/
theorem TrkUpdated.trackUpdate (hw : SameBut [.now, .fab] s w) (hy : w.trk phys = y)
    (hothers : ∀ p, p ≠ phys → w.trk p = s.trk p) (k : Nat) (l : List Ladder) :
    TrkUpdated s (w.trackUpdate phys k l).trackNow phys y k l := by
  have hrun : (w.trackUpdate phys k l).running = s.running :=
    (w.trackUpdate_running phys k l).trans (congrArg (· != 0) (State.rd_of_regs (hw.regs (by decide)) _ 0))
  have hsame : (w.trackUpdate phys k l).trk phys = y.updated k l := hy ▸ w.trk_trackUpdate_same phys k l
  have hnow : s.running = true → (w.trackUpdate phys k l).trackNow = w.trackUpdate phys k l :=
    fun h => State.trackNow_of_running (hrun.trans h)
  have hregs := (w.trackUpdate phys k l).trackNow_regs
  have hset (h : (y.visited k l).2 = 0) : w.trackUpdate phys k l = w.setTrk phys (y.updated k l) := by
    subst hy
    exact w.trackUpdate_of_within phys k l h
  refine ⟨?_, fun h _ p hp => ?_, fun h => ?_, fun h => ?_, fun h => ?_, fun h => ?_, fun h => ?_⟩
  · exact State.trackNow_same (State.trackUpdate_same (hw.mono (by decide)) phys k l (by decide) (by decide) (by decide) (by decide)
      (by decide) (by decide) (by decide) (by decide) (by decide)) (by decide) (by decide)
  · rw [hnow h, w.trk_trackUpdate_ne hp, hothers p hp]
  · rw [hnow h, hsame]
  · have hne : ((w.trackUpdate phys k l).trk phys).applied ≠ XbTrk.init := by
      rw [hsame]
      exact XbTrk.ne_init_of_slice (k := k) (by rw [y.applied_updated_slice k l]; exact y.visited_ne_init k l)
    rw [State.trackNow_of_standing (hrun.trans h), State.trk_applyTracking hne, hsame]
  · subst hy
    exact (State.rd_of_regs hregs _ 0).trans ((w.trackUpdate_counted phys k l h).trans
      (by rw [State.rd_of_regs (hw.regs (by decide))]))
  · rw [hset h]
    exact State.trackNow_same (State.setTrk_same (hw.mono (by decide)) phys _ (by decide)) (by decide) (by decide)
  · exact (RegsBut.refl _ s).of_regs (hregs.trans (by rw [hset h]; exact hw.regs (by decide)))

/-- The end of a round after an update of a slice. -/
theorem TrkUpdated.roundDone {k : Nat} {l : List Ladder} (h : TrkUpdated s w phys y k l)
    (hrises : s.running = true → SMap.rises s.fab.track = true → SMap.rises w.fab.track = true) :
    TrkUpdated s (w.roundDone phys) phys y k l := by
  have hfields := w.roundDone_fields phys
  have hkeep {x : XbTrk} (hx : w.trk phys = { x with round := (w.trk phys).round }) (hne : { x with round := false } ≠ XbTrk.init) :
      (w.roundDone phys).trk phys = { x with round := ((w.roundDone phys).trk phys).round } := by
    have hx0 : { w.trk phys with round := false } = { x with round := false } := by rw [hx]
    have hround := (State.trk_roundDone (phys := phys) (Or.inl (hx0 ▸ hne))).trans hx0
    exact congrArg (fun t : XbTrk => { t with round := ((w.roundDone phys).trk phys).round }) hround
  refine ⟨?_, fun hr hs p hp => ?_, fun hr => hkeep (h.waits hr) ?_, fun hr => hkeep (h.applies hr) ?_, fun hn => ?_, fun hn => ?_,
    fun hn => ?_⟩
  · exact State.roundDone_same h.areas phys (by decide) (by decide) (by decide)
  · exact (State.trk_roundDone (Or.inr (hrises hr hs))).trans (h.others hr hs p hp)
  · exact XbTrk.ne_init_of_waiting (y.updated_waiting_ne_nil k l)
  · exact XbTrk.ne_init_of_slice (k := k) (y.applied_updated_slice k l ▸ y.visited_ne_init k l)
  · exact (hfields CCV_TRK_LIMIT_CNT_COUNT 0 (by decide)).trans (h.counted hn)
  · exact State.roundDone_same (h.within hn) phys (by decide) (by decide) (by decide)
  · exact (h.fields hn).trans hfields

end

/-! The start of a visit (R94). -/

/-- A crossbar's tracking with a visit of its next slice begun. -/
def XbTrk.started (x : XbTrk) (now : Nat) : XbTrk :=
  { x with visit := some (visitSlice x.nextVisit, false), next := x.nextVisit, last := now }

/-- The state after a change of one crossbar's tracking. -/
theorem State.advance_setTrk_same (s : State) (t phys : Nat) (y : XbTrk) : SameBut [.now, .fab] s ((s.advance t).setTrk phys y) :=
  State.setTrk_same (State.advance_same (SameBut.refl _ s) t (by decide)) phys y (by decide)

section
variable {t phys : Nat} {s : State} (hruns : (s.advance t).visitsRun phys = true) (hnone : (s.trk phys).visit = none)
  (hdue : (s.trk phys).last = 0 ∨ (s.trk phys).last + s.trackPeriod (s.trk phys) ≤ max s.now t)
include hruns hnone hdue

theorem exec_trackVisit_of_due (cs : List Ladder)
    (hside : (s.trk phys).nextVisit < 17 ∨ s.transposing (posCore phys) (posCluster phys) = false) :
    let w := (s.advance t).setTrk phys ((s.trk phys).started (max s.now t))
    exec (.trackVisit t phys cs) s
      = .next (if (s.trk phys).nextVisit ≤ 16 then (w.trackUpdate phys 17 cs).trackNow else w) := by
  have htime : ((s.trk phys).last != 0 && decide (max s.now t < (s.trk phys).last + s.trackPeriod (s.trk phys))) = false := by
    rcases hdue with h | h
    · simp [h]
    · simp [Nat.not_lt.mpr h]
  have hfree : (decide (17 ≤ (s.trk phys).nextVisit) && s.transposing (posCore phys) (posCluster phys)) = false := by
    rcases hside with h | h
    · simp [Nat.not_le.mpr h]
    · simp [h]
  refine if_neg ?_
  show ¬(!(s.advance t).visitsRun phys || (s.trk phys).visit.isSome
    || ((s.trk phys).last != 0 && decide (max s.now t < (s.trk phys).last + s.trackPeriod (s.trk phys)))
    || (decide (17 ≤ (s.trk phys).nextVisit) && s.transposing (posCore phys) (posCluster phys))) = true
  rw [hruns, hnone, htime, hfree]
  exact Bool.false_ne_true

/-- A visit of a row-side slice begins (R94): it is only noted. -/
theorem trackVisit_of_rowSide (cs : List Ladder)
    (hrow : 17 ≤ (s.trk phys).nextVisit) (hfree : s.transposing (posCore phys) (posCluster phys) = false) :
    Ends (exec (.trackVisit t phys cs) s) fun u => SameBut [.now, .fab] s u ∧ u.fab = { s.fab with track := u.fab.track }
      ∧ u.trk phys = (s.trk phys).started (max s.now t) ∧ ∀ p, p ≠ phys → u.trk p = s.trk p := by
  rw [exec_trackVisit_of_due hruns hnone hdue cs (Or.inr hfree), if_neg (Nat.not_le.mpr hrow), ends_next]
  exact ⟨s.advance_setTrk_same t phys _, rfl, State.trk_setTrk_same _ _ _, fun p hp => State.trk_setTrk_ne _ _ hp⟩

/-- A visit of a column-side slice begins (R94, R95): CS's own values are updated. -/
theorem trackVisit_of_columnSide (cs : List Ladder)
    (hcolumn : (s.trk phys).nextVisit < 17) :
    Ends (exec (.trackVisit t phys cs) s) fun u => TrkUpdated s u phys ((s.trk phys).started (max s.now t)) 17 cs := by
  rw [exec_trackVisit_of_due hruns hnone hdue cs (Or.inl hcolumn), if_pos (Nat.le_of_lt_succ hcolumn), ends_next]
  exact TrkUpdated.trackUpdate (s.advance_setTrk_same t phys _) (State.trk_setTrk_same _ _ _)
    (fun p hp => State.trk_setTrk_ne _ _ hp) 17 cs

end

/-! CS takes and leaves the columns of a slice (R94). -/

/-- A crossbar's tracking changed, the vectors of its cluster that have not begun to drive following it. -/
def State.swapTrk (s : State) (t phys : Nat) (y : XbTrk) : State := ((s.advance t).setTrk phys y).respare phys

theorem State.bank_setBank_ne (s : State) (core cluster : Nat) {b c : Nat} (v : Vector) (h : c ≠ b) :
    (s.setBank core cluster b v).bank core cluster c = s.bank core cluster c := by
  refine SMap.get_put_ne _ _ _ _ _ _ fun he => h ?_
  omega

theorem State.bank_respare (s : State) (phys b : Nat) :
    (s.respare phys).bank (posCore phys) (posCluster phys) b
      = if b < 2 then (s.bank (posCore phys) (posCluster phys) b).respare s.now phys (s.trk phys).spare
        else s.bank (posCore phys) (posCluster phys) b := by
  unfold State.respare
  rw [forEach_cons, forEach_cons, forEach_nil]
  match b with
  | 0 => rw [State.bank_setBank_ne _ _ _ _ (by decide), State.bank_setBank_same]; rfl
  | 1 => rw [State.bank_setBank_same, State.bank_setBank_ne _ _ _ _ (by decide)]; rfl
  | b + 2 => rw [State.bank_setBank_ne _ _ _ _ (by omega), State.bank_setBank_ne _ _ _ _ (by omega), if_neg (by omega)]

/-- Of the data path a swap changes the crossbar's tracking and the banks of its cluster. -/
structure Swapped (s u : State) (t phys : Nat) (y : XbTrk) : Prop where
  areas : SameBut [.now, .fab] s u
  same : u.trk phys = y
  others : ∀ p, p ≠ phys → u.trk p = s.trk p
  fab : u.fab = { s.fab with track := u.fab.track, banks := u.fab.banks }
  banks : ∀ b, u.bank (posCore phys) (posCluster phys) b
    = if b < 2 then (s.bank (posCore phys) (posCluster phys) b).respare (max s.now t) phys y.spare
      else s.bank (posCore phys) (posCluster phys) b

theorem State.swapTrk_swapped (s : State) (t phys : Nat) (y : XbTrk) : Swapped s (s.swapTrk t phys y) t phys y where
  areas := State.respare_same (s.advance_setTrk_same t phys y) phys (by decide)
  same := (s.advance t).trk_setTrk_same phys y
  others := fun _ hp => (s.advance t).trk_setTrk_ne y hp
  fab := rfl
  banks := fun b => by
    refine (State.bank_respare _ phys b).trans ?_
    rw [State.trk_setTrk_same]
    rfl

theorem State.swapTrk_rises (s : State) (t phys : Nat) (y : XbTrk) (h : SMap.rises s.fab.track = true) :
    SMap.rises (s.swapTrk t phys y).fab.track = true := SMap.rises_put _ _ _ _ h

section
variable {t phys : Nat} {s : State}

/-- CS takes the columns of a visited column-side slice between vectors. -/
theorem trackSwapIn_of_visit {k : Nat} (hvisit : (s.trk phys).visit = some (k, false)) (hcolumn : k < 17)
    (hruns : (s.advance t).visitsRun phys = true) (hidle : (s.advance t).driving (posCore phys) (posCluster phys) = false) :
    Ends (exec (.trackSwapIn t phys) s) fun u => Swapped s u t phys { s.trk phys with visit := some (k, true) } := by
  have hvisit' : ((s.advance t).trk phys).visit = some (k, false) := hvisit
  have hexec : exec (.trackSwapIn t phys) s = .next (s.swapTrk t phys { s.trk phys with visit := some (k, true) }) := by
    show execTrackSwapIn t phys s = _
    unfold execTrackSwapIn
    simp only [hvisit', hruns, hidle, Nat.not_le.mpr hcolumn, decide_false, Bool.not_true, Bool.or_self, Bool.false_eq_true, if_false]
    rfl
  rw [hexec, ends_next]
  exact s.swapTrk_swapped t phys _

/-! The end of a visit (R94, R98, R103). -/

/-- Where visits have stopped meanwhile, the stored values are kept. -/
theorem trackSwapOut_of_stopped {k : Nat} {sw : Bool} (l : List Ladder) (hvisit : (s.trk phys).visit = some (k, sw))
    (hlasted : (s.advance t).lastedNow phys = false) (hidle : (s.advance t).driving (posCore phys) (posCluster phys) = false)
    (hstopped : (s.advance t).visitsRun phys = false) :
    Ends (exec (.trackSwapOut t phys l) s) fun u => Swapped s u t phys { s.trk phys with visit := none } := by
  have hvisit' : ((s.advance t).trk phys).visit = some (k, sw) := hvisit
  have hexec : exec (.trackSwapOut t phys l) s = .next (s.swapTrk t phys { s.trk phys with visit := none }) := by
    show execTrackSwapOut t phys l s = _
    unfold execTrackSwapOut
    simp only [hvisit', hlasted, hidle, hstopped, Bool.or_self, Bool.not_false, Bool.false_eq_true, if_false, if_true]
    rfl
  rw [hexec, ends_next]
  exact s.swapTrk_swapped t phys _

/-- A crossbar's tracking with its visit ended. -/
def XbTrk.ended (x : XbTrk) : XbTrk := { x with visit := none, next := (x.next + 1) % 25 }

/-- The state once a visit's end has updated its slice. -/
def State.visitEnded (s : State) (t phys k : Nat) (l : List Ladder) : State :=
  ((s.swapTrk t phys (s.trk phys).ended).trackUpdate phys k l).trackNow

theorem exec_trackSwapOut_of_visit {k : Nat} {sw : Bool} (l : List Ladder) (hvisit : (s.trk phys).visit = some (k, sw))
    (hlasted : (s.advance t).lastedNow phys = false) (hidle : (s.advance t).driving (posCore phys) (posCluster phys) = false)
    (hruns : (s.advance t).visitsRun phys = true) (hready : 17 ≤ k ∨ sw = true) :
    exec (.trackSwapOut t phys l) s = .next (if (s.trk phys).ended.next = 0 then (s.visitEnded t phys k l).roundDone phys
      else s.visitEnded t phys k l) := by
  have hvisit' : ((s.advance t).trk phys).visit = some (k, sw) := hvisit
  have hready' : (decide (k ≤ 16) && !sw) = false := by
    rcases hready with h | h
    · simp [Nat.not_le.mpr h]
    · simp [h]
  show execTrackSwapOut t phys l s = _
  unfold execTrackSwapOut
  simp only [hvisit', hlasted, hidle, hruns, hready', Bool.or_self, Bool.not_true, Bool.false_eq_true, if_false]
  rfl

theorem State.visitEnded_updated (s : State) (t phys k : Nat) (l : List Ladder) :
    TrkUpdated s (s.visitEnded t phys k l) phys (s.trk phys).ended k l :=
  have hswap := s.swapTrk_swapped t phys (s.trk phys).ended
  TrkUpdated.trackUpdate hswap.areas hswap.same hswap.others k l

theorem State.visitEnded_rises (s : State) (t phys k : Nat) (l : List Ladder) (hrun : s.running = true)
    (h : SMap.rises s.fab.track = true) : SMap.rises (s.visitEnded t phys k l).fab.track = true := by
  have hnow : ((s.swapTrk t phys (s.trk phys).ended).trackUpdate phys k l).running = true :=
    (State.trackUpdate_running _ phys k l).trans hrun
  unfold State.visitEnded
  rw [State.trackNow_of_running hnow]
  exact State.trackUpdate_rises _ phys k l (s.swapTrk_rises t phys _ h)

/-- With every value within the limits and a boundary to come, the update waits and nothing else has changed. -/
theorem State.visitEnded_of_within {k : Nat} {l : List Ladder} (hrun : s.running = true)
    (h : ((s.trk phys).ended.visited k l).2 = 0) :
    s.visitEnded t phys k l = (s.swapTrk t phys (s.trk phys).ended).setTrk phys ((s.trk phys).ended.updated k l) := by
  have hsame : (s.swapTrk t phys (s.trk phys).ended).trk phys = (s.trk phys).ended := (s.swapTrk_swapped t phys _).same
  have hupd := State.trackUpdate_of_within (s.swapTrk t phys (s.trk phys).ended) phys k l (by rw [hsame]; exact h)
  unfold State.visitEnded
  rw [hsame] at hupd
  rw [hupd]
  exact State.trackNow_of_running hrun

/-- The rounds of the other crossbars stand as before the visit's end. -/
theorem State.visitEnded_othersDone {k : Nat} {l : List Ladder} (hrun : s.running = true)
    (h : ((s.trk phys).ended.visited k l).2 = 0) :
    (s.visitEnded t phys k l).othersDone phys
      ↔ ∀ p ∈ s.trackedXbs, p ≠ phys → (s.advance t).visitsRun p = true → (s.trk p).round = true := by
  rw [State.visitEnded_of_within hrun h]
  have htracked : ((s.swapTrk t phys (s.trk phys).ended).setTrk phys ((s.trk phys).ended.updated k l)).trackedXbs = s.trackedXbs := rfl
  unfold State.othersDone
  rw [htracked]
  refine forall₃_congr fun p _ hp => ?_
  have hruns : (s.swapTrk t phys (s.trk phys).ended).visitsRun p = (s.advance t).visitsRun p :=
    (s.advance t).visitsRun_setTrk_ne _ hp
  rw [State.visitsRun_setTrk_ne _ _ hp, State.trk_setTrk_ne _ _ hp, hruns, (s.swapTrk_swapped t phys _).others p hp]

/-- A visit ends, and with the round's last visit of the crossbar its round. -/
theorem trackSwapOut_of_visit {k : Nat} {sw : Bool} (l : List Ladder) (hvisit : (s.trk phys).visit = some (k, sw))
    (hlasted : (s.advance t).lastedNow phys = false) (hidle : (s.advance t).driving (posCore phys) (posCluster phys) = false)
    (hruns : (s.advance t).visitsRun phys = true) (hready : 17 ≤ k ∨ sw = true) :
    Ends (exec (.trackSwapOut t phys l) s) fun u => TrkUpdated s u phys (s.trk phys).ended k l
      ∧ (s.running = true → ((s.trk phys).ended.visited k l).2 = 0 →
          let all := ∀ p ∈ s.trackedXbs, p ≠ phys → (s.advance t).visitsRun p = true → (s.trk p).round = true
          ((s.trk phys).ended.next ≠ 0 → (u.trk phys).round = (s.trk phys).round ∧ u.regs = s.regs)
          ∧ ((s.trk phys).ended.next = 0 → all → s.counted u CCV_TRK_ROUND_COUNT ∧ ∀ p, (u.trk p).round = false)
          ∧ ((s.trk phys).ended.next = 0 → ¬all → (u.trk phys).round = true ∧ u.regs = s.regs)) := by
  rw [exec_trackSwapOut_of_visit l hvisit hlasted hidle hruns hready, ends_next]
  have hupdated := s.visitEnded_updated t phys k l
  have hregs (hrun : s.running = true) (hn : ((s.trk phys).ended.visited k l).2 = 0) : (s.visitEnded t phys k l).regs = s.regs := by
    rw [State.visitEnded_of_within hrun hn]
    rfl
  by_cases hlast : (s.trk phys).ended.next = 0
  · rw [if_pos hlast]
    refine ⟨hupdated.roundDone (s.visitEnded_rises t phys k l), fun hrun hn => ?_⟩
    have hall := State.visitEnded_othersDone (t := t) hrun hn
    refine ⟨fun hne => absurd hlast hne, fun _ h => ⟨?_, State.roundDone_round (hall.mpr h)⟩, fun _ h => ?_⟩
    · have hcounted := State.roundDone_counted (hall.mpr h)
      unfold State.counted at hcounted ⊢
      rw [hcounted, State.rd_of_regs (hregs hrun hn)]
    · have hopen := State.roundDone_of_open (mt hall.mp h)
      rw [hopen]
      exact ⟨State.markRound_round _ phys, (State.markRound_regs _ phys).trans (hregs hrun hn)⟩
  · rw [if_neg hlast]
    refine ⟨hupdated, fun hrun hn => ⟨fun _ => ⟨?_, hregs hrun hn⟩, fun h => absurd h hlast, fun h => absurd h hlast⟩⟩
    rw [State.visitEnded_of_within hrun hn, State.trk_setTrk_same]
    rfl

end

end Sys2Proof.Machine
end

section
/-! PROOFS. Drift updates (R114, R115): what the recomputation of every crossbar's drift leaves, and the relasting it asks for. -/

namespace Sys2Proof.Machine

/-! A list whose first entry that meets a condition is changed. -/

theorem mem_updFirst_of_find {α : Type} {p : α → Bool} {a : α} {l : List α} (f : α → α) (h : l.find? p = some a) :
    f a ∈ updFirst p f l := by
  induction l with
  | nil => cases h
  | cons b l ih =>
    rw [updFirst]
    cases hb : p b with
    | true =>
      rw [List.find?_cons_of_pos hb] at h
      cases h
      exact List.mem_cons_self
    | false =>
      rw [List.find?_cons_of_neg (by simp [hb])] at h
      exact List.mem_cons_of_mem b (ih h)

/-- An entry stays, but for the one that is changed. -/
theorem mem_updFirst_of_mem {α : Type} {p : α → Bool} {a : α} {l : List α} (f : α → α) (h : a ∈ l) :
    a ∈ updFirst p f l ∨ l.find? p = some a := by
  induction l with
  | nil => cases h
  | cons b l ih =>
    rw [updFirst]
    cases hb : p b with
    | true =>
      rw [List.find?_cons_of_pos hb]
      rcases List.mem_cons.mp h with rfl | h
      · exact Or.inr rfl
      · exact Or.inl (List.mem_cons_of_mem _ h)
    | false =>
      rw [List.find?_cons_of_neg (by simp [hb])]
      rcases List.mem_cons.mp h with rfl | h
      · exact Or.inl List.mem_cons_self
      · exact (ih h).imp_left (List.mem_cons_of_mem b)

/-! The queue of refreshes (R232). -/

/-- LST has been asked to relast a position, for its drift or for an earlier reason. -/
def State.asked (s : State) (q : Nat) : Prop := ∃ r ∈ s.lst.refreshQ, r.pos = q ∧ r.order ≤ 1

theorem State.askRefresh_lst (s : State) (p order rho : Nat) (failed : List Nat) :
    (s.askRefresh p order rho failed).lst = { s.lst with refreshQ := (s.askRefresh p order rho failed).lst.refreshQ } := by
  unfold State.askRefresh
  cases s.lst.refreshQ.find? (·.pos == p) <;> rfl

theorem State.askRefresh_asked (s : State) (p rho : Nat) (failed : List Nat) : (s.askRefresh p 1 rho failed).asked p := by
  unfold State.askRefresh
  cases hfind : s.lst.refreshQ.find? (·.pos == p) with
  | none => exact ⟨_, List.mem_append_right _ List.mem_cons_self, rfl, Nat.le_refl 1⟩
  | some r => exact ⟨_, mem_updFirst_of_find (fun _ => _) hfind, rfl, Nat.min_le_right _ _⟩

/-- A position that was asked for stays so. -/
theorem State.asked.askRefresh {s : State} {q : Nat} (h : s.asked q) (p order rho : Nat) (failed : List Nat) :
    (s.askRefresh p order rho failed).asked q := by
  obtain ⟨r, hmem, hpos, horder⟩ := h
  unfold State.askRefresh
  cases hfind : s.lst.refreshQ.find? (·.pos == p) with
  | none => exact ⟨r, List.mem_append_left _ hmem, hpos, horder⟩
  | some r0 =>
    rcases mem_updFirst_of_mem (fun _ => ⟨p, min r0.order order, rho, (r0.failed ++ failed).eraseDups⟩) hmem with hstays | hfirst
    · exact ⟨r, hstays, hpos, horder⟩
    · obtain rfl : r0 = r := Option.some.inj (hfind.symm.trans hfirst)
      have hp : r0.pos = p := by simpa using List.find?_some hfind
      exact ⟨_, mem_updFirst_of_find (fun _ => _) hfind, hp.symm.trans hpos, Nat.le_trans (Nat.min_le_left _ _) horder⟩

/-! The recomputation of drift (R114, R115). -/

/-- From `s` to `u` only drifts that wait for a boundary and requests for refreshes have changed. -/
structure DriftOnly (s u : State) : Prop where
  areas : SameBut [.lst, .fab] s u
  fab : u.fab = { s.fab with corr := u.fab.corr }
  lst : u.lst = { s.lst with refreshQ := u.lst.refreshQ }
  drift : ∀ p, u.driftOf p = s.driftOf p
  rises : SMap.rises s.fab.corr = true → SMap.rises u.fab.corr = true
  asked : ∀ q, s.asked q → u.asked q

theorem DriftOnly.refl (s : State) : DriftOnly s s := ⟨SameBut.refl _ s, rfl, rfl, fun _ => rfl, id, fun _ => id⟩

theorem DriftOnly.trans {s t u : State} (h : DriftOnly s t) (k : DriftOnly t u) : DriftOnly s u where
  areas := h.areas.trans k.areas
  fab := k.fab.trans (by rw [h.fab])
  lst := k.lst.trans (by rw [h.lst])
  drift := fun p => (k.drift p).trans (h.drift p)
  rises := k.rises ∘ h.rises
  asked := fun q => k.asked q ∘ h.asked q

/-- The position that a crossbar serves hangs on the spares in use and on the sites of the cores. -/
theorem DriftOnly.logicalOf {s u : State} (h : DriftOnly s u) (p : Nat) : u.logicalOf p = s.logicalOf p := by
  unfold State.logicalOf State.siteBase State.health
  rw [h.lst, h.areas.sms (by decide)]

/-- A crossbar with a new drift waiting for a boundary. -/
def XbCorr.renewed (c : XbCorr) (r : Nat) : XbCorr := { c with driftNew := some r }

theorem State.driftOf_setCorr_renewed (s : State) (p q r : Nat) : (s.setCorr p ((s.corr p).renewed r)).driftOf q = s.driftOf q := by
  unfold State.driftOf
  by_cases hq : q = p
  · subst hq
    rw [State.corr_setCorr_same]
    rfl
  · rw [State.corr_setCorr_ne _ _ hq]
    rfl

theorem State.setCorr_renewed_driftOnly (s : State) (p r : Nat) : DriftOnly s (s.setCorr p ((s.corr p).renewed r)) where
  areas := State.setCorr_same (SameBut.refl _ s) p _ (by decide)
  fab := rfl
  lst := rfl
  drift := fun q => s.driftOf_setCorr_renewed p q r
  rises := SMap.rises_put _ _ _ _
  asked := fun _ => id

theorem State.askRefresh_driftOnly (s : State) (p order rho : Nat) (failed : List Nat) :
    DriftOnly s (s.askRefresh p order rho failed) := by
  have hareas : SameBut [.lst] s (s.askRefresh p order rho failed) :=
    State.askRefresh_same (SameBut.refl _ s) p order rho failed (by decide)
  have hfab : (s.askRefresh p order rho failed).fab = s.fab := hareas.fab (by decide)
  have hnow : (s.askRefresh p order rho failed).now = s.now := hareas.now (by decide)
  refine ⟨hareas.mono (by decide), by rw [hfab], s.askRefresh_lst p order rho failed, fun q => ?_, fun h => by rw [hfab]; exact h,
    fun q hq => hq.askRefresh p order rho failed⟩
  unfold State.driftOf State.xbAge
  rw [State.corr_of_fab hfab, hnow]

/-- Below 2^-3 the new drift only waits. -/
theorem State.recomputeDrift_of_lt {s : State} {p : Nat} (h : s.driftOf p < 8192) :
    s.recomputeDrift p = s.setCorr p ((s.corr p).renewed (s.driftOf p)) := if_neg (Nat.ne_of_lt h)

/-- At 2^-3 LST is asked besides to relast the position that the crossbar serves. -/
theorem State.recomputeDrift_of_limit {s : State} {p : Nat} (h : s.driftOf p = 8192) :
    s.recomputeDrift p = match s.logicalOf p with
      | some q => (s.setCorr p ((s.corr p).renewed (s.driftOf p))).askRefresh q 1 (s.corr p).rho []
      | none => s.setCorr p ((s.corr p).renewed (s.driftOf p)) := by
  have hrho : ((s.setCorr p ((s.corr p).renewed (s.driftOf p))).corr p).rho = (s.corr p).rho := by
    rw [State.corr_setCorr_same]
    rfl
  rw [← hrho]
  exact if_pos h

theorem State.driftOf_le (s : State) (p : Nat) : s.driftOf p ≤ 8192 := Nat.min_le_left _ _

/-- A crossbar's recomputation stores its new drift; any request for a refresh follows. -/
theorem State.recomputeDrift_cases (s : State) (p : Nat) :
    s.recomputeDrift p = s.setCorr p ((s.corr p).renewed (s.driftOf p))
      ∨ ∃ q, s.recomputeDrift p = (s.setCorr p ((s.corr p).renewed (s.driftOf p))).askRefresh q 1 (s.corr p).rho [] := by
  rcases Nat.lt_or_eq_of_le (s.driftOf_le p) with h | h
  · exact Or.inl (State.recomputeDrift_of_lt h)
  · rw [State.recomputeDrift_of_limit h]
    cases s.logicalOf p with
    | none => exact Or.inl rfl
    | some q => exact Or.inr ⟨q, rfl⟩

theorem State.recomputeDrift_driftOnly (s : State) (p : Nat) : DriftOnly s (s.recomputeDrift p) := by
  have hset := s.setCorr_renewed_driftOnly p (s.driftOf p)
  rcases s.recomputeDrift_cases p with h | ⟨q, h⟩
  · rw [h]
    exact hset
  · rw [h]
    exact hset.trans (State.askRefresh_driftOnly _ q 1 _ [])

theorem State.corr_recomputeDrift (s : State) (p q : Nat) :
    (s.recomputeDrift p).corr q = if q = p then (s.corr p).renewed (s.driftOf p) else s.corr q := by
  have hset : (s.setCorr p ((s.corr p).renewed (s.driftOf p))).corr q
      = if q = p then (s.corr p).renewed (s.driftOf p) else s.corr q := by
    by_cases hq : q = p
    · subst hq
      rw [State.corr_setCorr_same, if_pos rfl]
    · rw [State.corr_setCorr_ne _ _ hq, if_neg hq]
  rcases s.recomputeDrift_cases p with h | ⟨r, h⟩
  · rw [h, hset]
  · have hask := State.askRefresh_same (A := [.lst]) (SameBut.refl _ (s.setCorr p ((s.corr p).renewed (s.driftOf p)))) r 1 (s.corr p).rho []
      (by decide)
    rw [h, ← hset]
    exact State.corr_of_fab (hask.fab (by decide)) q

theorem State.recomputeDrift_asked {s : State} {p q : Nat} (h : s.driftOf p = 8192) (hq : s.logicalOf p = some q) :
    (s.recomputeDrift p).asked q := by
  rw [State.recomputeDrift_of_limit h, hq]
  exact State.askRefresh_asked _ q _ []

/-! The recomputation of every crossbar of a list. -/

theorem State.recomputeAll_driftOnly (l : List Nat) (s : State) : DriftOnly s (forEach l s State.recomputeDrift) := by
  induction l generalizing s with
  | nil => exact DriftOnly.refl s
  | cons p l ih => exact (s.recomputeDrift_driftOnly p).trans (ih _)

theorem State.corr_recomputeAll (l : List Nat) (s : State) (q : Nat) :
    (forEach l s State.recomputeDrift).corr q = if q ∈ l then (s.corr q).renewed (s.driftOf q) else s.corr q := by
  induction l generalizing s with
  | nil => rfl
  | cons p l ih =>
    rw [forEach_cons, ih, (s.recomputeDrift_driftOnly p).drift q, s.corr_recomputeDrift p q]
    by_cases hq : q = p
    · subst hq
      simp [XbCorr.renewed]
    · simp [hq]

theorem State.recomputeAll_asked {l : List Nat} {s : State} {p q : Nat} (hp : p ∈ l) (h : s.driftOf p = 8192)
    (hq : s.logicalOf p = some q) : (forEach l s State.recomputeDrift).asked q := by
  induction l generalizing s with
  | nil => cases hp
  | cons a l ih =>
    rw [forEach_cons]
    rcases List.mem_cons.mp hp with rfl | hp
    · exact (State.recomputeAll_driftOnly l _).asked q (State.recomputeDrift_asked h hq)
    · have ha := s.recomputeDrift_driftOnly a
      exact ih hp ((ha.drift p).trans h) ((ha.logicalOf p).trans hq)

/-- Below 2^-3 everywhere nothing is asked of LST. -/
theorem State.recomputeAll_lst {l : List Nat} {s : State} (h : ∀ p ∈ l, s.driftOf p < 8192) :
    (forEach l s State.recomputeDrift).lst = s.lst := by
  induction l generalizing s with
  | nil => rfl
  | cons a l ih =>
    have ha := s.recomputeDrift_driftOnly a
    have hl : ∀ p ∈ l, (s.recomputeDrift a).driftOf p < 8192 :=
      fun p hp => (ha.drift p).symm ▸ h p (List.mem_cons_of_mem a hp)
    rw [forEach_cons, ih hl, State.recomputeDrift_of_lt (h a List.mem_cons_self), State.setCorr_lst]

/-! The drift update (R115). -/

/-- A crossbar's drift with the one that waited in force. -/
def XbCorr.applied (c : XbCorr) : XbCorr := { c with drift := c.driftNew.getD c.drift, driftNew := none }

theorem State.corr_applyTracking {s : State} (h : SMap.rises s.fab.corr = true) (p : Nat) :
    s.applyTracking.corr p = (s.corr p).applied :=
  SMap.get_mapVals (f := fun _ => XbCorr.applied) rfl (Or.inr h)

theorem State.trackNow_driftAt (s : State) : s.trackNow.fab.driftAt = s.fab.driftAt := by
  cases h : s.running with
  | true => rw [State.trackNow_of_running h]
  | false => rw [State.trackNow_of_standing h]; rfl

theorem State.trackNow_lst (s : State) : s.trackNow.lst = s.lst :=
  (State.trackNow_same (A := [.fab, .ptm]) (SameBut.refl _ s) (by decide) (by decide)).lst (by decide)

/-- The state in which an update of drift is recomputed: external time, and that of the last update, moved on. -/
def State.driftDue (s : State) (t : Nat) : State := (s.advance t).withFab { s.fab with driftAt := max s.now t }

theorem State.driftDue_same (s : State) (t : Nat) : SameBut [.now, .lst, .fab, .ptm] s (s.driftDue t) :=
  State.withFab_same (State.advance_same (SameBut.refl _ s) t (by decide)) _ (by decide)

section
variable {t : Nat} {s : State}

theorem exec_wltDriftUpdate_of_due (h : s.fab.driftAt + max 1 (s.rd WLT_DRIFT_CTRL_PERIOD) * 1000000 ≤ max s.now t) :
    exec (.wltDriftUpdate t) s = .next (forEach s.driftXbs (s.driftDue t) State.recomputeDrift).trackNow :=
  if_neg (Nat.not_lt.mpr h)

theorem exec_wltDriftUpdate_of_early (h : max s.now t < s.fab.driftAt + max 1 (s.rd WLT_DRIFT_CTRL_PERIOD) * 1000000) :
    exec (.wltDriftUpdate t) s = .next (s.advance t) := if_pos h

/-- A drift update that is due. -/
theorem wltDriftUpdate_of_due (h : s.fab.driftAt + max 1 (s.rd WLT_DRIFT_CTRL_PERIOD) * 1000000 ≤ max s.now t) :
    let v := s.advance t
    Ends (exec (.wltDriftUpdate t) s) fun u => SameBut [.now, .lst, .fab, .ptm] s u ∧ u.fab.driftAt = max s.now t
      ∧ u.lst = { s.lst with refreshQ := u.lst.refreshQ }
      ∧ (s.running = true → u.ptm = s.ptm ∧ u.fab = { s.fab with driftAt := u.fab.driftAt, corr := u.fab.corr }
          ∧ ∀ p, u.corr p = if p ∈ s.driftXbs then (s.corr p).renewed (v.driftOf p) else s.corr p)
      ∧ (s.running = false → SMap.rises s.fab.corr = true →
          ∀ p, (u.corr p).driftNew = none ∧ (p ∈ s.driftXbs → (u.corr p).drift = v.driftOf p))
      ∧ (∀ p q, p ∈ s.driftXbs → v.driftOf p = 8192 → s.logicalOf p = some q → u.asked q)
      ∧ ((∀ p ∈ s.driftXbs, v.driftOf p < 8192) → u.lst.refreshQ = s.lst.refreshQ) := by
  intro v
  have hexec := exec_wltDriftUpdate_of_due h
  have hdrift := State.recomputeAll_driftOnly s.driftXbs (s.driftDue t)
  have hcorr := State.corr_recomputeAll s.driftXbs (s.driftDue t)
  have hasked {p q : Nat} := State.recomputeAll_asked (l := s.driftXbs) (s := s.driftDue t) (p := p) (q := q)
  have hquiet := State.recomputeAll_lst (l := s.driftXbs) (s := s.driftDue t)
  generalize hw : forEach s.driftXbs (s.driftDue t) State.recomputeDrift = w at hexec hdrift hcorr hasked hquiet
  have hrun : w.running = s.running := congrArg (· != 0) (State.rd_of_regs (hdrift.areas.regs (by decide)) _ 0)
  rw [hexec, ends_next]
  refine ⟨?_, ?_, ?_, fun hr => ?_, fun hr hs p => ?_, fun p q hp hlimit hq => ?_, fun hlow => ?_⟩
  · exact State.trackNow_same ((s.driftDue_same t).trans (hdrift.areas.mono (by decide))) (by decide) (by decide)
  · rw [w.trackNow_driftAt, hdrift.fab]
    rfl
  · rw [w.trackNow_lst]
    exact hdrift.lst
  · rw [State.trackNow_of_running (hrun.trans hr)]
    exact ⟨hdrift.areas.ptm (by decide), hdrift.fab.trans (by rw [hdrift.fab]; rfl), hcorr⟩
  · rw [State.trackNow_of_standing (hrun.trans hr), State.corr_applyTracking (hdrift.rises hs), hcorr p]
    refine ⟨rfl, fun hp => ?_⟩
    rw [if_pos hp]
    rfl
  · unfold State.asked
    rw [w.trackNow_lst]
    exact hasked hp hlimit hq
  · rw [w.trackNow_lst, hquiet hlow]
    rfl

end

end Sys2Proof.Machine
end

section
/-! PROOFS. Visits of the spare monitor converter (R393, R417). -/

namespace Sys2Proof.Machine

/-! A module fault stays flagged (R417): no part of a job's fault writes its bit. -/

/-- A module fault is flagged. -/
def State.Faulted (s : State) : Prop := s.bit SMS_STATUS_MODULE_FAULT = true

section
variable {s u : State}

theorem State.Faulted.of_regs (h : s.Faulted) (e : u.regs = s.regs) : u.Faulted :=
  (congrArg (· != 0) (State.rd_of_regs e SMS_STATUS_MODULE_FAULT 0)).trans h

theorem State.Faulted.of_same (h : s.Faulted) {A : List Area} (hA : .regs ∉ A) (k : SameBut A s u) : u.Faulted :=
  h.of_regs (k.regs hA)

theorem State.Faulted.wr (h : s.Faulted) {f : Fld} (hf : SMS_STATUS_MODULE_FAULT.key 0 % 2 ^ 32 ≠ f.key 0 % 2 ^ 32) (v b : Nat) :
    (s.wr f v b).Faulted :=
  (congrArg (· != 0) (State.rd_wr_ne s _ f v 0 b (Fld.key_ne_of_place hf 0 b))).trans h

theorem State.Faulted.count (h : s.Faulted) {f : Fld} (hf : SMS_STATUS_MODULE_FAULT.key 0 % 2 ^ 32 ≠ f.key 0 % 2 ^ 32) (n : Nat) :
    (s.count f n).Faulted := h.wr hf _ 0

theorem State.Faulted.forEach {α : Type} (h : s.Faulted) {f : State → α → State} (hf : ∀ v x, v.Faulted → (f v x).Faulted)
    (l : List α) : (forEach l s f).Faulted := by
  induction l generalizing s with
  | nil => exact h
  | cons x l ih => exact ih (hf s x h)

theorem State.Faulted.smsEvent (h : s.Faulted) {ev : Fld} (hev : SMS_STATUS_MODULE_FAULT.key 0 % 2 ^ 32 ≠ ev.key 0 % 2 ^ 32) :
    (s.smsEvent ev).Faulted := by
  have hset : (s.setBit ev).Faulted := h.wr hev 1 0
  unfold State.smsEvent State.raise State.when
  split
  · exact h
  · split
    · exact hset.of_regs (State.pfEvent_regs _ _)
    · exact hset

theorem State.Faulted.logEvent (h : s.Faulted) (r : EventRec) : (s.logEvent r).Faulted := by
  unfold State.logEvent
  extract_lets sec n
  split
  · exact h.of_same (A := [.sms]) (by decide)
      (State.appendLog_same (SameBut.set_sms (SameBut.refl _ s) _ (by decide)) r (by decide))
  · have hcount : (s.count SMS_LOG_DROP_CNT_COUNT).Faulted := h.count (by decide) 1
    exact hcount.smsEvent (by decide)

theorem State.Faulted.settle (h : s.Faulted) (num : Nat) : (s.settle num).Faulted := by
  unfold State.settle
  split
  · exact h
  · extract_lets cols s1 n
    have h1 : s1.Faulted := h.of_regs rfl
    have hfreed := h1.of_same (A := [.serve]) (by decide)
      (State.freeColumns_same (SameBut.refl _ s1) num (·.spec) (by decide))
    exact hfreed.count (by decide) n

theorem State.Faulted.rollback (h : s.Faulted) (num : Nat) (r : Request) (k : Nat) : (s.rollback num r k).Faulted := by
  have hset (x : Session) (p : Column → Bool) : ((s.setSess x).freeColumns num p).Faulted :=
    h.of_same (A := [.serve]) (by decide)
      (State.freeColumns_same (State.setSess_same (SameBut.refl _ s) x (by decide)) num p (by decide))
  unfold State.rollback
  grind [State.Faulted.settle]

theorem State.Faulted.endReq (h : s.Faulted) (num : Nat) (r : Request) (st : Status) (time endCode : Nat) :
    (s.endReq num r st time endCode).Faulted := by
  have hreq (v : State) (hv : v.Faulted) (r : Request) : (v.completeReq num r st time endCode).Faulted :=
    hv.of_same (A := [.arbs, .hif, .serve]) (by decide)
      (State.completeReq_same (SameBut.refl _ v) num r st time endCode (by decide) (by decide) (by decide))
  have hset (v : State) (hv : v.Faulted) (r : Request) : (v.setReq num r).Faulted :=
    hv.of_same (A := [.serve]) (by decide) (State.setReq_same (SameBut.refl _ v) num r (by decide))
  have hdrop : (s.dropHeld r.serial).Faulted := h.of_regs rfl
  unfold State.endReq
  grind [State.Faulted.rollback]

theorem State.Faulted.endWhere (h : s.Faulted) (num : Nat) (p : Request → Bool) (st : Status) (time : Nat) :
    (s.endWhere num p st time).Faulted := by
  unfold State.endWhere
  split
  · exact h
  · exact h.forEach (fun _ r hv => hv.endReq num r st time 0) _

theorem State.Faulted.releaseOld (h : s.Faulted) (num : Nat) : (s.releaseOld num).Faulted := by
  unfold State.releaseOld
  split
  · exact h
  · exact (h.count (by decide) _).of_same (A := [.serve]) (by decide) (State.freeOld_same (SameBut.refl _ _) num (by decide))

theorem State.Faulted.abortClones (h : s.Faulted) (num : Nat) (st : Status) : (s.abortClones num st).Faulted := by
  have hend (v : State) (hv : v.Faulted) (n serial q : Nat) (c : Completion) : ((v.dropSession n).complete q serial c).Faulted :=
    hv.of_same (A := [.arbs, .hif, .serve]) (by decide)
      (State.complete_same (State.dropSession_same (SameBut.refl _ v) n (by decide)) q serial c (by decide) (by decide))
  have hset (v : State) (hv : v.Faulted) (x : Session) : (v.setSess x).Faulted := hv.of_regs rfl
  unfold State.abortClones
  refine h.forEach (fun v y hv => ?_) _
  grind [State.Faulted.releaseOld]

theorem State.Faulted.endJobIdle (h : s.Faulted) (f n time : Nat) : (s.endJobIdle f n time).Faulted := by
  unfold State.endJobIdle
  refine h.forEach (fun v x hv => ?_) _
  grind [State.Faulted.abortClones, State.Faulted.endWhere]

theorem State.Faulted.jobDown (h : s.Faulted) (j : Job) (step : Option Nat) : (s.jobDown j step).Faulted := by
  unfold State.jobDown
  extract_lets f n s1 step' s2 s3 s4
  have h1 : s1.Faulted := (h.count (by decide) 1).smsEvent (by decide)
  have h3 : s3.Faulted := (h1.of_regs (u := s2) rfl).of_same (A := [.serve, .ctl, .lnk]) (by decide)
    (State.unplan_same (SameBut.refl _ s2) _ (by decide) (by decide) (by decide))
  have h4 : s4.Faulted := h3.of_regs rfl
  clear_value step' s4
  cases step' with
  | some _ => exact h4
  | none => exact h4.endJobIdle f n _

theorem State.Faulted.faultJob (h : s.Faulted) (f n : Nat) (step : Option Nat) (r : EventRec) : (s.faultJob f n step r).Faulted := by
  unfold State.faultJob
  grind [State.Faulted.logEvent, State.Faulted.jobDown]

end

/-- A module fault is flagged at once but in a firmware restart (R417, R423). -/
theorem State.moduleFault_faulted (s : State) (cause : Nat) (h : s.ctl.restarting = false) : (s.moduleFault cause).Faulted := by
  unfold State.moduleFault
  split
  case isTrue hfault => exact hfault
  case isFalse =>
    rw [h, if_neg Bool.false_ne_true]
    extract_lets s1 s2 s3 s4
    have hset : (s.setBit SMS_STATUS_MODULE_FAULT).Faulted := congrArg (· != 0) (State.rd_wr_same s _ 1 0)
    have h1 : s1.Faulted := hset.wr (by decide) 1 0
    have h2 : s2.Faulted := h1.smsEvent (by decide)
    have h3 : s3.Faulted := h2.of_same (A := [.mgt]) (by decide) (State.mgtEvent_same (SameBut.refl _ s2) 102 1 (by decide))
    exact (h3.logEvent _).forEach (fun _ j hv => hv.faultJob _ _ _ _) _

/-! The spare monitor converter's visit of the next working one (R393). -/

/-- The number of the converter that the spare one of a die visits next. -/
def State.nextConv (s : State) (die : Nat) : Nat := SMap.get 0 s.ptm.convNext die

/-- The tracking of the converter visited next. -/
def State.visitedConv (s : State) (die : Nat) : MonConv := SMap.get MonConv.init s.ptm.convs (16 * die + s.nextConv die)

/-- A converter's tracking after a visit's ladder set. -/
def MonConv.visit (c : MonConv) (l : Ladder) : MonConv :=
  let o := monStep (!c.visited) c.offset l.zero 2 128
  let g := monStep (!c.visited) c.gain (l.plus - l.minus - 12288) 3 32
  ⟨o.1, g.1, true, o.2 || g.2⟩

/-- The monitor once the next converter of a die has been visited. -/
def State.convVisited (s : State) (t die : Nat) (l : Ladder) : PtmSt :=
  { s.ptm with
    convs := SMap.put MonConv.init s.ptm.convs (16 * die + s.nextConv die) ((s.visitedConv die).visit l)
    convNext := SMap.put 0 s.ptm.convNext die ((s.nextConv die + 1) % convCount die)
    convAt := SMap.put 0 s.ptm.convAt die (max s.now t + 1) }

/-- The monitor with the spare converter of a die in the place of the one visited. -/
def State.convReplaced (s : State) (t die : Nat) (l : Ladder) : PtmSt :=
  { s.convVisited t die l with convSpare := SMap.put 0 s.ptm.convSpare die (s.nextConv die + 1) }

theorem State.advance_withPtm_same (s : State) (t : Nat) (p : PtmSt) : SameBut [.now, .ptm] s ((s.advance t).withPtm p) :=
  State.withPtm_same (State.advance_same (SameBut.refl _ s) t (by decide)) p (by decide)

section
variable {t die : Nat} {s : State} (hdie : die < 3) (hmain : s.mainOn = true) (hstate : s.rd PTM_PSTATE_STATE ≠ 1)
  (hdue : SMap.get 0 s.ptm.convAt die = 0 ∨ SMap.get 0 s.ptm.convAt die + 100000000 ≤ max s.now t + 1)
include hdie hmain hstate hdue

theorem exec_monitorTrackVisit_of_due (l : Ladder) :
    let hit := ((s.visitedConv die).visit l).atLimit
    let spare := SMap.get 0 s.ptm.convSpare die
    let w := (s.advance t).withPtm (s.convVisited t die l)
    let conv := [16 * die + s.nextConv die]
    exec (.monitorTrackVisit t die l) s
      = if !hit || spare = s.nextConv die + 1 then .next w
        else if spare = 0 then
          .next (((s.advance t).withPtm (s.convReplaced t die l)).logEvent { EventRec.blank 0x16 0 with detail := conv })
        else if (s.visitedConv die).atLimit then .next w
        else .next ((w.logEvent { EventRec.blank 0x16 3 with detail := conv }).moduleFault 5) := by
  have htime : (SMap.get 0 s.ptm.convAt die != 0 && decide (max s.now t + 1 < SMap.get 0 s.ptm.convAt die + 100000000)) = false := by
    rcases hdue with h | h
    · simp [h]
    · simp [Nat.not_lt.mpr h]
  refine if_neg ?_
  show ¬(decide (3 ≤ die) || !s.mainOn || s.rd PTM_PSTATE_STATE == 1
    || (SMap.get 0 s.ptm.convAt die != 0 && decide (max s.now t + 1 < SMap.get 0 s.ptm.convAt die + 100000000))) = true
  rw [hmain, htime]
  simp [Nat.not_le.mpr hdie, hstate]

/-- Within the limits, or where the spare converter or a fault has already answered for the converter, its values are stored. -/
theorem monitorTrackVisit_of_settled (l : Ladder)
    (h : ((s.visitedConv die).visit l).atLimit = false ∨ SMap.get 0 s.ptm.convSpare die = s.nextConv die + 1
      ∨ (SMap.get 0 s.ptm.convSpare die ≠ 0 ∧ (s.visitedConv die).atLimit = true)) :
    Ends (exec (.monitorTrackVisit t die l) s) fun u => SameBut [.now, .ptm] s u ∧ u.ptm = s.convVisited t die l := by
  have hexec : exec (.monitorTrackVisit t die l) s = .next ((s.advance t).withPtm (s.convVisited t die l)) := by
    rw [exec_monitorTrackVisit_of_due hdie hmain hstate hdue l]
    rcases h with h | h | ⟨hne, h⟩
    · simp [h]
    · simp [h]
    · simp [hne, h]
  rw [hexec, ends_next]
  exact ⟨s.advance_withPtm_same t _, rfl⟩

/-- At a limit the spare converter replaces the one visited. -/
theorem monitorTrackVisit_of_first (l : Ladder)
    (hhit : ((s.visitedConv die).visit l).atLimit = true) (hspare : SMap.get 0 s.ptm.convSpare die = 0) :
    Ends (exec (.monitorTrackVisit t die l) s) fun u => SameBut [.regs, .now, .hif, .sms, .ptm] s u
      ∧ u.ptm = s.convReplaced t die l := by
  have hne : SMap.get 0 s.ptm.convSpare die ≠ s.nextConv die + 1 := by omega
  have hcond : ¬((!((s.visitedConv die).visit l).atLimit || decide (SMap.get 0 s.ptm.convSpare die = s.nextConv die + 1)) = true) := by
    simp [hhit, hne]
  rw [exec_monitorTrackVisit_of_due hdie hmain hstate hdue l, if_neg hcond, if_pos hspare, ends_next]
  refine ⟨State.logEvent_same ((s.advance_withPtm_same t _).mono (by decide)) _ (by decide) (by decide) (by decide), ?_⟩
  exact (State.logEvent_same (A := [.regs, .hif, .sms]) (SameBut.refl _ _) _ (by decide) (by decide) (by decide)).ptm (by decide)

/-- A second converter at a limit is a module fault (R417). -/
theorem monitorTrackVisit_of_second (l : Ladder)
    (hhit : ((s.visitedConv die).visit l).atLimit = true) (hspare : SMap.get 0 s.ptm.convSpare die ≠ 0)
    (hother : SMap.get 0 s.ptm.convSpare die ≠ s.nextConv die + 1) (hnew : (s.visitedConv die).atLimit = false) :
    Ends (exec (.monitorTrackVisit t die l) s) fun u =>
      SameBut [.regs, .now, .arbs, .hif, .serve, .ctl, .sms, .lnk, .ptm, .mgt] s u ∧ u.ptm = s.convVisited t die l
      ∧ (s.ctl.restarting = false → u.Faulted) := by
  have hcond : ¬((!((s.visitedConv die).visit l).atLimit || decide (SMap.get 0 s.ptm.convSpare die = s.nextConv die + 1)) = true) := by
    simp [hhit, hother]
  rw [exec_monitorTrackVisit_of_due hdie hmain hstate hdue l, if_neg hcond, if_neg hspare, hnew, if_neg Bool.false_ne_true, ends_next]
  generalize hr : ({ EventRec.blank 0x16 3 with detail := [16 * die + s.nextConv die] } : EventRec) = r
  generalize hw : (s.advance t).withPtm (s.convVisited t die l) = w
  have hareas : SameBut [.now, .ptm] s w := hw ▸ s.advance_withPtm_same t _
  have hptm : w.ptm = s.convVisited t die l := by rw [← hw]; rfl
  have hlogged : SameBut [.regs, .hif, .sms] w (w.logEvent r) :=
    State.logEvent_same (SameBut.refl _ w) r (by decide) (by decide) (by decide)
  have hfault : SameBut [.regs, .arbs, .hif, .serve, .ctl, .sms, .lnk, .mgt] w ((w.logEvent r).moduleFault 5) :=
    State.moduleFault_same (hlogged.mono (by decide)) 5 (by decide) (by decide) (by decide) (by decide) (by decide) (by decide)
      (by decide) (by decide)
  refine ⟨(hareas.mono (by decide)).trans (hfault.mono (by decide)), (hfault.ptm (by decide)).trans hptm, fun h => ?_⟩
  refine State.moduleFault_faulted _ 5 ?_
  rw [hlogged.ctl (by decide), hareas.ctl (by decide)]
  exact h

end

/-! The obligation. -/

/-- Settles O39: visits by the update of a slice that each starts or ends with (`TrkUpdated`) and by the swap of CS (`Swapped`), the
drift update by what the recomputation of every crossbar leaves (`DriftOnly`), and the monitor's converters by what its visit finds. -/
theorem trackingVisits : Obligations.TrackingVisits := by
  unfold Obligations.TrackingVisits
  intro t phys s x v core cluster visited updates only
  have hupdates {u : State} {y : XbTrk} {k : Nat} {l : List Ladder} (hy : y.visited k l = visited k l)
      (h : TrkUpdated s u phys y k l) : updates u y k l := by
    rcases h with ⟨hareas, hothers, hwaits, happlies, hcounted, hwithin, hfields⟩
    have hslice := y.applied_updated_slice k l
    rw [XbTrk.updated, hy] at hwaits
    rw [hy] at hslice hcounted hwithin hfields
    refine ⟨hareas, fun hr => ⟨hothers hr, hwaits hr⟩, fun hr => ?_, hcounted, fun hn => ⟨hwithin hn, hfields hn⟩⟩
    rw [happlies hr]
    exact ⟨hslice, rfl, rfl, rfl, rfl⟩
  have honly {u : State} {y : XbTrk} (h : Swapped s u t phys y) : only u y := ⟨h.areas, h.same, h.others, h.fab, h.banks⟩
  refine ⟨fun cs hruns hnone hdue => ⟨fun hrow hfree => ?_, fun hcolumn => ?_⟩, fun k hvisit hk hruns hidle => ?_,
    fun k sw l hvisit hlasted hidle => ⟨fun hstopped => ?_, fun hruns hready => ?_⟩, fun hdue => ?_,
    exec_wltDriftUpdate_of_early, fun die l hdie hmain hstate hdue => ⟨fun h => ?_, fun hhit hspare => ?_,
      fun hhit hspare hother hnew => ?_⟩⟩
  · exact trackVisit_of_rowSide hruns hnone hdue cs hrow hfree
  · obtain ⟨u, hexec, hu⟩ := trackVisit_of_columnSide hruns hnone hdue cs hcolumn
    exact ⟨u, hexec, hupdates rfl hu⟩
  · obtain ⟨u, hexec, hu⟩ := trackSwapIn_of_visit hvisit hk hruns hidle
    exact ⟨u, hexec, honly hu⟩
  · obtain ⟨u, hexec, hu⟩ := trackSwapOut_of_stopped l hvisit hlasted hidle hstopped
    exact ⟨u, hexec, honly hu⟩
  · obtain ⟨u, hexec, hu, hround⟩ := trackSwapOut_of_visit l hvisit hlasted hidle hruns hready
    exact ⟨u, hexec, hupdates rfl hu, hround⟩
  · exact wltDriftUpdate_of_due hdue
  · exact monitorTrackVisit_of_settled hdie hmain hstate hdue l h
  · exact monitorTrackVisit_of_first hdie hmain hstate hdue l hhit hspare
  · exact monitorTrackVisit_of_second hdie hmain hstate hdue l hhit hspare hother hnew

end Sys2Proof.Machine
end

section
/-! PROOFS. Shadow checks and cancel rescues (R46, R124, R129): what a due check, its failure and a rescue leave. -/

namespace Sys2Proof.Machine

/-- A field that stands apart from those listed reads as before in every bank. -/
theorem FieldsOnly.rd_of_place {W : List Fld} {s u : State} (h : FieldsOnly W s u) {f : Fld}
    (hplace : ∀ g ∈ W, f.key 0 % 2 ^ 32 ≠ g.key 0 % 2 ^ 32) (b : Nat) : u.rd f b = s.rd f b :=
  h f b fun g hg c => Fld.key_ne_of_place (hplace g hg) b c

theorem FieldsOnly.mono {W V : List Fld} {s u : State} (h : FieldsOnly W s u) (hWV : W ⊆ V) : FieldsOnly V s u :=
  fun f b n => h f b fun g hg => n g (hWV hg)

/-! The shadow log (R129, R135). -/

/-- The fields of the shadow log pair. -/
def shadowLogFields : List Fld := shadowLog.2 :: shadowLog.1

/-- The record that a failed check writes into the shadow log. -/
def ShadowDue.logRecord (d : ShadowDue) : LogPair :=
  ⟨[d.cluster, d.row, d.col, if d.transpose then d.channel / 2 else d.channel, b2n d.transpose, 1], satCode (divEven d.diff (2 ^ 150))⟩

/-- A log pair that is not held takes its record at once. -/
theorem State.logPair_of_free {s : State} {core k : Nat} (h : (SMap.get LogHold.init s.fab.logHolds (2 * core + k)).held = false)
    (p : LogPair) : s.logPair core k p = s.fillLog core k p :=
  if_neg (by rw [h]; exact Bool.false_ne_true)

theorem State.fillLog_shadow_fields (s : State) (core : Nat) (p : LogPair) :
    FieldsOnly shadowLogFields s (s.fillLog core 1 p) := by
  have hlog : ∀ e ∈ shadowLog.1.zip p.fields, e.1 ∈ shadowLogFields := fun e he => List.mem_cons_of_mem _ (List.of_mem_zip he).1
  exact ((FieldsOnly.refl _ s).forEach fun e he v hv => hv.wr (hlog e he) e.2 core).wr List.mem_cons_self p.delta core

/-- The log is VALID once a failed check's record is in it: the record's last field, which LOG1 stands apart from. -/
theorem State.fillLog_shadow_valid (s : State) (core : Nat) (d : ShadowDue) :
    (s.fillLog core 1 d.logRecord).rd WLT_SHADOW_LOG0_VALID core = 1 := by
  have hdelta : WLT_SHADOW_LOG0_VALID.key core ≠ WLT_SHADOW_LOG1_DELTA.key core := Fld.key_ne_of_place (by decide) core core
  exact (State.rd_wr_ne _ _ _ _ _ _ hdelta).trans (State.rd_wr_same _ _ _ _)

/-! A shadow check (R129). -/

/-- What follows the log's record at a failed check, a suspect event and the job's fault or a record of the event, leaves the data
path alone and changes only the fields of faults. -/
theorem State.shadowFail_after_log (s : State) (d : ShadowDue) :
    let w := (s.count WLT_SHADOW_FAIL_CNT_COUNT).logPair d.core 1 d.logRecord
    (s.shadowFail d).fab = w.fab ∧ FieldsOnly faultFields w (s.shadowFail d) := by
  intro w
  unfold State.shadowFail
  extract_lets delta s1 s2 pos s3 blank rec_
  have hareas : SameBut [.regs, .arbs, .hif, .serve, .ctl, .sms, .lnk, .mgt] w s3 :=
    State.suspect_same (SameBut.refl _ w) d.core 16 _ (by decide) (by decide) (by decide) (by decide) (by decide) (by decide)
      (by decide) (by decide)
  have hfields : FieldsOnly faultFields w s3 := (FieldsOnly.refl _ w).suspect (List.Subset.refl _) d.core 16 _
  have hlogged (r : EventRec) : (s3.logEvent r).fab = w.fab ∧ FieldsOnly faultFields w (s3.logEvent r) :=
    ⟨(State.logEvent_same hareas r (by decide) (by decide) (by decide)).fab (by decide), hfields.logEvent (List.Subset.refl _) r⟩
  split
  · split
    · exact hlogged _
    · exact ⟨(State.faultJob_same hareas _ _ _ _ (by decide) (by decide) (by decide) (by decide) (by decide) (by decide)
        (by decide)).fab (by decide), hfields.faultJob (List.Subset.refl _) _ _ _ _⟩
  · exact hlogged _

/-- A failed check is counted and in the log, which was not held; every field but the log's and those of faults, and the data path,
are as before. -/
theorem State.shadowFail_of_free {s : State} {d : ShadowDue}
    (h : (SMap.get LogHold.init s.fab.logHolds (2 * d.core + 1)).held = false) :
    (s.shadowFail d).fab = s.fab ∧ s.counted (s.shadowFail d) WLT_SHADOW_FAIL_CNT_COUNT
    ∧ (s.shadowFail d).rd WLT_SHADOW_LOG0_VALID d.core = 1
    ∧ FieldsOnly (WLT_SHADOW_FAIL_CNT_COUNT :: shadowLogFields ++ faultFields) s (s.shadowFail d) := by
  obtain ⟨hfab, hfields⟩ := s.shadowFail_after_log d
  rw [State.logPair_of_free (s := s.count WLT_SHADOW_FAIL_CNT_COUNT) h] at hfab hfields
  have hfill := (s.count WLT_SHADOW_FAIL_CNT_COUNT).fillLog_shadow_fields d.core d.logRecord
  refine ⟨?_, ?_, ?_, ?_⟩
  · exact hfab.trans ((State.fillLog_same (A := [.regs]) (SameBut.refl _ _) d.core 1 d.logRecord (by decide)).fab (by decide))
  · calc (s.shadowFail d).rd WLT_SHADOW_FAIL_CNT_COUNT
        = ((s.count WLT_SHADOW_FAIL_CNT_COUNT).fillLog d.core 1 d.logRecord).rd WLT_SHADOW_FAIL_CNT_COUNT :=
          hfields.rd_of_place (by decide) 0
      _ = (s.count WLT_SHADOW_FAIL_CNT_COUNT).rd WLT_SHADOW_FAIL_CNT_COUNT := hfill.rd_of_place (by decide) 0
      _ = _ := State.rd_count_same s _ 1 0
  · exact (hfields.rd_of_place (by decide) d.core).trans (State.fillLog_shadow_valid _ d.core d)
  · exact fun f b n => ((hfields.mono (by simp)) f b n).trans
      (((hfill.mono (by simp)) f b n).trans ((FieldsOnly.refl _ s).count List.mem_cons_self 1 0 f b n))

/-- The state once a due check is counted and made. -/
def State.checkMade (s : State) (t : Nat) (d : ShadowDue) : State :=
  ((s.advance t).withFab { s.fab with checks := s.fab.checks.erase d }).count WLT_SHADOW_CNT_COUNT

section
variable {t core cluster row col channel : Nat} {s : State} {d : ShadowDue}
  (hdue : (s.fab.checks.find? fun d => d.core == core && d.cluster == cluster && d.row == row && d.col == col
    && d.channel == channel) = some d)
include hdue

theorem exec_shadowCheck_of_due :
    exec (.shadowCheck t core cluster row col channel) s
      = .next (if d.diff.natAbs ≤ d.limit.natAbs then s.checkMade t d else (s.checkMade t d).shadowFail d) := by
  show execShadowCheck t core cluster row col channel s = _
  have hdue' : ((s.advance t).fab.checks.find? fun d => d.core == core && d.cluster == cluster && d.row == row && d.col == col
    && d.channel == channel) = some d := hdue
  unfold execShadowCheck
  simp only [hdue']
  rfl

/-- A check within its limit is counted, and no longer due. -/
theorem shadowCheck_of_within (h : d.diff.natAbs ≤ d.limit.natAbs) :
    Ends (exec (.shadowCheck t core cluster row col channel) s) fun u =>
      SameBut [.regs, .now, .fab] s u ∧ RegsBut [(WLT_SHADOW_CNT_COUNT, 0)] s u ∧ s.counted u WLT_SHADOW_CNT_COUNT
      ∧ u.fab = { s.fab with checks := s.fab.checks.erase d } := by
  rw [exec_shadowCheck_of_due hdue, if_pos h, ends_next]
  refine ⟨?_, ?_, State.rd_count_same _ _ 1 0, rfl⟩
  · exact State.count_same (State.withFab_same (State.advance_same (SameBut.refl _ s) t (by decide)) _ (by decide)) _ _ _ (by decide)
  · exact ((RegsBut.refl _ s).of_regs rfl).count List.mem_cons_self 1

/-- A check beyond its limit is also counted and logged as failed. -/
theorem shadowCheck_of_beyond (h : d.limit.natAbs < d.diff.natAbs)
    (hfree : (SMap.get LogHold.init s.fab.logHolds (2 * core + 1)).held = false) :
    Ends (exec (.shadowCheck t core cluster row col channel) s) fun u =>
      SameBut [.regs, .now, .arbs, .hif, .serve, .ctl, .sms, .fab, .lnk, .mgt] s u ∧ s.counted u WLT_SHADOW_CNT_COUNT
      ∧ s.counted u WLT_SHADOW_FAIL_CNT_COUNT ∧ u.bit WLT_SHADOW_LOG0_VALID core = true
      ∧ u.fab.checks = s.fab.checks.erase d := by
  obtain rfl : d.core = core := by
    have hmatch := List.find?_some hdue
    simp only [Bool.and_eq_true, beq_iff_eq] at hmatch
    obtain ⟨⟨⟨⟨hcore, -⟩, -⟩, -⟩, -⟩ := hmatch
    exact hcore
  have hexec := exec_shadowCheck_of_due (t := t) hdue
  rw [if_neg (Nat.not_le.mpr h)] at hexec
  have hareas : SameO [.regs, .now, .arbs, .hif, .serve, .ctl, .sms, .fab, .lnk, .mgt] s
      (exec (.shadowCheck t d.core cluster row col channel) s) :=
    execShadowCheck_same (SameBut.refl _ s) t d.core cluster row col channel (by decide) (by decide) (by decide) (by decide)
      (by decide) (by decide) (by decide) (by decide) (by decide) (by decide)
  obtain ⟨hfab, hfailed, hvalid, hfields⟩ := State.shadowFail_of_free (s := s.checkMade t d) hfree
  rw [hexec] at hareas ⊢
  rw [ends_next]
  refine ⟨hareas, ?_, ?_, ?_, congrArg FabSt.checks hfab⟩
  · exact (hfields.rd_of_place (by decide) 0).trans (State.rd_count_same _ _ 1 0)
  · have hother : (s.checkMade t d).rd WLT_SHADOW_FAIL_CNT_COUNT = s.rd WLT_SHADOW_FAIL_CNT_COUNT :=
      State.rd_count_ne _ (by decide) 1
    unfold State.counted at hfailed ⊢
    rw [hfailed, hother]
  · unfold State.bit
    rw [hvalid]
    rfl

end

/-! A cancel rescue (R46, R124). -/

/-- A request whose data met a NUMERIC event is marked. -/
theorem State.mem_numericMarks_markNumeric (s : State) (q : Nat) : q ∈ (s.markNumeric (some q)).fab.numericMarks := by
  unfold State.markNumeric
  dsimp only
  split
  next h => exact List.contains_iff_mem.mp h
  next => exact List.mem_append_right _ List.mem_cons_self

/-- The buffer once a due element has its exact value: all NaN, and nothing more due, where that is not finite (R46). -/
def rescuedBuf (serial : Option Nat) (first : Nat) (vals : List F32) (oob : List Bool) (rescue : List (Nat × F32)) (i : Nat)
    (x : F32) : VecBuf :=
  .vec serial first (if f32NonFinite x then vals.map fun _ => f32NaN else setNth 0#32 vals i x) oob
    (if f32NonFinite x then [] else rescue.filter (·.1 != i))

section
variable {t core n i first : Nat} {serial : Option Nat} {vals : List F32} {oob : List Bool} {rescue : List (Nat × F32)} {x : F32}
  {s : State} (hbuf : s.buf core n = .vec serial first vals oob rescue) (hdue : rescue.find? (·.1 == i) = some (i, x))
include hbuf hdue

theorem exec_cancelRescue_of_due :
    exec (.cancelRescue t core n i) s = .next
      (((if f32NonFinite x then (s.advance t).markNumeric serial else s.advance t).setBuf core n
        (rescuedBuf serial first vals oob rescue i x)).count WLT_CANCEL_RESCUE_CNT_COUNT) := by
  show execCancelRescue t core n i s = _
  have hbuf' : (s.advance t).buf core n = .vec serial first vals oob rescue := hbuf
  unfold execCancelRescue
  simp only [hbuf', hdue]
  rfl

/-- A due element is rescued: its buffer holds its exact value, or NaN throughout with the request's NUMERIC event. -/
theorem cancelRescue_of_due :
    Ends (exec (.cancelRescue t core n i) s) fun u =>
      SameBut [.regs, .now, .fab] s u ∧ RegsBut [(WLT_CANCEL_RESCUE_CNT_COUNT, 0)] s u
      ∧ s.counted u WLT_CANCEL_RESCUE_CNT_COUNT ∧ s.onlyBuf u core n
      ∧ u.buf core n = rescuedBuf serial first vals oob rescue i x
      ∧ (f32NonFinite x = true → ∀ q, serial = some q → q ∈ u.fab.numericMarks) := by
  rw [exec_cancelRescue_of_due hbuf hdue, ends_next]
  have hmark := (s.advance t).markNumeric_if_same (f32NonFinite x = true) serial
  have hregs := hmark.regs (by decide)
  refine ⟨?_, ?_, ?_, ?_, State.buf_setBuf_same _ _ _ _, ?_⟩
  · exact State.count_same (State.setBuf_same (hmark.after_advance.mono (by decide)) _ _ _ (by decide)) _ _ _ (by decide)
  · exact ((RegsBut.refl _ s).of_regs hregs).count List.mem_cons_self 1
  · refine (State.rd_count_same _ _ 1 0).trans ?_
    rw [State.setBuf_rd, State.rd_of_regs hregs]
    rfl
  · exact (s.advance t).onlyBuf_setBuf_markNumeric _ serial core n _
  · rintro hbad q rfl
    rw [if_pos hbad]
    exact (s.advance t).mem_numericMarks_markNumeric q

end

/-! The obligation. -/

/-- Settles O31: a check by whether it is within its limit, its failure by what follows the log's record leaving the counters and
the log alone; a rescue by the buffer it writes (`rescuedBuf`). -/
theorem checksAndRescues : Obligations.ChecksAndRescues := by
  unfold Obligations.ChecksAndRescues
  intro t core s
  refine ⟨fun cluster row col channel d hdue => ⟨shadowCheck_of_within hdue, shadowCheck_of_beyond hdue⟩,
    fun n i serial first vals oob rescue x hbuf hdue => ?_⟩
  obtain ⟨u, hexec, hareas, hregs, hcounted, honly, hu, hmarks⟩ := cancelRescue_of_due (t := t) hbuf hdue
  refine ⟨u, hexec, hareas, hregs, hcounted, honly, fun hx => ?_, fun hx => ⟨?_, hmarks hx⟩⟩
  · rw [hu, rescuedBuf, hx]
    rfl
  · rw [hu, rescuedBuf, hx]
    rfl

end Sys2Proof.Machine
end

section
/-! PROOFS. The drains of a bank (R77, R138, R143–R145, R147): what a drained bank and its cluster's arbiter leave where no load waits,
what a matrix's partials become, and the record of a forced drain. -/

namespace Sys2Proof.Machine

/-! A cluster on which no load waits (R77, R257). -/

/-- From `s` to `u` a cluster's arbiter has granted passes of its probe and nothing else. -/
structure PassesOnly (s u : State) : Prop where
  areas : SameBut [.arbs, .fab] s u
  fab : u.fab = { s.fab with probes := u.fab.probes, busyUntil := u.fab.busyUntil }

theorem PassesOnly.refl (s : State) : PassesOnly s s := ⟨SameBut.refl _ s, rfl⟩

theorem PassesOnly.trans {s t u : State} (h : PassesOnly s t) (k : PassesOnly t u) : PassesOnly s u :=
  ⟨h.areas.trans k.areas, by rw [k.fab, h.fab]⟩

theorem PassesOnly.bank {s u : State} (h : PassesOnly s u) (core cluster b : Nat) :
    u.bank core cluster b = s.bank core cluster b := by
  unfold State.bank
  rw [h.fab]

theorem PassesOnly.bufs {s u : State} (h : PassesOnly s u) : u.fab.bufs = s.fab.bufs := by rw [h.fab]

theorem PassesOnly.waiting {s u : State} (h : PassesOnly s u) : u.fab.waiting = s.fab.waiting := by rw [h.fab]

theorem State.grantPass_passes (s : State) (core cluster : Nat) : PassesOnly s (s.grantPass core cluster) :=
  ⟨State.grantPass_same (SameBut.refl _ s) core cluster (by decide) (by decide), rfl⟩

/-- No load waits on a cluster. -/
def State.noLoadOn (s : State) (core cluster : Nat) : Prop := ∀ w ∈ s.fab.waiting, w.on core cluster = false

section
variable {s : State} {core cluster : Nat}

theorem State.noLoadOn.of_waiting {u : State} (h : s.noLoadOn core cluster) (e : u.fab.waiting = s.fab.waiting) :
    u.noLoadOn core cluster := by
  unfold State.noLoadOn
  rw [e]
  exact h

theorem State.noLoadOn.find (h : s.noLoadOn core cluster) : s.fab.waiting.find? (Waiting.on core cluster) = none :=
  List.find?_eq_none.mpr fun w hw => by rw [h w hw]; decide

theorem State.noLoadOn.ready (h : s.noLoadOn core cluster) : s.readyLoads core cluster = [] := by
  have hwaiting : s.fab.waiting.filter (Waiting.on core cluster) = [] :=
    List.filter_eq_nil_iff.mpr fun w hw => by rw [h w hw]; decide
  unfold State.readyLoads
  rw [hwaiting]
  rfl

/-- The arbiter has no load to grant: at most a pass of the probe. -/
theorem State.noLoadOn.next (h : s.noLoadOn core cluster) :
    s.clusterNext core cluster = none ∨ s.clusterNext core cluster = some none := by
  unfold State.clusterNext
  rw [h.ready]
  extract_lets ready pass
  have hpass : pass = none ∨ pass = some none := by
    unfold pass
    split
    · exact .inr rfl
    · exact .inl rfl
  split
  · exact .inl rfl
  · exact hpass

theorem State.noLoadOn.recall (h : s.noLoadOn core cluster) : s.recallPasses core cluster = s := by
  have hnone : s.fab.waiting.any (Waiting.on core cluster) = false :=
    List.any_eq_false.mpr fun w hw => by rw [h w hw]; decide
  unfold State.recallPasses
  simp only [hnone, Bool.not_false, if_true]
  split <;> rfl

theorem State.noLoadOn.goCluster (h : s.noLoadOn core cluster) (fuel : Nat) : PassesOnly s (s.goCluster core cluster fuel) := by
  induction fuel generalizing s with
  | zero => exact PassesOnly.refl s
  | succ fuel ih =>
    unfold State.goCluster
    simp only [h.find]
    rcases h.next with hnext | hnext
    · rw [hnext]
      exact PassesOnly.refl s
    · rw [hnext]
      have hpass := s.grantPass_passes core cluster
      exact hpass.trans (ih (h.of_waiting hpass.waiting))

theorem State.noLoadOn.goWaiting (h : s.noLoadOn core cluster) : PassesOnly s (s.goWaiting core cluster) := by
  unfold State.goWaiting
  rw [h.recall]
  exact h.goCluster clusterTurns

end

/-! A bank that is drained (R138, R143). -/

/-- A bank that holds no vector any more, DRAINING until an instant. -/
def Vector.emptied (until_ : Nat) : Vector := { Vector.init with drainTo := until_ }

theorem Vector.emptied_stateAt {now until_ : Nat} (h : now < until_) : (Vector.emptied until_).stateAt now = .draining := if_pos h

section
variable {s : State} {core cluster b : Nat} (hw : s.noLoadOn core cluster)
include hw

theorem State.freeBank_of_forward (h : (s.bank core cluster b).transpose = false) :
    PassesOnly (s.setBank core cluster b (Vector.emptied (s.now + 20))) (s.freeBank core cluster b) := by
  unfold State.freeBank
  simp only [h, Bool.false_eq_true, if_false]
  exact State.noLoadOn.goWaiting (hw.of_waiting rfl)

/-- A transpose vector leaves both banks (R138). -/
theorem State.freeBank_of_transpose (h : (s.bank core cluster b).transpose = true) :
    PassesOnly ((s.setBank core cluster b (Vector.emptied (s.now + 40))).setBank core cluster (1 - b) (Vector.emptied (s.now + 40)))
      (s.freeBank core cluster b) := by
  unfold State.freeBank
  simp only [h, if_true]
  exact State.noLoadOn.goWaiting (hw.of_waiting rfl)

end

/-! The partials of a matrix (R46, R144, R147). -/

/-- A record as it is handed on: NaN throughout where NUMERIC arises in it (R41, R46). -/
def PartRec.settled (p : PartRec) : PartRec := if p.overflows then p.allNan else p

/-- The head of a record, what it says of its elements, is its kind, its place, and the vector it comes from. -/
def PartRec.head (p : PartRec) : Nat × Nat × Nat × Nat × Nat × Nat :=
  (p.kind, p.matrix, p.gen, p.vector, p.firstOut, p.firstIn)

@[simp] theorem PartRec.settled_head (p : PartRec) : p.settled.head = p.head := by
  unfold PartRec.settled
  split <;> rfl

theorem State.drainRec_head (s : State) (v : Vector) (r : ClusterRec) (buf : Bool) :
    (s.drainRec v r buf).head = (0, r.matrix, v.gen, v.num, r.firstOut, r.firstIn) := by
  unfold State.drainRec
  extract_lets c
  split <;> rfl

theorem State.matrixRecs_of_one {v : Vector} {rs : List ClusterRec} {m : Nat} {r : ClusterRec} (s : State)
    (hr : rs.filter (·.matrix == m) = [r]) (hv : v.transpose = false) (buf : Bool) :
    s.matrixRecs v rs m buf = [s.drainRec v r buf] := by
  unfold State.matrixRecs
  rw [hr]
  simp [hv]

/-- A buffer of VEC holds one record of partials, marked with its request's NUMERIC event where one arises. -/
def State.partsIn (s : State) (core n : Nat) (serial : Option Nat) (p : PartRec) : State :=
  (if p.overflows then s.markNumeric serial else s).setBuf core n (.parts serial [p.settled])

theorem State.partsIn_same (s : State) (core n : Nat) (serial : Option Nat) (p : PartRec) :
    SameBut [.fab] s (s.partsIn core n serial p) :=
  State.setBuf_same (s.markNumeric_if_same _ serial) core n _ (by decide)

theorem State.partsIn_onlyBuf (s : State) (core n : Nat) (serial : Option Nat) (p : PartRec) :
    s.onlyBuf (s.partsIn core n serial p) core n :=
  s.onlyBuf_setBuf_markNumeric _ serial core n _

theorem State.partsIn_buf (s : State) (core n : Nat) (serial : Option Nat) (p : PartRec) :
    (s.partsIn core n serial p).buf core n = .parts serial [p.settled] := State.buf_setBuf_same _ core n _

/-- A matrix that lies in one cluster record goes to a buffer as the one record of its partials. -/
theorem State.drainMatrix_of_one {v : Vector} {rs : List ClusterRec} {m : Nat} {r : ClusterRec} (s : State)
    (hr : rs.filter (·.matrix == m) = [r]) (hv : v.transpose = false) (core n : Nat) :
    s.drainMatrix core v rs m [.here (.buf n)] = s.partsIn core n v.serial (s.drainRec v r true) := by
  unfold State.drainMatrix
  simp only [List.any_cons, List.any_nil, Bool.or_false, s.matrixRecs_of_one hr hv]
  rfl

/-! An ordered drain (R144). -/

@[simp] theorem State.advance_bank (s : State) (t core cluster b : Nat) :
    (s.advance t).bank core cluster b = s.bank core cluster b := rfl

@[simp] theorem State.advance_image (s : State) (t gen : Nat) : (s.advance t).image gen = s.image gen := rfl

@[simp] theorem State.unitCheck_good (s : State) (core unit : Nat) : s.unitCheck core unit .good = s := rfl

/-- What an ordered drain changes where its check is good: the partials that its matrices hand on the data path alone, its count one
field, and the bank's return to FREE the arbiter and the data path. -/
theorem drain_leaves {s d u : State} {t : Nat} (hd : SameBut [.fab] (s.advance t) d)
    (hu : SameBut [.arbs, .fab] (d.count ACR_DRAIN_CNT_COUNT) u) :
    SameBut [.regs, .now, .arbs, .fab] s u ∧ RegsBut [(ACR_DRAIN_CNT_COUNT, 0)] s u ∧ s.counted u ACR_DRAIN_CNT_COUNT
      ∧ u.now = max s.now t := by
  have hregs : d.regs = s.regs := hd.regs (by decide)
  have hcount : u.regs = (d.count ACR_DRAIN_CNT_COUNT).regs := hu.regs (by decide)
  refine ⟨?_, ?_, ?_, ?_⟩
  · have hafter : SameBut [.regs, .now, .arbs, .fab] s d := hd.after_advance.mono (by decide)
    exact (State.count_same hafter _ _ _ (by decide)).trans (hu.mono (by decide))
  · exact (((RegsBut.refl _ s).of_regs hregs).count List.mem_cons_self 1).of_regs hcount
  · exact (State.rd_of_regs hcount _ _).trans ((State.rd_count_same d _ 1 0).trans (by rw [State.rd_of_regs hregs]))
  · exact (hu.now (by decide)).trans (hd.now (by decide))

section
variable {t core cluster b : Nat} {s : State} (hw : s.noLoadOn core cluster)

/-- A bank that is not COMPLETE is left. -/
theorem exec_drain_of_incomplete (places : List (Nat × DrainPlace)) (check : UnitCheck)
    (h : (s.bank core cluster (s.dataBank core cluster b)).stateAt (max s.now t) ≠ .complete) :
    exec (.drain t core cluster b places check) s = .next (s.advance t) := if_pos h

theorem exec_drain_of_complete (places : List (Nat × DrainPlace)) (hb : s.dataBank core cluster b = b)
    (h : (s.bank core cluster b).stateAt (max s.now t) = .complete) :
    exec (.drain t core cluster b places .good) s = .next
      (((forEach (places.map (·.1)).eraseDups (s.advance t) fun u m =>
        u.drainMatrix core (s.bank core cluster b) ((s.image (s.bank core cluster b).gen).clustersAt core cluster) m
          ((places.filter (·.1 == m)).map (·.2))).count ACR_DRAIN_CNT_COUNT).freeBank core cluster b) := by
  have hbank : (s.advance t).dataBank core cluster b = b := hb
  show execDrain t core cluster b places .good s = _
  unfold execDrain
  simp only [hbank, State.advance_bank, State.advance_now, h, ne_eq, not_true_eq_false, if_false, State.advance_image,
    State.unitCheck_good]

theorem exec_drain_of_forward (m n : Nat) {r : ClusterRec} (hs : (s.bank core cluster b).state = .complete)
    (hf : (s.bank core cluster b).transpose = false)
    (hr : ((s.image (s.bank core cluster b).gen).clustersAt core cluster).filter (·.matrix == m) = [r]) :
    exec (.drain t core cluster b [(m, .here (.buf n))] .good) s = .next
      ((((s.advance t).partsIn core n (s.bank core cluster b).serial
        ((s.advance t).drainRec (s.bank core cluster b) r true)).count ACR_DRAIN_CNT_COUNT).freeBank core cluster b) := by
  have hcomplete : (s.bank core cluster b).stateAt (max s.now t) = .complete := by
    unfold Vector.stateAt
    rw [hs]
  rw [exec_drain_of_complete [(m, .here (.buf n))] (State.dataBank_of_forward hf) hcomplete]
  simp only [List.map_cons, List.map_nil, List.eraseDups_cons, List.filter_nil, List.eraseDups_nil, forEach_cons, forEach_nil,
    List.filter_cons, beq_self_eq_true, if_true, (s.advance t).drainMatrix_of_one hr hf]

include hw

/-- An ordered drain of a COMPLETE forward bank into a buffer (R144): the matrix's partials lie in the buffer and the bank is
DRAINING. -/
theorem drain_of_forward (m n : Nat) {r : ClusterRec} (hs : (s.bank core cluster b).state = .complete)
    (hf : (s.bank core cluster b).transpose = false)
    (hr : ((s.image (s.bank core cluster b).gen).clustersAt core cluster).filter (·.matrix == m) = [r]) :
    ∃ u p, exec (.drain t core cluster b [(m, .here (.buf n))] .good) s = .next u
      ∧ SameBut [.regs, .now, .arbs, .fab] s u ∧ RegsBut [(ACR_DRAIN_CNT_COUNT, 0)] s u ∧ s.counted u ACR_DRAIN_CNT_COUNT
      ∧ u.now = max s.now t ∧ u.bank core cluster b = Vector.emptied (max s.now t + 20)
      ∧ u.buf core n = .parts (s.bank core cluster b).serial [p]
      ∧ p.head = (0, m, (s.bank core cluster b).gen, (s.bank core cluster b).num, r.firstOut, r.firstIn)
      ∧ ∀ k, k ≠ 65536 * core + n → SMap.get .empty u.fab.bufs k = SMap.get .empty s.fab.bufs k := by
  have hexec := exec_drain_of_forward (t := t) m n hs hf hr
  obtain ⟨-, hmatrix⟩ : r ∈ _ ∧ (r.matrix == m) = true := List.mem_filter.mp (hr ▸ List.mem_singleton_self r)
  have hhead := (s.advance t).drainRec_head (s.bank core cluster b) r true
  generalize (s.advance t).drainRec (s.bank core cluster b) r true = p at hexec hhead
  have hareas := (s.advance t).partsIn_same core n (s.bank core cluster b).serial p
  have hbuf := (s.advance t).partsIn_buf core n (s.bank core cluster b).serial p
  obtain ⟨hfab, hothers⟩ := (s.advance t).partsIn_onlyBuf core n (s.bank core cluster b).serial p
  generalize (s.advance t).partsIn core n (s.bank core cluster b).serial p = d at hexec hareas hbuf hfab hothers
  have hwaiting : (d.count ACR_DRAIN_CNT_COUNT).noLoadOn core cluster := hw.of_waiting (by rw [State.count_fab, hfab]; rfl)
  have hforward : ((d.count ACR_DRAIN_CNT_COUNT).bank core cluster b).transpose = false := by
    unfold State.bank
    rw [State.count_fab, hfab]
    exact hf
  have hfree := State.freeBank_of_forward hwaiting hforward
  generalize (d.count ACR_DRAIN_CNT_COUNT).freeBank core cluster b = u at hexec hfree
  obtain ⟨hsame, hregs, hcounted, hnow⟩ :=
    drain_leaves hareas ((State.setBank_same (SameBut.refl _ _) core cluster b _ (by decide)).trans hfree.areas)
  have hbufs : u.fab.bufs = d.fab.bufs := hfree.bufs
  refine ⟨u, p.settled, hexec, hsame, hregs, hcounted, hnow, ?_, ?_, ?_, fun k hk => ?_⟩
  · rw [hfree.bank, State.bank_setBank_same]
    exact congrArg (fun now => Vector.emptied (now + 20)) (hareas.now (by decide))
  · unfold State.buf
    rw [hbufs]
    exact hbuf
  · rw [PartRec.settled_head, hhead, beq_iff_eq.mp hmatrix]
  · rw [hbufs]
    exact hothers k hk

/-- An ordered drain of a COMPLETE transpose vector, which hands nothing on (R138, R144): both banks are DRAINING. -/
theorem drain_of_transpose (hv : (s.bank core cluster 0).transpose = true)
    (h : (s.bank core cluster 0).stateAt (max s.now t) = .complete) :
    Ends (exec (.drain t core cluster 0 [] .good) s) fun u =>
      SameBut [.regs, .now, .arbs, .fab] s u ∧ RegsBut [(ACR_DRAIN_CNT_COUNT, 0)] s u ∧ s.counted u ACR_DRAIN_CNT_COUNT
      ∧ (∀ c, c = 0 ∨ c = 1 → u.bank core cluster c = Vector.emptied (max s.now t + 40)) ∧ u.fab.bufs = s.fab.bufs := by
  have hexec := exec_drain_of_complete [] (if_pos hv) h
  simp only [List.map_nil, List.eraseDups_nil, forEach_nil] at hexec
  have hwaiting : ((s.advance t).count ACR_DRAIN_CNT_COUNT).noLoadOn core cluster := hw.of_waiting rfl
  have hfree := State.freeBank_of_transpose (b := 0) hwaiting hv
  rw [hexec, ends_next]
  generalize ((s.advance t).count ACR_DRAIN_CNT_COUNT).freeBank core cluster 0 = u at hfree ⊢
  obtain ⟨hsame, hregs, hcounted, -⟩ := drain_leaves (SameBut.refl _ (s.advance t))
    ((State.setBank_same (State.setBank_same (SameBut.refl _ _) core cluster 0 _ (by decide)) core cluster 1 _ (by decide)).trans
      hfree.areas)
  refine ⟨hsame, hregs, hcounted, ?_, hfree.bufs⟩
  rintro c (rfl | rfl)
  · exact (hfree.bank core cluster 0).trans ((State.bank_setBank_ne _ _ _ _ (by decide)).trans (State.bank_setBank_same _ _ _ _ _))
  · exact (hfree.bank core cluster 1).trans (State.bank_setBank_same _ _ _ _ _)

end

/-! The length of a record of partials (R147). -/

theorem ceilDiv_of_pos {n : Nat} (hn : 0 < n) (a : Nat) : ceilDiv a n = (a + n - 1) / n := if_neg (Nat.ne_of_gt hn)

@[simp] theorem length_leBytes (n x : Nat) : (leBytes n x).length = n := by
  induction n generalizing x with
  | zero => rfl
  | succ n ih => exact congrArg (· + 1) (ih _)

@[simp] theorem length_packBits (l : List Bool) : (packBits l).length = ceilDiv l.length 8 := by simp [packBits]

theorem length_padTo (n : Nat) (hn : 0 < n) (l : List Byte) : (padTo n l).length = ceilDiv l.length n * n := by
  have hroom : l.length ≤ ceilDiv l.length n * n := by
    rw [ceilDiv_of_pos hn]
    have := Nat.lt_div_mul_add (a := l.length + n - 1) hn
    omega
  unfold padTo
  rw [List.length_append, List.length_replicate]
  omega

/-- The bytes of a record fill the length that R147 gives it. -/
theorem PartRec.length_bytes (p : PartRec) : p.bytes.length = recordLen p.elems.length := by
  have helems : (p.elems.map fun e => leBytes 4 e.val.toNat ++ leBytes 4 e.mag.toNat).flatten.length = 8 * p.elems.length := by
    induction p.elems with
    | nil => rfl
    | cons e l ih =>
      simp only [List.map_cons, List.flatten_cons, List.length_append, length_leBytes, List.length_cons, ih]
      omega
  unfold PartRec.bytes recordLen
  rw [length_padTo 64 (by decide)]
  simp only [List.length_append, length_leBytes, length_packBits, List.length_map, helems]
  exact congrArg (ceilDiv · 64 * 64) (by omega)

/-- The record of 2,048 elements is the longest of a bank's (R145, R147). -/
theorem recordLen_le {n : Nat} (h : n ≤ 2048) : recordLen n ≤ 16960 := by
  unfold recordLen
  rw [ceilDiv_of_pos (by decide), ceilDiv_of_pos (by decide)]
  omega

/-! A forced drain (R145). -/

/-- A bank has at most 2,048 accumulators. -/
theorem State.snapshotRec_length (s : State) (v : Vector) (core cluster b : Nat) :
    (s.snapshotRec v core cluster b).elems.length ≤ 2048 := by
  unfold State.snapshotRec
  extract_lets c v'
  split
  · simp
  · split
    · simp
    · simp only [List.length_map, List.length_range]
      split <;> decide

/-- The state once a record lies in the debug area and the status of the forced drain is set. -/
def State.snapshotTaken (s : State) (core a : Nat) (l : List Byte) (open_ : Bool) (pending : Nat) : State :=
  ((((s.writeBytes .cst a l).count ACR_DBG_DRAIN_CNT_COUNT).setBit ACR_DBG_STATUS_DONE core).wrBit
    ACR_DBG_STATUS_INCOMPLETE open_ core).wr ACR_DBG_STATUS_PENDING pending core

/-- A forced drain that is enabled and has its place takes a record of the bank and logs it. -/
theorem State.forcedDrain_of_enabled {s : State} {core : Nat} (cluster b : Nat) (hen : s.bit ACR_CTRL_DBG_DRAIN_EN = true)
    (hfit : debugFits (s.rd ACR_DBG_ADDR_ADDR core / 64 * 64) = true) :
    ∃ l open_ pending ev, l.length ≤ 16960
      ∧ s.forcedDrain core cluster b
        = (s.snapshotTaken core (s.rd ACR_DBG_ADDR_ADDR core / 64 * 64) l open_ pending).logEvent ev := by
  unfold State.forcedDrain
  extract_lets a v free p pending open_ s1 s2 s3 s4
  have hp : p.elems.length ≤ 2048 := by
    unfold p
    split
    · exact Nat.zero_le _
    · exact s.snapshotRec_length v core cluster b
  rw [if_neg (by simp [hen, a, hfit])]
  exact ⟨p.bytes, open_, pending, _, p.length_bytes ▸ recordLen_le hp, rfl⟩

theorem State.forcedDrain_of_refused {s : State} {core : Nat} (cluster b : Nat)
    (h : s.bit ACR_CTRL_DBG_DRAIN_EN = false ∨ debugFits (s.rd ACR_DBG_ADDR_ADDR core / 64 * 64) = false) :
    s.forcedDrain core cluster b = s :=
  if_pos (by rcases h with h | h <;> simp [h])

theorem debugFits_iff (a : Nat) : debugFits a = true ↔ 0x07F00000 ≤ a ∧ a + 16960 ≤ 0x08000000 := by
  simp [debugFits]

/-- Of CST the record that is taken changes only the place of the longest record. -/
theorem State.snapshotTaken_readByte (s : State) (core a : Nat) {l : List Byte} (hl : l.length ≤ 16960) (open_ : Bool)
    (pending : Nat) {x : Nat} (hx : x < a ∨ a + 16960 ≤ x) :
    (s.snapshotTaken core a l open_ pending).readByte .cst x = s.readByte .cst x :=
  (s.readByte_writeBytes .cst a x l).trans (if_neg (by omega))

theorem State.writeBytes_regs (s : State) (sp : Space) (a : Nat) (l : List Byte) : (s.writeBytes sp a l).regs = s.regs :=
  (State.writeBytes_same (A := [.mem]) (SameBut.refl _ s) sp a l (by decide)).regs (by decide)

theorem State.snapshotTaken_done (s : State) (core a : Nat) (l : List Byte) (open_ : Bool) (pending : Nat) :
    (s.snapshotTaken core a l open_ pending).rd ACR_DBG_STATUS_DONE core = 1 := by
  have hpending : ACR_DBG_STATUS_DONE.key core ≠ ACR_DBG_STATUS_PENDING.key core := Fld.key_ne_of_place (by decide) core core
  have hopen : ACR_DBG_STATUS_DONE.key core ≠ ACR_DBG_STATUS_INCOMPLETE.key core := Fld.key_ne_of_place (by decide) core core
  exact (State.rd_wr_ne _ _ _ _ _ _ hpending).trans ((State.rd_wr_ne _ _ _ _ _ _ hopen).trans (State.rd_wr_same _ _ _ _))

theorem State.snapshotTaken_counted (s : State) (core a : Nat) (l : List Byte) (open_ : Bool) (pending : Nat) :
    s.counted (s.snapshotTaken core a l open_ pending) ACR_DBG_DRAIN_CNT_COUNT := by
  have hstatus : FieldsOnly [ACR_DBG_STATUS_DONE, ACR_DBG_STATUS_INCOMPLETE, ACR_DBG_STATUS_PENDING]
      ((s.writeBytes .cst a l).count ACR_DBG_DRAIN_CNT_COUNT) (s.snapshotTaken core a l open_ pending) :=
    (((FieldsOnly.refl _ _).wr (by decide) 1 core).wr (by decide) _ core).wr (by decide) pending core
  calc (s.snapshotTaken core a l open_ pending).rd ACR_DBG_DRAIN_CNT_COUNT
      = ((s.writeBytes .cst a l).count ACR_DBG_DRAIN_CNT_COUNT).rd ACR_DBG_DRAIN_CNT_COUNT :=
        hstatus.rd_of_place (by decide) 0
    _ = min _ ((s.writeBytes .cst a l).rd ACR_DBG_DRAIN_CNT_COUNT + 1) := State.rd_count_same _ _ 1 0
    _ = _ := by rw [State.rd_of_regs (s.writeBytes_regs .cst a l)]

section
variable {t core cluster b : Nat} {s : State} (ha : s.accepts 0 = true) (hc : core < 512)
include ha hc

theorem exec_acrDbgDrain_of_accepts :
    exec (.acrDbgDrain t 0 core cluster b) s = .next ((s.advance t).forcedDrain core cluster b) := by
  have haccepts : (s.advance t).accepts 0 = true := ha
  exact if_neg (by simp [haccepts, hc])

/-- A forced drain writes its record to the debug area and sets DONE (R145). -/
theorem acrDbgDrain_of_enabled (hen : s.bit ACR_CTRL_DBG_DRAIN_EN = true)
    (hfit : debugFits (s.rd ACR_DBG_ADDR_ADDR core / 64 * 64) = true) :
    Ends (exec (.acrDbgDrain t 0 core cluster b) s) fun u => SameBut [.regs, .now, .hif, .mem, .sms] s u
      ∧ u.bit ACR_DBG_STATUS_DONE core = true ∧ s.counted u ACR_DBG_DRAIN_CNT_COUNT
      ∧ u.mem = { s.mem with cst := u.mem.cst }
      ∧ ∀ x, (x < s.rd ACR_DBG_ADDR_ADDR core / 64 * 64 ∨ s.rd ACR_DBG_ADDR_ADDR core / 64 * 64 + 16960 ≤ x) →
          u.readByte .cst x = s.readByte .cst x := by
  have hareas : SameO [.regs, .now, .hif, .mem, .sms] s (exec (.acrDbgDrain t 0 core cluster b) s) :=
    execAcrDbgDrain_same (SameBut.refl _ s) t 0 core cluster b (by decide) (by decide) (by decide) (by decide) (by decide)
  obtain ⟨l, open_, pending, ev, hl, hdrain⟩ := State.forcedDrain_of_enabled (s := s.advance t) cluster b hen hfit
  have hexec := exec_acrDbgDrain_of_accepts (t := t) (cluster := cluster) (b := b) ha hc
  rw [State.advance_rd] at hdrain
  generalize s.rd ACR_DBG_ADDR_ADDR core / 64 * 64 = a at hdrain ⊢
  rw [hexec, hdrain] at hareas ⊢
  rw [ends_next]
  have hdone := (s.advance t).snapshotTaken_done core a l open_ pending
  have hcounted := (s.advance t).snapshotTaken_counted core a l open_ pending
  have hmem : ((s.advance t).snapshotTaken core a l open_ pending).mem
      = { s.mem with cst := ((s.advance t).snapshotTaken core a l open_ pending).mem.cst } :=
    (s.advance t).writeBytes_cst_mem a l
  have hbytes := fun x => (s.advance t).snapshotTaken_readByte core a hl open_ pending (x := x)
  generalize (s.advance t).snapshotTaken core a l open_ pending = w at hareas hdone hcounted hmem hbytes ⊢
  have hlog : (w.logEvent ev).mem = w.mem :=
    (State.logEvent_same (A := [.regs, .hif, .sms]) (SameBut.refl _ w) ev (by decide) (by decide) (by decide)).mem (by decide)
  have hfields : FieldsOnly faultFields w (w.logEvent ev) := (FieldsOnly.refl _ w).logEvent (List.Subset.refl _) ev
  refine ⟨hareas, ?_, ?_, ?_, fun x hx => ?_⟩
  · unfold State.bit
    rw [hfields.rd_of_place (by decide) core, hdone]
    rfl
  · exact (hfields.rd_of_place (by decide) 0).trans hcounted
  · rw [hlog]
    exact hmem
  · refine Eq.trans ?_ (hbytes x hx)
    unfold State.readByte
    rw [hlog]

/-- A forced drain that is not enabled, or whose place is not in the debug area, is refused (R145, R160). -/
theorem acrDbgDrain_of_refused
    (h : s.bit ACR_CTRL_DBG_DRAIN_EN = false ∨ debugFits (s.rd ACR_DBG_ADDR_ADDR core / 64 * 64) = false) :
    exec (.acrDbgDrain t 0 core cluster b) s = .next (s.advance t) :=
  (exec_acrDbgDrain_of_accepts ha hc).trans
    (congrArg Host.Outcome.next (State.forcedDrain_of_refused (s := s.advance t) cluster b h))

end

/-! The obligation. -/

/-- Settles O30: an ordered drain by the buffer that its matrix's record goes to and by the bank that is emptied, after which the
cluster's arbiter, no load waiting, grants at most passes of a probe; a forced drain by the length of its record. -/
theorem banksAreDrained : Obligations.BanksAreDrained := by
  unfold Obligations.BanksAreDrained
  intro t core cluster b s v hw
  refine ⟨fun m n r hs hf hr => ?_, fun hv hb h => ?_, exec_drain_of_incomplete,
    fun ha hc => ⟨fun hen hlow hhigh => ?_, fun h => ?_⟩⟩
  · obtain ⟨u, p, hexec, hsame, hregs, hcounted, hnow, hbank, hbuf, hhead, hothers⟩ :=
      drain_of_forward (t := t) hw m n hs hf hr
    obtain ⟨hkind, hmatrix, hgen, hvector, hout, hin⟩ : p.kind = 0 ∧ p.matrix = m ∧ p.gen = v.gen ∧ p.vector = v.num
      ∧ p.firstOut = r.firstOut ∧ p.firstIn = r.firstIn := by simpa only [PartRec.head, Prod.mk.injEq] using hhead
    refine ⟨u, hexec, hsame, hregs, hcounted, hbank, ?_, ⟨p, hbuf, hkind, hmatrix, hgen, hvector, hout, hin⟩, hothers⟩
    rw [hbank, hnow]
    exact Vector.emptied_stateAt (by omega)
  · subst hb
    exact drain_of_transpose hw hv h
  · exact acrDbgDrain_of_enabled ha hc hen ((debugFits_iff _).mpr ⟨hlow, hhigh⟩)
  · refine acrDbgDrain_of_refused ha hc (h.imp id fun h => ?_)
    rw [← Bool.not_eq_true, debugFits_iff]
    omega

end Sys2Proof.Machine
end
